-- ==== Sys2Proof/Word.lean ====
section
/-! DEFINITION. The plainest data of the model: sparse cells in one canonical form, little-endian bytes (R7),
saturating and modular arithmetic on numbers. -/
namespace Sys2Proof

/-- One byte. -/
abbrev Byte := BitVec 8

/-- Sparse data by key: pairs of a key and a value, keys strictly rising, no entry equal to what an unlisted
key reads as (`dflt`). -/
abbrev Cells (α : Type) := List (Nat × α)

/-- What key `k` reads as. -/
def Cells.get {α : Type} (dflt : Nat → α) : List (Nat × α) → Nat → α
  | [], k => dflt k
  | (a, v) :: r, k => if a = k then v else Cells.get dflt r k

/-- The list without an entry for `k`. -/
def Cells.erase {α : Type} : List (Nat × α) → Nat → List (Nat × α)
  | [], _ => []
  | (a, v) :: r, k => if a = k then Cells.erase r k else (a, v) :: Cells.erase r k

/-- The list with `(k, v)` at its place. -/
def Cells.insert {α : Type} : List (Nat × α) → Nat → α → List (Nat × α)
  | [], k, v => [(k, v)]
  | (a, w) :: r, k, v =>
    if k < a then (k, v) :: (a, w) :: r
    else if a = k then (k, v) :: r
    else (a, w) :: Cells.insert r k v

/-- Write `v` at `k`: writing what an unlisted key reads as removes the entry. -/
def Cells.set {α : Type} [DecidableEq α] (dflt : Nat → α) (l : List (Nat × α)) (k : Nat) (v : α) :
    List (Nat × α) :=
  if v = dflt k then Cells.erase l k else Cells.insert l k v

/-- Every key of the list is above `k`. -/
def Cells.above {α : Type} (k : Nat) : List (Nat × α) → Bool
  | [] => true
  | (a, _) :: r => decide (k < a) && Cells.above k r

/-- The canonical form: keys strictly rising, no entry equal to the unlisted value. -/
def Cells.wf {α : Type} [DecidableEq α] (dflt : Nat → α) : List (Nat × α) → Bool
  | [] => true
  | (a, v) :: r => Cells.above a r && decide (v ≠ dflt a) && Cells.wf dflt r

/-- The bits [lsb + width − 1 : lsb] of `v`. -/
def bits (v lsb width : Nat) : Nat := v / 2 ^ lsb % 2 ^ width

/-- Bit `k` of `v`. -/
def bit (v k : Nat) : Bool := v.testBit k

/-- `v` with bit `k` set. -/
def setBit (v k : Nat) : Nat := v ||| 2 ^ k

/-- `v` with bit `k` cleared. -/
def clearBit (v k : Nat) : Nat := if v.testBit k then v ^^^ 2 ^ k else v

/-- `v` with bit `k` set to `b`. -/
def putBit (v k : Nat) (b : Bool) : Nat := if b then setBit v k else clearBit v k

/-- 1 for true, 0 for false. -/
def b2n (b : Bool) : Nat := if b then 1 else 0

/-- `n` bytes of `v`, least significant first (R7). -/
def leBytes : Nat → Nat → List Byte
  | 0, _ => []
  | n + 1, v => BitVec.ofNat 8 v :: leBytes n (v / 256)

/-- The number that little-endian bytes spell (R7). -/
def leNat : List Byte → Nat
  | [] => 0
  | b :: r => b.toNat + 256 * leNat r

/-- The number that the `n` bytes at offset `o` spell; bytes beyond the end read as 0. -/
def leAt (l : List Byte) (o n : Nat) : Nat := leNat ((l.drop o).take n)

/-- The two's complement reading of the low `w` bits of `v`. -/
def sext (w v : Nat) : Int :=
  let u := v % 2 ^ w
  if u < 2 ^ (w - 1) then (u : Int) else (u : Int) - (2 ^ w : Nat)

/-- Clamp. -/
def clampInt (lo hi x : Int) : Int := if x < lo then lo else if hi < x then hi else x

/-- The low `w` bits of a signed number. -/
def wrapInt (w : Nat) (i : Int) : Nat := (i % ((2 ^ w : Nat) : Int)).toNat

/-- Quotient rounded up; 0 for a zero divisor. -/
def ceilDiv (a b : Nat) : Nat := if b = 0 then 0 else (a + b - 1) / b

/-- How many bits of `v` below bit `n` are 1. -/
def popCount : Nat → Nat → Nat
  | 0, _ => 0
  | n + 1, v => v % 2 + popCount n (v / 2)

/-- The list `f 0, …, f (n - 1)` written into `l` at position `k`, if it is there. -/
def setAt {α : Type} (l : List α) (k : Nat) (v : α) : List α := l.set k v

/-- The element at `k`, or `d`. -/
def getAt {α : Type} (d : α) (l : List α) (k : Nat) : α := l.getD k d

/-- Association by a numeric key: the entry of `k`. -/
def assoc {α : Type} : List (Nat × α) → Nat → Option α
  | [], _ => none
  | (a, v) :: r, k => if a = k then some v else assoc r k

/-- Association lists: replace or add the entry of `k` (order of first insertion kept). -/
def assocPut {α : Type} : List (Nat × α) → Nat → α → List (Nat × α)
  | [], k, v => [(k, v)]
  | (a, w) :: r, k, v => if a = k then (k, v) :: r else (a, w) :: assocPut r k v

/-- Association lists: drop the entries of `k`. -/
def assocDel {α : Type} (l : List (Nat × α)) (k : Nat) : List (Nat × α) := l.filter (fun e => e.1 ≠ k)

end Sys2Proof
end

