-- ==== Sys2Proof/Machine/ChanTypes.lean ====
section
/-! DEFINITION. Plain data of channels: the parameter block (R156), lines, pictures and rows (R143 to R146, R209),
row tasks (R212), Harvest captures (R149) and the rate controller (R239 to R257). -/
namespace Sys2Proof.Machine

/-! ### The parameter block of R156 -/

def pChannel (p : List Byte) : Nat := leAt p 0 1
def pClass (p : List Byte) : Nat := leAt p 1 1
def pFormat (p : List Byte) : Nat := leAt p 2 1
def pProfile (p : List Byte) : Nat := leAt p 3 1
def pLevel (p : List Byte) : Nat := leAt p 4 1
def pTier (p : List Byte) : Nat := leAt p 5 1
def pFlags (p : List Byte) : Nat := leAt p 6 1
def pSource (p : List Byte) : Nat := leAt p 7 1
def pBundles (p : List Byte) : Nat := leAt p 8 1
def pBundleAt (p : List Byte) (j : Nat) : Nat := leAt p (9 + j) 1
def pSideMax (p : List Byte) : Nat := leAt p 25 1
def pWidth (p : List Byte) : Nat := leAt p 26 2
def pHeight (p : List Byte) : Nat := leAt p 28 2
def pRateNum (p : List Byte) : Nat := leAt p 32 4
def pRateDen (p : List Byte) : Nat := leAt p 36 4
def pActive (p : List Byte) : Nat := leAt p 40 4
def pDelay (p : List Byte) : Nat := leAt p 44 4
def pSlots (p : List Byte) : Nat := leAt p 48 4
def pStoreGroup (p : List Byte) : Nat := leAt p 52 1
def pLag (p : List Byte) : Nat := leAt p 53 1
def pEngines (p : List Byte) : Nat := leAt p 54 1
def pEffort (p : List Byte) : Nat := leAt p 55 1
def pFloor (p : List Byte) : Nat := leAt p 56 1
def pStructure (p : List Byte) : Nat := leAt p 57 1
def pRefs (p : List Byte) : Nat := leAt p 58 1
def pTlayers (p : List Byte) : Nat := leAt p 59 1
def pRcMode (p : List Byte) : Nat := leAt p 60 1
def pQpMin (p : List Byte) : Nat := leAt p 61 1
def pQpMax (p : List Byte) : Nat := leAt p 62 1
def pBitrate (p : List Byte) : Nat := leAt p 64 4
def pMaxBitrate (p : List Byte) : Nat := leAt p 68 4
def pCpb (p : List Byte) : Nat := leAt p 72 4
def pIdrPeriod (p : List Byte) : Nat := leAt p 76 4
def pIntraRefresh (p : List Byte) : Nat := leAt p 80 2
def pPrimaries (p : List Byte) : Nat := leAt p 82 1
def pTransfer (p : List Byte) : Nat := leAt p 83 1
def pMatrix (p : List Byte) : Nat := leAt p 84 1
def pFullRange (p : List Byte) : Nat := leAt p 85 1
def pMosaic (p : List Byte) : Nat := leAt p 86 2
def pPane (p : List Byte) : Nat := leAt p 88 1
def pPanes (p : List Byte) : Nat := leAt p 89 1
def pPaneX (p : List Byte) : Nat := leAt p 90 2
def pPaneY (p : List Byte) : Nat := leAt p 92 2
def pFullW (p : List Byte) : Nat := leAt p 94 2
def pFullH (p : List Byte) : Nat := leAt p 96 2
def pStreamId (p : List Byte) : Nat := leAt p 104 8

/-- The bundles of BUNDLE_LIST in use, in the order of R131. -/
def pBundleList (p : List Byte) : List Nat := (List.range (pBundles p)).map (pBundleAt p)

/-- Rows of 64 lines. -/
def pRows (p : List Byte) : Nat := ceilDiv (pHeight p) 64

/-- CTUs of a row. -/
def pCtus (p : List Byte) : Nat := ceilDiv (pWidth p) 64

/-- Whether a format has 3 samples per pixel (R160). -/
def format444 (f : Nat) : Bool := f == 4 || f == 5

/-- Whether a format is YCC420 (R130). -/
def format420 (f : Nat) : Bool := f == 0 || f == 1

/-- Bits of a sample (R130). -/
def formatBits (f : Nat) : Nat :=
  match f with | 0 => 8 | 1 => 10 | 2 => 10 | 3 => 12 | 4 => 12 | 5 => 12 | 6 => 12 | _ => 16

/-- Samples of line `l` of width `w` (R130). -/
def lineSamples (f w l : Nat) : Nat :=
  match f with
  | 0 | 1 => if l % 2 = 0 then 2 * w else w
  | 2 | 3 => 2 * w
  | 4 | 5 => 3 * w
  | _ => w

/-- Pixel words of line `l` (R130). -/
def lineWords (f w l : Nat) : Nat := ceilDiv (lineSamples f w l * formatBits f) 64

/-! ### Lines and pictures -/

/-- The position a bundle expects of a channel (R132): a line of a picture, or, with `pic` none, the first line on
the bundle of any picture index later than `last` (any at all where `last` is none). -/
structure Expect where
  pic : Option Nat
  last : Option Nat
  line : Nat
  deriving DecidableEq, Repr

/-- A line of a picture that is placed or missing (R133), with what the store holds of it. -/
structure LineRec where
  line : Nat
  bundle : Nat
  placed : Bool
  damaged : Bool
  committed : Bool
  side : List Nat
  pixels : List Nat
  deriving DecidableEq, Repr

/-- How a task token returned (R214). -/
inductive TaskOutcome where
  | committed | rescued | cancelled
  deriving DecidableEq, Repr

/-- The coarse results of a CTU as they are published (R190, R215): for each reference searched its candidates in full samples, best first; and the
check that guards them (R188). -/
structure CoarseItem where
  cands : List (List (Int × Int))
  check : Nat
  deriving DecidableEq, Repr

/-- A coded CTU (R187, R215): the name of what its coding came to, which stands for its part of the substream, its reconstruction, its final motion
data and the CABAC states after it; and the check that guards what is published of it (R188). -/
structure CtuItem where
  name : Nat
  check : Nat
  deriving DecidableEq, Repr

/-- Where a row stands between its arrival and its departure (R210, R214, R227). -/
inductive RowPhase where
  | waiting | issued | committed | rescued | cancelled
  deriving DecidableEq, Repr

/-- A row of a picture: its arrival, what the issuer and the rate controller fixed at issue (R211, R248), and what
became of it: `fixed` once they are. `late` marks a row a rescue lane coded, `forLateness` one rescued at its RESCUE_AT, `replaced` a row of R249, `resumed` a row of R35; `coarseItems` and `items` are
what its CTUs came to, as far as published, and `returned` the tokens that have come back (R214). -/
structure RowSt where
  row : Nat
  arrival : Option Nat := none
  phase : RowPhase := .waiting
  departed : Bool := false
  qp : Nat := 0
  rung : Nat := 0
  effort : Nat := 0
  skipBias : Bool := false
  w : Nat := 0
  cap : Nat := 0
  share : Nat := 0
  rhoN : Nat := 1
  rhoD : Nat := 1
  side : Nat := 0
  gen : Nat := 0
  bits : Nat := 0
  concealed : Bool := false
  late : Bool := false
  forLateness : Bool := false
  replaced : Bool := false
  resumed : Bool := false
  wv : Int × Int := (0, 0)
  summary : Int × Int := (0, 0)
  holder : Option Nat := none
  lane : Option Nat := none
  coarse : Nat := 0
  progress : Nat := 0
  begun : Bool := false
  digest : Nat := 0
  fixed : Bool := false
  coarseItems : List CoarseItem := []
  items : List CtuItem := []
  returned : List (Nat × TaskOutcome) := []
  deriving DecidableEq, Repr

/-- The kind of a coded picture (R165, R166). -/
inductive PicKind where
  | idr | cra | trailR | trailN
  deriving DecidableEq, Repr

/-- What is fixed when row 0 of a picture is issued: kind, layer, references (picture indices), effort, and the plan of
R246. Bits are whole bits; `qpPlan` is encoded as R236 says. `shares` holds p(r); `block` is the parameter block in force for it, `idr` the last IDR picture (R169), and `changed` says
whether a change under R179 took effect at this picture (R170). -/
structure PicPlan where
  seq : Nat
  kind : PicKind
  intra : Bool
  tid : Nat
  ref0 : Option Nat
  ref1 : Option Nat
  conceal : Option Nat
  effort : Nat
  equinox : Bool
  discontinuity : Bool
  rs : Nat
  bs : Nat
  cbr : Bool
  fullness : Nat
  vmodel : Nat
  budget : Nat
  overhead : Nat
  planned : Nat
  qpPlan : Nat
  shares : List Nat
  noStats : Bool
  wmax : Nat
  rap : Nat
  vrate : Nat
  lineage : Nat
  block : List Byte := []
  idr : Nat := 0
  changed : Bool := false
  deriving DecidableEq, Repr

/-- The commit record of a picture (R144). -/
structure CommitRec where
  channel : Nat
  index : Nat
  present : Nat
  damaged : Nat
  missing : Nat
  firstNs : Nat
  lastNs : Nat
  deriving DecidableEq, Repr

/-- A picture of a channel: its lines and shares (R146), its rows, its plan once row 0 is issued, and the bytes of its
access unit without filler; `resetCut` for a picture that a warm reset cut (R35, R173), `slot` the slot of the store that its lines go to,
`buf` its reconstruction buffer (R212), and `commit` its commit record (R144). -/
structure Pic where
  index : Nat
  lines : List LineRec := []
  shut : List Nat := []
  closed : Bool := false
  accepted : Bool := false
  firstTick : Option Nat := none
  firstNs : Nat := 0
  lastNs : Nat := 0
  committedFirst : Option Nat := none
  slot : Option Nat := none
  buf : Option Nat := none
  commit : Option CommitRec := none
  plan : Option PicPlan := none
  rows : List RowSt := []
  bits : Nat := 0
  complete : Bool := false
  cut : Bool := false
  resetCut : Bool := false
  released : Bool := false
  recon : Nat := 0
  dropped : Bool := false
  tail : Bool := false
  sending : Bool := false
  deriving DecidableEq, Repr

/-- The states of a Harvest capture (R149). -/
inductive HarvestPhase where
  | armed | triggered | frozen
  deriving DecidableEq, Repr

/-- A Harvest capture (R149 to R153). `moment` is the trigger moment of a command or pulse trigger that has not named
its picture yet; `base` the first stripe of its buffer in each group's part, `stripes` how many it takes there (R333). -/
structure Harvest where
  phase : HarvestPhase
  slots : Nat
  pre : Nat
  post : Nat
  triggers : Nat
  gen : Nat
  base : Nat := 0
  stripes : Nat := 0
  resetCut : Bool := false
  picture : Option Nat := none
  moment : Option Nat := none
  trigTime : Nat := 0
  preHeld : Nat := 0
  held : List Nat := []
  ignored : Nat := 0
  deriving DecidableEq, Repr

/-- The counters of the rate-control record (R257), each with its SAT flag. -/
structure RcCounters where
  rung1 : Nat := 0
  rung2 : Nat := 0
  rung3 : Nat := 0
  overrun : Nat := 0
  filler : Nat := 0
  eqMiss : Nat := 0
  sat : Nat := 0
  deriving DecidableEq, Repr

/-- A stop in progress (R180, R15): the command it answers, when one does. -/
structure Stopping where
  drain : Bool
  close : Bool
  client : Nat := 0
  tag : Nat := 0
  reply : Bool := false
  logged : Bool := false
  deriving DecidableEq, Repr

/-- The lockstep states of R291. -/
inductive Lock where
  | alone | joining | locked | unverified | left
  deriving DecidableEq, Repr

/-- A row note of R291: picture, row and kind. -/
structure Note where
  picture : Nat
  row : Nat
  kind : Nat
  deriving DecidableEq, Repr

/-- The figures of R254 step 1 for one picture of a pane: its statistics total, QP_plan of its statistics picture as
QpY, and its own U. -/
structure Figures where
  picture : Nat
  sumN : Nat
  qpz : Int
  planned : Nat
  deriving DecidableEq, Repr

/-- The access unit that has departed and is not yet closed (R253, R286): its bytes so far, filler apart; `mute`
while the channel is withheld (R319). -/
structure OpenAu where
  mute : Bool := false
  picture : Nat
  rap : Bool
  disc : Bool
  lineage : Nat
  bytes : Nat
  recon : Nat
  deriving DecidableEq, Repr

/-- What a channel keeps beside its registers. `eos` says that the last access unit to depart carried end of sequence (R170), `shedLeft` that the unit left lockstep because effort was shed (R203), `leaveAt` the picture
from which the channel leaves lockstep and the cause (R290, R292). `params` is the parameter block in force (empty while CLOSED), `next` the
block a RECONFIGURE has recorded; pictures from `awaited` on wait for the first of them whose line 0 is placed, from which the channel is coded at
a start, and on from a warm reset (R35, R180); `storeBase` the first stripe of its store in its group's part, `ringNext` the slot that the
ring comes to next (R143) (`preview` and `previewHold`: the compositor's base source, and the picture it reads, R416), with the fields that wait for a random access picture when `atRap`. -/
structure Chan where
  params : List Byte := []
  next : Option (List Byte) := none
  atRap : Bool := false
  forceIdr : Bool := false
  lineage : Nat := 0
  everStarted : Bool := false
  slots : Nat := 0
  storeBase : Nat := 0
  ringNext : Nat := 0
  stealDly : Nat := 0
  xstealDly : Nat := 0
  margin : Nat := 0
  startTick : Nat := 0
  firstPic : Option Nat := none
  awaited : Option Nat := none
  discontinuity : Bool := false
  expect : List (Nat × Expect) := []
  pics : List Pic := []
  lastClosed : Option Nat := none
  lastAccepted : Option Nat := none
  lastSent : Option Nat := none
  seq : Nat := 0
  rap : Option Nat := none
  idr : Option Nat := none
  eos : Bool := false
  epoch : Nat := 0
  equinox : Option Nat := none
  stopping : Option Stopping := none
  harvest : Option Harvest := none
  affinity : List (Nat × Nat) := []
  rc : RcCounters := {}
  lastPlanned : Option Nat := none
  rungLast : Nat := 0
  substituted : Bool := false
  figures : List Figures := []
  lock : Lock := .alone
  shedLeft : Bool := false
  notes : List Note := []
  peerNotes : List Note := []
  digests : List (Nat × Nat × Nat × Nat) := []
  peerDigests : List (Nat × Nat × Nat × Nat) := []
  matches2 : Nat := 0
  transmitFrom : Option Nat := none
  hold : List (Nat × Nat) := []
  bound : Bool := false
  withheld : Bool := false
  stopAt : Option (Nat × Stopping) := none
  nextAt : Nat := 0
  lastBp : Option Nat := none
  confEpoch : Nat := 0
  shadow : Bool := false
  normalFrom : Option Nat := none
  au : Option OpenAu := none
  lastPeer : Option Nat := none
  pathFree : Option Nat := none
  handed : Bool := false
  leaveAt : Option (Nat × Nat) := none
  preview : Bool := false
  previewHold : Option Nat := none
  deriving DecidableEq, Repr

/-- Whether picture `k` waits for a first line (R35, R180): it is not coded, nor accepted, before a picture whose line 0 is placed. -/
def Chan.waits (c : Chan) (k : Nat) : Bool := match c.awaited with | some w => decide (w ≤ k) | none => false

/-- What a slot of a window cache holds (R195): the reference picture, the channel, the strip's first column and y0. -/
structure CacheTag where
  slot : Nat
  ref : Nat
  chan : Nat
  col : Int
  y0 : Int
  deriving DecidableEq, Repr

/-- What a copy's chunks carry (R297), as the joining unit reads it: LINEAGE, the last random access index, the sequence number of
the next picture, the last buffering period, the rate-control record, the pictures with their plans and rows, and the egress record of
R386 where the channel is bound. -/
structure Snapshot where
  lineage : Nat
  rap : Nat
  seq : Nat
  lastBp : Option Nat
  rc : RcCounters
  pics : List Pic
  egress : List Byte := []
  deriving DecidableEq, Repr

/-! ### Row tasks -/

/-- Where an instance of a task stands: on an engine's ready list, in its local slot, or running on it. -/
inductive Place where
  | list (engine : Nat)
  | slot (engine : Nat)
  | run (engine : Nat)
  deriving DecidableEq, Repr

/-- An instance of a row task, by its descriptor (R212) and its place. `order` is its issue order and `rank` its place among entries of its kind; `wait` the TB.NS of
its placement; `saved` is set while its context is saved (R224); `tokens` counts the CTUs it has published. `back` is
the list a pre-empted task returns to after its save. For a decode task (KIND 1) `chan` is the decode context. -/
structure Task where
  rank : Int
  order : Nat
  kind : Nat
  chan : Nat
  row : Nat
  pic : Nat
  effort : Nat
  qp : Nat
  skipBias : Bool
  intra : Bool
  deferred : Bool
  conceal : Bool
  resumed : Bool
  token : Nat
  arrival : Nat
  rescueAt : Nat
  departAt : Nat
  ref0 : Option Nat
  ref1 : Option Nat
  concealSrc : Option Nat
  gen : Nat
  affinity : Option Nat
  slot : Nat
  steal : Nat
  xsteal : Nat
  place : Place
  wait : Nat
  start : Nat := 0
  saved : Option Nat := none
  saving : Bool := false
  coarse : Nat := 0
  progress : Nat := 0
  stopped : Bool := false
  back : Nat := 0
  waits : Bool := false
  desc : List Byte := []
  deriving DecidableEq, Repr

end Sys2Proof.Machine
end

