-- ==== Sys2Proof/Machine/CmdTypes.lean ====
section
/-! DEFINITION. The operand types of the commands: what a command row carries beside its own parameters, the paths of
direct accesses, and the few closed choices the rows name. -/
namespace Sys2Proof

/-- What a read of host memory on a command's behalf gives (R356, R358, R553): the bytes up to the end, or up to the
translation fault whose kind `fault` names. -/
structure HostRead where
  bytes : List Byte := []
  fault : Option Nat := none
  deriving DecidableEq, Repr

/-- What every command row carries: the accepted command it belongs to (client and TAG), where a long result goes
(BUF), whether the confirming read of R64 succeeds, and what its reads of host memory give. -/
structure Ctx where
  client : Nat := 0
  tag : Nat := 0
  confirm : Bool := true
  buf : Nat := 0
  rd : HostRead := {}
  deriving DecidableEq, Repr

/-- How a direct access arrives: a BAR0 transaction or an SPI frame (R515, R77). -/
inductive Path where
  | bar0 | spi
  deriving DecidableEq, Repr

/-- The width of a feed write to a check-value unit (R445). -/
inductive FeedSize where
  | b8 | b16 | b32
  deriving DecidableEq, Repr

/-- The bytes a feed write carries. -/
def FeedSize.bytes : FeedSize → Nat
  | .b8 => 1 | .b16 => 2 | .b32 => 4

/-- A receiver of the VXL line code: a sensor lane (R90), a lane of the twin link (R284) or a lane of the gang ring
(R305). -/
inductive LinkLane where
  | sensor (n : Fin 128)
  | twin (n : Fin 4)
  | ring (n : Fin 2)
  deriving DecidableEq, Repr

/-- What trains in the VXL line code: a bundle (R108), the twin link (R284), the input of the gang ring (R305). -/
inductive LinkUnit where
  | bundle (b : Fin 16)
  | twin
  | ring
  deriving DecidableEq, Repr

/-- One word of a line packet as it leaves the deskew buffers, with its poison tag (R103). -/
structure LineWord where
  value : Nat
  poison : Bool := false
  deriving DecidableEq, Repr

/-- The line packet that a FLUSH interrupts (R141): its channel, its place, and its words that arrive in the cycle of
the write and after. -/
structure CutPacket where
  channel : Nat
  picture : Nat
  line : Nat
  words : Nat
  deriving DecidableEq, Repr

/-- A fading point of the audio block (R435): a microphone, a DIN slot, a channel of a stream. -/
inductive AudioPoint where
  | mic (m : Fin 32)
  | din (port : Fin 4) (slot : Fin 16)
  | stream (k : Fin 16) (channel : Fin 64)
  deriving DecidableEq, Repr

/-- A schedule entry of R309: a mosaic, the generator that drives its picture start, and the picture that starts. -/
structure SchedEntry where
  mosaic : Nat
  gen : Fin 8
  picture : Nat
  deriving DecidableEq, Repr

/-- What a start-up sequence meets (R21 to R27, R338, R464, R474): the strap, whether the firmware image passes its check, the patch and
build bytes of its version, the raw codes of the 38 sensors, the comparators that fail their self-test, the controllers whose PHY does
not respond, the pseudo-channels that fail their pattern test, the µs at which its 13 steps end, and the ageing slowdown of R550. -/
structure StartInfo where
  strap : Bool := false
  image : Bool := true
  version : Nat := 0
  raws : List Int := []
  comps : Nat := 0
  phys : Nat := 0
  pcs : List Nat := []
  micros : List Nat := []
  slow : Nat := 0
  deriving DecidableEq, Repr

/-- What an accepted command meets when it starts, beside its journaled parameters: what its reads of host memory give, whether the
confirming read of R64 succeeds, the engines whose self-test differs and by how much (R207), and the cause of a fault that strikes a unit
as it returns to service (R479). -/
structure CmdExtra where
  rd : HostRead := {}
  confirm : Bool := true
  wrong : Nat := 0
  delta : Nat := 0
  struck : Option Nat := none
  deriving DecidableEq, Repr

/-- What a warm resume meets (R29, R30): whether the scan finds damage, the raw codes of the sensors and the comparators that fail their
self-test, the µs at which its eight steps end, what each replayed command meets by its place in the acceptance order, and what a cold
start-up in place of the resume meets. -/
structure ResumeInfo where
  damaged : Bool := false
  raws : List Int := []
  comps : Nat := 0
  micros : List Nat := []
  extras : List (Nat × CmdExtra) := []
  start : StartInfo := {}
  deriving DecidableEq, Repr

end Sys2Proof
end

