-- ==== Sys2Proof/Machine/StreamTypes.lean ====
section
/-! DEFINITION. Plain data of what leaves the device and of decoding: record segments and queues (R360 to R366), network
bindings (R376 to R386) and decode contexts (R258 to R275). -/
namespace Sys2Proof.Machine

/-- A block of a record segment (R365): its header's fields and its content; for an AU block, whose bytes are the coded stream's, `unit` names the
access unit: channel, LINEAGE, picture. -/
structure SegBlock where
  type : Nat
  flags : Nat
  length : Nat
  picture : Nat
  content : List Byte := []
  unit : Option (List Nat) := none
  deriving DecidableEq, Repr

/-- A record segment, by its header (R364): KIND, STREAM, FLAGS and the rest; `parts` its blocks, `tick` when it was formed. -/
structure Segment where
  kind : Nat
  stream : Nat
  flags : Nat
  seq : Nat
  first : Nat
  last : Nat
  lineage : Nat
  len : Nat
  blocks : Nat
  streamId : Nat
  aus : Nat := 0
  tick : Nat := 0
  parts : List SegBlock := []
  deriving DecidableEq, Repr

/-- A stream bound to a record queue: the next SEQUENCE of its LINEAGE, the segment that is open, whether the next one
carries GAP (R363). -/
structure SegStream where
  kind : Nat
  stream : Nat
  queue : Nat
  seq : Nat := 0
  lineage : Nat := 0
  seg : Option Segment := none
  gap : Bool := false
  deriving DecidableEq, Repr

/-- A record queue (R360, R361): its parameters, the formed segments that wait, the counters of the progress record, and the
RECORD-UNBIND that drains it. `tail` is TAIL in full, `written` set while the segment in front is being written, `lastGranule` its
64-byte granules already written (R363). -/
structure RecQueue where
  params : List Byte := []
  segs : List Segment := []
  written : Bool := false
  segments : Nat := 0
  discarded : Nat := 0
  updates : Nat := 0
  drain : Option Ctx := none
  lastGranule : Nat := 0
  tail : Nat := 0
  deriving DecidableEq, Repr

/-- A NAL unit, or an audio packet's payload, that waits in a send buffer (R384): its picture or first sample frame, its bytes,
whether it is filler, whether it is the last unit that M marks (R381), the sequence number of its first packet, its RTP
timestamp, when it was handed over, and the samples of an audio packet as R383 spells them. -/
structure SendUnit where
  picture : Nat
  bytes : Nat
  filler : Bool
  last : Bool
  tick : Nat
  seq : Nat := 0
  ts : Nat := 0
  data : List Byte := []
  deriving DecidableEq, Repr

/-- What waits for one path: its units, the packets of the first one already sent, the byte bucket of R384 (in units of
1/2,000,000,000 byte, as of tick `levelTick`), and the destination's resolution (R388). -/
structure PathSend where
  send : List SendUnit := []
  off : Nat := 0
  level : Nat := 0
  levelTick : Nat := 0
  ok : Bool := false
  tryTick : Nat := 0
  asked : Bool := false
  deriving DecidableEq, Repr

/-- A bound network stream (R376) with its egress record (R380, R386): `starts` the sequence numbers that its last pictures began with, `fromPic` the first picture whose access unit leaves,
`ending` the last one and the EGRESS-UNBIND that waits for it. -/
structure Binding where
  kind : Nat
  stream : Nat
  params : List Byte
  fromPic : Nat := 0
  ssrc : Nat := 0
  scope : Nat := 0
  lineage : Nat := 0
  nextSeq : Nat := 0
  picture : Nat := 0
  begun : Bool := false
  starts : List (Nat × Nat) := []
  paths : List PathSend := [{}, {}]
  ending : Option (Nat × Option Ctx) := none
  deriving DecidableEq, Repr

/-- A data set of an Announce (R391): the fields that the best master clock algorithm of IEEE 1588 compares, in its order. -/
structure Announce where
  prio1 : Nat
  clockClass : Nat
  accuracy : Nat
  variance : Nat
  prio2 : Nat
  gm : Nat
  steps : Nat
  logInterval : Int
  deriving DecidableEq, Repr

/-- An Ethernet port's state beside its registers: the best Announce it hears and when it heard one, gratuitous frames still to
send (R387), the echo replies of the last second (R374), the channel served last (R384), Delay_Req numbering. -/
structure EthSt where
  best : Option Announce := none
  annTick : Nat := 0
  garp : Nat := 0
  garpTick : Nat := 0
  echoes : List Nat := []
  turn : Nat := 127
  media : Bool := false
  delaySeq : Nat := 0
  groups : List (Bool × List Byte) := []
  deriving DecidableEq, Repr

/-- PTP as a whole (R391, R392): the port it runs on, a change of choice and since when it has held, consecutive good offsets. -/
structure PtpSt where
  port : Option Nat := none
  want : Option (Nat × Nat) := none
  good : Nat := 0
  deriving DecidableEq, Repr

/-- An access unit in a CONFIDENCE context's retention buffer (R271): how many pictures it is still kept for. -/
structure RetainedAu where
  picture : Nat
  rap : Bool
  bytes : Nat
  recon : Nat := 0
  left : Nat
  deriving DecidableEq, Repr

/-- The picture a context decodes: its number, rows, the rows parsed, finished and concealed, whether a write
was suppressed (R268), the unit that parsed each row, and for a CONFIDENCE context the channel's own digest (R272). -/
structure DecPic where
  number : Nat
  rows : Nat
  sync : Bool := true
  parsed : List Nat := []
  done : List Nat := []
  concealed : List Nat := []
  xlat : Bool := false
  units : List (Nat × Nat) := []
  expect : Option Nat := none
  deriving DecidableEq, Repr

/-- A decode context (R258 to R275). `counts` are the twelve counters of R275 in record order, `sats` their SAT flags. `counting`
is set while passed pictures count in CONF_SKIP, `discAt` the bytes before a DISCONTINUITY feed (R273), `passOver` the random access
periods still passed over (R271), `shown` the picture the compositor has
latched last (R416), `feedEnd` the DECODE-FEED with END that waits for the parsing. -/
structure DecCtx where
  kind : Nat
  channel : Nat := 0
  flags : Nat := 0
  maxW : Nat := 0
  maxH : Nat := 0
  profile : Nat := 0
  slots : Nat := 0
  outSlots : Nat := 0
  sample : Nat := 1
  window : Nat := 0
  ringKib : Nat := 0
  ended : Bool := false
  fill : Nat := 0
  promised : Nat := 0
  atEnd : Bool := false
  waitIrap : Bool := true
  refused : Bool := false
  passOver : Nat := 0
  pic : Option DecPic := none
  nextNumber : Nat := 0
  out : List Nat := []
  retained : List RetainedAu := []
  counts : List Nat := List.replicate 12 0
  sats : Nat := 0
  feedEnd : Option Ctx := none
  counting : Bool := false
  discAt : Option Nat := none
  params : List Byte := []
  shown : Option Nat := none
  deriving DecidableEq, Repr

end Sys2Proof.Machine
end

