-- ==== Sys2Proof/Machine/DecodeTypes.lean ====
section
/-! DEFINITION. The operand types of decoding: what an entropy unit finds in a stream (R261 to R270). -/
namespace Sys2Proof.Machine

/-- What a SPS says of the points that R264 and R265 check; `level` in tenths. -/
structure SpsFacts where
  profile : Nat
  level : Nat
  ctb : Nat
  tools : Bool
  extension : Bool
  dpb : Nat
  reorder : Nat
  w : Nat
  h : Nat
  deriving DecidableEq, Repr

/-- The two error classes that parsing finds (R269). -/
inductive ParseError where
  | syntaxError | truncated
  deriving DecidableEq, Repr

/-- What an entropy unit has parsed: a NAL unit that changes nothing here, an activated SPS, the start of a picture (rows, IRAP,
missing references, entropy_coding_sync_enabled_flag), a row (`segment` where a slice segment begins with it), an error with the rows it
conceals, or a decoded picture hash. -/
inductive ParseItem where
  | nal (type : Nat)
  | sps (f : SpsFacts)
  | picture (rows : Nat) (irap : Bool) (missing : Nat) (sync : Bool)
  | row (r : Nat) (segment : Bool)
  | error (cls : ParseError) (rows : List Nat)
  | hash (bad : Bool)
  deriving DecidableEq, Repr

/-- Work that reaches its bound (R266): a NAL unit or slice header, a CTU with the rows it conceals, a decode task past twice its bound. -/
inductive DecodeWork where
  | header
  | ctu (rows : List Nat)
  | task (engine : Fin 128)
  deriving DecidableEq, Repr

end Sys2Proof.Machine
end

