-- ==== Sys2Proof/Machine/EgressTypes.lean ====
section
/-! DEFINITION. The operand types of network egress: what a port receives (R374), and PTP messages (R390 to R392). -/
namespace Sys2Proof.Machine

/-- A received frame by its kind (R373, R374): each carries its length where it counts. -/
inductive RxFrame where
  | ptp
  | addressQuery (forPath : Option (Fin 2))
  | groupQuery
  | echo
  | beacon (payload : List Byte)
  | peerPath
  | pause
  | other
  | badFcs
  deriving DecidableEq, Repr

/-- A PTP message as it reaches the firmware (R390 to R392): domain and transport, and an Announce, a Sync with the offset it gives and
the upper part of PTP time, or a Delay_Resp with the mean path delay. -/
inductive PtpMsg where
  | announce (a : Announce)
  | sync (logInterval offset : Int) (era : Nat)
  | delayResp (delay : Nat)
  deriving DecidableEq, Repr

/-- The RS-FEC report that comes with a received frame: codewords corrected, uncorrectable, symbol errors of the four lanes. -/
structure FecReport where
  corrected : Nat := 0
  uncorrectable : Nat := 0
  symbols : List Nat := []
  deriving DecidableEq, Repr

end Sys2Proof.Machine
end

