-- ==== Sys2Proof/Machine/MemTypes.lean ====
section
/-! DEFINITION. Plain data of the memory controllers (R327 to R352). -/
namespace Sys2Proof.Machine

/-- A request to a pseudo-channel (R339, R340): its port, its device memory address, for a write the 32 bytes of the sector, the
tick it entered its controller, and its urgency. -/
structure MemReq where
  port : Fin 11
  addr : Nat
  data : Option (List Byte) := none
  tick : Nat := 0
  urg : Nat := 0
  deriving DecidableEq, Repr

/-- What a read of a sector meets (R349, R350): the bits of data and of check that come back inverted, what the stack's ECC
reports, and whether a unit of the stripe that a rebuild reads is bad. -/
structure SectorRead where
  flips : BitVec 256 := 0
  checkFlips : BitVec 16 := 0
  corrected : Bool := false
  uncorrectable : Bool := false
  rebuildBad : Bool := false
  deriving DecidableEq, Repr

/-- A pseudo-channel beside its registers: waiting requests in order of arrival, reads issued and not complete, the open row of
each bank, the refresh state in force, a catch-up or a forced refresh due, the refresh in progress with the refreshes made back
to back, the ticks of its failed sectors, and when it fell idle. -/
structure PcSt where
  reqs : List MemReq := []
  issued : List MemReq := []
  rows : List (Nat × Nat) := []
  hot : Bool := false
  catchup : Bool := false
  forced : Bool := false
  refreshing : Bool := false
  run : Nat := 0
  fails : List Nat := []
  idleTick : Nat := 0
  deriving DecidableEq, Repr

end Sys2Proof.Machine
end

