-- ==== Sys2Proof/Machine/LaneTypes.lean ====
section
/-! DEFINITION. State of the sensor lanes and bundles beside their registers (R95 to R122, R126 to R141). -/
namespace Sys2Proof.Machine

/-- What a lane keeps: MCOUNT of its last good marker while it has one, the slots passed since, the consecutive missed
slots, the consecutive periods its MCOUNT differed from the others', the stuffing violations of the present period, the
held words a stuffing violation made lost words, whether a retrain attempt runs (R117), since which tick, in which of SEEK, DESKEW and
VERIFY (1 to 3), with its good periods and whether the present one showed a parity mismatch, the tick of its loss or of its last failed
attempt, PAR of its last good marker (R96), the equaliser preset applied at the last SEEK (R125), and the last 31 payload bits
received once they are known (R93). -/
structure LaneSt where
  last : Option Nat := none
  away : Nat := 0
  miss : Nat := 0
  differ : Nat := 0
  violations : Nat := 0
  suspect : Nat := 0
  attempt : Bool := false
  attemptTick : Nat := 0
  stage : Nat := 0
  good : Nat := 0
  mismatch : Bool := false
  lostTick : Nat := 0
  par : Bool := false
  eq : Nat := 0
  hist : Option Nat := none
  deriving DecidableEq, Repr

/-- A line packet held in an ingress FIFO: what it is and the words it takes there (R136); a fragment is what an overflow left of one (R139). -/
structure FifoLine where
  channel : Nat
  picture : Nat
  line : Nat
  words : Nat
  side : List Nat
  pixels : List Nat
  fragment : Bool := false
  deriving DecidableEq, Repr

/-- What a bundle keeps: the CFG values latched at SEEK, the lanes whose slot the present marker period has had, those
with a good marker, the messages read in it, READY, the good VERIFY periods, the talkback arguments, the rate of the last
failures, the tick at which its present state began, that of SEEK and that of WAITING, the STEP in progress, the last RESTRIPE acted on,
the two coefficient banks (R135) and the FIFO (R136): its lines, oldest first, and the words in each bank; whether an overflow discards words until the next header (R139); whether the last line packet
completed a picture, whether the bundle is in an inter-picture gap and since when (R113); the merged words of the bundle stream that no
line packet has taken (R101); MCOUNT of the next talkback marker and the tick of the last one (R96, R104). -/
structure BundleSt where
  laneEn : Nat := 0
  parEn : Bool := false
  parLane : Nat := 0
  maxRate : Nat := 0
  slots : Nat := 0
  goods : Nat := 0
  counts : List (Nat × Nat) := []
  messages : List (Nat × Nat) := []
  ready : Bool := false
  verify : Nat := 0
  blemish : Bool := false
  argA : Nat := 0
  argB : Nat := 0
  mc : Nat := 0
  failRate : Nat := 0
  stateTick : Nat := 0
  seekTick : Nat := 0
  waitTick : Nat := 0
  stepFrom : Nat := 0
  acked : Bool := false
  striped : Option (Nat × Nat) := none
  resumeMask : Nat := 0
  bank0 : List Int := [16384, 0, 0, 0, 16384, 0, 0, 0, 16384, 0, 0, 0]
  bank1 : List Int := List.replicate 12 0
  fifo : List FifoLine := []
  words0 : Nat := 0
  words1 : Nat := 0
  overflow : Bool := false
  completed : Bool := false
  gap : Bool := false
  gapTick : Nat := 0
  stream : List LineWord := []
  talkMc : Nat := 0
  talkTick : Nat := 0
  deriving DecidableEq, Repr

end Sys2Proof.Machine
end

