-- ==== Sys2Proof/Machine/TwinTypes.lean ====
section
/-! DEFINITION. State of the twin link, its proposals and its joins (R277 to R303), and of the gang ring (R305 to R326),
beside their registers. -/
namespace Sys2Proof.Machine

/-- A link in the VXL line code (R284, R305): four lanes for the twin link, two for the ring. The masks of locked lanes and of
the stripe and the state code of R108 stand in TWIN.LINK and RING.LINK. `pend` is a stripe mask that takes effect at MCOUNT
`pendMc` (R118). -/
structure LinkSt where
  lanes : List LaneSt := List.replicate 4 {}
  aligned : Nat := 0
  lost : Nat := 0
  miswired : Nat := 0
  attempts : List Nat := [0, 0, 0, 0]
  mcount : Nat := 0
  slots : Nat := 0
  goods : Nat := 0
  counts : List (Nat × Nat) := []
  messages : List (Nat × Nat) := []
  skewBad : Nat := 0
  verify : Nat := 0
  blemish : Bool := false
  striped : Option (Nat × Nat) := none
  pend : Nat := 0
  pendMc : Nat := 0
  fails : Nat := 0
  waitTick : Nat := 0
  stateTick : Nat := 0
  deriving DecidableEq, Repr

/-- A message of the twin link or the ring as received (R285): SEQ and HCHK of the header, the CRC of the trailer, the body. -/
structure LinkMsg where
  seq : Nat
  hchk : Nat
  crc : Nat
  body : List Byte
  deriving DecidableEq, Repr

/-- Where a proposal stands (R289): sent and waiting for the answer, or committed and waiting for COMMIT_ACK; on the
peer, agreed and waiting for COMMIT. -/
inductive PropPhase where
  | proposed | committed | agreed
  deriving DecidableEq, Repr

/-- A proposal (R286, R289): the command's opcode and parameters, its channels with their targets, and the command it
answers on the unit that accepted it (`reply`); `logged` for the stop of a mode transition (R15). -/
structure Proposal where
  id : Nat
  opcode : Nat
  entries : List (Nat × Nat)
  params : List Byte
  client : Nat := 0
  tag : Nat := 0
  reply : Bool := false
  logged : Bool := false
  tries : Nat := 0
  phase : PropPhase
  tick : Nat
  deriving DecidableEq, Repr

/-- A copy join in progress on the joining unit (R297, R298): GEN, the chunks received, and the snapshot applied. -/
structure CopyIn where
  channel : Nat
  gen : Nat
  chunks : List (Nat × List Byte) := []
  applied : Bool := false
  snapshot : Nat := 0
  q : Option Nat := none
  deriving DecidableEq, Repr

/-- A copy this unit is sending (R297, R298): the snapshot picture, and the picture TAIL runs up to once SWITCH names it. -/
structure CopyOut where
  channel : Nat
  gen : Nat
  snapshot : Nat
  q : Option Nat := none
  sent : Nat := 0
  deriving DecidableEq, Repr

/-- An agreed role exchange (R303): the targets not yet passed, and the command it answers on the unit that accepted it. -/
structure Handover where
  entries : List (Nat × Nat)
  client : Nat := 0
  tag : Nat := 0
  reply : Bool := false
  deriving DecidableEq, Repr

/-- An agreed write of a register field that R280 covers, made at the first of its targets (R289). -/
structure RegAt where
  entries : List (Nat × Nat)
  addr : Nat
  mask : Nat
  value : Nat
  deriving DecidableEq, Repr

/-- The twin's state beside its registers. `lost` is set from the loss of the link to the next good heartbeat (R288), `holdsOther`
while the unit holds the identity of the other path (R300); `eqJoin` holds the Equinox joins served: channel, GEN and picture E once
agreed (R386), and `copyLast` a copy whose egress record is still to come: channel, GEN, snapshot picture, the payload sent so far. -/
structure TwinSt where
  link : LinkSt := {}
  seq : Nat := 0
  paired : Bool := false
  peerSerial : Nat := 0
  peerRole : Nat := 0
  peerEpoch : Nat := 0
  peerCount : Nat := 0
  hbCount : Nat := 0
  hbTick : Nat := 0
  hbSeen : Bool := false
  lost : Bool := false
  holdsOther : Bool := false
  handover : Option Handover := none
  regAt : List RegAt := []
  peerTick : Nat := 0
  aloneTick : Nat := 0
  own : Option Proposal := none
  peer : Option Proposal := none
  waiting : List Proposal := []
  nextProp : Nat := 0
  copyIn : Option CopyIn := none
  copyOut : Option CopyOut := none
  joinGen : List (Nat × Nat) := []
  eqJoin : List (Nat × Nat × Option Nat) := []
  copyLast : Option (Nat × Nat × Nat × List Byte) := none
  joinTick : List (Nat × Nat) := []
  vigilTick : Nat := 0
  beacons : List Nat := [0, 0]
  prefOwn : Bool := false
  solo : Bool := false
  deriving DecidableEq, Repr

/-- A pane that a STATUS entry of another member reports (R308, R321). -/
structure PaneReport where
  member : Nat
  mosaic : Nat
  pane : Nat
  state : Nat
  dUs : Nat
  dMos : Nat
  deriving DecidableEq, Repr

/-- The figures a STATS entry of another member carries (R308, R320); `qpz` as QpY. -/
structure PaneFigures where
  member : Nat
  mosaic : Nat
  pane : Nat
  picture : Nat
  sumN : Nat
  qpz : Int
  planned : Nat
  deriving DecidableEq, Repr

/-- What the member keeps of another member (R313, R315): its serial, the slots since its last STATUS, and what that STATUS
said. -/
structure MemberSt where
  number : Nat
  serial : Nat
  age : Nat := 0
  synced : Bool := false
  fenced : Bool := false
  claim : Option Nat := none
  deriving DecidableEq, Repr

/-- The ring's state beside its registers (R305 to R325). `causes` holds bit w while cause w of STATE.WHY stands; `slots` counts
Calends slots since the last Calends, `missRun` those counted missed in a row; `claimAt` is the CSEQ this member has claimed;
`dupAge` counts the slots since a STATUS of this member's number from another serial; `job` is the GANG-JOIN or GANG-LEAVE that
the next bypass change ends. -/
structure RingSt where
  link : LinkSt := {}
  seq : Nat := 0
  joined : Bool := false
  bypassWanted : Option Bool := none
  job : Option (Ctx × Bool) := none
  members : List MemberSt := []
  panes : List PaneReport := []
  figs : List PaneFigures := []
  lastBody : List Byte := []
  slots : Nat := 0
  missRun : Nat := 0
  memberSlots : Nat := 0
  causes : Nat := 0
  agreeD : Nat := 0
  agreeP : Nat := 0
  agreeOff : Nat := 0
  unsyncRun : Nat := 0
  modeRun : Nat := 0
  syncRun : Nat := 0
  newLeader : Nat := 0
  loopLost : Nat := 0
  claimAt : Option Nat := none
  loopErr : Int := 0
  dupAge : Option Nat := none
  holeSeen : Bool := false
  deriving DecidableEq, Repr

end Sys2Proof.Machine
end

