-- ==== Sys2Proof/Syntax.lean ====
section
/-! DEFINITION. The commands of the block, one constructor per row of the command table, with their operands. A row that carries a command of the
catalogue (R496 to R510) has its parameters; a row for an event has what the event brings with it and the rest of the state does not fix. -/
namespace Sys2Proof
open Machine

/-- A command: something that reaches the device from outside, or that one of its own engines does next. -/
inductive Instr where
  /-- NOP (R500): 0x0000. -/
  | nop (c : Ctx)
  /-- GET_INFO (R501): 0x0001. -/
  | getInfo (c : Ctx)
  /-- SET_MODE (R14): 0x0002. -/
  | setMode (c : Ctx) (target : Nat)
  /-- GET_STATUS (R501): 0x0003. -/
  | getStatus (c : Ctx)
  /-- WARM_RESET (R29): 0x0004. -/
  | warmReset (c : Ctx)
  /-- SNAPSHOT_COUNTERS (R487): 0x0005; the entries of the scatter table are `c.rd`. -/
  | snapshotCounters (c : Ctx) (scope flags length scatter : Nat)
  /-- READ_EVENTS (R484): 0x0006. -/
  | readEvents (c : Ctx) (from_ most : Nat)
  /-- SPI_RELEASE (R500): 0x0007. -/
  | spiRelease (c : Ctx)
  /-- ALMANAC_READ (R502): 0x0101. -/
  | almanacRead (c : Ctx) (source offset length : Nat)
  /-- ALMANAC_STAGE (R53): 0x0102; the bytes of SCATTER are `c.rd`. -/
  | almanacStage (c : Ctx) (begin : Bool) (offset length : Nat)
  /-- ALMANAC_COMMIT (R55): 0x0103. -/
  | almanacCommit (c : Ctx) (length crc : Nat)
  /-- ALMANAC_REVERT (R56): 0x0104. -/
  | almanacRevert (c : Ctx) (form : Nat)
  /-- OPEN_CHANNEL (R159): 0x0201; the 128 bytes of R156. -/
  | openChannel (c : Ctx) (block : List Byte)
  /-- CLOSE_CHANNEL (R180): 0x0202. -/
  | closeChannel (c : Ctx) (channel : Nat)
  /-- START_CHANNEL (R180): 0x0203. -/
  | startChannel (c : Ctx) (channel : Nat)
  /-- STOP_CHANNEL (R180): 0x0204. -/
  | stopChannel (c : Ctx) (channel mode : Nat)
  /-- RECONFIGURE_CHANNEL (R179): 0x0205; the 128 bytes of R156 with FORCE_IDR. -/
  | reconfigureChannel (c : Ctx) (block : List Byte)
  /-- FORCE_EQUINOX (R166): 0x0206. -/
  | forceEquinox (c : Ctx) (channel : Nat)
  /-- QUERY_CHANNEL (R504): 0x0207. -/
  | queryChannel (c : Ctx) (channel : Nat)
  /-- EGRESS_BIND (R377): 0x0208; the 64 bytes of R376. -/
  | egressBind (c : Ctx) (block : List Byte)
  /-- EGRESS_UNBIND (R376): 0x0209. -/
  | egressUnbind (c : Ctx) (kind stream : Nat)
  /-- BUNDLE_CONFIGURE (R506): 0x0301. -/
  | bundleConfigure (c : Ctx) (bundle what cfg front fifo : Nat) (matrix : List Int)
  /-- BUNDLE_TRAIN (R123): 0x0302. -/
  | bundleTrain (c : Ctx) (bundle : Nat)
  /-- LANE_STATUS (R506): 0x0303. -/
  | laneStatus (c : Ctx) (bundle : Nat)
  /-- HARVEST_ARM (R149): 0x0304. -/
  | harvestArm (c : Ctx) (channel flags triggers gen slots pre post : Nat)
  /-- HARVEST_TRIGGER (R150): 0x0305. -/
  | harvestTrigger (c : Ctx) (channel : Nat)
  /-- HARVEST_RELEASE (R151): 0x0306. -/
  | harvestRelease (c : Ctx) (channel : Nat)
  /-- TWIN_CONFIGURE (R277): 0x0401. -/
  | twinConfigure (c : Ctx) (enable : Nat)
  /-- TWIN_STATUS (R507): 0x0402. -/
  | twinStatus (c : Ctx)
  /-- TWIN_HANDOVER (R303): 0x0403. -/
  | twinHandover (c : Ctx)
  /-- GANG_JOIN (R325): 0x0411. -/
  | gangJoin (c : Ctx) (member members ringId : Nat)
  /-- GANG_LEAVE (R325): 0x0412. -/
  | gangLeave (c : Ctx)
  /-- GANG_STATUS (R325): 0x0413. -/
  | gangStatus (c : Ctx)
  /-- RECORD_BIND (R360): 0x0501; the 64 bytes of R360; `c.rd` holds the scatter pages. -/
  | recordBind (c : Ctx) (block : List Byte)
  /-- RECORD_UNBIND (R360): 0x0502. -/
  | recordUnbind (c : Ctx) (queue : Nat)
  /-- MEM_REGIONS (R335): 0x0503; MAP and CFG of the 16 entries. -/
  | memRegions (c : Ctx) (entries : List (Nat × Nat))
  /-- FENCE_CLEAR (R32): 0x0504; the cause of a fault that strikes the unit as it returns. -/
  | fenceClear (c : Ctx) (kind index : Nat) (struck : Option Nat)
  /-- TIME_GET (R398): 0x0601. -/
  | timeGet (c : Ctx)
  /-- TIME_SET_INCREMENT (R397): 0x0602. -/
  | timeSetIncrement (c : Ctx) (inc : Nat)
  /-- TIME_STEP (R398): 0x0603. -/
  | timeStep (c : Ctx) (offset : Int)
  /-- PULSE_PROGRAM (R409): 0x0604. -/
  | pulseProgram (c : Ctx) (gen mode flags width first period frac : Nat)
  /-- AUDIO_CONFIGURE (R441): 0x0701; the 16 bytes of R441. -/
  | audioConfigure (c : Ctx) (block : List Byte)
  /-- AUDIO_ROUTE (R438): 0x0702; 8 bytes and the source codes. -/
  | audioRoute (c : Ctx) (block : List Byte)
  /-- AUDIO_MUTE (R436): 0x0703. -/
  | audioMute (c : Ctx) (kind index slot action : Nat)
  /-- PREVIEW_CONFIGURE (R419): 0x0801; the 48 bytes of R419. -/
  | previewConfigure (c : Ctx) (block : List Byte)
  /-- LUT_LOAD (R418): 0x0802; 8 bytes and the entries. -/
  | lutLoad (c : Ctx) (block : List Byte)
  /-- SCALER_LOAD (R418): 0x0803; 8 bytes and the coefficients. -/
  | scalerLoad (c : Ctx) (block : List Byte)
  /-- LANTERN_LOAD (R419): 0x0804; the image is `c.rd`. -/
  | lanternLoad (c : Ctx) (flags hx hy : Nat)
  /-- LANTERN_MOVE (R419): 0x0805. -/
  | lanternMove (c : Ctx) (x y : Int) (flags : Nat)
  /-- PLANE_LOAD (R419): 0x0806; the rows are `c.rd`. -/
  | planeLoad (c : Ctx) (flags row rows : Nat)
  /-- PERTURB_SET (R493): 0x0901; the 40 bytes of R493. -/
  | perturbSet (c : Ctx) (block : List Byte)
  /-- PERTURB_CLEAR (R493): 0x0902. -/
  | perturbClear (c : Ctx) (kinds : Nat)
  /-- SELFTEST (R207): 0x0903; `wrong` names the engines whose signature differs, by `delta`. -/
  | selftest (c : Ctx) (engines wrong delta : Nat)
  /-- CHECK_RUN (R451): 0x0904; the LENGTH bytes at OFFSET of SCATTER are `c.rd`. -/
  | checkRun (c : Ctx) (unit poly guardLen guard expect length : Nat)
  /-- REG_READ (R517): 0x0A01. -/
  | regRead (c : Ctx) (addr count : Nat)
  /-- REG_WRITE (R517): 0x0A02. -/
  | regWrite (c : Ctx) (addr value : Nat)
  /-- REG_MODIFY (R510): 0x0A03. -/
  | regModify (c : Ctx) (addr mask value : Nat)
  /-- DECODE_OPEN (R259): 0x0B01; the 24 bytes of R259. -/
  | decodeOpen (c : Ctx) (block : List Byte)
  /-- DECODE_FEED (R273): 0x0B02; the 24 bytes of R273; the bytes copied are `c.rd`. -/
  | decodeFeed (c : Ctx) (block : List Byte)
  /-- DECODE_CLOSE (R260): 0x0B03. -/
  | decodeClose (c : Ctx) (context : Nat)
  /-- WRITE_PACKET (R78): the bytes of the frame, from HEADER on. -/
  | writePacket (bytes : List Byte)
  /-- READ_REPLY (R77). -/
  | readReply
  /-- READ_REG (R77). -/
  | readReg (addr : Nat)
  /-- WRITE_REG (R77). -/
  | writeReg (addr value : Nat)
  /-- SPI_STATUS (R77). -/
  | spiStatus
  /-- SQ_DB (R71): the new submission tail. -/
  | sqDb (client : Fin 64) (value : Nat)
  /-- RQ_DB (R72): the new reply head. -/
  | rqDb (client : Fin 64) (value : Nat)
  /-- QUEUE_OPEN (R74): Q[client].CTRL written with ENABLE 1; `value` gives its other bits. -/
  | queueOpen (path : Path) (client : Fin 64) (value : Nat)
  /-- QUEUE_CLOSE (R75): Q[client].CTRL written with ENABLE 0; `value` gives its other bits. -/
  | queueClose (path : Path) (client : Fin 64) (value : Nat)
  /-- QUEUE_CLOSE_END (R75). -/
  | queueCloseEnd (client : Fin 64)
  /-- SLOT_FETCH (R65): a queue or the SPI; the slot read, its parameters in BUF, other host reads that a check makes. -/
  | slotFetch (source : Option (Fin 64)) (bytes : Option (List Byte)) (rd host : HostRead)
  /-- SLOT_READ_RETRY (R71). -/
  | slotReadRetry (client : Fin 64) (bytes : Option (List Byte)) (rd host : HostRead)
  /-- COMMAND_START (R553): the place of the command in the acceptance order, and what it meets. -/
  | commandStart (order : Nat) (extra : CmdExtra)
  /-- TAKE (R399): TB.SNAP_CTRL.TAKE written 1. -/
  | take (path : Path)
  /-- STEP_HI_GO (R398): TB.STEP_HI written with GO and OFFSET. -/
  | stepHiGo (path : Path) (offset : Nat)
  /-- ACCEPT (R403): TB.DISC.ACCEPT written 1, the RW fields of DISC as they stand. -/
  | accept (path : Path)
  /-- POP (R405): TB.TSQ[port].TAG.POP written 1. -/
  | pop (path : Path) (port : Fin 2)
  /-- LOAD (R409): PG.SEL written with GEN and LOAD. -/
  | load (path : Path) (gen : Fin 8)
  /-- FETCH (R409): PG.SEL written with GEN and FETCH. -/
  | fetch (path : Path) (gen : Fin 8)
  /-- FLUSH (R141): FIFO_CTRL written with FLUSH and these watermarks; the packet it interrupts. -/
  | flush (path : Path) (bundle : Fin 16) (high low : Nat) (cut : Option CutPacket)
  /-- CACHE_INVAL (R195): ENG[engine].CTRL.CACHE_INVAL written 1. -/
  | cacheInval (path : Path) (engine : Fin 128)
  /-- HOLD (R207): ENG[engine].CTRL.HOLD written. -/
  | hold (path : Path) (engine : Fin 128) (on : Bool)
  /-- GIVE (R223): DISPATCH[cluster].GIVE written. -/
  | give (path : Path) (cluster : Fin 8) (engine : Fin 16) (go : Bool)
  /-- START (R444): CRC[unit].CTRL written with START. -/
  | start (path : Path) (unit : Fin 8) (poly guardLen : Fin 4)
  /-- FINISH (R446): CRC[unit].CTRL written with FINISH. -/
  | finish (path : Path) (unit : Fin 8)
  /-- DATA32 (R445): DATA8, DATA16 or DATA32 written. -/
  | data32 (path : Path) (unit : Fin 8) (size : FeedSize) (value : Nat)
  /-- VALUE_LO (R448): VALUE_LO or VALUE_HI written. -/
  | valueLo (path : Path) (unit : Fin 8) (hi : Bool) (value : Nat)
  /-- RESUME (R363): RECQ[queue].STATE.RESUME written 1. -/
  | resume (path : Path) (queue : Fin 16)
  /-- HEAD (R361): RECQ[queue].HEAD written. -/
  | head (path : Path) (queue : Fin 16) (value : Nat)
  /-- KILL (R494): PERTURB.CTRL written. -/
  | kill (path : Path) (mask : Nat)
  /-- CFG_EN (R493): K[kind].CFG.EN written. -/
  | cfgEn (path : Path) (kind : Fin 7) (on : Bool)
  /-- REGISTER_WRITE (R516): the byte enables of the transaction. -/
  | registerWrite (path : Path) (addr value enables : Nat)
  /-- DIRECT_READ (R515). -/
  | directRead (path : Path) (addr bytes : Nat)
  /-- START_UP (R22): at the start reference. -/
  | startUp (info : StartInfo)
  /-- THERMAL_HOLD_END (R25): what the later steps meet. -/
  | thermalHoldEnd (info : StartInfo)
  /-- THERMAL_HOLD_TIMEOUT (R25). -/
  | thermalHoldTimeout
  /-- COLD_RESET (R542). -/
  | coldReset
  /-- PWROK_FALL (R543). -/
  | pwrokFall
  /-- WRST_N (R29). -/
  | wrstN
  /-- WARM_RESET_ENTRY (R29). -/
  | warmResetEntry
  /-- INTERNAL_RELEASE (R29). -/
  | internalRelease
  /-- WARM_RESUME (R29): at the resume reference. -/
  | warmResume (info : ResumeInfo)
  /-- MODE_TRANSITION_END (R15). -/
  | modeTransitionEnd
  /-- ENGINE_GROUP_POWER (R16). -/
  | engineGroupPower
  /-- THERMAL_SAMPLE (R465): the raw codes of the 38 sensors, and the zones at or above their restart threshold. -/
  | thermalSample (raws : List Int) (comp : Nat)
  /-- SENSOR_HOLD_END (R467). -/
  | sensorHoldEnd (zone : Fin 13)
  /-- SHED_STEP_DOWN (R470). -/
  | shedStepDown
  /-- THERMAL_SHUTDOWN (R472): the comparator that trips: 0 A, 1 B. -/
  | thermalShutdown (zone : Fin 13) (comp : Fin 2)
  /-- FIRMWARE_TRIP (R472). -/
  | firmwareTrip
  /-- THERMAL_RESTART (R473): seconds from the trip. -/
  | thermalRestart (waitS : Nat) (info : StartInfo)
  /-- MARKER (R98): the word in the slot, words since the last good marker, words behind the earliest lane, the eye. -/
  | marker (lane : LinkLane) (word : BitVec 64) (gap skew eyeH eyeW : Nat)
  /-- MARKER_SLOT_MISSED (R98). -/
  | markerSlotMissed (lane : LinkLane)
  /-- LOSS_OF_SIGNAL (R114). -/
  | lossOfSignal (lane : LinkLane)
  /-- STUFFING_VIOLATION (R95): the words the lane holds. -/
  | stuffingViolation (lane : LinkLane) (held : Fin 37)
  /-- PARITY_GROUP (R103): word j of each lane position, descrambled. -/
  | parityGroup (bundle : Fin 16) (words : List (BitVec 64))
  /-- TRAINING_TIMEOUT (R109). -/
  | trainingTimeout (unit : LinkUnit)
  /-- BACKOFF_EXPIRY (R109). -/
  | backoffExpiry (unit : LinkUnit)
  /-- RETRAIN_ATTEMPT (R117). -/
  | retrainAttempt (lane : LinkLane)
  /-- ATTEMPT_TIMEOUT (R117). -/
  | attemptTimeout (lane : LinkLane)
  /-- TALKBACK_REPEAT (R104). -/
  | talkbackRepeat (bundle : Fin 16)
  /-- LINE_PACKET (R132). -/
  | linePacket (bundle : Fin 16) (words : List LineWord)
  /-- LINE_COMMIT (R145). -/
  | lineCommit (bundle : Fin 16) (bad : Nat)
  /-- PICTURE_TIMEOUT (R146). -/
  | pictureTimeout (channel : Fin 128) (picture : Nat)
  /-- PICTURE_ACCEPT (R146). -/
  | pictureAccept (channel : Fin 128) (picture : Nat)
  /-- ROW_ISSUE (R210): the channel's next row in order. -/
  | rowIssue (channel : Fin 128)
  /-- TASK_TAKE (R220): whether DCHK is good, and a saved context passes its check. -/
  | taskTake (engine : Fin 128) (dchk ctxGood : Bool)
  /-- STEAL (R221). -/
  | steal (engine : Fin 128) (dchk ctxGood : Bool)
  /-- ASK (R223). -/
  | ask (engine : Fin 128) (dchk ctxGood : Bool)
  /-- PREEMPT (R224): the first LIVE entry of the cluster that has waited. -/
  | preempt (cluster : Fin 8)
  /-- CONTEXT_SAVE (R370): whether the save ends without a fault. -/
  | contextSave (engine : Fin 128) (ok : Bool)
  /-- TOKEN_PUBLISH (R215): the next token of the row, the cycles of the CTU, stage 4 cycles in WAIT, cache lines fetched again. -/
  | tokenPublish (engine : Fin 128) (coarse : Bool) (cycles stall refetch : Nat)
  /-- ROW_COMMIT (R188): the cycles from task start to commit; the size, summary and digest it may name have no effect (R187). -/
  | rowCommit (engine : Fin 128) (size : Nat) (mx my : Int) (recon cycles : Nat)
  /-- ENGINE_FAULT (R228): the bit of ENG.FAULT. -/
  | engineFault (engine : Fin 128) (cause : Fin 5) (stage : Fin 7)
  /-- ENGINE_SILENCE (R229). -/
  | engineSilence (engine : Fin 128)
  /-- DISPATCHER_HEARTBEAT (R229): the dispatchers not heard in this exchange. -/
  | dispatcherHeartbeat (missed : Fin 256)
  /-- RESCUE (R231). -/
  | rescue (channel : Fin 128) (picture : Nat) (row : Fin 256)
  /-- RESCUE_COMMIT (R231). -/
  | rescueCommit (channel : Fin 128) (picture : Nat) (row : Fin 256) (size recon : Nat)
  /-- ROW_DEPART (R164): bytes of the NAL units that leave, AU_CRC of the access unit it closes. -/
  | rowDepart (channel : Fin 128) (lens : List Nat) (crc : Nat)
  /-- NOTE_COMPARE (R291). -/
  | noteCompare (channel : Fin 128) (picture : Nat) (row : Fin 256)
  /-- ENTROPY_PARSE (R261): what is parsed, the bytes of the ring it takes, the most cycles of a CTU. -/
  | entropyParse (context : Fin 16) (item : ParseItem) (used cycles : Nat)
  /-- DECODE_ROW_COMMIT (R261): whether a write left its windows; the digest of a picture it completes. -/
  | decodeRowCommit (engine : Fin 128) (xlat : Bool) (digest cycles : Nat)
  /-- BUDGET_EXPIRY (R266). -/
  | budgetExpiry (unit context : Fin 16) (work : DecodeWork)
  /-- RETENTION_EXPIRY (R271). -/
  | retentionExpiry (context : Fin 16)
  /-- HELLO (R279). -/
  | hello (m : LinkMsg)
  /-- HELLO_SEND (R286). -/
  | helloSend
  /-- HEARTBEAT (R288). -/
  | heartbeat (m : LinkMsg)
  /-- HEARTBEAT_SEND (R286). -/
  | heartbeatSend
  /-- PROPOSE (R289). -/
  | propose (m : LinkMsg)
  /-- AGREE (R289). -/
  | agree (m : LinkMsg)
  /-- REFUSE (R289). -/
  | refuse (m : LinkMsg)
  /-- COMMIT (R289). -/
  | commit (m : LinkMsg)
  /-- COMMIT_ACK (R290). -/
  | commitAck (m : LinkMsg)
  /-- ABORT (R290). -/
  | abort (m : LinkMsg)
  /-- PROPOSAL_TIMEOUT (R290). -/
  | proposalTimeout
  /-- PIC_DIGEST (R292). -/
  | picDigest (m : LinkMsg)
  /-- ROW_NOTE (R291). -/
  | rowNote (m : LinkMsg)
  /-- LEAVE (R291). -/
  | leave (m : LinkMsg)
  /-- JOIN_REQ (R297): for a copy: the chunks its snapshot takes, and DONE_CRC over their payloads. -/
  | joinReq (m : LinkMsg) (chunks crc : Nat)
  /-- JOIN_RETRY (R294). -/
  | joinRetry (channel : Fin 128)
  /-- COPY_CHUNK (R297). -/
  | copyChunk (m : LinkMsg)
  /-- COPY_DONE (R297): what the chunks received carry. -/
  | copyDone (m : LinkMsg) (snap : Snapshot)
  /-- SWITCH (R298). -/
  | switch (m : LinkMsg)
  /-- TAIL (R298): the picture that this part completes, as decoded, and the bytes of its NAL units. -/
  | tail (m : LinkMsg) (pic : Option Pic) (lens : List Nat)
  /-- PATH_BEACON (R282): a beacon with its payload, or another frame with the peer path's source MAC. -/
  | pathBeacon (port : Fin 2) (beacon : Bool) (payload : List Byte)
  /-- BEACON_SEND (R282). -/
  | beaconSend
  /-- LINK_LOST (R288). -/
  | linkLost
  /-- TAKEOVER (R300). -/
  | takeover
  /-- DEMOTE (R301). -/
  | demote
  /-- SOLO (R287). -/
  | solo
  /-- PAIRING_RETRY (R279). -/
  | pairingRetry
  /-- REVERT (R303). -/
  | revert
  /-- SEGMENT_HOLD_EXPIRY (R293). -/
  | segmentHoldExpiry
  /-- CALENDS (R311): the residence time in 2^−16 ns. -/
  | calends (m : LinkMsg) (residence : Nat)
  /-- CALENDS_SEND (R310): the mosaics whose picture starts its generators drive. -/
  | calendsSend (sched : List SchedEntry)
  /-- SLOT_MISSED (R316). -/
  | slotMissed
  /-- HOLE (R316). -/
  | hole (m : LinkMsg)
  /-- STATUS (R313). -/
  | status (m : LinkMsg)
  /-- STATS (R320). -/
  | stats (m : LinkMsg)
  /-- BYPASS_CHANGE (R39). -/
  | bypassChange
  /-- MEMORY_REQUEST (R341): requests that have entered since, in order. -/
  | memoryRequest (pc : Fin 128) (arrivals : List MemReq)
  /-- MEMORY_READ (R350). -/
  | memoryRead (pc : Fin 128) (read : SectorRead)
  /-- REQUEST_URGENCY (R340). -/
  | requestUrgency (pc : Fin 128)
  /-- REFRESH_TICK (R342). -/
  | refreshTick (pc : Fin 128)
  /-- REFRESH_DONE (R342). -/
  | refreshDone (pc : Fin 128)
  /-- STACK_TEMP_READ (R344): the stack sensor in °C. -/
  | stackTempRead (controller : Fin 4) (reading : Int)
  /-- HOT_STATE_CHANGE (R344). -/
  | hotStateChange (pc : Fin 128)
  /-- POWER_DOWN_ENTRY (R347). -/
  | powerDownEntry (pc : Fin 128)
  /-- ACCESS_TIMEOUT (R351). -/
  | accessTimeout (pc : Fin 128)
  /-- PHY_UNLOCK (R352). -/
  | phyUnlock (controller : Fin 4)
  /-- REBUILD_DONE (R351). -/
  | rebuildDone (pc : Fin 128)
  /-- SEGMENT_WRITE (R361): the translation fault that stops the write, and the granules complete then. -/
  | segmentWrite (queue : Fin 16) (stop : Option (Nat × Nat))
  /-- SEGMENT_COMMIT (R361). -/
  | segmentCommit (queue : Fin 16)
  /-- PACKET_SEND (R384): a translation fault of its read, by kind. -/
  | packetSend (port : Fin 2) (fault : Option (Fin 9))
  /-- PORT_LINK_DOWN (R385): whether RS-FEC alignment was lost first. -/
  | portLinkDown (port : Fin 2) (fec : Bool)
  /-- LINK_UP (R373): the skews of the four lanes. -/
  | linkUp (port : Fin 2) (skew : List Nat)
  /-- FRAME_RECEIVE (R374). -/
  | frameReceive (port : Fin 2) (frame : RxFrame) (bytes : Nat) (fec : FecReport)
  /-- PTP_MESSAGE (R392). -/
  | ptpMessage (port : Fin 2) (domain : Nat) (v6 : Bool) (msg : PtpMsg)
  /-- DELAY_REQ (R390). -/
  | delayReq
  /-- ANNOUNCE_TIMEOUT (R392). -/
  | announceTimeout (port : Fin 2)
  /-- PTP_PORT_CHANGE (R391). -/
  | ptpPortChange
  /-- ADDRESS_RESOLVE (R388): the destination of a bound stream on a path, and whether it answers. -/
  | addressResolve (kind stream : Nat) (path : Fin 2) (answered : Bool)
  /-- GRATUITOUS_ARP (R387). -/
  | gratuitousArp (path : Fin 2)
  /-- GROUP_QUERY (R389). -/
  | groupQuery (port : Fin 2) (v6 : Bool)
  /-- PULSE_FIRE (R407). -/
  | pulseFire (gen : Fin 8)
  /-- REF_EDGE (R402): a counted edge: 0 CLKREF_IN divided by REF_DIV, 1 FREF_IN. -/
  | refEdge (ref : Fin 2)
  /-- REF_STOPPED (R403). -/
  | refStopped
  /-- ERA_UPDATE (R401). -/
  | eraUpdate
  /-- START_TICK (R416). -/
  | startTick
  /-- PREVIEW_LINE (R416): whether the line was ready at its time, and the columns whose base samples were poisoned. -/
  | previewLine (ready : Bool) (poison : List Nat)
  /-- SAMPLE_FRAME (R424): the decimated samples, the DIN samples, and the microphones whose bits have changed. -/
  | sampleFrame (rate : Fin 2) (mics din : List Int) (changed : Nat)
  /-- FRAME_START (R429): bit clocks since the last frame start. -/
  | frameStart (port : Fin 4) (clocks : Nat)
  /-- MIC_STUCK (R428). -/
  | micStuck (mic : Fin 32)
  /-- CLOCK_LOSS (R434). -/
  | clockLoss (port : Fin 4)
  /-- AMCLK_LOSS (R425): whether the next period is in range again. -/
  | amclkLoss (back : Bool)
  /-- RATE_MEASUREMENT (R433). -/
  | rateMeasurement (port : Fin 4) (mhz : Nat)
  /-- FADE_TIMEOUT (R436). -/
  | fadeTimeout (point : AudioPoint)
  /-- POWER_DECISION (R455). -/
  | powerDecision
  /-- ALARM (R455). -/
  | alarm (domain : Fin 183)
  /-- WAKE_COMPLETE (R453). -/
  | wakeComplete (domain : Fin 183)
  /-- WAKE_FAIL (R457). -/
  | wakeFail (domain : Fin 183)
  /-- PLL_UNLOCK (R461). -/
  | pllUnlock (pll : Fin 17)
  /-- RESONATOR_FAILURE (R459): the keeper clock against the resonator, in 0.1 ppm. -/
  | resonatorFailure (measured : Int)
  /-- QUALIFICATION_GATE (R462): 0 CLKREF_IN, 1 FREF_IN, 2 AMCLK; the gate against nominal, in 0.1 ppm. -/
  | qualificationGate (ref : Fin 3) (deviation : Int)
  /-- QUAL_SLOW (R462). -/
  | qualSlow (ref : Fin 3)
  /-- LIFE_RECORD (R550): the lifetime mean of the hottest valid reading in 1/64 °C, the slowdown in 0.01 %. -/
  | lifeRecord (mean : Int) (slow : Nat)
  /-- INJECTION_START (R495). -/
  | injectionStart (kind : Fin 7)
  /-- PERTURB_EXPIRY (R495). -/
  | perturbExpiry (kind : Fin 7)
  /-- COLD_POWER_LOSS (R543). -/
  | coldPowerLoss
  /-- PERST_N_RELEASE (R24): what the link trains to: LINK.SPEED, LINK.WIDTH, a mask of locked lanes. -/
  | perstNRelease (speed width lanes : Nat)
  /-- BUS_MASTER_ENABLE (R88). -/
  | busMasterEnable
  /-- FLASH_OPERATION_DONE (R58). -/
  | flashOperationDone
  /-- PLL_RESTART_DONE (R461): the lock time where it locks. -/
  | pllRestartDone (pll : Fin 17) (lockUs : Option (Fin 501))
  deriving DecidableEq, Repr

end Sys2Proof
end

