-- ==== Sys2Proof/Decode.lean ====
section
/-! DEFINITION. Commands as words. The block takes its commands from many sides, and the command table gives no row a bit of a word, so no
word spells a command; the packets of R61 are decoded by Machine/Transport.lean. -/
namespace Sys2Proof

/-- The command that a word spells by the bits the command table gives: it gives none. -/
def decodeTableWord (_nbits _w : Nat) : Option Instr := none

end Sys2Proof
end

