-- ==== Sys2Proof/Machine/RegMap.lean ====
section
/-! DEFINITION. The register map of R512 and R513: one `Field` per field of every register that the
field tables of the spec name (the chapter of each block is in `Block`'s docstring), with its address, its
strides, its bits, its access code of R8 and its hardware reset value. Addresses: block base + i × s1 + offset
+ j × s2, as R513 lays down. -/
namespace Sys2Proof.Machine

/-- Access codes of R8. -/
inductive Access where
  | ro | rw | wo | w1c | w1s | rc | sc
  deriving DecidableEq, Repr

/-- The register blocks of R512, in INDEX order. -/
inductive Block where
  | keeper | almanac | cmd | therm | pwr | clk | tb | crc | perturb | audio | preview | sl | bundle | chan | dispatch | eng | mem | xlat | eth | pcie | ring | twin | decode
  deriving DecidableEq, Repr

/-- One field of a register. `base` is the address of instance (0, 0), `s1` and `s2` the strides of the block
instance i and of the inner instance j, `lsb` and `width` its bits. -/
structure Field where
  base : Nat
  s1 : Nat
  s2 : Nat
  lsb : Nat
  width : Nat
  deriving DecidableEq, Repr

/-- One register: its fields with their access codes, its instances and strides (R513), and whether
the tables mark any field "(Almanac)" under R9. -/
structure RegRow where
  base : Nat
  n1 : Nat
  s1 : Nat
  n2 : Nat
  s2 : Nat
  fields : List (Nat × Nat × Access × Bool)
  deriving DecidableEq, Repr

namespace F

/-- KEEPER.MODE, RO; reset 0; 01 -/
def KEEPER_MODE_MODE : Field := ⟨0x0, 0x0, 0x0, 0, 3⟩
/-- KEEPER.MODE.TARGET, RO; reset 0; 01 -/
def KEEPER_MODE_TARGET : Field := ⟨0x0, 0x0, 0x0, 4, 3⟩
/-- KEEPER.MODE.BUSY, RO; reset 1; 01 -/
def KEEPER_MODE_BUSY : Field := ⟨0x0, 0x0, 0x0, 8, 1⟩
/-- KEEPER.MODE.BOOT_TARGET, RO; reset 1 (Almanac); 01 -/
def KEEPER_MODE_BOOT_TARGET : Field := ⟨0x0, 0x0, 0x0, 9, 3⟩
/-- KEEPER.RESET_CAUSE.COLD, W1C; reset 1; 01 -/
def KEEPER_RESET_CAUSE_COLD : Field := ⟨0x4, 0x0, 0x0, 0, 1⟩
/-- KEEPER.RESET_CAUSE.WARM_PIN, W1C; reset 0; 01 -/
def KEEPER_RESET_CAUSE_WARM_PIN : Field := ⟨0x4, 0x0, 0x0, 1, 1⟩
/-- KEEPER.RESET_CAUSE.WARM_CMD, W1C; reset 0; 01 -/
def KEEPER_RESET_CAUSE_WARM_CMD : Field := ⟨0x4, 0x0, 0x0, 2, 1⟩
/-- KEEPER.RESET_CAUSE.THERMAL, W1C; reset 0; 01 -/
def KEEPER_RESET_CAUSE_THERMAL : Field := ⟨0x4, 0x0, 0x0, 3, 1⟩
/-- KEEPER.RESET_CAUSE.ESCALATED, W1C; reset 0; 01 -/
def KEEPER_RESET_CAUSE_ESCALATED : Field := ⟨0x4, 0x0, 0x0, 4, 1⟩
/-- KEEPER.START_STEP.STEP, RO; reset 0; 01 -/
def KEEPER_START_STEP_STEP : Field := ⟨0x8, 0x0, 0x0, 0, 8⟩
/-- KEEPER.START_STEP.FAIL_STEP, RO; reset 0; 01 -/
def KEEPER_START_STEP_FAIL_STEP : Field := ⟨0x8, 0x0, 0x0, 8, 8⟩
/-- KEEPER.START_STEP.FAIL_CODE, RO; reset 0; 01 -/
def KEEPER_START_STEP_FAIL_CODE : Field := ⟨0x8, 0x0, 0x0, 16, 8⟩
/-- KEEPER.START_TIME.MS, RO; reset 0; 01 -/
def KEEPER_START_TIME_MS : Field := ⟨0xc, 0x0, 0x0, 0, 16⟩
/-- KEEPER.START_TIME.WARM, RO; reset 0; 01 -/
def KEEPER_START_TIME_WARM : Field := ⟨0xc, 0x0, 0x0, 16, 1⟩
/-- ALMANAC.STATUS.APPLIED, RO; reset 0; 02 -/
def ALMANAC_STATUS_APPLIED : Field := ⟨0x10000, 0x0, 0x0, 0, 2⟩
/-- ALMANAC.STATUS.NEXT, RO; reset 0; 02 -/
def ALMANAC_STATUS_NEXT : Field := ⟨0x10000, 0x0, 0x0, 2, 2⟩
/-- ALMANAC.STATUS.PENDING, RO; reset 0; 02 -/
def ALMANAC_STATUS_PENDING : Field := ⟨0x10000, 0x0, 0x0, 4, 1⟩
/-- ALMANAC.STATUS.FALLBACK, RO; reset 0; 02 -/
def ALMANAC_STATUS_FALLBACK : Field := ⟨0x10000, 0x0, 0x0, 5, 1⟩
/-- ALMANAC.STATUS.A_VALID, RO; reset 0; 02 -/
def ALMANAC_STATUS_A_VALID : Field := ⟨0x10000, 0x0, 0x0, 6, 1⟩
/-- ALMANAC.STATUS.B_VALID, RO; reset 0; 02 -/
def ALMANAC_STATUS_B_VALID : Field := ⟨0x10000, 0x0, 0x0, 7, 1⟩
/-- ALMANAC.STATUS.IN_PROGRESS, RO; reset 0; 02 -/
def ALMANAC_STATUS_IN_PROGRESS : Field := ⟨0x10000, 0x0, 0x0, 8, 1⟩
/-- ALMANAC.STATUS.TEMP_OK, RO; reset 0; 02 -/
def ALMANAC_STATUS_TEMP_OK : Field := ⟨0x10000, 0x0, 0x0, 9, 1⟩
/-- ALMANAC.STATUS.SKIPPED, W1C; reset 0; 02 -/
def ALMANAC_STATUS_SKIPPED : Field := ⟨0x10000, 0x0, 0x0, 10, 1⟩
/-- ALMANAC.PROGRESS.STEP, RO; reset 0; 02 -/
def ALMANAC_PROGRESS_STEP : Field := ⟨0x1000c, 0x0, 0x0, 0, 4⟩
/-- ALMANAC.PROGRESS.SECTOR, RO; reset 0; 02 -/
def ALMANAC_PROGRESS_SECTOR : Field := ⟨0x1000c, 0x0, 0x0, 4, 5⟩
/-- ALMANAC.PROGRESS.TARGET, RO; reset 0; 02 -/
def ALMANAC_PROGRESS_TARGET : Field := ⟨0x1000c, 0x0, 0x0, 9, 1⟩
/-- ALMANAC.GEN_A, RO; reset 0; 02 -/
def ALMANAC_GEN_A : Field := ⟨0x10004, 0x0, 0x0, 0, 32⟩
/-- ALMANAC.GEN_B, RO; reset 0; 02 -/
def ALMANAC_GEN_B : Field := ⟨0x10008, 0x0, 0x0, 0, 32⟩
/-- ALMANAC.STAGE_LEN, RO; reset 0; 02 -/
def ALMANAC_STAGE_LEN : Field := ⟨0x10010, 0x0, 0x0, 0, 32⟩
/-- ALMANAC.LAST_ERROR, RO; reset 0; 02 -/
def ALMANAC_LAST_ERROR : Field := ⟨0x10014, 0x0, 0x0, 0, 32⟩
/-- ALMANAC.ENTRIES, RO; reset 0; 02 -/
def ALMANAC_ENTRIES : Field := ⟨0x10018, 0x0, 0x0, 0, 32⟩
/-- ALMANAC.FENCES, RO; reset 0; 02 -/
def ALMANAC_FENCES : Field := ⟨0x1001c, 0x0, 0x0, 0, 32⟩
/-- ALMANAC.DESC.SOURCE, RO; reset 0; 02 -/
def ALMANAC_DESC_SOURCE : Field := ⟨0x10100, 0x10, 0x0, 0, 2⟩
/-- ALMANAC.DESC.VERSION, RO; reset 0; 02 -/
def ALMANAC_DESC_VERSION : Field := ⟨0x10100, 0x10, 0x0, 2, 8⟩
/-- ALMANAC.OFFSET, RO; reset 0; 02 -/
def ALMANAC_OFFSET : Field := ⟨0x10104, 0x10, 0x0, 0, 32⟩
/-- ALMANAC.LENGTH, RO; reset 0; 02 -/
def ALMANAC_LENGTH : Field := ⟨0x10108, 0x10, 0x0, 0, 32⟩
/-- ALMANAC.CRC, RO; reset 0; 02 -/
def ALMANAC_CRC : Field := ⟨0x1010c, 0x10, 0x0, 0, 32⟩
/-- CMD.Q_CTRL.ENABLE, RW; reset 0; 03 -/
def CMD_Q_CTRL_ENABLE : Field := ⟨0x20100, 0x100, 0x0, 0, 1⟩
/-- CMD.Q_CTRL.OPEN, RO; reset 0; 03 -/
def CMD_Q_CTRL_OPEN : Field := ⟨0x20100, 0x100, 0x0, 1, 1⟩
/-- CMD.Q_CTRL.CLOSING, RO; reset 0; 03 -/
def CMD_Q_CTRL_CLOSING : Field := ⟨0x20100, 0x100, 0x0, 2, 1⟩
/-- CMD.Q_CTRL.ERROR, W1C; reset 0; 03 -/
def CMD_Q_CTRL_ERROR : Field := ⟨0x20100, 0x100, 0x0, 3, 1⟩
/-- CMD.Q_CTRL.IRQ_EN, RW; reset 0; 03 -/
def CMD_Q_CTRL_IRQ_EN : Field := ⟨0x20100, 0x100, 0x0, 4, 1⟩
/-- CMD.Q_CTRL.SPI_BOUND, RO; reset 0; 03 -/
def CMD_Q_CTRL_SPI_BOUND : Field := ⟨0x20100, 0x100, 0x0, 5, 1⟩
/-- CMD.Q_CTRL.SQ_LOG2, RW; reset 4; 03 -/
def CMD_Q_CTRL_SQ_LOG2 : Field := ⟨0x20100, 0x100, 0x0, 8, 4⟩
/-- CMD.Q_CTRL.RQ_LOG2, RW; reset 5; 03 -/
def CMD_Q_CTRL_RQ_LOG2 : Field := ⟨0x20100, 0x100, 0x0, 12, 4⟩
/-- CMD.Q_SQ_BASE_LO, RW; reset 0; 03 -/
def CMD_Q_SQ_BASE_LO : Field := ⟨0x20104, 0x100, 0x0, 0, 32⟩
/-- CMD.Q_SQ_BASE_HI, RW; reset 0; 03 -/
def CMD_Q_SQ_BASE_HI : Field := ⟨0x20108, 0x100, 0x0, 0, 32⟩
/-- CMD.Q_RQ_BASE_LO, RW; reset 0; 03 -/
def CMD_Q_RQ_BASE_LO : Field := ⟨0x2010c, 0x100, 0x0, 0, 32⟩
/-- CMD.Q_RQ_BASE_HI, RW; reset 0; 03 -/
def CMD_Q_RQ_BASE_HI : Field := ⟨0x20110, 0x100, 0x0, 0, 32⟩
/-- CMD.Q_SQ_HEAD, RO; reset 0; 03 -/
def CMD_Q_SQ_HEAD : Field := ⟨0x20114, 0x100, 0x0, 0, 32⟩
/-- CMD.Q_RQ_TAIL, RO; reset 0; 03 -/
def CMD_Q_RQ_TAIL : Field := ⟨0x20118, 0x100, 0x0, 0, 32⟩
/-- CMD.Q_RQ_HEAD, RO; reset 0; 03 -/
def CMD_Q_RQ_HEAD : Field := ⟨0x2011c, 0x100, 0x0, 0, 32⟩
/-- CMD.CTRL.SPI_EN, RW; reset 1 (Almanac); 03 -/
def CMD_CTRL_SPI_EN : Field := ⟨0x20000, 0x0, 0x0, 0, 1⟩
/-- CMD.CTRL.INFLIGHT_LIMIT, RW; reset 64 (Almanac); 03 -/
def CMD_CTRL_INFLIGHT_LIMIT : Field := ⟨0x20000, 0x0, 0x0, 8, 8⟩
/-- CMD.STATUS.READY, RO; reset 0; 03 -/
def CMD_STATUS_READY : Field := ⟨0x20004, 0x0, 0x0, 0, 1⟩
/-- CMD.STATUS.JOURNAL_FULL, RO; reset 0; 03 -/
def CMD_STATUS_JOURNAL_FULL : Field := ⟨0x20004, 0x0, 0x0, 1, 1⟩
/-- CMD.STATUS.REPLAYING, RO; reset 0; 03 -/
def CMD_STATUS_REPLAYING : Field := ⟨0x20004, 0x0, 0x0, 2, 1⟩
/-- CMD.STATUS.SPI_PENDING, RO; reset 0; 03 -/
def CMD_STATUS_SPI_PENDING : Field := ⟨0x20004, 0x0, 0x0, 8, 7⟩
/-- CMD.JOURNAL_FREE, RO; reset 16,384; 03 -/
def CMD_JOURNAL_FREE : Field := ⟨0x20008, 0x0, 0x0, 0, 32⟩
/-- CMD.SPI_DROP, RO; reset 0; 03 -/
def CMD_SPI_DROP : Field := ⟨0x2000c, 0x0, 0x0, 0, 32⟩
/-- CMD.ACCEPTED_LO, RO; reset 0; 03 -/
def CMD_ACCEPTED_LO : Field := ⟨0x20010, 0x0, 0x0, 0, 32⟩
/-- CMD.ACCEPTED_HI, RO; reset 0; 03 -/
def CMD_ACCEPTED_HI : Field := ⟨0x20014, 0x0, 0x0, 0, 32⟩
/-- CMD.REJECTED_LO, RO; reset 0; 03 -/
def CMD_REJECTED_LO : Field := ⟨0x20018, 0x0, 0x0, 0, 32⟩
/-- CMD.REJECTED_HI, RO; reset 0; 03 -/
def CMD_REJECTED_HI : Field := ⟨0x2001c, 0x0, 0x0, 0, 32⟩
/-- CMD.DUPLICATE_LO, RO; reset 0; 03 -/
def CMD_DUPLICATE_LO : Field := ⟨0x20020, 0x0, 0x0, 0, 32⟩
/-- CMD.DUPLICATE_HI, RO; reset 0; 03 -/
def CMD_DUPLICATE_HI : Field := ⟨0x20024, 0x0, 0x0, 0, 32⟩
/-- CMD.RESUMED_LO, RO; reset 0; 03 -/
def CMD_RESUMED_LO : Field := ⟨0x20028, 0x0, 0x0, 0, 32⟩
/-- CMD.RESUMED_HI, RO; reset 0; 03 -/
def CMD_RESUMED_HI : Field := ⟨0x2002c, 0x0, 0x0, 0, 32⟩
/-- CMD.OPEN_LO, RO; reset 0; 03 -/
def CMD_OPEN_LO : Field := ⟨0x20030, 0x0, 0x0, 0, 32⟩
/-- CMD.OPEN_HI, RO; reset 0; 03 -/
def CMD_OPEN_HI : Field := ⟨0x20034, 0x0, 0x0, 0, 32⟩
/-- CMD.SPI_LO, RO; reset 0; 03 -/
def CMD_SPI_LO : Field := ⟨0x20038, 0x0, 0x0, 0, 32⟩
/-- CMD.SPI_HI, RO; reset 0; 03 -/
def CMD_SPI_HI : Field := ⟨0x2003c, 0x0, 0x0, 0, 32⟩
/-- SL.CTRL.POL_INV, RW; reset 0 (Almanac); 04 -/
def SL_CTRL_POL_INV : Field := ⟨0x100000, 0x100, 0x0, 0, 1⟩
/-- SL.CTRL.EQ_PRESET, RW; reset 3 (Almanac); 04 -/
def SL_CTRL_EQ_PRESET : Field := ⟨0x100000, 0x100, 0x0, 1, 3⟩
/-- SL.STATUS.CDR_LOCK, RO; reset 0; 04 -/
def SL_STATUS_CDR_LOCK : Field := ⟨0x100004, 0x100, 0x0, 0, 1⟩
/-- SL.STATUS.MARKER_LOCK, RO; reset 0; 04 -/
def SL_STATUS_MARKER_LOCK : Field := ⟨0x100004, 0x100, 0x0, 1, 1⟩
/-- SL.STATUS.ALIGNED, RO; reset 0; 04 -/
def SL_STATUS_ALIGNED : Field := ⟨0x100004, 0x100, 0x0, 2, 1⟩
/-- SL.STATUS.IN_USE, RO; reset 0; 04 -/
def SL_STATUS_IN_USE : Field := ⟨0x100004, 0x100, 0x0, 3, 1⟩
/-- SL.STATUS.MISWIRED, RO; reset 0; 04 -/
def SL_STATUS_MISWIRED : Field := ⟨0x100004, 0x100, 0x0, 4, 1⟩
/-- SL.STATUS.FENCED, RO; reset 0; 04 -/
def SL_STATUS_FENCED : Field := ⟨0x100004, 0x100, 0x0, 5, 1⟩
/-- SL.STATUS.ATTEMPTS, RO; reset 0; 04 -/
def SL_STATUS_ATTEMPTS : Field := ⟨0x100004, 0x100, 0x0, 6, 2⟩
/-- SL.STATUS.LOST, RO; reset 0; 04 -/
def SL_STATUS_LOST : Field := ⟨0x100004, 0x100, 0x0, 8, 1⟩
/-- SL.STATUS.SAT, RO; reset 0; 04 -/
def SL_STATUS_SAT : Field := ⟨0x100004, 0x100, 0x0, 16, 6⟩
/-- SL.SKEW.WORDS, RO; reset 0; 04 -/
def SL_SKEW_WORDS : Field := ⟨0x100008, 0x100, 0x0, 0, 6⟩
/-- SL.SKEW.EYE_H, RO; reset 0; 04 -/
def SL_SKEW_EYE_H : Field := ⟨0x100008, 0x100, 0x0, 8, 8⟩
/-- SL.SKEW.EYE_W, RO; reset 0; 04 -/
def SL_SKEW_EYE_W : Field := ⟨0x100008, 0x100, 0x0, 16, 8⟩
/-- SL.MARKER.MCOUNT, RO; reset 0; 04 -/
def SL_MARKER_MCOUNT : Field := ⟨0x10000c, 0x100, 0x0, 0, 16⟩
/-- SL.MARKER.SMSG, RO; reset 0; 04 -/
def SL_MARKER_SMSG : Field := ⟨0x10000c, 0x100, 0x0, 16, 4⟩
/-- SL.MARKER.SARG, RO; reset 0; 04 -/
def SL_MARKER_SARG : Field := ⟨0x10000c, 0x100, 0x0, 20, 8⟩
/-- SL.MARKER.RATE, RO; reset 0; 04 -/
def SL_MARKER_RATE : Field := ⟨0x10000c, 0x100, 0x0, 28, 2⟩
/-- SL.CODE_ERR, RO; reset 0; 04 -/
def SL_CODE_ERR : Field := ⟨0x100010, 0x100, 0x0, 0, 32⟩
/-- SL.MARKER_ERR, RO; reset 0; 04 -/
def SL_MARKER_ERR : Field := ⟨0x100014, 0x100, 0x0, 0, 32⟩
/-- SL.POISON, RO; reset 0; 04 -/
def SL_POISON : Field := ⟨0x100018, 0x100, 0x0, 0, 32⟩
/-- SL.LOCK_LOSS, RO; reset 0; 04 -/
def SL_LOCK_LOSS : Field := ⟨0x10001c, 0x100, 0x0, 0, 32⟩
/-- SL.RECON, RO; reset 0; 04 -/
def SL_RECON : Field := ⟨0x100020, 0x100, 0x0, 0, 32⟩
/-- SL.RETRAIN, RO; reset 0; 04 -/
def SL_RETRAIN : Field := ⟨0x100024, 0x100, 0x0, 0, 32⟩
/-- BUNDLE.CFG.LANE_EN, RW; reset 0xFF (Almanac); 04 -/
def BUNDLE_CFG_LANE_EN : Field := ⟨0x110000, 0x400, 0x0, 0, 8⟩
/-- BUNDLE.CFG.PAR_EN, RW; reset 0 (Almanac); 04 -/
def BUNDLE_CFG_PAR_EN : Field := ⟨0x110000, 0x400, 0x0, 8, 1⟩
/-- BUNDLE.CFG.PAR_LANE, RW; reset 7 (Almanac); 04 -/
def BUNDLE_CFG_PAR_LANE : Field := ⟨0x110000, 0x400, 0x0, 9, 3⟩
/-- BUNDLE.CFG.MAX_RATE, RW; reset 3 (Almanac); 04 -/
def BUNDLE_CFG_MAX_RATE : Field := ⟨0x110000, 0x400, 0x0, 12, 2⟩
/-- BUNDLE.CFG.AUTO, RO; reset 0; 04 -/
def BUNDLE_CFG_AUTO : Field := ⟨0x110000, 0x400, 0x0, 14, 1⟩
/-- BUNDLE.STATE, RO; reset 0; 04 -/
def BUNDLE_STATE_STATE : Field := ⟨0x110004, 0x400, 0x0, 0, 4⟩
/-- BUNDLE.STATE.RATE, RO; reset 0; 04 -/
def BUNDLE_STATE_RATE : Field := ⟨0x110004, 0x400, 0x0, 4, 2⟩
/-- BUNDLE.STATE.CAP, RO; reset 3; 04 -/
def BUNDLE_STATE_CAP : Field := ⟨0x110004, 0x400, 0x0, 6, 2⟩
/-- BUNDLE.STATE.CAPPED, RO; reset 0; 04 -/
def BUNDLE_STATE_CAPPED : Field := ⟨0x110004, 0x400, 0x0, 8, 1⟩
/-- BUNDLE.STATE.STEP_FAILS, RO; reset 0; 04 -/
def BUNDLE_STATE_STEP_FAILS : Field := ⟨0x110004, 0x400, 0x0, 9, 2⟩
/-- BUNDLE.STATE.PAR_OFF, RO; reset 0; 04 -/
def BUNDLE_STATE_PAR_OFF : Field := ⟨0x110004, 0x400, 0x0, 11, 1⟩
/-- BUNDLE.STATE.FAILS, RO; reset 0; 04 -/
def BUNDLE_STATE_FAILS : Field := ⟨0x110004, 0x400, 0x0, 12, 4⟩
/-- BUNDLE.STATE.SAT, RO; reset 0; 04 -/
def BUNDLE_STATE_SAT : Field := ⟨0x110004, 0x400, 0x0, 16, 2⟩
/-- BUNDLE.MASKS.LOCKED, RO; reset 0; 04 -/
def BUNDLE_MASKS_LOCKED : Field := ⟨0x110008, 0x400, 0x0, 0, 8⟩
/-- BUNDLE.MASKS.STRIPE, RO; reset 0; 04 -/
def BUNDLE_MASKS_STRIPE : Field := ⟨0x110008, 0x400, 0x0, 8, 8⟩
/-- BUNDLE.MASKS.PENDING, RO; reset 0; 04 -/
def BUNDLE_MASKS_PENDING : Field := ⟨0x110008, 0x400, 0x0, 16, 8⟩
/-- BUNDLE.MASKS.FENCED, RO; reset 0; 04 -/
def BUNDLE_MASKS_FENCED : Field := ⟨0x110008, 0x400, 0x0, 24, 8⟩
/-- BUNDLE.TIMING.NEXT_RETRY, RO; reset 0; 04 -/
def BUNDLE_TIMING_NEXT_RETRY : Field := ⟨0x11000c, 0x400, 0x0, 0, 16⟩
/-- BUNDLE.TIMING.PEND_MC, RO; reset 0; 04 -/
def BUNDLE_TIMING_PEND_MC : Field := ⟨0x11000c, 0x400, 0x0, 16, 16⟩
/-- BUNDLE.ALIGN.MCOUNT, RO; reset 0; 04 -/
def BUNDLE_ALIGN_MCOUNT : Field := ⟨0x110010, 0x400, 0x0, 0, 16⟩
/-- BUNDLE.ALIGN.SKEW_MAX, RO; reset 0; 04 -/
def BUNDLE_ALIGN_SKEW_MAX : Field := ⟨0x110010, 0x400, 0x0, 16, 6⟩
/-- BUNDLE.TALKBACK.EN, RW; reset 1 (Almanac); 04 -/
def BUNDLE_TALKBACK_EN : Field := ⟨0x110014, 0x400, 0x0, 0, 1⟩
/-- BUNDLE.TALKBACK.TYPE, RO; reset 0; 04 -/
def BUNDLE_TALKBACK_TYPE : Field := ⟨0x110014, 0x400, 0x0, 8, 8⟩
/-- BUNDLE.TALKBACK.SEQ, RO; reset 0; 04 -/
def BUNDLE_TALKBACK_SEQ : Field := ⟨0x110014, 0x400, 0x0, 16, 8⟩
/-- BUNDLE.SOURCE.SMSG, RO; reset 0; 04 -/
def BUNDLE_SOURCE_SMSG : Field := ⟨0x110018, 0x400, 0x0, 0, 4⟩
/-- BUNDLE.SOURCE.SARG, RO; reset 0; 04 -/
def BUNDLE_SOURCE_SARG : Field := ⟨0x110018, 0x400, 0x0, 4, 8⟩
/-- BUNDLE.SOURCE.MAX_RATE, RO; reset 0; 04 -/
def BUNDLE_SOURCE_MAX_RATE : Field := ⟨0x110018, 0x400, 0x0, 12, 2⟩
/-- BUNDLE.SOURCE.PAR, RO; reset 0; 04 -/
def BUNDLE_SOURCE_PAR : Field := ⟨0x110018, 0x400, 0x0, 14, 1⟩
/-- BUNDLE.TRAIN_TIME, RO; reset 0; 04 -/
def BUNDLE_TRAIN_TIME : Field := ⟨0x11001c, 0x400, 0x0, 0, 32⟩
/-- BUNDLE.INT_STATUS, W1C; reset 0; 04 -/
def BUNDLE_INT_STATUS : Field := ⟨0x110020, 0x400, 0x0, 0, 11⟩
/-- BUNDLE.INT_EN, RW; reset 0; 04 -/
def BUNDLE_INT_EN : Field := ⟨0x110024, 0x400, 0x0, 0, 11⟩
/-- BUNDLE.RECON_LO, RO; reset 0; 04 -/
def BUNDLE_RECON_LO : Field := ⟨0x110028, 0x400, 0x0, 0, 32⟩
/-- BUNDLE.RECON_HI, RO; reset 0; 04 -/
def BUNDLE_RECON_HI : Field := ⟨0x11002c, 0x400, 0x0, 0, 32⟩
/-- BUNDLE.POISON_LO, RO; reset 0; 04 -/
def BUNDLE_POISON_LO : Field := ⟨0x110030, 0x400, 0x0, 0, 32⟩
/-- BUNDLE.POISON_HI, RO; reset 0; 04 -/
def BUNDLE_POISON_HI : Field := ⟨0x110034, 0x400, 0x0, 0, 32⟩
/-- BUNDLE.TRAIN_FAIL, RO; reset 0; 04 -/
def BUNDLE_TRAIN_FAIL : Field := ⟨0x110038, 0x400, 0x0, 0, 32⟩
/-- BUNDLE.LANE_LOSS, RO; reset 0; 04 -/
def BUNDLE_LANE_LOSS : Field := ⟨0x11003c, 0x400, 0x0, 0, 32⟩
/-- BUNDLE.FIFO_CTRL.HIGH_WM, RW; reset 96 (Almanac); 05 -/
def BUNDLE_FIFO_CTRL_HIGH_WM : Field := ⟨0x110040, 0x400, 0x0, 0, 8⟩
/-- BUNDLE.FIFO_CTRL.LOW_WM, RW; reset 32 (Almanac); 05 -/
def BUNDLE_FIFO_CTRL_LOW_WM : Field := ⟨0x110040, 0x400, 0x0, 8, 8⟩
/-- BUNDLE.FIFO_CTRL.FLUSH, SC; reset 0; 05 -/
def BUNDLE_FIFO_CTRL_FLUSH : Field := ⟨0x110040, 0x400, 0x0, 16, 1⟩
/-- BUNDLE.FIFO_STATUS.FILL_KIB, RO; reset 0; 05 -/
def BUNDLE_FIFO_STATUS_FILL_KIB : Field := ⟨0x110044, 0x400, 0x0, 0, 10⟩
/-- BUNDLE.FIFO_STATUS.FILL_BANK, RO; reset 0; 05 -/
def BUNDLE_FIFO_STATUS_FILL_BANK : Field := ⟨0x110044, 0x400, 0x0, 10, 1⟩
/-- BUNDLE.FIFO_STATUS.HOLD, RO; reset 1; 05 -/
def BUNDLE_FIFO_STATUS_HOLD : Field := ⟨0x110044, 0x400, 0x0, 11, 1⟩
/-- BUNDLE.FIFO_STATUS.PEAK_KIB, RC; reset 0; 05 -/
def BUNDLE_FIFO_STATUS_PEAK_KIB : Field := ⟨0x110044, 0x400, 0x0, 12, 10⟩
/-- BUNDLE.FIFO_STATUS.SAT, RO; reset 0; 05 -/
def BUNDLE_FIFO_STATUS_SAT : Field := ⟨0x110044, 0x400, 0x0, 22, 5⟩
/-- BUNDLE.FRONT_CTRL.CONVERT_EN, RW; reset 0 (Almanac); 05 -/
def BUNDLE_FRONT_CTRL_CONVERT_EN : Field := ⟨0x110048, 0x400, 0x0, 0, 1⟩
/-- BUNDLE.FRONT_CTRL.MATRIX_SEL, RW; reset 0; 05 -/
def BUNDLE_FRONT_CTRL_MATRIX_SEL : Field := ⟨0x110048, 0x400, 0x0, 1, 1⟩
/-- BUNDLE.FRONT_CTRL.FILTER, RW; reset 0 (Almanac); 05 -/
def BUNDLE_FRONT_CTRL_FILTER : Field := ⟨0x110048, 0x400, 0x0, 2, 1⟩
/-- BUNDLE.FRONT_CTRL.MATRIX_ACTIVE, RO; reset 0; 05 -/
def BUNDLE_FRONT_CTRL_MATRIX_ACTIVE : Field := ⟨0x110048, 0x400, 0x0, 3, 1⟩
/-- BUNDLE.FLUSH_DISCARD, RO; reset 0; 05 -/
def BUNDLE_FLUSH_DISCARD : Field := ⟨0x11004c, 0x400, 0x0, 0, 32⟩
/-- BUNDLE.OVERFLOW, RO; reset 0; 05 -/
def BUNDLE_OVERFLOW : Field := ⟨0x110050, 0x400, 0x0, 0, 32⟩
/-- BUNDLE.CHECK_ERR, RO; reset 0; 05 -/
def BUNDLE_CHECK_ERR : Field := ⟨0x110054, 0x400, 0x0, 0, 32⟩
/-- BUNDLE.SEQ_ERR, RO; reset 0; 05 -/
def BUNDLE_SEQ_ERR : Field := ⟨0x110058, 0x400, 0x0, 0, 32⟩
/-- BUNDLE.PARITY_ERR, RO; reset 0; 05 -/
def BUNDLE_PARITY_ERR : Field := ⟨0x11005c, 0x400, 0x0, 0, 32⟩
/-- CHAN.STATE, RO; reset 0; 06 -/
def CHAN_STATE_STATE : Field := ⟨0x200000, 0x100, 0x0, 0, 3⟩
/-- CHAN.STATE.CLASS, RO; reset 0; 06 -/
def CHAN_STATE_CLASS : Field := ⟨0x200000, 0x100, 0x0, 3, 1⟩
/-- CHAN.STATE.SOURCE, RO; reset 0; 06 -/
def CHAN_STATE_SOURCE : Field := ⟨0x200000, 0x100, 0x0, 4, 1⟩
/-- CHAN.STATE.PANE, RO; reset 0; 06 -/
def CHAN_STATE_PANE : Field := ⟨0x200000, 0x100, 0x0, 5, 1⟩
/-- CHAN.STATE.TLAYERS, RO; reset 0; 06 -/
def CHAN_STATE_TLAYERS : Field := ⟨0x200000, 0x100, 0x0, 6, 2⟩
/-- CHAN.STATE.REF_DIST, RO; reset 0; 06 -/
def CHAN_STATE_REF_DIST : Field := ⟨0x200000, 0x100, 0x0, 8, 8⟩
/-- CHAN.STATE.EFFORT_NOW, RO; reset 0; 06 -/
def CHAN_STATE_EFFORT_NOW : Field := ⟨0x200000, 0x100, 0x0, 16, 4⟩
/-- CHAN.STATE.SAT_EXC, RO; reset 0; 06 -/
def CHAN_STATE_SAT_EXC : Field := ⟨0x200000, 0x100, 0x0, 20, 1⟩
/-- CHAN.STATE.SAT_CONC, RO; reset 0; 06 -/
def CHAN_STATE_SAT_CONC : Field := ⟨0x200000, 0x100, 0x0, 21, 1⟩
/-- CHAN.DELAY.D_US, RO; reset 0; 06 -/
def CHAN_DELAY_D_US : Field := ⟨0x200004, 0x100, 0x0, 0, 17⟩
/-- CHAN.DELAY.LAG, RO; reset 0; 06 -/
def CHAN_DELAY_LAG : Field := ⟨0x200004, 0x100, 0x0, 17, 7⟩
/-- CHAN.DMIN.D_MIN_US, RO; reset 0; 06 -/
def CHAN_DMIN_D_MIN_US : Field := ⟨0x200008, 0x100, 0x0, 0, 17⟩
/-- CHAN.DMIN.ENGINES, RO; reset 0; 06 -/
def CHAN_DMIN_ENGINES : Field := ⟨0x200008, 0x100, 0x0, 17, 8⟩
/-- CHAN.GEOM.CTUS, RO; reset 0; 06 -/
def CHAN_GEOM_CTUS : Field := ⟨0x20000c, 0x100, 0x0, 0, 9⟩
/-- CHAN.GEOM.ROWS, RO; reset 0; 06 -/
def CHAN_GEOM_ROWS : Field := ⟨0x20000c, 0x100, 0x0, 16, 9⟩
/-- CHAN.DEPART_LO, RO; reset 0; 06 -/
def CHAN_DEPART_LO : Field := ⟨0x200010, 0x100, 0x0, 0, 32⟩
/-- CHAN.DEPART_HI, RO; reset 0; 06 -/
def CHAN_DEPART_HI : Field := ⟨0x200014, 0x100, 0x0, 0, 32⟩
/-- CHAN.EXCURSION, RO; reset 0; 06 -/
def CHAN_EXCURSION : Field := ⟨0x200018, 0x100, 0x0, 0, 32⟩
/-- CHAN.CONCEAL, RO; reset 0; 06 -/
def CHAN_CONCEAL : Field := ⟨0x20001c, 0x100, 0x0, 0, 32⟩
/-- ENG.STATE.PHASE, RO; reset 0; 07 -/
def ENG_STATE_PHASE : Field := ⟨0x400000, 0x1000, 0x0, 0, 3⟩
/-- ENG.STATE.DIE, RO; reset n / 64; 07 -/
def ENG_STATE_DIE : Field := ⟨0x400000, 0x1000, 0x0, 3, 1⟩
/-- ENG.STATE.CLUSTER, RO; reset n / 16; 07 -/
def ENG_STATE_CLUSTER : Field := ⟨0x400000, 0x1000, 0x0, 4, 3⟩
/-- ENG.STATE.SLOT_FULL, RO; reset 0; 07 -/
def ENG_STATE_SLOT_FULL : Field := ⟨0x400000, 0x1000, 0x0, 7, 1⟩
/-- ENG.STATE.WAIT_WHY, RO; reset 0; 07 -/
def ENG_STATE_WAIT_WHY : Field := ⟨0x400000, 0x1000, 0x0, 8, 2⟩
/-- ENG.STATE.SAT, RO; reset 0; 07 -/
def ENG_STATE_SAT : Field := ⟨0x400000, 0x1000, 0x0, 10, 2⟩
/-- ENG.TASK.CHANNEL, RO; reset 0; 07 -/
def ENG_TASK_CHANNEL : Field := ⟨0x400004, 0x1000, 0x0, 0, 7⟩
/-- ENG.TASK.ROW, RO; reset 0; 07 -/
def ENG_TASK_ROW : Field := ⟨0x400004, 0x1000, 0x0, 8, 8⟩
/-- ENG.TASK.CTU, RO; reset 0; 07 -/
def ENG_TASK_CTU : Field := ⟨0x400004, 0x1000, 0x0, 16, 8⟩
/-- ENG.TASK.EFFORT, RO; reset 0; 07 -/
def ENG_TASK_EFFORT : Field := ⟨0x400004, 0x1000, 0x0, 24, 4⟩
/-- ENG.TASK.SKIP_BIAS, RO; reset 0; 07 -/
def ENG_TASK_SKIP_BIAS : Field := ⟨0x400004, 0x1000, 0x0, 28, 1⟩
/-- ENG.TASK.INTRA, RO; reset 0; 07 -/
def ENG_TASK_INTRA : Field := ⟨0x400004, 0x1000, 0x0, 29, 1⟩
/-- ENG.TASK.KIND, RO; reset 3; 07 -/
def ENG_TASK_KIND : Field := ⟨0x400004, 0x1000, 0x0, 30, 2⟩
/-- ENG.CTRL.HOLD, RW; reset 0; 07 -/
def ENG_CTRL_HOLD : Field := ⟨0x400010, 0x1000, 0x0, 0, 1⟩
/-- ENG.CTRL.CACHE_INVAL, SC; reset 0; 07 -/
def ENG_CTRL_CACHE_INVAL : Field := ⟨0x400010, 0x1000, 0x0, 1, 1⟩
/-- ENG.SHED.E_CAP, RO; reset 15; 07 -/
def ENG_SHED_E_CAP : Field := ⟨0x400014, 0x1000, 0x0, 0, 4⟩
/-- ENG.SHED.S_T, RO; reset 0; 07 -/
def ENG_SHED_S_T : Field := ⟨0x400014, 0x1000, 0x0, 4, 4⟩
/-- ENG.SHED.AVAIL, RO; reset 128; 07 -/
def ENG_SHED_AVAIL : Field := ⟨0x400014, 0x1000, 0x0, 8, 8⟩
/-- ENG.SHED.ALLOC, RO; reset 0; 07 -/
def ENG_SHED_ALLOC : Field := ⟨0x400014, 0x1000, 0x0, 16, 8⟩
/-- ENG.WINDOW.WV_X, RO; reset 0; 07 -/
def ENG_WINDOW_WV_X : Field := ⟨0x400018, 0x1000, 0x0, 0, 16⟩
/-- ENG.WINDOW.WV_Y, RO; reset 0; 07 -/
def ENG_WINDOW_WV_Y : Field := ⟨0x400018, 0x1000, 0x0, 16, 16⟩
/-- ENG.CACHE.VALID, RO; reset 0; 07 -/
def ENG_CACHE_VALID : Field := ⟨0x40001c, 0x1000, 0x0, 0, 12⟩
/-- ENG.CACHE.LEFT_X, RO; reset 0; 07 -/
def ENG_CACHE_LEFT_X : Field := ⟨0x40001c, 0x1000, 0x0, 16, 16⟩
/-- ENG.PIC_LO, RO; reset 0; 07 -/
def ENG_PIC_LO : Field := ⟨0x400008, 0x1000, 0x0, 0, 32⟩
/-- ENG.PIC_HI, RO; reset 0; 07 -/
def ENG_PIC_HI : Field := ⟨0x40000c, 0x1000, 0x0, 0, 32⟩
/-- ENG.CYC_LAST, RO; reset 0; 07 -/
def ENG_CYC_LAST : Field := ⟨0x400020, 0x1000, 0x0, 0, 32⟩
/-- ENG.CYC_MAX, RC; reset 0; 07 -/
def ENG_CYC_MAX : Field := ⟨0x400024, 0x1000, 0x0, 0, 32⟩
/-- ENG.CTUS_LO, RO; reset 0; 07 -/
def ENG_CTUS_LO : Field := ⟨0x400028, 0x1000, 0x0, 0, 32⟩
/-- ENG.CTUS_HI, RO; reset 0; 07 -/
def ENG_CTUS_HI : Field := ⟨0x40002c, 0x1000, 0x0, 0, 32⟩
/-- ENG.ROWS_LO, RO; reset 0; 07 -/
def ENG_ROWS_LO : Field := ⟨0x400030, 0x1000, 0x0, 0, 32⟩
/-- ENG.ROWS_HI, RO; reset 0; 07 -/
def ENG_ROWS_HI : Field := ⟨0x400034, 0x1000, 0x0, 0, 32⟩
/-- ENG.FETCH_LO, RO; reset 0; 07 -/
def ENG_FETCH_LO : Field := ⟨0x400038, 0x1000, 0x0, 0, 32⟩
/-- ENG.FETCH_HI, RO; reset 0; 07 -/
def ENG_FETCH_HI : Field := ⟨0x40003c, 0x1000, 0x0, 0, 32⟩
/-- ENG.STALL_LO, RO; reset 0; 07 -/
def ENG_STALL_LO : Field := ⟨0x400040, 0x1000, 0x0, 0, 32⟩
/-- ENG.STALL_HI, RO; reset 0; 07 -/
def ENG_STALL_HI : Field := ⟨0x400044, 0x1000, 0x0, 0, 32⟩
/-- ENG.FAULT, W1C; reset 0; 07 -/
def ENG_FAULT : Field := ⟨0x400048, 0x1000, 0x0, 0, 5⟩
/-- ENG.FAULT_CTX, RO; reset 0; 07 -/
def ENG_FAULT_CTX : Field := ⟨0x40004c, 0x1000, 0x0, 0, 28⟩
/-- ENG.REFETCH, RO; reset 0; 07 -/
def ENG_REFETCH : Field := ⟨0x400050, 0x1000, 0x0, 0, 32⟩
/-- ENG.SELFTEST, RO; reset 0; 07 -/
def ENG_SELFTEST : Field := ⟨0x400054, 0x1000, 0x0, 0, 32⟩
/-- ENG.ROW_CYC, RO; reset 0; 07 -/
def ENG_ROW_CYC : Field := ⟨0x400058, 0x1000, 0x0, 0, 32⟩
/-- ENG.PUBLISH_ERR, RO; reset 0; 07 -/
def ENG_PUBLISH_ERR : Field := ⟨0x40005c, 0x1000, 0x0, 0, 32⟩
/-- DISPATCH.CTRL.ASK_BLOCK, RO; reset 0; 08 -/
def DISPATCH_CTRL_ASK_BLOCK : Field := ⟨0x300000, 0x1000, 0x0, 0, 1⟩
/-- DISPATCH.CTRL.RECOVERY, RO; reset 0; 08 -/
def DISPATCH_CTRL_RECOVERY : Field := ⟨0x300000, 0x1000, 0x0, 1, 1⟩
/-- DISPATCH.CTRL.STEAL_EN, RW; reset 1 (Almanac); 08 -/
def DISPATCH_CTRL_STEAL_EN : Field := ⟨0x300000, 0x1000, 0x0, 2, 1⟩
/-- DISPATCH.CTRL.XSTEAL_EN, RW; reset 1 (Almanac); 08 -/
def DISPATCH_CTRL_XSTEAL_EN : Field := ⟨0x300000, 0x1000, 0x0, 3, 1⟩
/-- DISPATCH.CTRL.FENCED, RO; reset 0; 08 -/
def DISPATCH_CTRL_FENCED : Field := ⟨0x300000, 0x1000, 0x0, 4, 1⟩
/-- DISPATCH.TIMERS.STEAL_DLY, RW; reset 20 (Almanac); 08 -/
def DISPATCH_TIMERS_STEAL_DLY : Field := ⟨0x300004, 0x1000, 0x0, 0, 10⟩
/-- DISPATCH.TIMERS.XSTEAL_DLY, RW; reset 200 (Almanac); 08 -/
def DISPATCH_TIMERS_XSTEAL_DLY : Field := ⟨0x300004, 0x1000, 0x0, 16, 10⟩
/-- DISPATCH.RESCUE.MARGIN_US, RW; reset 50 (Almanac); 08 -/
def DISPATCH_RESCUE_MARGIN_US : Field := ⟨0x300008, 0x1000, 0x0, 0, 16⟩
/-- DISPATCH.RESCUE.LANES_W, RO; reset 0; 08 -/
def DISPATCH_RESCUE_LANES_W : Field := ⟨0x300008, 0x1000, 0x0, 16, 8⟩
/-- DISPATCH.RESCUE.LANES_E, RO; reset 0; 08 -/
def DISPATCH_RESCUE_LANES_E : Field := ⟨0x300008, 0x1000, 0x0, 24, 8⟩
/-- DISPATCH.STATUS.LIVE_READY, RO; reset 0; 08 -/
def DISPATCH_STATUS_LIVE_READY : Field := ⟨0x30000c, 0x1000, 0x0, 0, 8⟩
/-- DISPATCH.STATUS.OTHER_READY, RO; reset 0; 08 -/
def DISPATCH_STATUS_OTHER_READY : Field := ⟨0x30000c, 0x1000, 0x0, 8, 8⟩
/-- DISPATCH.STATUS.RUNNING, RO; reset 0; 08 -/
def DISPATCH_STATUS_RUNNING : Field := ⟨0x30000c, 0x1000, 0x0, 16, 5⟩
/-- DISPATCH.STATUS.FULL, RO; reset 0; 08 -/
def DISPATCH_STATUS_FULL : Field := ⟨0x30000c, 0x1000, 0x0, 21, 1⟩
/-- DISPATCH.STATUS.SAT_UNISSUED, RO; reset 0; 08 -/
def DISPATCH_STATUS_SAT_UNISSUED : Field := ⟨0x30000c, 0x1000, 0x0, 22, 1⟩
/-- DISPATCH.GIVE.ENGINE, WO; reset 0; 08 -/
def DISPATCH_GIVE_ENGINE : Field := ⟨0x300010, 0x1000, 0x0, 0, 4⟩
/-- DISPATCH.GIVE.GO, WO; reset 0; 08 -/
def DISPATCH_GIVE_GO : Field := ⟨0x300010, 0x1000, 0x0, 4, 1⟩
/-- DISPATCH.LAST_FAULT.CHANNEL, RO; reset 0; 08 -/
def DISPATCH_LAST_FAULT_CHANNEL : Field := ⟨0x300014, 0x1000, 0x0, 0, 7⟩
/-- DISPATCH.LAST_FAULT.ROW, RO; reset 0; 08 -/
def DISPATCH_LAST_FAULT_ROW : Field := ⟨0x300014, 0x1000, 0x0, 8, 8⟩
/-- DISPATCH.LAST_FAULT.ENGINE, RO; reset 0; 08 -/
def DISPATCH_LAST_FAULT_ENGINE : Field := ⟨0x300014, 0x1000, 0x0, 16, 4⟩
/-- DISPATCH.LAST_FAULT.GEN, RO; reset 0; 08 -/
def DISPATCH_LAST_FAULT_GEN : Field := ⟨0x300014, 0x1000, 0x0, 20, 8⟩
/-- DISPATCH.LAST_FAULT.CAUSE, RO; reset 0; 08 -/
def DISPATCH_LAST_FAULT_CAUSE : Field := ⟨0x300014, 0x1000, 0x0, 28, 4⟩
/-- DISPATCH.MAX_WAIT, RC; reset 0; 08 -/
def DISPATCH_MAX_WAIT : Field := ⟨0x300018, 0x1000, 0x0, 0, 32⟩
/-- DISPATCH.UNISSUED, RO; reset 0; 08 -/
def DISPATCH_UNISSUED : Field := ⟨0x30001c, 0x1000, 0x0, 0, 32⟩
/-- DISPATCH.INT_STATUS, W1C; reset 0; 08 -/
def DISPATCH_INT_STATUS : Field := ⟨0x300020, 0x1000, 0x0, 0, 5⟩
/-- DISPATCH.INT_EN, RW; reset 0; 08 -/
def DISPATCH_INT_EN : Field := ⟨0x300024, 0x1000, 0x0, 0, 5⟩
/-- DISPATCH.ISSUED_LO, RO; reset 0; 08 -/
def DISPATCH_ISSUED_LO : Field := ⟨0x300038, 0x1000, 0x0, 0, 32⟩
/-- DISPATCH.ISSUED_HI, RO; reset 0; 08 -/
def DISPATCH_ISSUED_HI : Field := ⟨0x30003c, 0x1000, 0x0, 0, 32⟩
/-- DISPATCH.TAKEN_LO, RO; reset 0; 08 -/
def DISPATCH_TAKEN_LO : Field := ⟨0x300040, 0x1000, 0x0, 0, 32⟩
/-- DISPATCH.TAKEN_HI, RO; reset 0; 08 -/
def DISPATCH_TAKEN_HI : Field := ⟨0x300044, 0x1000, 0x0, 0, 32⟩
/-- DISPATCH.AFFINITY_LO, RO; reset 0; 08 -/
def DISPATCH_AFFINITY_LO : Field := ⟨0x300048, 0x1000, 0x0, 0, 32⟩
/-- DISPATCH.AFFINITY_HI, RO; reset 0; 08 -/
def DISPATCH_AFFINITY_HI : Field := ⟨0x30004c, 0x1000, 0x0, 0, 32⟩
/-- DISPATCH.STEAL_LO, RO; reset 0; 08 -/
def DISPATCH_STEAL_LO : Field := ⟨0x300050, 0x1000, 0x0, 0, 32⟩
/-- DISPATCH.STEAL_HI, RO; reset 0; 08 -/
def DISPATCH_STEAL_HI : Field := ⟨0x300054, 0x1000, 0x0, 0, 32⟩
/-- DISPATCH.XSTEAL_LO, RO; reset 0; 08 -/
def DISPATCH_XSTEAL_LO : Field := ⟨0x300058, 0x1000, 0x0, 0, 32⟩
/-- DISPATCH.XSTEAL_HI, RO; reset 0; 08 -/
def DISPATCH_XSTEAL_HI : Field := ⟨0x30005c, 0x1000, 0x0, 0, 32⟩
/-- DISPATCH.PREEMPT_LO, RO; reset 0; 08 -/
def DISPATCH_PREEMPT_LO : Field := ⟨0x300060, 0x1000, 0x0, 0, 32⟩
/-- DISPATCH.PREEMPT_HI, RO; reset 0; 08 -/
def DISPATCH_PREEMPT_HI : Field := ⟨0x300064, 0x1000, 0x0, 0, 32⟩
/-- DISPATCH.CANCELLED_LO, RO; reset 0; 08 -/
def DISPATCH_CANCELLED_LO : Field := ⟨0x300068, 0x1000, 0x0, 0, 32⟩
/-- DISPATCH.CANCELLED_HI, RO; reset 0; 08 -/
def DISPATCH_CANCELLED_HI : Field := ⟨0x30006c, 0x1000, 0x0, 0, 32⟩
/-- DISPATCH.REISSUED_LO, RO; reset 0; 08 -/
def DISPATCH_REISSUED_LO : Field := ⟨0x300070, 0x1000, 0x0, 0, 32⟩
/-- DISPATCH.REISSUED_HI, RO; reset 0; 08 -/
def DISPATCH_REISSUED_HI : Field := ⟨0x300074, 0x1000, 0x0, 0, 32⟩
/-- DISPATCH.RESCUED_LO, RO; reset 0; 08 -/
def DISPATCH_RESCUED_LO : Field := ⟨0x300078, 0x1000, 0x0, 0, 32⟩
/-- DISPATCH.RESCUED_HI, RO; reset 0; 08 -/
def DISPATCH_RESCUED_HI : Field := ⟨0x30007c, 0x1000, 0x0, 0, 32⟩
/-- DECODE.STATE.CONTEXT, RO; reset 0; 10 -/
def DECODE_STATE_CONTEXT : Field := ⟨0x760000, 0x40, 0x0, 0, 4⟩
/-- DECODE.STATE.BUSY, RO; reset 0; 10 -/
def DECODE_STATE_BUSY : Field := ⟨0x760000, 0x40, 0x0, 4, 1⟩
/-- DECODE.STATE.FENCED, RO; reset 0; 10 -/
def DECODE_STATE_FENCED : Field := ⟨0x760000, 0x40, 0x0, 5, 1⟩
/-- DECODE.STATE.SAT, RO; reset 0; 10 -/
def DECODE_STATE_SAT : Field := ⟨0x760000, 0x40, 0x0, 6, 1⟩
/-- DECODE.STATE.ROW, RO; reset 0; 10 -/
def DECODE_STATE_ROW : Field := ⟨0x760000, 0x40, 0x0, 8, 8⟩
/-- DECODE.STATE.CTU, RO; reset 0; 10 -/
def DECODE_STATE_CTU : Field := ⟨0x760000, 0x40, 0x0, 16, 8⟩
/-- DECODE.NAL_TYPE, RO; reset 0; 10 -/
def DECODE_NAL_TYPE : Field := ⟨0x760004, 0x40, 0x0, 0, 6⟩
/-- DECODE.BUDGET_ERR, RO; reset 0; 10 -/
def DECODE_BUDGET_ERR : Field := ⟨0x760008, 0x40, 0x0, 0, 32⟩
/-- DECODE.CYC_MAX, RC; reset 0; 10 -/
def DECODE_CYC_MAX : Field := ⟨0x76000c, 0x40, 0x0, 0, 32⟩
/-- TWIN.CFG.ENABLE, RO; reset 0 (Almanac); 11 -/
def TWIN_CFG_ENABLE : Field := ⟨0x750000, 0x0, 0x0, 0, 1⟩
/-- TWIN.CFG.PREF, RO; reset 0; 11 -/
def TWIN_CFG_PREF : Field := ⟨0x750000, 0x0, 0x0, 1, 1⟩
/-- TWIN.CFG.REVERT_EN, RW; reset 1 (Almanac); 11 -/
def TWIN_CFG_REVERT_EN : Field := ⟨0x750000, 0x0, 0x0, 2, 1⟩
/-- TWIN.CFG.JOIN_METHOD, RW; reset 0 (Almanac); 11 -/
def TWIN_CFG_JOIN_METHOD : Field := ⟨0x750000, 0x0, 0x0, 3, 1⟩
/-- TWIN.TIMERS.REVERT_S, RW; reset 10 (Almanac); 11 -/
def TWIN_TIMERS_REVERT_S : Field := ⟨0x750004, 0x0, 0x0, 0, 10⟩
/-- TWIN.TIMERS.HOLD, RW; reset 20 (Almanac); 11 -/
def TWIN_TIMERS_HOLD : Field := ⟨0x750004, 0x0, 0x0, 16, 10⟩
/-- TWIN.STATE.ROLE, RO; reset 0; 11 -/
def TWIN_STATE_ROLE : Field := ⟨0x750008, 0x0, 0x0, 0, 3⟩
/-- TWIN.STATE.LINK_UP, RO; reset 0; 11 -/
def TWIN_STATE_LINK_UP : Field := ⟨0x750008, 0x0, 0x0, 3, 1⟩
/-- TWIN.STATE.HB_OK, RO; reset 0; 11 -/
def TWIN_STATE_HB_OK : Field := ⟨0x750008, 0x0, 0x0, 4, 1⟩
/-- TWIN.STATE.PEER_SEEN, RO; reset 0; 11 -/
def TWIN_STATE_PEER_SEEN : Field := ⟨0x750008, 0x0, 0x0, 5, 1⟩
/-- TWIN.STATE.OWN_PATH_UP, RO; reset 0; 11 -/
def TWIN_STATE_OWN_PATH_UP : Field := ⟨0x750008, 0x0, 0x0, 6, 1⟩
/-- TWIN.STATE.PATH_A_TX, RO; reset 0; 11 -/
def TWIN_STATE_PATH_A_TX : Field := ⟨0x750008, 0x0, 0x0, 7, 1⟩
/-- TWIN.STATE.PATH_B_TX, RO; reset 0; 11 -/
def TWIN_STATE_PATH_B_TX : Field := ⟨0x750008, 0x0, 0x0, 8, 1⟩
/-- TWIN.STATE.REFUSE_WHY, RO; reset 0; 11 -/
def TWIN_STATE_REFUSE_WHY : Field := ⟨0x750008, 0x0, 0x0, 9, 2⟩
/-- TWIN.STATE.IN_DOUBT, RO; reset 0; 11 -/
def TWIN_STATE_IN_DOUBT : Field := ⟨0x750008, 0x0, 0x0, 11, 1⟩
/-- TWIN.STATE.EPOCH, RO; reset 0; 11 -/
def TWIN_STATE_EPOCH : Field := ⟨0x750008, 0x0, 0x0, 12, 8⟩
/-- TWIN.PAIR_ID, RO; reset 0 (Almanac); 11 -/
def TWIN_PAIR_ID : Field := ⟨0x75000c, 0x0, 0x0, 0, 32⟩
/-- TWIN.DIGEST_LO, RO; reset 0; 11 -/
def TWIN_DIGEST_LO : Field := ⟨0x750010, 0x0, 0x0, 0, 32⟩
/-- TWIN.DIGEST_HI, RO; reset 0; 11 -/
def TWIN_DIGEST_HI : Field := ⟨0x750014, 0x0, 0x0, 0, 32⟩
/-- TWIN.PEER_DIGEST_LO, RO; reset 0; 11 -/
def TWIN_PEER_DIGEST_LO : Field := ⟨0x750018, 0x0, 0x0, 0, 32⟩
/-- TWIN.PEER_DIGEST_HI, RO; reset 0; 11 -/
def TWIN_PEER_DIGEST_HI : Field := ⟨0x75001c, 0x0, 0x0, 0, 32⟩
/-- TWIN.VERSION, RO; reset 0; 11 -/
def TWIN_VERSION : Field := ⟨0x750020, 0x0, 0x0, 0, 32⟩
/-- TWIN.COPY.CHANNEL, RO; reset 0; 11 -/
def TWIN_COPY_CHANNEL : Field := ⟨0x750044, 0x0, 0x0, 0, 7⟩
/-- TWIN.COPY.PHASE, RO; reset 0; 11 -/
def TWIN_COPY_PHASE : Field := ⟨0x750044, 0x0, 0x0, 8, 2⟩
/-- TWIN.COPY.SENDER, RO; reset 0; 11 -/
def TWIN_COPY_SENDER : Field := ⟨0x750044, 0x0, 0x0, 10, 1⟩
/-- TWIN.COPY.GEN, RO; reset 0; 11 -/
def TWIN_COPY_GEN : Field := ⟨0x750044, 0x0, 0x0, 16, 16⟩
/-- TWIN.COPY_CHUNKS, RO; reset 0; 11 -/
def TWIN_COPY_CHUNKS : Field := ⟨0x750048, 0x0, 0x0, 0, 32⟩
/-- TWIN.LAST_HB, RO; reset 0; 11 -/
def TWIN_LAST_HB : Field := ⟨0x75004c, 0x0, 0x0, 0, 32⟩
/-- TWIN.LAST_BEACON, RO; reset 0; 11 -/
def TWIN_LAST_BEACON : Field := ⟨0x750050, 0x0, 0x0, 0, 32⟩
/-- TWIN.INT_STATUS, W1C; reset 0; 11 -/
def TWIN_INT_STATUS : Field := ⟨0x750054, 0x0, 0x0, 0, 11⟩
/-- TWIN.INT_EN, RW; reset 0; 11 -/
def TWIN_INT_EN : Field := ⟨0x750058, 0x0, 0x0, 0, 11⟩
/-- TWIN.LAST_DIVERGE, RO; reset 0; 11 -/
def TWIN_LAST_DIVERGE : Field := ⟨0x75005c, 0x0, 0x0, 0, 32⟩
/-- TWIN.TAKEOVER, RO; reset 0; 11 -/
def TWIN_TAKEOVER : Field := ⟨0x750060, 0x0, 0x0, 0, 32⟩
/-- TWIN.DEMOTE, RO; reset 0; 11 -/
def TWIN_DEMOTE : Field := ⟨0x750064, 0x0, 0x0, 0, 32⟩
/-- TWIN.LINK_LOSS, RO; reset 0; 11 -/
def TWIN_LINK_LOSS : Field := ⟨0x750068, 0x0, 0x0, 0, 32⟩
/-- TWIN.DIGEST_MISMATCH, RO; reset 0; 11 -/
def TWIN_DIGEST_MISMATCH : Field := ⟨0x75006c, 0x0, 0x0, 0, 32⟩
/-- TWIN.UNCONFIRMED, RO; reset 0; 11 -/
def TWIN_UNCONFIRMED : Field := ⟨0x750070, 0x0, 0x0, 0, 32⟩
/-- TWIN.COPY_FAIL, RO; reset 0; 11 -/
def TWIN_COPY_FAIL : Field := ⟨0x750074, 0x0, 0x0, 0, 32⟩
/-- TWIN.MSG_ERR, RO; reset 0; 11 -/
def TWIN_MSG_ERR : Field := ⟨0x750078, 0x0, 0x0, 0, 32⟩
/-- TWIN.DIGEST_OK_LO, RO; reset 0; 11 -/
def TWIN_DIGEST_OK_LO : Field := ⟨0x75007c, 0x0, 0x0, 0, 32⟩
/-- TWIN.DIGEST_OK_HI, RO; reset 0; 11 -/
def TWIN_DIGEST_OK_HI : Field := ⟨0x750080, 0x0, 0x0, 0, 32⟩
/-- TWIN.DIVERGE_LO, RO; reset 0; 11 -/
def TWIN_DIVERGE_LO : Field := ⟨0x750084, 0x0, 0x0, 0, 32⟩
/-- TWIN.DIVERGE_HI, RO; reset 0; 11 -/
def TWIN_DIVERGE_HI : Field := ⟨0x750088, 0x0, 0x0, 0, 32⟩
/-- TWIN.PROPOSALS_LO, RO; reset 0; 11 -/
def TWIN_PROPOSALS_LO : Field := ⟨0x75008c, 0x0, 0x0, 0, 32⟩
/-- TWIN.PROPOSALS_HI, RO; reset 0; 11 -/
def TWIN_PROPOSALS_HI : Field := ⟨0x750090, 0x0, 0x0, 0, 32⟩
/-- TWIN.SAT, RO; reset 0; 11 -/
def TWIN_SAT : Field := ⟨0x750094, 0x0, 0x0, 0, 7⟩
/-- TWIN.LINK, RO; reset 0; 11 -/
def TWIN_LINK : Field := ⟨0x750098, 0x0, 0x0, 0, 12⟩
/-- TWIN.HB_GAP_MAX, RC; reset 0; 11 -/
def TWIN_HB_GAP_MAX : Field := ⟨0x75009c, 0x0, 0x0, 0, 32⟩
/-- RING.CFG.ENABLE, RO; reset 0 (Almanac); 12 -/
def RING_CFG_ENABLE : Field := ⟨0x740000, 0x0, 0x0, 0, 1⟩
/-- RING.CFG.MEMBER, RO; reset 0 (Almanac); 12 -/
def RING_CFG_MEMBER : Field := ⟨0x740000, 0x0, 0x0, 1, 3⟩
/-- RING.CFG.TIME_SRC, RW; reset 0 (Almanac); 12 -/
def RING_CFG_TIME_SRC : Field := ⟨0x740000, 0x0, 0x0, 4, 1⟩
/-- RING.CFG.MEMBERS, RW; reset 0 (Almanac); 12 -/
def RING_CFG_MEMBERS : Field := ⟨0x740000, 0x0, 0x0, 8, 8⟩
/-- RING.CFG.FOLLOW, RW; reset 0 (Almanac); 12 -/
def RING_CFG_FOLLOW : Field := ⟨0x740000, 0x0, 0x0, 16, 8⟩
/-- RING.RING_ID, RO; reset 0 (Almanac); 12 -/
def RING_RING_ID : Field := ⟨0x740004, 0x0, 0x0, 0, 32⟩
/-- RING.STATE.ROLE, RO; reset 0; 12 -/
def RING_STATE_ROLE : Field := ⟨0x740008, 0x0, 0x0, 0, 2⟩
/-- RING.STATE.LEADER, RO; reset 0; 12 -/
def RING_STATE_LEADER : Field := ⟨0x740008, 0x0, 0x0, 2, 3⟩
/-- RING.STATE.INPUT_UP, RO; reset 0; 12 -/
def RING_STATE_INPUT_UP : Field := ⟨0x740008, 0x0, 0x0, 5, 1⟩
/-- RING.STATE.SYNCED, RO; reset 0; 12 -/
def RING_STATE_SYNCED : Field := ⟨0x740008, 0x0, 0x0, 6, 1⟩
/-- RING.STATE.WITHHELD, RO; reset 0; 12 -/
def RING_STATE_WITHHELD : Field := ⟨0x740008, 0x0, 0x0, 7, 1⟩
/-- RING.STATE.WHY, RO; reset 0; 12 -/
def RING_STATE_WHY : Field := ⟨0x740008, 0x0, 0x0, 8, 3⟩
/-- RING.STATE.BYPASS, RO; reset 1; 12 -/
def RING_STATE_BYPASS : Field := ⟨0x740008, 0x0, 0x0, 11, 1⟩
/-- RING.STATE.RING_OPEN, RO; reset 0; 12 -/
def RING_STATE_RING_OPEN : Field := ⟨0x740008, 0x0, 0x0, 12, 1⟩
/-- RING.MASKS, RO; reset 0; 12 -/
def RING_MASKS : Field := ⟨0x74000c, 0x0, 0x0, 0, 24⟩
/-- RING.D_RING_LO, RO; reset 0; 12 -/
def RING_D_RING_LO : Field := ⟨0x740010, 0x0, 0x0, 0, 32⟩
/-- RING.D_RING_HI, RO; reset 0; 12 -/
def RING_D_RING_HI : Field := ⟨0x740014, 0x0, 0x0, 0, 32⟩
/-- RING.LEADER_D_LO, RO; reset 0; 12 -/
def RING_LEADER_D_LO : Field := ⟨0x740018, 0x0, 0x0, 0, 32⟩
/-- RING.LEADER_D_HI, RO; reset 0; 12 -/
def RING_LEADER_D_HI : Field := ⟨0x74001c, 0x0, 0x0, 0, 32⟩
/-- RING.VERSION, RO; reset 0; 12 -/
def RING_VERSION : Field := ⟨0x740020, 0x0, 0x0, 0, 32⟩
/-- RING.CSEQ, RO; reset 0; 12 -/
def RING_CSEQ : Field := ⟨0x740024, 0x0, 0x0, 0, 32⟩
/-- RING.OFFSET, RO; reset 0; 12 -/
def RING_OFFSET : Field := ⟨0x740028, 0x0, 0x0, 0, 32⟩
/-- RING.OFFSET_MAX, RC; reset 0; 12 -/
def RING_OFFSET_MAX : Field := ⟨0x74002c, 0x0, 0x0, 0, 32⟩
/-- RING.LOOP_ERR, RO; reset 0; 12 -/
def RING_LOOP_ERR : Field := ⟨0x740030, 0x0, 0x0, 0, 32⟩
/-- RING.RESIDENCE_MAX, RC; reset 0; 12 -/
def RING_RESIDENCE_MAX : Field := ⟨0x740034, 0x0, 0x0, 0, 32⟩
/-- RING.LAST_CALENDS, RO; reset 0; 12 -/
def RING_LAST_CALENDS : Field := ⟨0x740038, 0x0, 0x0, 0, 32⟩
/-- RING.LINK, RO; reset 0; 12 -/
def RING_LINK : Field := ⟨0x74003c, 0x0, 0x0, 0, 8⟩
/-- RING.HOP_DELAY.NS, RW; reset 0 (Almanac); 12 -/
def RING_HOP_DELAY_NS : Field := ⟨0x740040, 0x4, 0x0, 0, 16⟩
/-- RING.INT_STATUS, W1C; reset 0; 12 -/
def RING_INT_STATUS : Field := ⟨0x740060, 0x0, 0x0, 0, 9⟩
/-- RING.INT_EN, RW; reset 0; 12 -/
def RING_INT_EN : Field := ⟨0x740064, 0x0, 0x0, 0, 9⟩
/-- RING.CALENDS_LO, RO; reset 0; 12 -/
def RING_CALENDS_LO : Field := ⟨0x740068, 0x0, 0x0, 0, 32⟩
/-- RING.CALENDS_HI, RO; reset 0; 12 -/
def RING_CALENDS_HI : Field := ⟨0x74006c, 0x0, 0x0, 0, 32⟩
/-- RING.FORWARDED_LO, RO; reset 0; 12 -/
def RING_FORWARDED_LO : Field := ⟨0x740070, 0x0, 0x0, 0, 32⟩
/-- RING.FORWARDED_HI, RO; reset 0; 12 -/
def RING_FORWARDED_HI : Field := ⟨0x740074, 0x0, 0x0, 0, 32⟩
/-- RING.STATS_RX_LO, RO; reset 0; 12 -/
def RING_STATS_RX_LO : Field := ⟨0x740078, 0x0, 0x0, 0, 32⟩
/-- RING.STATS_RX_HI, RO; reset 0; 12 -/
def RING_STATS_RX_HI : Field := ⟨0x74007c, 0x0, 0x0, 0, 32⟩
/-- RING.LEADER_CHANGE, RO; reset 0; 12 -/
def RING_LEADER_CHANGE : Field := ⟨0x740080, 0x0, 0x0, 0, 32⟩
/-- RING.MISSED, RO; reset 0; 12 -/
def RING_MISSED : Field := ⟨0x740084, 0x0, 0x0, 0, 32⟩
/-- RING.UNSYNC, RO; reset 0; 12 -/
def RING_UNSYNC : Field := ⟨0x740088, 0x0, 0x0, 0, 32⟩
/-- RING.WITHHOLD, RO; reset 0; 12 -/
def RING_WITHHOLD : Field := ⟨0x74008c, 0x0, 0x0, 0, 32⟩
/-- RING.MSG_ERR, RO; reset 0; 12 -/
def RING_MSG_ERR : Field := ⟨0x740090, 0x0, 0x0, 0, 32⟩
/-- RING.LINK_LOSS, RO; reset 0; 12 -/
def RING_LINK_LOSS : Field := ⟨0x740094, 0x0, 0x0, 0, 32⟩
/-- RING.DUPLICATE, RO; reset 0; 12 -/
def RING_DUPLICATE : Field := ⟨0x740098, 0x0, 0x0, 0, 32⟩
/-- RING.SAT, RO; reset 0; 12 -/
def RING_SAT : Field := ⟨0x74009c, 0x0, 0x0, 0, 7⟩
/-- RING.MEMBER_OFFSET.NS, RO; reset 0; 12 -/
def RING_MEMBER_OFFSET_NS : Field := ⟨0x7400a0, 0x4, 0x0, 0, 32⟩
/-- MEM.CTRL.HOT_FORCE, RW; reset 0; 13 -/
def MEM_CTRL_HOT_FORCE : Field := ⟨0x600000, 0x4000, 0x0, 0, 1⟩
/-- MEM.CTRL.WQ_DRAIN, RW; reset 24 (Almanac); 13 -/
def MEM_CTRL_WQ_DRAIN : Field := ⟨0x600000, 0x4000, 0x0, 8, 5⟩
/-- MEM.STATUS.READY, RO; reset 0; 13 -/
def MEM_STATUS_READY : Field := ⟨0x600004, 0x4000, 0x0, 0, 1⟩
/-- MEM.STATUS.FENCED, RO; reset 0; 13 -/
def MEM_STATUS_FENCED : Field := ⟨0x600004, 0x4000, 0x0, 1, 1⟩
/-- MEM.STATUS.SELF_REFRESH, RO; reset 0; 13 -/
def MEM_STATUS_SELF_REFRESH : Field := ⟨0x600004, 0x4000, 0x0, 2, 1⟩
/-- MEM.STATUS.PASR, RO; reset 0; 13 -/
def MEM_STATUS_PASR : Field := ⟨0x600004, 0x4000, 0x0, 3, 1⟩
/-- MEM.STATUS.HOT, RO; reset 0; 13 -/
def MEM_STATUS_HOT : Field := ⟨0x600004, 0x4000, 0x0, 4, 1⟩
/-- MEM.STATUS.FENCED_PCS, RO; reset 0; 13 -/
def MEM_STATUS_FENCED_PCS : Field := ⟨0x600004, 0x4000, 0x0, 8, 6⟩
/-- MEM.TEMP.TJ, RO; reset 0; 13 -/
def MEM_TEMP_TJ : Field := ⟨0x600008, 0x4000, 0x0, 0, 8⟩
/-- MEM.TEMP.SENSOR_FAILED, RO; reset 0; 13 -/
def MEM_TEMP_SENSOR_FAILED : Field := ⟨0x600008, 0x4000, 0x0, 8, 1⟩
/-- MEM.REFRESH.TREFI_NS, RO; reset 3,900; 13 -/
def MEM_REFRESH_TREFI_NS : Field := ⟨0x60000c, 0x4000, 0x0, 0, 12⟩
/-- MEM.REFRESH.TRFC_NS, RO; reset 210; 13 -/
def MEM_REFRESH_TRFC_NS : Field := ⟨0x60000c, 0x4000, 0x0, 16, 8⟩
/-- MEM.REFRESH.LIMIT, RO; reset 8; 13 -/
def MEM_REFRESH_LIMIT : Field := ⟨0x60000c, 0x4000, 0x0, 24, 4⟩
/-- MEM.REFRESH.POSTPONE_EN, RW; reset 1 (Almanac); 13 -/
def MEM_REFRESH_POSTPONE_EN : Field := ⟨0x60000c, 0x4000, 0x0, 28, 1⟩
/-- MEM.PD_CTRL.TIMER, RW; reset 100 (Almanac); 13 -/
def MEM_PD_CTRL_TIMER : Field := ⟨0x600010, 0x4000, 0x0, 0, 16⟩
/-- MEM.INT_STATUS, W1C; reset 0; 13 -/
def MEM_INT_STATUS : Field := ⟨0x600014, 0x4000, 0x0, 0, 8⟩
/-- MEM.INT_EN, RW; reset 0; 13 -/
def MEM_INT_EN : Field := ⟨0x600018, 0x4000, 0x0, 0, 8⟩
/-- MEM.FAULT.PC, RO; reset 0; 13 -/
def MEM_FAULT_PC : Field := ⟨0x60001c, 0x4000, 0x0, 0, 5⟩
/-- MEM.FAULT.KIND, RO; reset 0; 13 -/
def MEM_FAULT_KIND : Field := ⟨0x60001c, 0x4000, 0x0, 5, 3⟩
/-- MEM.FAULT.PORT, RO; reset 0; 13 -/
def MEM_FAULT_PORT : Field := ⟨0x60001c, 0x4000, 0x0, 8, 4⟩
/-- MEM.FAULT_ADDR_LO, RO; reset 0; 13 -/
def MEM_FAULT_ADDR_LO : Field := ⟨0x600020, 0x4000, 0x0, 0, 32⟩
/-- MEM.FAULT_ADDR_HI, RO; reset 0; 13 -/
def MEM_FAULT_ADDR_HI : Field := ⟨0x600024, 0x4000, 0x0, 0, 5⟩
/-- MEM.CAL.LOADED, RO; reset 0; 13 -/
def MEM_CAL_LOADED : Field := ⟨0x600028, 0x4000, 0x0, 0, 1⟩
/-- MEM.CAL.TESTED, RO; reset 0; 13 -/
def MEM_CAL_TESTED : Field := ⟨0x600028, 0x4000, 0x0, 1, 1⟩
/-- MEM.CAL.BAD_RECORDS, RO; reset 0; 13 -/
def MEM_CAL_BAD_RECORDS : Field := ⟨0x600028, 0x4000, 0x0, 8, 6⟩
/-- MEM.PC_FENCED, RO; reset 0; 13 -/
def MEM_PC_FENCED : Field := ⟨0x60002c, 0x4000, 0x0, 0, 32⟩
/-- MEM.PC_PD, RO; reset 0; 13 -/
def MEM_PC_PD : Field := ⟨0x600030, 0x4000, 0x0, 0, 32⟩
/-- MEM.REBUILD.PC, RO; reset 0; 13 -/
def MEM_REBUILD_PC : Field := ⟨0x600034, 0x4000, 0x0, 0, 5⟩
/-- MEM.REBUILD.ACTIVE, RO; reset 0; 13 -/
def MEM_REBUILD_ACTIVE : Field := ⟨0x600034, 0x4000, 0x0, 5, 1⟩
/-- MEM.REBUILD.PROGRESS, RO; reset 0; 13 -/
def MEM_REBUILD_PROGRESS : Field := ⟨0x600034, 0x4000, 0x0, 16, 10⟩
/-- MEM.SAT, RO; reset 0; 13 -/
def MEM_SAT : Field := ⟨0x600038, 0x4000, 0x0, 0, 3⟩
/-- MEM.SECTOR_ERR, RO; reset 0; 13 -/
def MEM_SECTOR_ERR : Field := ⟨0x60003c, 0x4000, 0x0, 0, 32⟩
/-- MEM.QOS.TARGET, RW; reset As R339 (Almanac); 13 -/
def MEM_QOS_TARGET : Field := ⟨0x600040, 0x4000, 0x4, 0, 16⟩
/-- MEM.QOS.POSTPONE, RW; reset As R339 (Almanac); 13 -/
def MEM_QOS_POSTPONE : Field := ⟨0x600040, 0x4000, 0x4, 16, 1⟩
/-- MEM.LAT_MAX.NS, RC; reset 0; 13 -/
def MEM_LAT_MAX_NS : Field := ⟨0x60006c, 0x4000, 0x4, 0, 32⟩
/-- MEM.REFRESHES_LO, RO; reset 0; 13 -/
def MEM_REFRESHES_LO : Field := ⟨0x600098, 0x4000, 0x0, 0, 32⟩
/-- MEM.REFRESHES_HI, RO; reset 0; 13 -/
def MEM_REFRESHES_HI : Field := ⟨0x60009c, 0x4000, 0x0, 0, 32⟩
/-- MEM.POSTPONED_LO, RO; reset 0; 13 -/
def MEM_POSTPONED_LO : Field := ⟨0x6000a0, 0x4000, 0x0, 0, 32⟩
/-- MEM.POSTPONED_HI, RO; reset 0; 13 -/
def MEM_POSTPONED_HI : Field := ⟨0x6000a4, 0x4000, 0x0, 0, 32⟩
/-- MEM.CATCHUP_LO, RO; reset 0; 13 -/
def MEM_CATCHUP_LO : Field := ⟨0x6000a8, 0x4000, 0x0, 0, 32⟩
/-- MEM.CATCHUP_HI, RO; reset 0; 13 -/
def MEM_CATCHUP_HI : Field := ⟨0x6000ac, 0x4000, 0x0, 0, 32⟩
/-- MEM.FORCED_LO, RO; reset 0; 13 -/
def MEM_FORCED_LO : Field := ⟨0x6000b0, 0x4000, 0x0, 0, 32⟩
/-- MEM.FORCED_HI, RO; reset 0; 13 -/
def MEM_FORCED_HI : Field := ⟨0x6000b4, 0x4000, 0x0, 0, 32⟩
/-- MEM.URGENT_LO, RO; reset 0; 13 -/
def MEM_URGENT_LO : Field := ⟨0x6000b8, 0x4000, 0x0, 0, 32⟩
/-- MEM.URGENT_HI, RO; reset 0; 13 -/
def MEM_URGENT_HI : Field := ⟨0x6000bc, 0x4000, 0x0, 0, 32⟩
/-- MEM.ECC_CORR_LO, RO; reset 0; 13 -/
def MEM_ECC_CORR_LO : Field := ⟨0x6000c0, 0x4000, 0x0, 0, 32⟩
/-- MEM.ECC_CORR_HI, RO; reset 0; 13 -/
def MEM_ECC_CORR_HI : Field := ⟨0x6000c4, 0x4000, 0x0, 0, 32⟩
/-- MEM.PD_ENTRY_LO, RO; reset 0; 13 -/
def MEM_PD_ENTRY_LO : Field := ⟨0x6000c8, 0x4000, 0x0, 0, 32⟩
/-- MEM.PD_ENTRY_HI, RO; reset 0; 13 -/
def MEM_PD_ENTRY_HI : Field := ⟨0x6000cc, 0x4000, 0x0, 0, 32⟩
/-- MEM.ECC_UNCORR, RO; reset 0; 13 -/
def MEM_ECC_UNCORR : Field := ⟨0x6000d0, 0x4000, 0x0, 0, 32⟩
/-- MEM.REBUILT, RO; reset 0; 13 -/
def MEM_REBUILT : Field := ⟨0x6000d4, 0x4000, 0x0, 0, 32⟩
/-- MEM.STALL_MAX, RC; reset 0; 13 -/
def MEM_STALL_MAX : Field := ⟨0x6000f8, 0x4000, 0x0, 0, 32⟩
/-- MEM.OWED_MAX, RC; reset 0; 13 -/
def MEM_OWED_MAX : Field := ⟨0x6000fc, 0x4000, 0x0, 0, 32⟩
/-- MEM.REGION_MAP.PC_OFF, RO; reset 0 (Almanac); 13 -/
def MEM_REGION_MAP_PC_OFF : Field := ⟨0x600100, 0x4000, 0x8, 0, 6⟩
/-- MEM.REGION_MAP.PC_LEN, RO; reset 0 (Almanac); 13 -/
def MEM_REGION_MAP_PC_LEN : Field := ⟨0x600100, 0x4000, 0x8, 8, 6⟩
/-- MEM.REGION_MAP.BASE, RO; reset 0 (Almanac); 13 -/
def MEM_REGION_MAP_BASE : Field := ⟨0x600100, 0x4000, 0x8, 16, 13⟩
/-- MEM.REGION_CFG.MASK, RO; reset 0 (Almanac); 13 -/
def MEM_REGION_CFG_MASK : Field := ⟨0x600104, 0x4000, 0x8, 0, 8⟩
/-- MEM.REGION_CFG.ORDER, RO; reset 0 (Almanac); 13 -/
def MEM_REGION_CFG_ORDER : Field := ⟨0x600104, 0x4000, 0x8, 8, 2⟩
/-- MEM.REGION_CFG.PROTECT, RO; reset 0 (Almanac); 13 -/
def MEM_REGION_CFG_PROTECT : Field := ⟨0x600104, 0x4000, 0x8, 10, 1⟩
/-- MEM.REGION_CFG.PURPOSE, RO; reset 0 (Almanac); 13 -/
def MEM_REGION_CFG_PURPOSE : Field := ⟨0x600104, 0x4000, 0x8, 11, 4⟩
/-- MEM.REGION_CFG.VALID, RO; reset 0 (Almanac); 13 -/
def MEM_REGION_CFG_VALID : Field := ⟨0x600104, 0x4000, 0x8, 15, 1⟩
/-- XLAT.CTRL.PREEMPT_EN, RW; reset 1 (Almanac); 14 -/
def XLAT_CTRL_PREEMPT_EN : Field := ⟨0x680000, 0x0, 0x0, 0, 1⟩
/-- XLAT.STATUS.CTX_USED, RO; reset 0; 14 -/
def XLAT_STATUS_CTX_USED : Field := ⟨0x680004, 0x0, 0x0, 0, 11⟩
/-- XLAT.STATUS.CTX_FULL, RO; reset 0; 14 -/
def XLAT_STATUS_CTX_FULL : Field := ⟨0x680004, 0x0, 0x0, 11, 1⟩
/-- XLAT.LAST_FAULT.KIND, RO; reset 0; 14 -/
def XLAT_LAST_FAULT_KIND : Field := ⟨0x680008, 0x0, 0x0, 0, 4⟩
/-- XLAT.LAST_FAULT.CLIENT, RO; reset 0; 14 -/
def XLAT_LAST_FAULT_CLIENT : Field := ⟨0x680008, 0x0, 0x0, 4, 4⟩
/-- XLAT.LAST_FAULT.TABLE, RO; reset 0; 14 -/
def XLAT_LAST_FAULT_TABLE : Field := ⟨0x680008, 0x0, 0x0, 8, 8⟩
/-- XLAT.LAST_FAULT.WINDOW, RO; reset 0; 14 -/
def XLAT_LAST_FAULT_WINDOW : Field := ⟨0x680008, 0x0, 0x0, 16, 6⟩
/-- XLAT.LAST_FAULT.WRITE, RO; reset 0; 14 -/
def XLAT_LAST_FAULT_WRITE : Field := ⟨0x680008, 0x0, 0x0, 22, 1⟩
/-- XLAT.FAULT_VA_LO, RO; reset 0; 14 -/
def XLAT_FAULT_VA_LO : Field := ⟨0x68000c, 0x0, 0x0, 0, 32⟩
/-- XLAT.FAULT_VA_HI, RO; reset 0; 14 -/
def XLAT_FAULT_VA_HI : Field := ⟨0x680010, 0x0, 0x0, 0, 16⟩
/-- XLAT.INT_STATUS, W1C; reset 0; 14 -/
def XLAT_INT_STATUS : Field := ⟨0x680014, 0x0, 0x0, 0, 6⟩
/-- XLAT.INT_EN, RW; reset 0; 14 -/
def XLAT_INT_EN : Field := ⟨0x680018, 0x0, 0x0, 0, 6⟩
/-- XLAT.SAT, RO; reset 0; 14 -/
def XLAT_SAT : Field := ⟨0x68001c, 0x0, 0x0, 0, 4⟩
/-- XLAT.FAULTS, RO; reset 0; 14 -/
def XLAT_FAULTS : Field := ⟨0x680020, 0x0, 0x0, 0, 32⟩
/-- XLAT.SAVE_FAULT, RO; reset 0; 14 -/
def XLAT_SAVE_FAULT : Field := ⟨0x680024, 0x0, 0x0, 0, 32⟩
/-- XLAT.CTX_BAD, RO; reset 0; 14 -/
def XLAT_CTX_BAD : Field := ⟨0x680028, 0x0, 0x0, 0, 32⟩
/-- XLAT.OVERFLOW_SEG, RO; reset 0; 14 -/
def XLAT_OVERFLOW_SEG : Field := ⟨0x68002c, 0x0, 0x0, 0, 32⟩
/-- XLAT.SAVES_LO, RO; reset 0; 14 -/
def XLAT_SAVES_LO : Field := ⟨0x680030, 0x0, 0x0, 0, 32⟩
/-- XLAT.SAVES_HI, RO; reset 0; 14 -/
def XLAT_SAVES_HI : Field := ⟨0x680034, 0x0, 0x0, 0, 32⟩
/-- XLAT.DMA_PREEMPT_LO, RO; reset 0; 14 -/
def XLAT_DMA_PREEMPT_LO : Field := ⟨0x680038, 0x0, 0x0, 0, 32⟩
/-- XLAT.DMA_PREEMPT_HI, RO; reset 0; 14 -/
def XLAT_DMA_PREEMPT_HI : Field := ⟨0x68003c, 0x0, 0x0, 0, 32⟩
/-- XLAT.RECQ_STATE.BOUND, RO; reset 0; 14 -/
def XLAT_RECQ_STATE_BOUND : Field := ⟨0x680100, 0x10, 0x0, 0, 1⟩
/-- XLAT.RECQ_STATE.PRIORITY, RO; reset 0; 14 -/
def XLAT_RECQ_STATE_PRIORITY : Field := ⟨0x680100, 0x10, 0x0, 1, 3⟩
/-- XLAT.RECQ_STATE.FAULTED, RO; reset 0; 14 -/
def XLAT_RECQ_STATE_FAULTED : Field := ⟨0x680100, 0x10, 0x0, 4, 1⟩
/-- XLAT.RECQ_STATE.OVERFLOW, W1C; reset 0; 14 -/
def XLAT_RECQ_STATE_OVERFLOW : Field := ⟨0x680100, 0x10, 0x0, 5, 1⟩
/-- XLAT.RECQ_STATE.DRAINING, RO; reset 0; 14 -/
def XLAT_RECQ_STATE_DRAINING : Field := ⟨0x680100, 0x10, 0x0, 6, 1⟩
/-- XLAT.RECQ_STATE.RESUME, SC; reset 0; 14 -/
def XLAT_RECQ_STATE_RESUME : Field := ⟨0x680100, 0x10, 0x0, 7, 1⟩
/-- XLAT.RECQ_STATE.RESUME_GRANULES, RO; reset 0; 14 -/
def XLAT_RECQ_STATE_RESUME_GRANULES : Field := ⟨0x680100, 0x10, 0x0, 8, 24⟩
/-- XLAT.RECQ_HEAD, RW; reset 0; 14 -/
def XLAT_RECQ_HEAD : Field := ⟨0x680104, 0x10, 0x0, 0, 32⟩
/-- XLAT.RECQ_TAIL, RO; reset 0; 14 -/
def XLAT_RECQ_TAIL : Field := ⟨0x680108, 0x10, 0x0, 0, 32⟩
/-- ETH.CTRL.EN, RW; reset 1 (Almanac); 15 -/
def ETH_CTRL_EN : Field := ⟨0x700000, 0x1000, 0x0, 0, 1⟩
/-- ETH.CTRL.MEDIA, RW; reset 0 (Almanac); 15 -/
def ETH_CTRL_MEDIA : Field := ⟨0x700000, 0x1000, 0x0, 1, 1⟩
/-- ETH.CTRL.LOOPBACK, RW; reset 0; 15 -/
def ETH_CTRL_LOOPBACK : Field := ⟨0x700000, 0x1000, 0x0, 2, 1⟩
/-- ETH.STATUS.LINK, RO; reset 0; 15 -/
def ETH_STATUS_LINK : Field := ⟨0x700004, 0x1000, 0x0, 0, 1⟩
/-- ETH.STATUS.FEC_LOCK, RO; reset 0; 15 -/
def ETH_STATUS_FEC_LOCK : Field := ⟨0x700004, 0x1000, 0x0, 1, 1⟩
/-- ETH.STATUS.AN_DONE, RO; reset 0; 15 -/
def ETH_STATUS_AN_DONE : Field := ⟨0x700004, 0x1000, 0x0, 2, 1⟩
/-- ETH.STATUS.PATH_TX, RO; reset 0; 15 -/
def ETH_STATUS_PATH_TX : Field := ⟨0x700004, 0x1000, 0x0, 3, 1⟩
/-- ETH.STATUS.PATH, RO; reset 0; 15 -/
def ETH_STATUS_PATH : Field := ⟨0x700004, 0x1000, 0x0, 4, 1⟩
/-- ETH.STATUS.WATCH, RO; reset 0; 15 -/
def ETH_STATUS_WATCH : Field := ⟨0x700004, 0x1000, 0x0, 5, 1⟩
/-- ETH.STATUS.PTP_PORT, RO; reset 0; 15 -/
def ETH_STATUS_PTP_PORT : Field := ⟨0x700004, 0x1000, 0x0, 6, 1⟩
/-- ETH.STATUS.FENCED, RO; reset 0; 15 -/
def ETH_STATUS_FENCED : Field := ⟨0x700004, 0x1000, 0x0, 7, 1⟩
/-- ETH.PORT_MAC_LO, RW; reset 0 (Almanac); 15 -/
def ETH_PORT_MAC_LO : Field := ⟨0x700008, 0x1000, 0x0, 0, 32⟩
/-- ETH.PORT_MAC_HI, RW; reset 0 (Almanac); 15 -/
def ETH_PORT_MAC_HI : Field := ⟨0x70000c, 0x1000, 0x0, 0, 16⟩
/-- ETH.PORT_IPV4, RW; reset 0 (Almanac); 15 -/
def ETH_PORT_IPV4 : Field := ⟨0x700010, 0x1000, 0x0, 0, 32⟩
/-- ETH.PORT_IPV6_0, RW; reset 0 (Almanac); 15 -/
def ETH_PORT_IPV6_0 : Field := ⟨0x700014, 0x1000, 0x0, 0, 32⟩
/-- ETH.PORT_IPV6_1, RW; reset 0 (Almanac); 15 -/
def ETH_PORT_IPV6_1 : Field := ⟨0x700018, 0x1000, 0x0, 0, 32⟩
/-- ETH.PORT_IPV6_2, RW; reset 0 (Almanac); 15 -/
def ETH_PORT_IPV6_2 : Field := ⟨0x70001c, 0x1000, 0x0, 0, 32⟩
/-- ETH.PORT_IPV6_3, RW; reset 0 (Almanac); 15 -/
def ETH_PORT_IPV6_3 : Field := ⟨0x700020, 0x1000, 0x0, 0, 32⟩
/-- ETH.NET.PREFIX4, RW; reset 24 (Almanac); 15 -/
def ETH_NET_PREFIX4 : Field := ⟨0x700024, 0x1000, 0x0, 0, 6⟩
/-- ETH.NET.PREFIX6, RW; reset 64 (Almanac); 15 -/
def ETH_NET_PREFIX6 : Field := ⟨0x700024, 0x1000, 0x0, 8, 8⟩
/-- ETH.NET.DSCP_PTP, RW; reset 46 (Almanac); 15 -/
def ETH_NET_DSCP_PTP : Field := ⟨0x700024, 0x1000, 0x0, 16, 6⟩
/-- ETH.NET.TTL_CTRL, RW; reset 64 (Almanac); 15 -/
def ETH_NET_TTL_CTRL : Field := ⟨0x700024, 0x1000, 0x0, 24, 8⟩
/-- ETH.PTP_CFG.DOMAIN, RW; reset 127 (Almanac); 15 -/
def ETH_PTP_CFG_DOMAIN : Field := ⟨0x700028, 0x1000, 0x0, 0, 8⟩
/-- ETH.PTP_CFG.PREF_PORT, RW; reset 0 (Almanac); 15 -/
def ETH_PTP_CFG_PREF_PORT : Field := ⟨0x700028, 0x1000, 0x0, 8, 1⟩
/-- ETH.PTP_CFG.DELAY_UNICAST, RW; reset 0 (Almanac); 15 -/
def ETH_PTP_CFG_DELAY_UNICAST : Field := ⟨0x700028, 0x1000, 0x0, 9, 1⟩
/-- ETH.PTP_CFG.IPV6, RW; reset 0 (Almanac); 15 -/
def ETH_PTP_CFG_IPV6 : Field := ⟨0x700028, 0x1000, 0x0, 10, 1⟩
/-- ETH.PTP_STATE.PORT_STATE, RO; reset 1; 15 -/
def ETH_PTP_STATE_PORT_STATE : Field := ⟨0x70002c, 0x1000, 0x0, 0, 4⟩
/-- ETH.PTP_STATE.SYNCED, RO; reset 0; 15 -/
def ETH_PTP_STATE_SYNCED : Field := ⟨0x70002c, 0x1000, 0x0, 4, 1⟩
/-- ETH.PTP_OFFSET, RO; reset 0; 15 -/
def ETH_PTP_OFFSET : Field := ⟨0x700030, 0x1000, 0x0, 0, 32⟩
/-- ETH.PTP_DELAY, RO; reset 0; 15 -/
def ETH_PTP_DELAY : Field := ⟨0x700034, 0x1000, 0x0, 0, 32⟩
/-- ETH.GM_ID_LO, RO; reset 0; 15 -/
def ETH_GM_ID_LO : Field := ⟨0x700038, 0x1000, 0x0, 0, 32⟩
/-- ETH.GM_ID_HI, RO; reset 0; 15 -/
def ETH_GM_ID_HI : Field := ⟨0x70003c, 0x1000, 0x0, 0, 32⟩
/-- ETH.OFFSET_MAX, RC; reset 0; 15 -/
def ETH_OFFSET_MAX : Field := ⟨0x700040, 0x1000, 0x0, 0, 32⟩
/-- ETH.INT_STATUS, W1C; reset 0; 15 -/
def ETH_INT_STATUS : Field := ⟨0x700044, 0x1000, 0x0, 0, 7⟩
/-- ETH.INT_EN, RW; reset 0; 15 -/
def ETH_INT_EN : Field := ⟨0x700048, 0x1000, 0x0, 0, 7⟩
/-- ETH.LANE.LOCK, RO; reset 0; 15 -/
def ETH_LANE_LOCK : Field := ⟨0x70004c, 0x1000, 0x4, 0, 1⟩
/-- ETH.LANE.SKEW, RO; reset 0; 15 -/
def ETH_LANE_SKEW : Field := ⟨0x70004c, 0x1000, 0x4, 8, 8⟩
/-- ETH.RES_MBPS, RO; reset 0; 15 -/
def ETH_RES_MBPS : Field := ⟨0x70005c, 0x1000, 0x0, 0, 32⟩
/-- ETH.BOUND.VIDEO, RO; reset 0; 15 -/
def ETH_BOUND_VIDEO : Field := ⟨0x700060, 0x1000, 0x0, 0, 8⟩
/-- ETH.BOUND.AUDIO, RO; reset 0; 15 -/
def ETH_BOUND_AUDIO : Field := ⟨0x700060, 0x1000, 0x0, 8, 5⟩
/-- ETH.LAST_DROP.STREAM, RO; reset 0; 15 -/
def ETH_LAST_DROP_STREAM : Field := ⟨0x700064, 0x1000, 0x0, 0, 8⟩
/-- ETH.LAST_DROP.AUDIO, RO; reset 0; 15 -/
def ETH_LAST_DROP_AUDIO : Field := ⟨0x700064, 0x1000, 0x0, 8, 1⟩
/-- ETH.LAST_DROP.CAUSE, RO; reset 0; 15 -/
def ETH_LAST_DROP_CAUSE : Field := ⟨0x700064, 0x1000, 0x0, 9, 3⟩
/-- ETH.JOINS, RO; reset 0; 15 -/
def ETH_JOINS : Field := ⟨0x700068, 0x1000, 0x0, 0, 8⟩
/-- ETH.RESOLVED, RO; reset 0; 15 -/
def ETH_RESOLVED : Field := ⟨0x70006c, 0x1000, 0x0, 0, 8⟩
/-- ETH.TX_FRAMES_LO, RO; reset 0; 15 -/
def ETH_TX_FRAMES_LO : Field := ⟨0x700070, 0x1000, 0x0, 0, 32⟩
/-- ETH.TX_FRAMES_HI, RO; reset 0; 15 -/
def ETH_TX_FRAMES_HI : Field := ⟨0x700074, 0x1000, 0x0, 0, 32⟩
/-- ETH.TX_BYTES_LO, RO; reset 0; 15 -/
def ETH_TX_BYTES_LO : Field := ⟨0x700078, 0x1000, 0x0, 0, 32⟩
/-- ETH.TX_BYTES_HI, RO; reset 0; 15 -/
def ETH_TX_BYTES_HI : Field := ⟨0x70007c, 0x1000, 0x0, 0, 32⟩
/-- ETH.RX_FRAMES_LO, RO; reset 0; 15 -/
def ETH_RX_FRAMES_LO : Field := ⟨0x700080, 0x1000, 0x0, 0, 32⟩
/-- ETH.RX_FRAMES_HI, RO; reset 0; 15 -/
def ETH_RX_FRAMES_HI : Field := ⟨0x700084, 0x1000, 0x0, 0, 32⟩
/-- ETH.RX_BYTES_LO, RO; reset 0; 15 -/
def ETH_RX_BYTES_LO : Field := ⟨0x700088, 0x1000, 0x0, 0, 32⟩
/-- ETH.RX_BYTES_HI, RO; reset 0; 15 -/
def ETH_RX_BYTES_HI : Field := ⟨0x70008c, 0x1000, 0x0, 0, 32⟩
/-- ETH.MEDIA_PKTS_LO, RO; reset 0; 15 -/
def ETH_MEDIA_PKTS_LO : Field := ⟨0x700090, 0x1000, 0x0, 0, 32⟩
/-- ETH.MEDIA_PKTS_HI, RO; reset 0; 15 -/
def ETH_MEDIA_PKTS_HI : Field := ⟨0x700094, 0x1000, 0x0, 0, 32⟩
/-- ETH.PTP_TX_LO, RO; reset 0; 15 -/
def ETH_PTP_TX_LO : Field := ⟨0x700098, 0x1000, 0x0, 0, 32⟩
/-- ETH.PTP_TX_HI, RO; reset 0; 15 -/
def ETH_PTP_TX_HI : Field := ⟨0x70009c, 0x1000, 0x0, 0, 32⟩
/-- ETH.PTP_RX_LO, RO; reset 0; 15 -/
def ETH_PTP_RX_LO : Field := ⟨0x7000a0, 0x1000, 0x0, 0, 32⟩
/-- ETH.PTP_RX_HI, RO; reset 0; 15 -/
def ETH_PTP_RX_HI : Field := ⟨0x7000a4, 0x1000, 0x0, 0, 32⟩
/-- ETH.BEACON_TX_LO, RO; reset 0; 15 -/
def ETH_BEACON_TX_LO : Field := ⟨0x7000a8, 0x1000, 0x0, 0, 32⟩
/-- ETH.BEACON_TX_HI, RO; reset 0; 15 -/
def ETH_BEACON_TX_HI : Field := ⟨0x7000ac, 0x1000, 0x0, 0, 32⟩
/-- ETH.PEER_SEEN_LO, RO; reset 0; 15 -/
def ETH_PEER_SEEN_LO : Field := ⟨0x7000b0, 0x1000, 0x0, 0, 32⟩
/-- ETH.PEER_SEEN_HI, RO; reset 0; 15 -/
def ETH_PEER_SEEN_HI : Field := ⟨0x7000b4, 0x1000, 0x0, 0, 32⟩
/-- ETH.FEC_CORR_LO, RO; reset 0; 15 -/
def ETH_FEC_CORR_LO : Field := ⟨0x7000b8, 0x1000, 0x0, 0, 32⟩
/-- ETH.FEC_CORR_HI, RO; reset 0; 15 -/
def ETH_FEC_CORR_HI : Field := ⟨0x7000bc, 0x1000, 0x0, 0, 32⟩
/-- ETH.FEC_UNCORR, RO; reset 0; 15 -/
def ETH_FEC_UNCORR : Field := ⟨0x7000c0, 0x1000, 0x0, 0, 32⟩
/-- ETH.FCS_ERR, RO; reset 0; 15 -/
def ETH_FCS_ERR : Field := ⟨0x7000c4, 0x1000, 0x0, 0, 32⟩
/-- ETH.RX_DISCARD, RO; reset 0; 15 -/
def ETH_RX_DISCARD : Field := ⟨0x7000c8, 0x1000, 0x0, 0, 32⟩
/-- ETH.TX_DROP, RO; reset 0; 15 -/
def ETH_TX_DROP : Field := ⟨0x7000cc, 0x1000, 0x0, 0, 32⟩
/-- ETH.UNRESOLVED, RO; reset 0; 15 -/
def ETH_UNRESOLVED : Field := ⟨0x7000d0, 0x1000, 0x0, 0, 32⟩
/-- ETH.LINK_LOSS, RO; reset 0; 15 -/
def ETH_LINK_LOSS : Field := ⟨0x7000d4, 0x1000, 0x0, 0, 32⟩
/-- ETH.PAUSE_RX, RO; reset 0; 15 -/
def ETH_PAUSE_RX : Field := ⟨0x7000d8, 0x1000, 0x0, 0, 32⟩
/-- ETH.PACE_LATE, RO; reset 0; 15 -/
def ETH_PACE_LATE : Field := ⟨0x7000dc, 0x1000, 0x0, 0, 32⟩
/-- ETH.ANNOUNCE_TO, RO; reset 0; 15 -/
def ETH_ANNOUNCE_TO : Field := ⟨0x7000e0, 0x1000, 0x0, 0, 32⟩
/-- ETH.FEC_SYM, RO; reset 0; 15 -/
def ETH_FEC_SYM : Field := ⟨0x7000e4, 0x1000, 0x4, 0, 32⟩
/-- ETH.SAT, RO; reset 0; 15 -/
def ETH_SAT : Field := ⟨0x7000f4, 0x1000, 0x0, 0, 15⟩
/-- ETH.PTP_STEPS, RO; reset 0; 15 -/
def ETH_PTP_STEPS : Field := ⟨0x7000f8, 0x1000, 0x0, 0, 32⟩
/-- ETH.HOLDOVER, RO; reset 0; 15 -/
def ETH_HOLDOVER : Field := ⟨0x7000fc, 0x1000, 0x0, 0, 32⟩
/-- TB.CTRL.PTP_STEER, RW; reset 1 (Almanac); 16 -/
def TB_CTRL_PTP_STEER : Field := ⟨0x70000, 0x0, 0x0, 0, 1⟩
/-- TB.CTRL.TSQ_OWNER, RW; reset 0; 16 -/
def TB_CTRL_TSQ_OWNER : Field := ⟨0x70000, 0x0, 0x0, 1, 1⟩
/-- TB.CTRL.FREF_EDGE, RW; reset 0 (Almanac); 16 -/
def TB_CTRL_FREF_EDGE : Field := ⟨0x70000, 0x0, 0x0, 2, 1⟩
/-- TB.STATUS.HOLDOVER, RO; reset 0; 16 -/
def TB_STATUS_HOLDOVER : Field := ⟨0x70004, 0x0, 0x0, 0, 1⟩
/-- TB.STATUS.HOLD_WHY, RO; reset 0; 16 -/
def TB_STATUS_HOLD_WHY : Field := ⟨0x70004, 0x0, 0x0, 1, 3⟩
/-- TB.STATUS.STEER, RO; reset 0; 16 -/
def TB_STATUS_STEER : Field := ⟨0x70004, 0x0, 0x0, 4, 2⟩
/-- TB.STATUS.SAT, RO; reset 0; 16 -/
def TB_STATUS_SAT : Field := ⟨0x70004, 0x0, 0x0, 6, 6⟩
/-- TB.STATUS.ERA_ALIGNED, RO; reset 0; 16 -/
def TB_STATUS_ERA_ALIGNED : Field := ⟨0x70004, 0x0, 0x0, 12, 1⟩
/-- TB.NS, RO; reset 0; 16 -/
def TB_NS : Field := ⟨0x70008, 0x0, 0x0, 0, 32⟩
/-- TB.INC, RO; reset 0x0400_0000; 16 -/
def TB_INC : Field := ⟨0x7000c, 0x0, 0x0, 0, 32⟩
/-- TB.INC_LIMIT.PPM, RW; reset 100 (Almanac); 16 -/
def TB_INC_LIMIT_PPM : Field := ⟨0x70010, 0x0, 0x0, 0, 16⟩
/-- TB.HOLD_INC, RO; reset 0x0400_0000; 16 -/
def TB_HOLD_INC : Field := ⟨0x70014, 0x0, 0x0, 0, 32⟩
/-- TB.STEP_LO, RW; reset 0; 16 -/
def TB_STEP_LO : Field := ⟨0x70018, 0x0, 0x0, 0, 32⟩
/-- TB.STEP_HI.OFFSET, RW; reset 0; 16 -/
def TB_STEP_HI_OFFSET : Field := ⟨0x7001c, 0x0, 0x0, 0, 16⟩
/-- TB.STEP_HI.GO, SC; reset 0; 16 -/
def TB_STEP_HI_GO : Field := ⟨0x7001c, 0x0, 0x0, 31, 1⟩
/-- TB.WRAP.WRAPS, RO; reset 0; 16 -/
def TB_WRAP_WRAPS : Field := ⟨0x70020, 0x0, 0x0, 0, 16⟩
/-- TB.WRAP.STEPS, RO; reset 0; 16 -/
def TB_WRAP_STEPS : Field := ⟨0x70020, 0x0, 0x0, 16, 8⟩
/-- TB.SNAP_CTRL.TAKE, SC; reset 0; 16 -/
def TB_SNAP_CTRL_TAKE : Field := ⟨0x70024, 0x0, 0x0, 0, 1⟩
/-- TB.SNAP_NS, RO; reset 0; 16 -/
def TB_SNAP_NS : Field := ⟨0x70028, 0x0, 0x0, 0, 32⟩
/-- TB.SNAP_TAG, RO; reset 0; 16 -/
def TB_SNAP_TAG : Field := ⟨0x7002c, 0x0, 0x0, 0, 32⟩
/-- TB.FREF_NS, RO; reset 0; 16 -/
def TB_FREF_NS : Field := ⟨0x70030, 0x0, 0x0, 0, 32⟩
/-- TB.FREF_TAG, RO; reset 0; 16 -/
def TB_FREF_TAG : Field := ⟨0x70034, 0x0, 0x0, 0, 32⟩
/-- TB.DISC.SRC, RW; reset 0 (Almanac); 16 -/
def TB_DISC_SRC : Field := ⟨0x70038, 0x0, 0x0, 0, 2⟩
/-- TB.DISC.STATE, RO; reset 0; 16 -/
def TB_DISC_STATE : Field := ⟨0x70038, 0x0, 0x0, 2, 3⟩
/-- TB.DISC.ACCEPT, SC; reset 0; 16 -/
def TB_DISC_ACCEPT : Field := ⟨0x70038, 0x0, 0x0, 5, 1⟩
/-- TB.DISC.WINDOW_PPM, RW; reset 50 (Almanac); 16 -/
def TB_DISC_WINDOW_PPM : Field := ⟨0x70038, 0x0, 0x0, 8, 8⟩
/-- TB.DISC.REF_DIV, RW; reset 1 (Almanac); 16 -/
def TB_DISC_REF_DIV : Field := ⟨0x70038, 0x0, 0x0, 16, 16⟩
/-- TB.REF_NOM, RW; reset 1,000,000,000 (Almanac); 16 -/
def TB_REF_NOM : Field := ⟨0x7003c, 0x0, 0x0, 0, 32⟩
/-- TB.REF_DEV, RO; reset 0; 16 -/
def TB_REF_DEV : Field := ⟨0x70040, 0x0, 0x0, 0, 32⟩
/-- TB.LAST_STEP_LO, RO; reset 0; 16 -/
def TB_LAST_STEP_LO : Field := ⟨0x70044, 0x0, 0x0, 0, 32⟩
/-- TB.LAST_STEP_HI, RO; reset 0; 16 -/
def TB_LAST_STEP_HI : Field := ⟨0x70048, 0x0, 0x0, 0, 16⟩
/-- TB.INT_STATUS, W1C; reset 0; 16 -/
def TB_INT_STATUS : Field := ⟨0x7004c, 0x0, 0x0, 0, 11⟩
/-- TB.INT_EN, RW; reset 0; 16 -/
def TB_INT_EN : Field := ⟨0x70050, 0x0, 0x0, 0, 11⟩
/-- TB.GLITCH, RO; reset 0; 16 -/
def TB_GLITCH : Field := ⟨0x70054, 0x0, 0x0, 0, 32⟩
/-- TB.HOLDOVER, RO; reset 0; 16 -/
def TB_HOLDOVER : Field := ⟨0x70058, 0x0, 0x0, 0, 32⟩
/-- TB.PULSE_LATE, RO; reset 0; 16 -/
def TB_PULSE_LATE : Field := ⟨0x7005c, 0x0, 0x0, 0, 32⟩
/-- TB.PULSE_SKIP, RO; reset 0; 16 -/
def TB_PULSE_SKIP : Field := ⟨0x70060, 0x0, 0x0, 0, 32⟩
/-- TB.TSQ_OVF, RO; reset 0; 16 -/
def TB_TSQ_OVF : Field := ⟨0x70064, 0x4, 0x0, 0, 32⟩
/-- TB.FREF_CNT_LO, RO; reset 0; 16 -/
def TB_FREF_CNT_LO : Field := ⟨0x7006c, 0x0, 0x0, 0, 32⟩
/-- TB.FREF_CNT_HI, RO; reset 0; 16 -/
def TB_FREF_CNT_HI : Field := ⟨0x70070, 0x0, 0x0, 0, 32⟩
/-- TB.TSQ_HEAD.VALID, RO; reset 0; 16 -/
def TB_TSQ_HEAD_VALID : Field := ⟨0x70080, 0x10, 0x0, 0, 1⟩
/-- TB.TSQ_HEAD.MSG_TYPE, RO; reset 0; 16 -/
def TB_TSQ_HEAD_MSG_TYPE : Field := ⟨0x70080, 0x10, 0x0, 1, 3⟩
/-- TB.TSQ_HEAD.SEQ_ID, RO; reset 0; 16 -/
def TB_TSQ_HEAD_SEQ_ID : Field := ⟨0x70080, 0x10, 0x0, 4, 16⟩
/-- TB.TSQ_HEAD.LEVEL, RO; reset 0; 16 -/
def TB_TSQ_HEAD_LEVEL : Field := ⟨0x70080, 0x10, 0x0, 20, 5⟩
/-- TB.TSQ_NS, RO; reset 0; 16 -/
def TB_TSQ_NS : Field := ⟨0x70084, 0x10, 0x0, 0, 32⟩
/-- TB.TSQ_TAG.STAMP, RO; reset 0; 16 -/
def TB_TSQ_TAG_STAMP : Field := ⟨0x70088, 0x10, 0x0, 0, 24⟩
/-- TB.TSQ_TAG.POP, SC; reset 0; 16 -/
def TB_TSQ_TAG_POP : Field := ⟨0x70088, 0x10, 0x0, 31, 1⟩
/-- TB.PG_SEL.GEN, RW; reset 0; 16 -/
def TB_PG_SEL_GEN : Field := ⟨0x700a0, 0x0, 0x0, 0, 3⟩
/-- TB.PG_SEL.LOAD, SC; reset 0; 16 -/
def TB_PG_SEL_LOAD : Field := ⟨0x700a0, 0x0, 0x0, 4, 1⟩
/-- TB.PG_SEL.FETCH, SC; reset 0; 16 -/
def TB_PG_SEL_FETCH : Field := ⟨0x700a0, 0x0, 0x0, 5, 1⟩
/-- TB.PG_START, RW; reset 0; 16 -/
def TB_PG_START : Field := ⟨0x700a4, 0x0, 0x0, 0, 32⟩
/-- TB.PG_PERIOD, RW; reset 0; 16 -/
def TB_PG_PERIOD : Field := ⟨0x700a8, 0x0, 0x0, 0, 32⟩
/-- TB.PG_CTRL.MODE, RW; reset 0; 16 -/
def TB_PG_CTRL_MODE : Field := ⟨0x700ac, 0x0, 0x0, 0, 2⟩
/-- TB.PG_CTRL.PIN, RW; reset 0; 16 -/
def TB_PG_CTRL_PIN : Field := ⟨0x700ac, 0x0, 0x0, 2, 1⟩
/-- TB.PG_CTRL.INTERNAL, RW; reset 0; 16 -/
def TB_PG_CTRL_INTERNAL : Field := ⟨0x700ac, 0x0, 0x0, 3, 1⟩
/-- TB.PG_CTRL.INVERT, RW; reset 0; 16 -/
def TB_PG_CTRL_INVERT : Field := ⟨0x700ac, 0x0, 0x0, 5, 1⟩
/-- TB.PG_CTRL.WIDTH, RW; reset 0; 16 -/
def TB_PG_CTRL_WIDTH : Field := ⟨0x700ac, 0x0, 0x0, 6, 8⟩
/-- TB.PG_CTRL.FRAC, RW; reset 0; 16 -/
def TB_PG_CTRL_FRAC : Field := ⟨0x700ac, 0x0, 0x0, 16, 16⟩
/-- TB.PG_STATUS.ARMED, RO; reset 0; 16 -/
def TB_PG_STATUS_ARMED : Field := ⟨0x700b0, 0x0, 0x0, 0, 8⟩
/-- TB.PG_STATUS.FIRED, W1C; reset 0; 16 -/
def TB_PG_STATUS_FIRED : Field := ⟨0x700b0, 0x0, 0x0, 8, 8⟩
/-- TB.PG_STATUS.LATE, W1C; reset 0; 16 -/
def TB_PG_STATUS_LATE : Field := ⟨0x700b0, 0x0, 0x0, 16, 8⟩
/-- PREVIEW.STATE.FLAGS, RO; reset 0; 17 -/
def PREVIEW_STATE_FLAGS : Field := ⟨0xb0000, 0x0, 0x0, 0, 4⟩
/-- PREVIEW.STATE.BASE_KIND, RO; reset 0; 17 -/
def PREVIEW_STATE_BASE_KIND : Field := ⟨0xb0000, 0x0, 0x0, 4, 2⟩
/-- PREVIEW.STATE.BASE_ID, RO; reset 0; 17 -/
def PREVIEW_STATE_BASE_ID : Field := ⟨0xb0000, 0x0, 0x0, 6, 7⟩
/-- PREVIEW.STATE.PULSE_GEN, RO; reset 0; 17 -/
def PREVIEW_STATE_PULSE_GEN : Field := ⟨0xb0000, 0x0, 0x0, 13, 3⟩
/-- PREVIEW.STATE.LINK_RATE, RO; reset 0; 17 -/
def PREVIEW_STATE_LINK_RATE : Field := ⟨0xb0000, 0x0, 0x0, 16, 2⟩
/-- PREVIEW.STATE.LANE_BASE, RO; reset 0; 17 -/
def PREVIEW_STATE_LANE_BASE : Field := ⟨0xb0000, 0x0, 0x0, 18, 7⟩
/-- PREVIEW.STATE.SWAP_PENDING, RO; reset 0; 17 -/
def PREVIEW_STATE_SWAP_PENDING : Field := ⟨0xb0000, 0x0, 0x0, 25, 4⟩
/-- PREVIEW.STATE.GFX_SCALE2, RO; reset 0; 17 -/
def PREVIEW_STATE_GFX_SCALE2 : Field := ⟨0xb0000, 0x0, 0x0, 29, 1⟩
/-- PREVIEW.OUT_SIZE.W, RO; reset 0; 17 -/
def PREVIEW_OUT_SIZE_W : Field := ⟨0xb0004, 0x0, 0x0, 0, 13⟩
/-- PREVIEW.OUT_SIZE.H, RO; reset 0; 17 -/
def PREVIEW_OUT_SIZE_H : Field := ⟨0xb0004, 0x0, 0x0, 16, 13⟩
/-- PREVIEW.RATE_NUM, RO; reset 0; 17 -/
def PREVIEW_RATE_NUM : Field := ⟨0xb0008, 0x0, 0x0, 0, 32⟩
/-- PREVIEW.RATE_DEN, RO; reset 0; 17 -/
def PREVIEW_RATE_DEN : Field := ⟨0xb000c, 0x0, 0x0, 0, 32⟩
/-- PREVIEW.SRC_X, RO; reset 0; 17 -/
def PREVIEW_SRC_X : Field := ⟨0xb0010, 0x0, 0x0, 0, 16⟩
/-- PREVIEW.SRC_Y, RO; reset 0; 17 -/
def PREVIEW_SRC_Y : Field := ⟨0xb0014, 0x0, 0x0, 0, 16⟩
/-- PREVIEW.SRC_W, RO; reset 0; 17 -/
def PREVIEW_SRC_W : Field := ⟨0xb0018, 0x0, 0x0, 0, 16⟩
/-- PREVIEW.SRC_H, RO; reset 0; 17 -/
def PREVIEW_SRC_H : Field := ⟨0xb001c, 0x0, 0x0, 0, 16⟩
/-- PREVIEW.DST_X, RO; reset 0; 17 -/
def PREVIEW_DST_X : Field := ⟨0xb0020, 0x0, 0x0, 0, 16⟩
/-- PREVIEW.DST_Y, RO; reset 0; 17 -/
def PREVIEW_DST_Y : Field := ⟨0xb0024, 0x0, 0x0, 0, 16⟩
/-- PREVIEW.DST_W, RO; reset 0; 17 -/
def PREVIEW_DST_W : Field := ⟨0xb0028, 0x0, 0x0, 0, 16⟩
/-- PREVIEW.DST_H, RO; reset 0; 17 -/
def PREVIEW_DST_H : Field := ⟨0xb002c, 0x0, 0x0, 0, 16⟩
/-- PREVIEW.GFX_X, RO; reset 0; 17 -/
def PREVIEW_GFX_X : Field := ⟨0xb0030, 0x0, 0x0, 0, 16⟩
/-- PREVIEW.GFX_Y, RO; reset 0; 17 -/
def PREVIEW_GFX_Y : Field := ⟨0xb0034, 0x0, 0x0, 0, 16⟩
/-- PREVIEW.GFX_W, RO; reset 0; 17 -/
def PREVIEW_GFX_W : Field := ⟨0xb0038, 0x0, 0x0, 0, 16⟩
/-- PREVIEW.GFX_H, RO; reset 0; 17 -/
def PREVIEW_GFX_H : Field := ⟨0xb003c, 0x0, 0x0, 0, 16⟩
/-- PREVIEW.LAYERS.GFX_ALPHA, RO; reset 0; 17 -/
def PREVIEW_LAYERS_GFX_ALPHA : Field := ⟨0xb0040, 0x0, 0x0, 0, 8⟩
/-- PREVIEW.LAYERS.HX, RO; reset 0; 17 -/
def PREVIEW_LAYERS_HX : Field := ⟨0xb0040, 0x0, 0x0, 8, 7⟩
/-- PREVIEW.LAYERS.HY, RO; reset 0; 17 -/
def PREVIEW_LAYERS_HY : Field := ⟨0xb0040, 0x0, 0x0, 16, 7⟩
/-- PREVIEW.LAYERS.VISIBLE, RO; reset 0; 17 -/
def PREVIEW_LAYERS_VISIBLE : Field := ⟨0xb0040, 0x0, 0x0, 23, 1⟩
/-- PREVIEW.LANTERN_X, RO; reset 0; 17 -/
def PREVIEW_LANTERN_X : Field := ⟨0xb0044, 0x0, 0x0, 0, 16⟩
/-- PREVIEW.LANTERN_Y, RO; reset 0; 17 -/
def PREVIEW_LANTERN_Y : Field := ⟨0xb0048, 0x0, 0x0, 0, 16⟩
/-- PREVIEW.BACKGROUND, RW; reset 0x2008_0040 (Almanac); 17 -/
def PREVIEW_BACKGROUND : Field := ⟨0xb004c, 0x0, 0x0, 0, 30⟩
/-- PREVIEW.LAST_START, RO; reset 0; 17 -/
def PREVIEW_LAST_START : Field := ⟨0xb0050, 0x0, 0x0, 0, 32⟩
/-- PREVIEW.PIC_LO, RO; reset 0; 17 -/
def PREVIEW_PIC_LO : Field := ⟨0xb0054, 0x0, 0x0, 0, 32⟩
/-- PREVIEW.PIC_HI, RO; reset 0; 17 -/
def PREVIEW_PIC_HI : Field := ⟨0xb0058, 0x0, 0x0, 0, 32⟩
/-- PREVIEW.BASE_PIC_LO, RO; reset 0; 17 -/
def PREVIEW_BASE_PIC_LO : Field := ⟨0xb005c, 0x0, 0x0, 0, 32⟩
/-- PREVIEW.BASE_PIC_HI, RO; reset 0; 17 -/
def PREVIEW_BASE_PIC_HI : Field := ⟨0xb0060, 0x0, 0x0, 0, 32⟩
/-- PREVIEW.INT_STATUS, W1C; reset 0; 17 -/
def PREVIEW_INT_STATUS : Field := ⟨0xb0064, 0x0, 0x0, 0, 6⟩
/-- PREVIEW.INT_EN, RW; reset 0; 17 -/
def PREVIEW_INT_EN : Field := ⟨0xb0068, 0x0, 0x0, 0, 6⟩
/-- PREVIEW.SAT, RO; reset 0; 17 -/
def PREVIEW_SAT : Field := ⟨0xb006c, 0x0, 0x0, 0, 5⟩
/-- PREVIEW.LANES_LO, RO; reset 0; 17 -/
def PREVIEW_LANES_LO : Field := ⟨0xb0070, 0x0, 0x0, 0, 32⟩
/-- PREVIEW.LANES_HI, RO; reset 0; 17 -/
def PREVIEW_LANES_HI : Field := ⟨0xb0074, 0x0, 0x0, 0, 32⟩
/-- PREVIEW.PROXY_LO, RO; reset 0; 17 -/
def PREVIEW_PROXY_LO : Field := ⟨0xb0078, 0x0, 0x0, 0, 32⟩
/-- PREVIEW.PROXY_HI, RO; reset 0; 17 -/
def PREVIEW_PROXY_HI : Field := ⟨0xb007c, 0x0, 0x0, 0, 32⟩
/-- PREVIEW.BASE_REPEAT, RO; reset 0; 17 -/
def PREVIEW_BASE_REPEAT : Field := ⟨0xb0080, 0x0, 0x0, 0, 32⟩
/-- PREVIEW.BASE_MISSING, RO; reset 0; 17 -/
def PREVIEW_BASE_MISSING : Field := ⟨0xb0084, 0x0, 0x0, 0, 32⟩
/-- PREVIEW.LATE_LINE, RO; reset 0; 17 -/
def PREVIEW_LATE_LINE : Field := ⟨0xb0088, 0x0, 0x0, 0, 32⟩
/-- PREVIEW.READ_POISON, RO; reset 0; 17 -/
def PREVIEW_READ_POISON : Field := ⟨0xb008c, 0x0, 0x0, 0, 32⟩
/-- PREVIEW.LINK_RESTART, RO; reset 0; 17 -/
def PREVIEW_LINK_RESTART : Field := ⟨0xb0090, 0x0, 0x0, 0, 32⟩
/-- PREVIEW.LINE, RO; reset 0; 17 -/
def PREVIEW_LINE : Field := ⟨0xb0094, 0x0, 0x0, 0, 13⟩
/-- PREVIEW.BASE_AGE, RO; reset 0; 17 -/
def PREVIEW_BASE_AGE : Field := ⟨0xb0098, 0x0, 0x0, 0, 32⟩
/-- PREVIEW.LANE.POL_INV, RW; reset 0 (Almanac); 17 -/
def PREVIEW_LANE_POL_INV : Field := ⟨0xb00a0, 0x4, 0x0, 0, 1⟩
/-- PREVIEW.LANE.DEEMPH, RW; reset 2 (Almanac); 17 -/
def PREVIEW_LANE_DEEMPH : Field := ⟨0xb00a0, 0x4, 0x0, 1, 3⟩
/-- PREVIEW.ARRAY_CRC.CRC, RO; reset 0; 17 -/
def PREVIEW_ARRAY_CRC : Field := ⟨0xb00b0, 0x4, 0x0, 0, 32⟩
/-- PREVIEW.GFX_CSC.VALUE, RW; reset 2,991, 10,064, 1,016, −1,649, −5,547, 7, (Almanac); 17 -/
def PREVIEW_GFX_CSC_VALUE : Field := ⟨0xb00d4, 0x4, 0x0, 0, 16⟩
/-- AUDIO.CTRL.PLL_EN, RW; reset 1 (Almanac); 18 -/
def AUDIO_CTRL_PLL_EN : Field := ⟨0xa0000, 0x0, 0x0, 0, 1⟩
/-- AUDIO.CTRL.AMCLK_EN, RW; reset 0 (Almanac); 18 -/
def AUDIO_CTRL_AMCLK_EN : Field := ⟨0xa0000, 0x0, 0x0, 1, 1⟩
/-- AUDIO.STATUS.PLL_LOCK, RO; reset 0; 18 -/
def AUDIO_STATUS_PLL_LOCK : Field := ⟨0xa0004, 0x0, 0x0, 0, 1⟩
/-- AUDIO.STATUS.AMCLK_STATE, RO; reset 0; 18 -/
def AUDIO_STATUS_AMCLK_STATE : Field := ⟨0xa0004, 0x0, 0x0, 1, 2⟩
/-- AUDIO.PDM_CTRL.IN_EN, RW; reset 0 (Almanac); 18 -/
def AUDIO_PDM_CTRL_IN_EN : Field := ⟨0xa0008, 0x0, 0x0, 0, 16⟩
/-- AUDIO.PDM_CTRL.CLK_EN, RW; reset 0 (Almanac); 18 -/
def AUDIO_PDM_CTRL_CLK_EN : Field := ⟨0xa0008, 0x0, 0x0, 16, 2⟩
/-- AUDIO.PDM_CTRL.RATE, RW; reset 0 (Almanac); 18 -/
def AUDIO_PDM_CTRL_RATE : Field := ⟨0xa0008, 0x0, 0x0, 18, 1⟩
/-- AUDIO.AMCLK_HZ, RO; reset 0; 18 -/
def AUDIO_AMCLK_HZ : Field := ⟨0xa000c, 0x0, 0x0, 0, 32⟩
/-- AUDIO.INT_STATUS, W1C; reset 0; 18 -/
def AUDIO_INT_STATUS : Field := ⟨0xa0010, 0x0, 0x0, 0, 10⟩
/-- AUDIO.INT_EN, RW; reset 0; 18 -/
def AUDIO_INT_EN : Field := ⟨0xa0014, 0x0, 0x0, 0, 10⟩
/-- AUDIO.SAT, RO; reset 0; 18 -/
def AUDIO_SAT : Field := ⟨0xa0018, 0x0, 0x0, 0, 19⟩
/-- AUDIO.FADE.TIMEOUT_US, RO; reset 20,000; 18 -/
def AUDIO_FADE_TIMEOUT_US : Field := ⟨0xa001c, 0x0, 0x0, 0, 16⟩
/-- AUDIO.FADE.RAMP_US, RO; reset 1,000; 18 -/
def AUDIO_FADE_RAMP_US : Field := ⟨0xa001c, 0x0, 0x0, 16, 16⟩
/-- AUDIO.PDM_STUCK, RO; reset 0; 18 -/
def AUDIO_PDM_STUCK : Field := ⟨0xa0020, 0x0, 0x0, 0, 32⟩
/-- AUDIO.AMCLK_GLITCH, RO; reset 0; 18 -/
def AUDIO_AMCLK_GLITCH : Field := ⟨0xa0024, 0x0, 0x0, 0, 32⟩
/-- AUDIO.AMCLK_LOSS, RO; reset 0; 18 -/
def AUDIO_AMCLK_LOSS : Field := ⟨0xa0028, 0x0, 0x0, 0, 32⟩
/-- AUDIO.RAMPS_LO, RO; reset 0; 18 -/
def AUDIO_RAMPS_LO : Field := ⟨0xa002c, 0x0, 0x0, 0, 32⟩
/-- AUDIO.RAMPS_HI, RO; reset 0; 18 -/
def AUDIO_RAMPS_HI : Field := ⟨0xa0030, 0x0, 0x0, 0, 32⟩
/-- AUDIO.CROSSES_LO, RO; reset 0; 18 -/
def AUDIO_CROSSES_LO : Field := ⟨0xa0034, 0x0, 0x0, 0, 32⟩
/-- AUDIO.CROSSES_HI, RO; reset 0; 18 -/
def AUDIO_CROSSES_HI : Field := ⟨0xa0038, 0x0, 0x0, 0, 32⟩
/-- AUDIO.LAST_EVENT.CAUSE, RO; reset 0; 18 -/
def AUDIO_LAST_EVENT_CAUSE : Field := ⟨0xa003c, 0x0, 0x0, 0, 4⟩
/-- AUDIO.LAST_EVENT.PORT, RO; reset 0; 18 -/
def AUDIO_LAST_EVENT_PORT : Field := ⟨0xa003c, 0x0, 0x0, 8, 4⟩
/-- AUDIO.LAST_EVENT.MIC, RO; reset 0; 18 -/
def AUDIO_LAST_EVENT_MIC : Field := ⟨0xa003c, 0x0, 0x0, 16, 5⟩
/-- AUDIO.P_CFG.ROLE, RO; reset 0; 18 -/
def AUDIO_P_CFG_ROLE : Field := ⟨0xa0040, 0x40, 0x0, 0, 2⟩
/-- AUDIO.P_CFG.RATE, RO; reset 0; 18 -/
def AUDIO_P_CFG_RATE : Field := ⟨0xa0040, 0x40, 0x0, 2, 1⟩
/-- AUDIO.P_CFG.SLOTS, RO; reset 0; 18 -/
def AUDIO_P_CFG_SLOTS : Field := ⟨0xa0040, 0x40, 0x0, 3, 5⟩
/-- AUDIO.P_CFG.FS_FORM, RO; reset 0; 18 -/
def AUDIO_P_CFG_FS_FORM : Field := ⟨0xa0040, 0x40, 0x0, 8, 1⟩
/-- AUDIO.P_CFG.DELAY, RO; reset 0; 18 -/
def AUDIO_P_CFG_DELAY : Field := ⟨0xa0040, 0x40, 0x0, 9, 1⟩
/-- AUDIO.P_CFG.INVERT, RO; reset 0; 18 -/
def AUDIO_P_CFG_INVERT : Field := ⟨0xa0040, 0x40, 0x0, 10, 1⟩
/-- AUDIO.P_CFG.CLK_SRC, RO; reset 0; 18 -/
def AUDIO_P_CFG_CLK_SRC : Field := ⟨0xa0040, 0x40, 0x0, 11, 1⟩
/-- AUDIO.P_STATUS.CLK_GOOD, RO; reset 0; 18 -/
def AUDIO_P_STATUS_CLK_GOOD : Field := ⟨0xa0044, 0x40, 0x0, 0, 1⟩
/-- AUDIO.P_STATUS.OFF_RATE, RO; reset 0; 18 -/
def AUDIO_P_STATUS_OFF_RATE : Field := ⟨0xa0044, 0x40, 0x0, 1, 1⟩
/-- AUDIO.P_STATUS.ON_AMCLK, RO; reset 0; 18 -/
def AUDIO_P_STATUS_ON_AMCLK : Field := ⟨0xa0044, 0x40, 0x0, 2, 1⟩
/-- AUDIO.P_STATUS.SLIP_FILL, RO; reset 0; 18 -/
def AUDIO_P_STATUS_SLIP_FILL : Field := ⟨0xa0044, 0x40, 0x0, 3, 4⟩
/-- AUDIO.P_STATUS.LOST, RO; reset 0; 18 -/
def AUDIO_P_STATUS_LOST : Field := ⟨0xa0044, 0x40, 0x0, 7, 1⟩
/-- AUDIO.P_STATUS.RX_MUTED, RO; reset 0; 18 -/
def AUDIO_P_STATUS_RX_MUTED : Field := ⟨0xa0044, 0x40, 0x0, 16, 16⟩
/-- AUDIO.P_RX_MASK.PENDING, RW; reset 0 (Almanac); 18 -/
def AUDIO_P_RX_MASK_PENDING : Field := ⟨0xa0048, 0x40, 0x0, 0, 16⟩
/-- AUDIO.P_RX_MASK.ACTIVE, RO; reset 0; 18 -/
def AUDIO_P_RX_MASK_ACTIVE : Field := ⟨0xa0048, 0x40, 0x0, 16, 16⟩
/-- AUDIO.P_TX_MASK.PENDING, RW; reset 0 (Almanac); 18 -/
def AUDIO_P_TX_MASK_PENDING : Field := ⟨0xa004c, 0x40, 0x0, 0, 16⟩
/-- AUDIO.P_TX_MASK.ACTIVE, RO; reset 0; 18 -/
def AUDIO_P_TX_MASK_ACTIVE : Field := ⟨0xa004c, 0x40, 0x0, 16, 16⟩
/-- AUDIO.P_RATE_MEAS, RO; reset 0; 18 -/
def AUDIO_P_RATE_MEAS : Field := ⟨0xa0050, 0x40, 0x0, 0, 32⟩
/-- AUDIO.P_RATE_REP, RO; reset 0; 18 -/
def AUDIO_P_RATE_REP : Field := ⟨0xa0054, 0x40, 0x0, 0, 32⟩
/-- AUDIO.P_TX_SRC_0, RW; reset 0xFEFE_FEFE (Almanac); 18 -/
def AUDIO_P_TX_SRC_0 : Field := ⟨0xa0058, 0x40, 0x0, 0, 32⟩
/-- AUDIO.P_TX_SRC_1, RW; reset 0xFEFE_FEFE (Almanac); 18 -/
def AUDIO_P_TX_SRC_1 : Field := ⟨0xa005c, 0x40, 0x0, 0, 32⟩
/-- AUDIO.P_TX_SRC_2, RW; reset 0xFEFE_FEFE (Almanac); 18 -/
def AUDIO_P_TX_SRC_2 : Field := ⟨0xa0060, 0x40, 0x0, 0, 32⟩
/-- AUDIO.P_TX_SRC_3, RW; reset 0xFEFE_FEFE (Almanac); 18 -/
def AUDIO_P_TX_SRC_3 : Field := ⟨0xa0064, 0x40, 0x0, 0, 32⟩
/-- AUDIO.P_GLITCH, RO; reset 0; 18 -/
def AUDIO_P_GLITCH : Field := ⟨0xa0068, 0x40, 0x0, 0, 32⟩
/-- AUDIO.P_CLK_LOSS, RO; reset 0; 18 -/
def AUDIO_P_CLK_LOSS : Field := ⟨0xa006c, 0x40, 0x0, 0, 32⟩
/-- AUDIO.P_SLIP, RO; reset 0; 18 -/
def AUDIO_P_SLIP : Field := ⟨0xa0070, 0x40, 0x0, 0, 32⟩
/-- AUDIO.P_RATE_CHANGE, RO; reset 0; 18 -/
def AUDIO_P_RATE_CHANGE : Field := ⟨0xa0074, 0x40, 0x0, 0, 32⟩
/-- AUDIO.P_FRAMES_LO, RO; reset 0; 18 -/
def AUDIO_P_FRAMES_LO : Field := ⟨0xa0078, 0x40, 0x0, 0, 32⟩
/-- AUDIO.P_FRAMES_HI, RO; reset 0; 18 -/
def AUDIO_P_FRAMES_HI : Field := ⟨0xa007c, 0x40, 0x0, 0, 32⟩
/-- AUDIO.MIC.GAIN, RW; reset 0 (Almanac); 18 -/
def AUDIO_MIC_GAIN : Field := ⟨0xa0140, 0x4, 0x0, 0, 8⟩
/-- AUDIO.MIC.FADE, RO; reset 0; 18 -/
def AUDIO_MIC_FADE : Field := ⟨0xa0140, 0x4, 0x0, 8, 2⟩
/-- AUDIO.MIC.MUTED, RO; reset 0; 18 -/
def AUDIO_MIC_MUTED : Field := ⟨0xa0140, 0x4, 0x0, 10, 1⟩
/-- AUDIO.MIC.STUCK, RO; reset 0; 18 -/
def AUDIO_MIC_STUCK : Field := ⟨0xa0140, 0x4, 0x0, 11, 1⟩
/-- AUDIO.STREAM.STARTED, RO; reset 0; 18 -/
def AUDIO_STREAM_STARTED : Field := ⟨0xa01c0, 0x4, 0x0, 0, 1⟩
/-- AUDIO.STREAM.RATE, RO; reset 0; 18 -/
def AUDIO_STREAM_RATE : Field := ⟨0xa01c0, 0x4, 0x0, 1, 1⟩
/-- AUDIO.STREAM.COUNT, RO; reset 0; 18 -/
def AUDIO_STREAM_COUNT : Field := ⟨0xa01c0, 0x4, 0x0, 2, 7⟩
/-- AUDIO.STREAM.MUTED, RO; reset 0; 18 -/
def AUDIO_STREAM_MUTED : Field := ⟨0xa01c0, 0x4, 0x0, 9, 1⟩
/-- AUDIO.STREAM.FADE, RO; reset 0; 18 -/
def AUDIO_STREAM_FADE : Field := ⟨0xa01c0, 0x4, 0x0, 10, 2⟩
/-- AUDIO.STREAM.RECORD_BOUND, RO; reset 0; 18 -/
def AUDIO_STREAM_RECORD_BOUND : Field := ⟨0xa01c0, 0x4, 0x0, 12, 1⟩
/-- AUDIO.STREAM.EGRESS_BOUND, RO; reset 0; 18 -/
def AUDIO_STREAM_EGRESS_BOUND : Field := ⟨0xa01c0, 0x4, 0x0, 13, 1⟩
/-- AUDIO.STREAM.LINEAGE, RO; reset 0; 18 -/
def AUDIO_STREAM_LINEAGE : Field := ⟨0xa01c0, 0x4, 0x0, 16, 16⟩
/-- CRC.CTRL.POLY, RW; reset 1 (Almanac); 19 -/
def CRC_CTRL_POLY : Field := ⟨0x80000, 0x40, 0x0, 0, 2⟩
/-- CRC.CTRL.GUARD_LEN, RW; reset 2 (Almanac); 19 -/
def CRC_CTRL_GUARD_LEN : Field := ⟨0x80000, 0x40, 0x0, 2, 2⟩
/-- CRC.CTRL.START, SC; reset 0; 19 -/
def CRC_CTRL_START : Field := ⟨0x80000, 0x40, 0x0, 4, 1⟩
/-- CRC.CTRL.FINISH, SC; reset 0; 19 -/
def CRC_CTRL_FINISH : Field := ⟨0x80000, 0x40, 0x0, 5, 1⟩
/-- CRC.CTRL.EXP_SEL, RW; reset 0; 19 -/
def CRC_CTRL_EXP_SEL : Field := ⟨0x80000, 0x40, 0x0, 6, 1⟩
/-- CRC.CTRL.INT_EN, RW; reset 0; 19 -/
def CRC_CTRL_INT_EN : Field := ⟨0x80000, 0x40, 0x0, 7, 1⟩
/-- CRC.CTRL.BUSY, RO; reset 0; 19 -/
def CRC_CTRL_BUSY : Field := ⟨0x80000, 0x40, 0x0, 8, 1⟩
/-- CRC.CTRL.FINISHED, RO; reset 0; 19 -/
def CRC_CTRL_FINISHED : Field := ⟨0x80000, 0x40, 0x0, 9, 1⟩
/-- CRC.CTRL.MATCH, RO; reset 0; 19 -/
def CRC_CTRL_MATCH : Field := ⟨0x80000, 0x40, 0x0, 10, 1⟩
/-- CRC.CTRL.MISMATCH, W1C; reset 0; 19 -/
def CRC_CTRL_MISMATCH : Field := ⟨0x80000, 0x40, 0x0, 11, 1⟩
/-- CRC.CTRL.ORDER_ERR, W1C; reset 0; 19 -/
def CRC_CTRL_ORDER_ERR : Field := ⟨0x80000, 0x40, 0x0, 12, 1⟩
/-- CRC.CTRL.FW_OWNED, RO; reset 1 for unit 7, else 0; 19 -/
def CRC_CTRL_FW_OWNED : Field := ⟨0x80000, 0x40, 0x0, 13, 1⟩
/-- CRC.CTRL.ACTIVE_POLY, RO; reset 0; 19 -/
def CRC_CTRL_ACTIVE_POLY : Field := ⟨0x80000, 0x40, 0x0, 14, 2⟩
/-- CRC.GUARD, RW; reset 0; 19 -/
def CRC_GUARD : Field := ⟨0x80004, 0x40, 0x0, 0, 32⟩
/-- CRC.DATA8, WO; reset 0; 19 -/
def CRC_DATA8 : Field := ⟨0x80008, 0x40, 0x0, 0, 8⟩
/-- CRC.DATA16, WO; reset 0; 19 -/
def CRC_DATA16 : Field := ⟨0x8000c, 0x40, 0x0, 0, 16⟩
/-- CRC.DATA32, WO; reset 0; 19 -/
def CRC_DATA32 : Field := ⟨0x80010, 0x40, 0x0, 0, 32⟩
/-- CRC.VALUE_LO, RW; reset 0; 19 -/
def CRC_VALUE_LO : Field := ⟨0x80014, 0x40, 0x0, 0, 32⟩
/-- CRC.VALUE_HI, RW; reset 0; 19 -/
def CRC_VALUE_HI : Field := ⟨0x80018, 0x40, 0x0, 0, 32⟩
/-- CRC.EXPECT, RW; reset 0; 19 -/
def CRC_EXPECT : Field := ⟨0x8001c, 0x40, 0x0, 0, 32⟩
/-- PWR.CTRL.AUTO_EN, RW; reset 1 (Almanac); 20 -/
def PWR_CTRL_AUTO_EN : Field := ⟨0x50000, 0x0, 0x0, 0, 1⟩
/-- PWR.CTRL.GUARD, RW; reset 20 (Almanac); 20 -/
def PWR_CTRL_GUARD : Field := ⟨0x50000, 0x0, 0x0, 8, 8⟩
/-- PWR.STATUS.ACTIVE, RO; reset 0; 20 -/
def PWR_STATUS_ACTIVE : Field := ⟨0x50004, 0x0, 0x0, 0, 8⟩
/-- PWR.STATUS.GATED, RO; reset 0; 20 -/
def PWR_STATUS_GATED : Field := ⟨0x50004, 0x0, 0x0, 8, 8⟩
/-- PWR.STATUS.RETAIN, RO; reset 0; 20 -/
def PWR_STATUS_RETAIN : Field := ⟨0x50004, 0x0, 0x0, 16, 8⟩
/-- PWR.STATUS.OFF, RO; reset 0; 20 -/
def PWR_STATUS_OFF : Field := ⟨0x50004, 0x0, 0x0, 24, 8⟩
/-- PWR.BE_GATED, RW; reset 200 (Almanac); 20 -/
def PWR_BE_GATED : Field := ⟨0x50008, 0x0, 0x0, 0, 32⟩
/-- PWR.BE_RETAIN, RW; reset 10,000 (Almanac); 20 -/
def PWR_BE_RETAIN : Field := ⟨0x5000c, 0x0, 0x0, 0, 32⟩
/-- PWR.BE_OFF, RW; reset 200,000 (Almanac); 20 -/
def PWR_BE_OFF : Field := ⟨0x50010, 0x0, 0x0, 0, 32⟩
/-- PWR.ALARMS, RO; reset 0; 20 -/
def PWR_ALARMS : Field := ⟨0x50014, 0x0, 0x0, 0, 8⟩
/-- PWR.INT_STATUS, W1C; reset 0; 20 -/
def PWR_INT_STATUS : Field := ⟨0x50018, 0x0, 0x0, 0, 4⟩
/-- PWR.INT_EN, RW; reset 0; 20 -/
def PWR_INT_EN : Field := ⟨0x5001c, 0x0, 0x0, 0, 4⟩
/-- PWR.WAKES_LO, RO; reset 0; 20 -/
def PWR_WAKES_LO : Field := ⟨0x50020, 0x0, 0x0, 0, 32⟩
/-- PWR.WAKES_HI, RO; reset 0; 20 -/
def PWR_WAKES_HI : Field := ⟨0x50024, 0x0, 0x0, 0, 32⟩
/-- PWR.LATE_WAKE, RO; reset 0; 20 -/
def PWR_LATE_WAKE : Field := ⟨0x50028, 0x0, 0x0, 0, 32⟩
/-- PWR.WAKE_FAIL, RO; reset 0; 20 -/
def PWR_WAKE_FAIL : Field := ⟨0x5002c, 0x0, 0x0, 0, 32⟩
/-- PWR.SAT, RO; reset 0; 20 -/
def PWR_SAT : Field := ⟨0x50030, 0x0, 0x0, 0, 2⟩
/-- PWR.LAST_EVENT.DOMAIN, RO; reset 0; 20 -/
def PWR_LAST_EVENT_DOMAIN : Field := ⟨0x50034, 0x0, 0x0, 0, 8⟩
/-- PWR.LAST_EVENT.CAUSE, RO; reset 0; 20 -/
def PWR_LAST_EVENT_CAUSE : Field := ⟨0x50034, 0x0, 0x0, 8, 2⟩
/-- PWR.DECISIONS_LO, RO; reset 0; 20 -/
def PWR_DECISIONS_LO : Field := ⟨0x50038, 0x0, 0x0, 0, 32⟩
/-- PWR.DECISIONS_HI, RO; reset 0; 20 -/
def PWR_DECISIONS_HI : Field := ⟨0x5003c, 0x0, 0x0, 0, 32⟩
/-- PWR.WAKE_MAX, RC; reset 0; 20 -/
def PWR_WAKE_MAX : Field := ⟨0x50040, 0x0, 0x0, 0, 32⟩
/-- PWR.DOM.STATE, RO; reset 3; 20 -/
def PWR_DOM_STATE : Field := ⟨0x50100, 0x4, 0x0, 0, 2⟩
/-- PWR.DOM.FLOOR, RO; reset 3; 20 -/
def PWR_DOM_FLOOR : Field := ⟨0x50100, 0x4, 0x0, 2, 2⟩
/-- PWR.DOM.FORCE, RW; reset 0; 20 -/
def PWR_DOM_FORCE : Field := ⟨0x50100, 0x4, 0x0, 4, 2⟩
/-- PWR.DOM.FENCED, RO; reset 0; 20 -/
def PWR_DOM_FENCED : Field := ⟨0x50100, 0x4, 0x0, 6, 1⟩
/-- PWR.DOM.ALARM, RO; reset 0; 20 -/
def PWR_DOM_ALARM : Field := ⟨0x50100, 0x4, 0x0, 7, 1⟩
/-- PWR.DOM.CHANGING, RO; reset 0; 20 -/
def PWR_DOM_CHANGING : Field := ⟨0x50100, 0x4, 0x0, 8, 1⟩
/-- CLK.STATUS.RES_RUN, RO; reset 0; 20 -/
def CLK_STATUS_RES_RUN : Field := ⟨0x60000, 0x0, 0x0, 0, 1⟩
/-- CLK.STATUS.RES_STABLE, RO; reset 0; 20 -/
def CLK_STATUS_RES_STABLE : Field := ⟨0x60000, 0x0, 0x0, 1, 1⟩
/-- CLK.STATUS.KOSC_OK, RO; reset 0; 20 -/
def CLK_STATUS_KOSC_OK : Field := ⟨0x60000, 0x0, 0x0, 2, 1⟩
/-- CLK.PLL_LOCK, RO; reset 0; 20 -/
def CLK_PLL_LOCK : Field := ⟨0x60004, 0x0, 0x0, 0, 17⟩
/-- CLK.PLL_ON, RO; reset 0; 20 -/
def CLK_PLL_ON : Field := ⟨0x60008, 0x0, 0x0, 0, 17⟩
/-- CLK.RES_TRIM, RW; reset 0 (Almanac); 20 -/
def CLK_RES_TRIM : Field := ⟨0x6000c, 0x0, 0x0, 0, 16⟩
/-- CLK.TRIM_NOW, RO; reset 0; 20 -/
def CLK_TRIM_NOW : Field := ⟨0x60010, 0x0, 0x0, 0, 16⟩
/-- CLK.KOSC_MEAS, RO; reset 0; 20 -/
def CLK_KOSC_MEAS : Field := ⟨0x60014, 0x0, 0x0, 0, 32⟩
/-- CLK.INT_STATUS, W1C; reset 0; 20 -/
def CLK_INT_STATUS : Field := ⟨0x60018, 0x0, 0x0, 0, 5⟩
/-- CLK.INT_EN, RW; reset 0; 20 -/
def CLK_INT_EN : Field := ⟨0x6001c, 0x0, 0x0, 0, 5⟩
/-- CLK.FORCE_ON, RW; reset 0; 20 -/
def CLK_FORCE_ON : Field := ⟨0x60020, 0x0, 0x0, 0, 17⟩
/-- CLK.PLL_UNLOCK, RO; reset 0; 20 -/
def CLK_PLL_UNLOCK : Field := ⟨0x60024, 0x0, 0x0, 0, 32⟩
/-- CLK.RES_FAULT, RO; reset 0; 20 -/
def CLK_RES_FAULT : Field := ⟨0x60028, 0x0, 0x0, 0, 32⟩
/-- CLK.SAT, RO; reset 0; 20 -/
def CLK_SAT : Field := ⟨0x6002c, 0x0, 0x0, 0, 5⟩
/-- CLK.LAST_EVENT.PLL, RO; reset 0; 20 -/
def CLK_LAST_EVENT_PLL : Field := ⟨0x60030, 0x0, 0x0, 0, 5⟩
/-- CLK.LAST_EVENT.CAUSE, RO; reset 0; 20 -/
def CLK_LAST_EVENT_CAUSE : Field := ⟨0x60030, 0x0, 0x0, 5, 3⟩
/-- CLK.STARTS_LO, RO; reset 0; 20 -/
def CLK_STARTS_LO : Field := ⟨0x60034, 0x0, 0x0, 0, 32⟩
/-- CLK.STARTS_HI, RO; reset 0; 20 -/
def CLK_STARTS_HI : Field := ⟨0x60038, 0x0, 0x0, 0, 32⟩
/-- CLK.LOCK_MAX, RC; reset 0; 20 -/
def CLK_LOCK_MAX : Field := ⟨0x6003c, 0x0, 0x0, 0, 32⟩
/-- CLK.QCFG.QUAL_PPM, RW; reset 100 (Almanac); 20 -/
def CLK_QCFG_QUAL_PPM : Field := ⟨0x60040, 0x20, 0x0, 0, 16⟩
/-- CLK.QSTATE.STATE, RO; reset 0; 20 -/
def CLK_QSTATE_STATE : Field := ⟨0x60044, 0x20, 0x0, 0, 2⟩
/-- CLK.QSTATE.GOOD, RO; reset 0; 20 -/
def CLK_QSTATE_GOOD : Field := ⟨0x60044, 0x20, 0x0, 2, 5⟩
/-- CLK.QSTATE.QUAL_SLOW, RO; reset 0; 20 -/
def CLK_QSTATE_QUAL_SLOW : Field := ⟨0x60044, 0x20, 0x0, 7, 1⟩
/-- CLK.MEAS, RO; reset 0; 20 -/
def CLK_MEAS : Field := ⟨0x60048, 0x20, 0x0, 0, 32⟩
/-- CLK.QUAL_TIME, RO; reset 0; 20 -/
def CLK_QUAL_TIME : Field := ⟨0x6004c, 0x20, 0x0, 0, 32⟩
/-- CLK.DISQUAL, RO; reset 0; 20 -/
def CLK_DISQUAL : Field := ⟨0x60050, 0x20, 0x0, 0, 32⟩
/-- CLK.PLL.LOCK, RO; reset 0; 20 -/
def CLK_PLLS_LOCK : Field := ⟨0x600a0, 0x4, 0x0, 0, 1⟩
/-- CLK.PLL.LOOP_B, RO; reset 0; 20 -/
def CLK_PLLS_LOOP_B : Field := ⟨0x600a0, 0x4, 0x0, 1, 1⟩
/-- CLK.PLL.FAILED, RO; reset 0; 20 -/
def CLK_PLLS_FAILED : Field := ⟨0x600a0, 0x4, 0x0, 2, 1⟩
/-- CLK.PLL.LOCK_US, RO; reset 0; 20 -/
def CLK_PLLS_LOCK_US : Field := ⟨0x600a0, 0x4, 0x0, 4, 16⟩
/-- THERM.CTRL.THROTTLE_EN, RW; reset 1; 21 -/
def THERM_CTRL_THROTTLE_EN : Field := ⟨0x40000, 0x0, 0x0, 0, 1⟩
/-- THERM.CTRL.STEP_DOWN_MS, RW; reset 10 (Almanac); 21 -/
def THERM_CTRL_STEP_DOWN_MS : Field := ⟨0x40000, 0x0, 0x0, 8, 8⟩
/-- THERM.STATUS.LEVEL, RO; reset 0; 21 -/
def THERM_STATUS_LEVEL : Field := ⟨0x40004, 0x0, 0x0, 0, 2⟩
/-- THERM.STATUS.HOLD, RO; reset 0; 21 -/
def THERM_STATUS_HOLD : Field := ⟨0x40004, 0x0, 0x0, 2, 1⟩
/-- THERM.STATUS.NVW_OK, RO; reset 0; 21 -/
def THERM_STATUS_NVW_OK : Field := ⟨0x40004, 0x0, 0x0, 3, 1⟩
/-- THERM.STATUS.VALID, RO; reset 0; 21 -/
def THERM_STATUS_VALID : Field := ⟨0x40004, 0x0, 0x0, 4, 6⟩
/-- THERM.ZONE_LEVEL, RO; reset 0; 21 -/
def THERM_ZONE_LEVEL : Field := ⟨0x40008, 0x0, 0x0, 0, 26⟩
/-- THERM.SHED.S_T, RO; reset 0; 21 -/
def THERM_SHED_S_T : Field := ⟨0x4000c, 0x0, 0x0, 0, 4⟩
/-- THERM.SHED.S_TARGET, RO; reset 0; 21 -/
def THERM_SHED_S_TARGET : Field := ⟨0x4000c, 0x0, 0x0, 4, 4⟩
/-- THERM.SHED.ZONE, RO; reset 0; 21 -/
def THERM_SHED_ZONE : Field := ⟨0x4000c, 0x0, 0x0, 8, 4⟩
/-- THERM.SHED.HOLD_LEFT_MS, RO; reset 0; 21 -/
def THERM_SHED_HOLD_LEFT_MS : Field := ⟨0x4000c, 0x0, 0x0, 16, 16⟩
/-- THERM.FAILED_LO, RO; reset 0; 21 -/
def THERM_FAILED_LO : Field := ⟨0x40010, 0x0, 0x0, 0, 32⟩
/-- THERM.FAILED_HI, RO; reset 0; 21 -/
def THERM_FAILED_HI : Field := ⟨0x40014, 0x0, 0x0, 0, 6⟩
/-- THERM.COMP_FAIL, RO; reset 0; 21 -/
def THERM_COMP_FAIL : Field := ⟨0x40018, 0x0, 0x0, 0, 26⟩
/-- THERM.HOTTEST.SENSOR, RO; reset 0; 21 -/
def THERM_HOTTEST_SENSOR : Field := ⟨0x4001c, 0x0, 0x0, 0, 6⟩
/-- THERM.HOTTEST.T, RO; reset 0; 21 -/
def THERM_HOTTEST_T : Field := ⟨0x4001c, 0x0, 0x0, 16, 16⟩
/-- THERM.INT_STATUS, W1C; reset 0; 21 -/
def THERM_INT_STATUS : Field := ⟨0x40020, 0x0, 0x0, 0, 6⟩
/-- THERM.INT_EN, RW; reset 0; 21 -/
def THERM_INT_EN : Field := ⟨0x40024, 0x0, 0x0, 0, 6⟩
/-- THERM.WARN_CNT, RO; reset 0; 21 -/
def THERM_WARN_CNT : Field := ⟨0x40028, 0x0, 0x0, 0, 32⟩
/-- THERM.THROTTLE_CNT, RO; reset 0; 21 -/
def THERM_THROTTLE_CNT : Field := ⟨0x4002c, 0x0, 0x0, 0, 32⟩
/-- THERM.SENSOR_FAIL_CNT, RO; reset 0; 21 -/
def THERM_SENSOR_FAIL_CNT : Field := ⟨0x40030, 0x0, 0x0, 0, 32⟩
/-- THERM.HOLD_CNT, RO; reset 0; 21 -/
def THERM_HOLD_CNT : Field := ⟨0x40034, 0x0, 0x0, 0, 32⟩
/-- THERM.SAT, RO; reset 0; 21 -/
def THERM_SAT : Field := ⟨0x40038, 0x0, 0x0, 0, 4⟩
/-- THERM.LAST_EVENT.SENSOR, RO; reset 0; 21 -/
def THERM_LAST_EVENT_SENSOR : Field := ⟨0x4003c, 0x0, 0x0, 0, 6⟩
/-- THERM.LAST_EVENT.ZONE, RO; reset 0; 21 -/
def THERM_LAST_EVENT_ZONE : Field := ⟨0x4003c, 0x0, 0x0, 8, 4⟩
/-- THERM.LAST_EVENT.CAUSE, RO; reset 0; 21 -/
def THERM_LAST_EVENT_CAUSE : Field := ⟨0x4003c, 0x0, 0x0, 12, 4⟩
/-- THERM.LAST_TRIP.ZONE, RO; reset 0; 21 -/
def THERM_LAST_TRIP_ZONE : Field := ⟨0x40040, 0x0, 0x0, 0, 4⟩
/-- THERM.LAST_TRIP.SOURCE, RO; reset 0; 21 -/
def THERM_LAST_TRIP_SOURCE : Field := ⟨0x40040, 0x0, 0x0, 4, 2⟩
/-- THERM.LAST_TRIP.WAIT_S, RO; reset 0; 21 -/
def THERM_LAST_TRIP_WAIT_S : Field := ⟨0x40040, 0x0, 0x0, 16, 16⟩
/-- THERM.PEAK, RC; reset 0; 21 -/
def THERM_PEAK : Field := ⟨0x40044, 0x0, 0x0, 0, 16⟩
/-- THERM.COMP_STATE, RO; reset 0; 21 -/
def THERM_COMP_STATE : Field := ⟨0x40048, 0x0, 0x0, 0, 13⟩
/-- THERM.ZONE_T.LOW, RO; reset 0; 21 -/
def THERM_ZONE_T_LOW : Field := ⟨0x40050, 0x4, 0x0, 0, 16⟩
/-- THERM.ZONE_T.HIGH, RO; reset 0; 21 -/
def THERM_ZONE_T_HIGH : Field := ⟨0x40050, 0x4, 0x0, 16, 16⟩
/-- THERM.SENSOR.T, RO; reset 0; 21 -/
def THERM_SENSOR_T : Field := ⟨0x40080, 0x4, 0x0, 0, 16⟩
/-- THERM.SENSOR.FAILED, RO; reset 0; 21 -/
def THERM_SENSOR_FAILED : Field := ⟨0x40080, 0x4, 0x0, 16, 1⟩
/-- THERM.SENSOR.WHY, RO; reset 0; 21 -/
def THERM_SENSOR_WHY : Field := ⟨0x40080, 0x4, 0x0, 17, 2⟩
/-- THERM.SENSOR.INJECTED, RO; reset 0; 21 -/
def THERM_SENSOR_INJECTED : Field := ⟨0x40080, 0x4, 0x0, 19, 1⟩
/-- THERM.SENSOR.ZONE, RO; reset As R464; 21 -/
def THERM_SENSOR_ZONE : Field := ⟨0x40080, 0x4, 0x0, 24, 4⟩
/-- KEEPER.EVLOG_SEQ_LO, RO; reset 0; 22 -/
def KEEPER_EVLOG_SEQ_LO : Field := ⟨0x40, 0x0, 0x0, 0, 32⟩
/-- KEEPER.EVLOG_SEQ_HI, RO; reset 0; 22 -/
def KEEPER_EVLOG_SEQ_HI : Field := ⟨0x44, 0x0, 0x0, 0, 32⟩
/-- KEEPER.EVLOG_DROPPED, RO; reset 0; 22 -/
def KEEPER_EVLOG_DROPPED : Field := ⟨0x48, 0x0, 0x0, 0, 32⟩
/-- PERTURB.CTRL.KILL, W1S; reset 0; 22 -/
def PERTURB_CTRL_KILL : Field := ⟨0x90000, 0x0, 0x0, 0, 7⟩
/-- PERTURB.STATUS.ACTIVE, RO; reset 0; 22 -/
def PERTURB_STATUS_ACTIVE : Field := ⟨0x90004, 0x0, 0x0, 0, 7⟩
/-- PERTURB.STATUS.LOCKED, RO; reset 0; 22 -/
def PERTURB_STATUS_LOCKED : Field := ⟨0x90004, 0x0, 0x0, 7, 1⟩
/-- PERTURB.STATUS.REFUSALS, RO; reset 0; 22 -/
def PERTURB_STATUS_REFUSALS : Field := ⟨0x90004, 0x0, 0x0, 8, 3⟩
/-- PERTURB.KEY_ID, RO; reset 0xFFFF; 22 -/
def PERTURB_KEY_ID : Field := ⟨0x90008, 0x0, 0x0, 0, 16⟩
/-- PERTURB.LIVE_PERMIT, RO; reset 0; 22 -/
def PERTURB_LIVE_PERMIT : Field := ⟨0x9000c, 0x0, 0x0, 0, 7⟩
/-- PERTURB.SET_CNT, RO; reset 0; 22 -/
def PERTURB_SET_CNT : Field := ⟨0x90010, 0x0, 0x0, 0, 32⟩
/-- PERTURB.KEY_FAIL, RO; reset 0; 22 -/
def PERTURB_KEY_FAIL : Field := ⟨0x90014, 0x0, 0x0, 0, 32⟩
/-- PERTURB.INJECTED_LO, RO; reset 0; 22 -/
def PERTURB_INJECTED_LO : Field := ⟨0x90018, 0x0, 0x0, 0, 32⟩
/-- PERTURB.INJECTED_HI, RO; reset 0; 22 -/
def PERTURB_INJECTED_HI : Field := ⟨0x9001c, 0x0, 0x0, 0, 32⟩
/-- PERTURB.K_CFG.EN, RW; reset 0; 22 -/
def PERTURB_K_CFG_EN : Field := ⟨0x90040, 0x20, 0x0, 0, 1⟩
/-- PERTURB.K_CFG.ACTIVE, RO; reset 0; 22 -/
def PERTURB_K_CFG_ACTIVE : Field := ⟨0x90040, 0x20, 0x0, 1, 1⟩
/-- PERTURB.K_CFG.LIVE_OK, RO; reset 0; 22 -/
def PERTURB_K_CFG_LIVE_OK : Field := ⟨0x90040, 0x20, 0x0, 2, 1⟩
/-- PERTURB.K_CFG.SAT, RO; reset 0; 22 -/
def PERTURB_K_CFG_SAT : Field := ⟨0x90040, 0x20, 0x0, 3, 1⟩
/-- PERTURB.K_TARGET, RW; reset 0; 22 -/
def PERTURB_K_TARGET : Field := ⟨0x90044, 0x20, 0x0, 0, 32⟩
/-- PERTURB.K_PARAM0, RW; reset 0; 22 -/
def PERTURB_K_PARAM0 : Field := ⟨0x90048, 0x20, 0x0, 0, 32⟩
/-- PERTURB.K_PARAM1, RW; reset 0; 22 -/
def PERTURB_K_PARAM1 : Field := ⟨0x9004c, 0x20, 0x0, 0, 32⟩
/-- PERTURB.K_SEED, RW; reset 1; 22 -/
def PERTURB_K_SEED : Field := ⟨0x90050, 0x20, 0x0, 0, 31⟩
/-- PERTURB.K_START, RW; reset 0; 22 -/
def PERTURB_K_START : Field := ⟨0x90054, 0x20, 0x0, 0, 32⟩
/-- PERTURB.K_DURATION, RW; reset 0; 22 -/
def PERTURB_K_DURATION : Field := ⟨0x90058, 0x20, 0x0, 0, 32⟩
/-- PERTURB.K_COUNT, RO; reset 0; 22 -/
def PERTURB_K_COUNT : Field := ⟨0x9005c, 0x20, 0x0, 0, 32⟩
/-- KEEPER.STRAPS.TWIN_PREF, RO; reset 0; 24 -/
def KEEPER_STRAPS_TWIN_PREF : Field := ⟨0x10, 0x0, 0x0, 0, 1⟩
/-- KEEPER.FW_VERSION, RO; reset 0; 24 -/
def KEEPER_FW_VERSION : Field := ⟨0x14, 0x0, 0x0, 0, 32⟩
/-- KEEPER.INT_STATUS, W1C; reset 0; 24 -/
def KEEPER_INT_STATUS : Field := ⟨0x18, 0x0, 0x0, 0, 5⟩
/-- KEEPER.INT_EN, RW; reset 0; 24 -/
def KEEPER_INT_EN : Field := ⟨0x1c, 0x0, 0x0, 0, 5⟩
/-- KEEPER.WARM_RESETS, RO; reset 0; 24 -/
def KEEPER_WARM_RESETS : Field := ⟨0x20, 0x0, 0x0, 0, 32⟩
/-- KEEPER.SAT, RO; reset 0; 24 -/
def KEEPER_SAT : Field := ⟨0x24, 0x0, 0x0, 0, 2⟩
/-- KEEPER.EVLOG_OLDEST_LO, RO; reset 0; 24 -/
def KEEPER_EVLOG_OLDEST_LO : Field := ⟨0x28, 0x0, 0x0, 0, 32⟩
/-- KEEPER.EVLOG_OLDEST_HI, RO; reset 0; 24 -/
def KEEPER_EVLOG_OLDEST_HI : Field := ⟨0x2c, 0x0, 0x0, 0, 32⟩
/-- KEEPER.STEP_US, RO; reset 0; 24 -/
def KEEPER_STEP_US : Field := ⟨0x80, 0x4, 0x0, 0, 32⟩
/-- KEEPER.RESUME_US, RO; reset 0; 24 -/
def KEEPER_RESUME_US : Field := ⟨0xc0, 0x4, 0x0, 0, 32⟩
/-- KEEPER.SCRATCH, RW; reset 0; 24 -/
def KEEPER_SCRATCH : Field := ⟨0x100, 0x4, 0x0, 0, 32⟩
/-- PCIE.LINK.LTSSM, RO; reset 0; 24 -/
def PCIE_LINK_LTSSM : Field := ⟨0x720000, 0x0, 0x0, 0, 6⟩
/-- PCIE.LINK.SPEED, RO; reset 0; 24 -/
def PCIE_LINK_SPEED : Field := ⟨0x720000, 0x0, 0x0, 6, 3⟩
/-- PCIE.LINK.WIDTH, RO; reset 0; 24 -/
def PCIE_LINK_WIDTH : Field := ⟨0x720000, 0x0, 0x0, 9, 5⟩
/-- PCIE.LINK.DL_UP, RO; reset 0; 24 -/
def PCIE_LINK_DL_UP : Field := ⟨0x720000, 0x0, 0x0, 14, 1⟩
/-- PCIE.LINK.L1, RO; reset 0; 24 -/
def PCIE_LINK_L1 : Field := ⟨0x720000, 0x0, 0x0, 15, 1⟩
/-- PCIE.LINK.L1_2, RO; reset 0; 24 -/
def PCIE_LINK_L1_2 : Field := ⟨0x720000, 0x0, 0x0, 16, 1⟩
/-- PCIE.LINK.BME, RO; reset 0; 24 -/
def PCIE_LINK_BME : Field := ⟨0x720000, 0x0, 0x0, 17, 1⟩
/-- PCIE.LINK.MSIX_EN, RO; reset 0; 24 -/
def PCIE_LINK_MSIX_EN : Field := ⟨0x720000, 0x0, 0x0, 18, 1⟩
/-- PCIE.CTRL.CPL_TIMEOUT_MS, RW; reset 50 (Almanac); 24 -/
def PCIE_CTRL_CPL_TIMEOUT_MS : Field := ⟨0x720004, 0x0, 0x0, 0, 8⟩
/-- PCIE.INT_STATUS, W1C; reset 0; 24 -/
def PCIE_INT_STATUS : Field := ⟨0x720008, 0x0, 0x0, 0, 7⟩
/-- PCIE.INT_EN, RW; reset 0; 24 -/
def PCIE_INT_EN : Field := ⟨0x72000c, 0x0, 0x0, 0, 7⟩
/-- PCIE.SAT, RO; reset 0; 24 -/
def PCIE_SAT : Field := ⟨0x720010, 0x0, 0x0, 0, 22⟩
/-- PCIE.DIRECT_REFUSED, RO; reset 0; 24 -/
def PCIE_DIRECT_REFUSED : Field := ⟨0x720014, 0x0, 0x0, 0, 32⟩
/-- PCIE.LAST_REFUSED.ADDR, RO; reset 0; 24 -/
def PCIE_LAST_REFUSED_ADDR : Field := ⟨0x720018, 0x0, 0x0, 0, 26⟩
/-- PCIE.LAST_REFUSED.SPI, RO; reset 0; 24 -/
def PCIE_LAST_REFUSED_SPI : Field := ⟨0x720018, 0x0, 0x0, 26, 1⟩
/-- PCIE.LAST_REFUSED.CAUSE, RO; reset 0; 24 -/
def PCIE_LAST_REFUSED_CAUSE : Field := ⟨0x720018, 0x0, 0x0, 28, 4⟩
/-- PCIE.RX_TLP_LO, RO; reset 0; 24 -/
def PCIE_RX_TLP_LO : Field := ⟨0x72001c, 0x0, 0x0, 0, 32⟩
/-- PCIE.RX_TLP_HI, RO; reset 0; 24 -/
def PCIE_RX_TLP_HI : Field := ⟨0x720020, 0x0, 0x0, 0, 32⟩
/-- PCIE.TX_TLP_LO, RO; reset 0; 24 -/
def PCIE_TX_TLP_LO : Field := ⟨0x720024, 0x0, 0x0, 0, 32⟩
/-- PCIE.TX_TLP_HI, RO; reset 0; 24 -/
def PCIE_TX_TLP_HI : Field := ⟨0x720028, 0x0, 0x0, 0, 32⟩
/-- PCIE.CORR_ERR, RO; reset 0; 24 -/
def PCIE_CORR_ERR : Field := ⟨0x72002c, 0x0, 0x0, 0, 32⟩
/-- PCIE.UNCORR_ERR, RO; reset 0; 24 -/
def PCIE_UNCORR_ERR : Field := ⟨0x720030, 0x0, 0x0, 0, 32⟩
/-- PCIE.REPLAY, RO; reset 0; 24 -/
def PCIE_REPLAY : Field := ⟨0x720034, 0x0, 0x0, 0, 32⟩
/-- PCIE.CPL_TIMEOUT, RO; reset 0; 24 -/
def PCIE_CPL_TIMEOUT : Field := ⟨0x720038, 0x0, 0x0, 0, 32⟩
/-- PCIE.RECOVERY, RO; reset 0; 24 -/
def PCIE_RECOVERY : Field := ⟨0x72003c, 0x0, 0x0, 0, 32⟩
/-- PCIE.LANE.LOCK, RO; reset 0; 24 -/
def PCIE_LANE_LOCK : Field := ⟨0x720040, 0x4, 0x0, 0, 1⟩
/-- PCIE.LANE.PRESET, RO; reset 0; 24 -/
def PCIE_LANE_PRESET : Field := ⟨0x720040, 0x4, 0x0, 1, 4⟩
/-- PCIE.LANE.REVERSED, RO; reset 0; 24 -/
def PCIE_LANE_REVERSED : Field := ⟨0x720040, 0x4, 0x0, 5, 1⟩
/-- PCIE.LANE_ERR, RO; reset 0; 24 -/
def PCIE_LANE_ERR : Field := ⟨0x720080, 0x4, 0x0, 0, 32⟩
/-- CMD.INFLIGHT.B0, RO; reset 0; 03 -/
def CMD_INFLIGHT_B0 : Field := ⟨0x20040, 0x4, 0x0, 0, 8⟩
/-- CMD.INFLIGHT.B1, RO; reset 0; 03 -/
def CMD_INFLIGHT_B1 : Field := ⟨0x20040, 0x4, 0x0, 8, 8⟩
/-- CMD.INFLIGHT.B2, RO; reset 0; 03 -/
def CMD_INFLIGHT_B2 : Field := ⟨0x20040, 0x4, 0x0, 16, 8⟩
/-- CMD.INFLIGHT.B3, RO; reset 0; 03 -/
def CMD_INFLIGHT_B3 : Field := ⟨0x20040, 0x4, 0x0, 24, 8⟩
/-- CMD.WINDOW.W0, RO; reset 0; 03 -/
def CMD_WINDOW_W0 : Field := ⟨0x20080, 0x4, 0x0, 0, 16⟩
/-- CMD.WINDOW.W1, RO; reset 0; 03 -/
def CMD_WINDOW_W1 : Field := ⟨0x20080, 0x4, 0x0, 16, 16⟩
/-- DISPATCH.LIST_FILL.B0, RO; reset 0; 08 -/
def DISPATCH_LIST_FILL_B0 : Field := ⟨0x300028, 0x1000, 0x4, 0, 8⟩
/-- DISPATCH.LIST_FILL.B1, RO; reset 0; 08 -/
def DISPATCH_LIST_FILL_B1 : Field := ⟨0x300028, 0x1000, 0x4, 8, 8⟩
/-- DISPATCH.LIST_FILL.B2, RO; reset 0; 08 -/
def DISPATCH_LIST_FILL_B2 : Field := ⟨0x300028, 0x1000, 0x4, 16, 8⟩
/-- DISPATCH.LIST_FILL.B3, RO; reset 0; 08 -/
def DISPATCH_LIST_FILL_B3 : Field := ⟨0x300028, 0x1000, 0x4, 24, 8⟩
/-- TWIN.LOCKED, RO; reset 0; 11 -/
def TWIN_LOCKED : Field := ⟨0x750024, 0x4, 0x0, 0, 32⟩
/-- TWIN.TX, RO; reset 0; 11 -/
def TWIN_TX : Field := ⟨0x750034, 0x4, 0x0, 0, 32⟩
/-- MEM.OWED.B0, RO; reset 0; 13 -/
def MEM_OWED_B0 : Field := ⟨0x6000d8, 0x4000, 0x4, 0, 8⟩
/-- MEM.OWED.B1, RO; reset 0; 13 -/
def MEM_OWED_B1 : Field := ⟨0x6000d8, 0x4000, 0x4, 8, 8⟩
/-- MEM.OWED.B2, RO; reset 0; 13 -/
def MEM_OWED_B2 : Field := ⟨0x6000d8, 0x4000, 0x4, 16, 8⟩
/-- MEM.OWED.B3, RO; reset 0; 13 -/
def MEM_OWED_B3 : Field := ⟨0x6000d8, 0x4000, 0x4, 24, 8⟩
end F

/-- Block bases of R512. -/
def Block.base : Block → Nat
  | .keeper => 0x0
  | .almanac => 0x10000
  | .cmd => 0x20000
  | .therm => 0x40000
  | .pwr => 0x50000
  | .clk => 0x60000
  | .tb => 0x70000
  | .crc => 0x80000
  | .perturb => 0x90000
  | .audio => 0xa0000
  | .preview => 0xb0000
  | .sl => 0x100000
  | .bundle => 0x110000
  | .chan => 0x200000
  | .dispatch => 0x300000
  | .eng => 0x400000
  | .mem => 0x600000
  | .xlat => 0x680000
  | .eth => 0x700000
  | .pcie => 0x720000
  | .ring => 0x740000
  | .twin => 0x750000
  | .decode => 0x760000

/-- INDEX of R512. -/
def Block.index : Block → Nat
  | .keeper => 0
  | .almanac => 1
  | .cmd => 2
  | .therm => 3
  | .pwr => 4
  | .clk => 5
  | .tb => 6
  | .crc => 7
  | .perturb => 8
  | .audio => 9
  | .preview => 10
  | .sl => 11
  | .bundle => 12
  | .chan => 13
  | .dispatch => 14
  | .eng => 15
  | .mem => 16
  | .xlat => 17
  | .eth => 18
  | .pcie => 19
  | .ring => 20
  | .twin => 21
  | .decode => 22

/-- The registers of block KEEPER, in address order of their first instance. -/
def rowsKeeper : List RegRow :=
  [
   ⟨0x0, 1, 0x0, 1, 0x0, [(0, 3, .ro, false), (4, 3, .ro, false), (8, 1, .ro, false), (9, 3, .ro, true)]⟩,
   ⟨0x4, 1, 0x0, 1, 0x0, [(0, 1, .w1c, false), (1, 1, .w1c, false), (2, 1, .w1c, false), (3, 1, .w1c, false), (4, 1, .w1c, false)]⟩,
   ⟨0x8, 1, 0x0, 1, 0x0, [(0, 8, .ro, false), (8, 8, .ro, false), (16, 8, .ro, false)]⟩,
   ⟨0xc, 1, 0x0, 1, 0x0, [(0, 16, .ro, false), (16, 1, .ro, false)]⟩,
   ⟨0x10, 1, 0x0, 1, 0x0, [(0, 1, .ro, false)]⟩,
   ⟨0x14, 1, 0x0, 1, 0x0, [(0, 32, .ro, false)]⟩,
   ⟨0x18, 1, 0x0, 1, 0x0, [(0, 5, .w1c, false)]⟩,
   ⟨0x1c, 1, 0x0, 1, 0x0, [(0, 5, .rw, false)]⟩,
   ⟨0x20, 1, 0x0, 1, 0x0, [(0, 32, .ro, false)]⟩,
   ⟨0x24, 1, 0x0, 1, 0x0, [(0, 2, .ro, false)]⟩,
   ⟨0x28, 1, 0x0, 1, 0x0, [(0, 32, .ro, false)]⟩,
   ⟨0x2c, 1, 0x0, 1, 0x0, [(0, 32, .ro, false)]⟩,
   ⟨0x40, 1, 0x0, 1, 0x0, [(0, 32, .ro, false)]⟩,
   ⟨0x44, 1, 0x0, 1, 0x0, [(0, 32, .ro, false)]⟩,
   ⟨0x48, 1, 0x0, 1, 0x0, [(0, 32, .ro, false)]⟩,
   ⟨0x80, 13, 0x4, 1, 0x0, [(0, 32, .ro, false)]⟩,
   ⟨0xc0, 8, 0x4, 1, 0x0, [(0, 32, .ro, false)]⟩,
   ⟨0x100, 60, 0x4, 1, 0x0, [(0, 32, .rw, false)]⟩]

/-- The registers of block ALMANAC, in address order of their first instance. -/
def rowsAlmanac : List RegRow :=
  [
   ⟨0x10000, 1, 0x0, 1, 0x0, [(0, 2, .ro, false), (2, 2, .ro, false), (4, 1, .ro, false), (5, 1, .ro, false), (6, 1, .ro, false), (7, 1, .ro, false), (8, 1, .ro, false), (9, 1, .ro, false), (10, 1, .w1c, false)]⟩,
   ⟨0x10004, 1, 0x0, 1, 0x0, [(0, 32, .ro, false)]⟩,
   ⟨0x10008, 1, 0x0, 1, 0x0, [(0, 32, .ro, false)]⟩,
   ⟨0x1000c, 1, 0x0, 1, 0x0, [(0, 4, .ro, false), (4, 5, .ro, false), (9, 1, .ro, false)]⟩,
   ⟨0x10010, 1, 0x0, 1, 0x0, [(0, 32, .ro, false)]⟩,
   ⟨0x10014, 1, 0x0, 1, 0x0, [(0, 32, .ro, false)]⟩,
   ⟨0x10018, 1, 0x0, 1, 0x0, [(0, 32, .ro, false)]⟩,
   ⟨0x1001c, 1, 0x0, 1, 0x0, [(0, 32, .ro, false)]⟩,
   ⟨0x10100, 14, 0x10, 1, 0x0, [(0, 2, .ro, false), (2, 8, .ro, false)]⟩,
   ⟨0x10104, 14, 0x10, 1, 0x0, [(0, 32, .ro, false)]⟩,
   ⟨0x10108, 14, 0x10, 1, 0x0, [(0, 32, .ro, false)]⟩,
   ⟨0x1010c, 14, 0x10, 1, 0x0, [(0, 32, .ro, false)]⟩]

/-- The registers of block CMD, in address order of their first instance. -/
def rowsCmd : List RegRow :=
  [
   ⟨0x20000, 1, 0x0, 1, 0x0, [(0, 1, .rw, true), (8, 8, .rw, true)]⟩,
   ⟨0x20004, 1, 0x0, 1, 0x0, [(0, 1, .ro, false), (1, 1, .ro, false), (2, 1, .ro, false), (8, 7, .ro, false)]⟩,
   ⟨0x20008, 1, 0x0, 1, 0x0, [(0, 32, .ro, false)]⟩,
   ⟨0x2000c, 1, 0x0, 1, 0x0, [(0, 32, .ro, false)]⟩,
   ⟨0x20010, 1, 0x0, 1, 0x0, [(0, 32, .ro, false)]⟩,
   ⟨0x20014, 1, 0x0, 1, 0x0, [(0, 32, .ro, false)]⟩,
   ⟨0x20018, 1, 0x0, 1, 0x0, [(0, 32, .ro, false)]⟩,
   ⟨0x2001c, 1, 0x0, 1, 0x0, [(0, 32, .ro, false)]⟩,
   ⟨0x20020, 1, 0x0, 1, 0x0, [(0, 32, .ro, false)]⟩,
   ⟨0x20024, 1, 0x0, 1, 0x0, [(0, 32, .ro, false)]⟩,
   ⟨0x20028, 1, 0x0, 1, 0x0, [(0, 32, .ro, false)]⟩,
   ⟨0x2002c, 1, 0x0, 1, 0x0, [(0, 32, .ro, false)]⟩,
   ⟨0x20030, 1, 0x0, 1, 0x0, [(0, 32, .ro, false)]⟩,
   ⟨0x20034, 1, 0x0, 1, 0x0, [(0, 32, .ro, false)]⟩,
   ⟨0x20038, 1, 0x0, 1, 0x0, [(0, 32, .ro, false)]⟩,
   ⟨0x2003c, 1, 0x0, 1, 0x0, [(0, 32, .ro, false)]⟩,
   ⟨0x20040, 16, 0x4, 1, 0x0, [(0, 8, .ro, false), (8, 8, .ro, false), (16, 8, .ro, false), (24, 8, .ro, false)]⟩,
   ⟨0x20080, 32, 0x4, 1, 0x0, [(0, 16, .ro, false), (16, 16, .ro, false)]⟩,
   ⟨0x20100, 64, 0x100, 1, 0x0, [(0, 1, .rw, false), (1, 1, .ro, false), (2, 1, .ro, false), (3, 1, .w1c, false), (4, 1, .rw, false), (5, 1, .ro, false), (8, 4, .rw, false), (12, 4, .rw, false)]⟩,
   ⟨0x20104, 64, 0x100, 1, 0x0, [(0, 32, .rw, false)]⟩,
   ⟨0x20108, 64, 0x100, 1, 0x0, [(0, 32, .rw, false)]⟩,
   ⟨0x2010c, 64, 0x100, 1, 0x0, [(0, 32, .rw, false)]⟩,
   ⟨0x20110, 64, 0x100, 1, 0x0, [(0, 32, .rw, false)]⟩,
   ⟨0x20114, 64, 0x100, 1, 0x0, [(0, 32, .ro, false)]⟩,
   ⟨0x20118, 64, 0x100, 1, 0x0, [(0, 32, .ro, false)]⟩,
   ⟨0x2011c, 64, 0x100, 1, 0x0, [(0, 32, .ro, false)]⟩]

/-- The registers of block THERM, in address order of their first instance. -/
def rowsTherm : List RegRow :=
  [
   ⟨0x40000, 1, 0x0, 1, 0x0, [(0, 1, .rw, false), (8, 8, .rw, true)]⟩,
   ⟨0x40004, 1, 0x0, 1, 0x0, [(0, 2, .ro, false), (2, 1, .ro, false), (3, 1, .ro, false), (4, 6, .ro, false)]⟩,
   ⟨0x40008, 1, 0x0, 1, 0x0, [(0, 26, .ro, false)]⟩,
   ⟨0x4000c, 1, 0x0, 1, 0x0, [(0, 4, .ro, false), (4, 4, .ro, false), (8, 4, .ro, false), (16, 16, .ro, false)]⟩,
   ⟨0x40010, 1, 0x0, 1, 0x0, [(0, 32, .ro, false)]⟩,
   ⟨0x40014, 1, 0x0, 1, 0x0, [(0, 6, .ro, false)]⟩,
   ⟨0x40018, 1, 0x0, 1, 0x0, [(0, 26, .ro, false)]⟩,
   ⟨0x4001c, 1, 0x0, 1, 0x0, [(0, 6, .ro, false), (16, 16, .ro, false)]⟩,
   ⟨0x40020, 1, 0x0, 1, 0x0, [(0, 6, .w1c, false)]⟩,
   ⟨0x40024, 1, 0x0, 1, 0x0, [(0, 6, .rw, false)]⟩,
   ⟨0x40028, 1, 0x0, 1, 0x0, [(0, 32, .ro, false)]⟩,
   ⟨0x4002c, 1, 0x0, 1, 0x0, [(0, 32, .ro, false)]⟩,
   ⟨0x40030, 1, 0x0, 1, 0x0, [(0, 32, .ro, false)]⟩,
   ⟨0x40034, 1, 0x0, 1, 0x0, [(0, 32, .ro, false)]⟩,
   ⟨0x40038, 1, 0x0, 1, 0x0, [(0, 4, .ro, false)]⟩,
   ⟨0x4003c, 1, 0x0, 1, 0x0, [(0, 6, .ro, false), (8, 4, .ro, false), (12, 4, .ro, false)]⟩,
   ⟨0x40040, 1, 0x0, 1, 0x0, [(0, 4, .ro, false), (4, 2, .ro, false), (16, 16, .ro, false)]⟩,
   ⟨0x40044, 1, 0x0, 1, 0x0, [(0, 16, .rc, false)]⟩,
   ⟨0x40048, 1, 0x0, 1, 0x0, [(0, 13, .ro, false)]⟩,
   ⟨0x40050, 7, 0x4, 1, 0x0, [(0, 16, .ro, false), (16, 16, .ro, false)]⟩,
   ⟨0x40080, 38, 0x4, 1, 0x0, [(0, 16, .ro, false), (16, 1, .ro, false), (17, 2, .ro, false), (19, 1, .ro, false), (24, 4, .ro, false)]⟩]

/-- The registers of block PWR, in address order of their first instance. -/
def rowsPwr : List RegRow :=
  [
   ⟨0x50000, 1, 0x0, 1, 0x0, [(0, 1, .rw, true), (8, 8, .rw, true)]⟩,
   ⟨0x50004, 1, 0x0, 1, 0x0, [(0, 8, .ro, false), (8, 8, .ro, false), (16, 8, .ro, false), (24, 8, .ro, false)]⟩,
   ⟨0x50008, 1, 0x0, 1, 0x0, [(0, 32, .rw, true)]⟩,
   ⟨0x5000c, 1, 0x0, 1, 0x0, [(0, 32, .rw, true)]⟩,
   ⟨0x50010, 1, 0x0, 1, 0x0, [(0, 32, .rw, true)]⟩,
   ⟨0x50014, 1, 0x0, 1, 0x0, [(0, 8, .ro, false)]⟩,
   ⟨0x50018, 1, 0x0, 1, 0x0, [(0, 4, .w1c, false)]⟩,
   ⟨0x5001c, 1, 0x0, 1, 0x0, [(0, 4, .rw, false)]⟩,
   ⟨0x50020, 1, 0x0, 1, 0x0, [(0, 32, .ro, false)]⟩,
   ⟨0x50024, 1, 0x0, 1, 0x0, [(0, 32, .ro, false)]⟩,
   ⟨0x50028, 1, 0x0, 1, 0x0, [(0, 32, .ro, false)]⟩,
   ⟨0x5002c, 1, 0x0, 1, 0x0, [(0, 32, .ro, false)]⟩,
   ⟨0x50030, 1, 0x0, 1, 0x0, [(0, 2, .ro, false)]⟩,
   ⟨0x50034, 1, 0x0, 1, 0x0, [(0, 8, .ro, false), (8, 2, .ro, false)]⟩,
   ⟨0x50038, 1, 0x0, 1, 0x0, [(0, 32, .ro, false)]⟩,
   ⟨0x5003c, 1, 0x0, 1, 0x0, [(0, 32, .ro, false)]⟩,
   ⟨0x50040, 1, 0x0, 1, 0x0, [(0, 32, .rc, false)]⟩,
   ⟨0x50100, 183, 0x4, 1, 0x0, [(0, 2, .ro, false), (2, 2, .ro, false), (4, 2, .rw, false), (6, 1, .ro, false), (7, 1, .ro, false), (8, 1, .ro, false)]⟩]

/-- The registers of block CLK, in address order of their first instance. -/
def rowsClk : List RegRow :=
  [
   ⟨0x60000, 1, 0x0, 1, 0x0, [(0, 1, .ro, false), (1, 1, .ro, false), (2, 1, .ro, false)]⟩,
   ⟨0x60004, 1, 0x0, 1, 0x0, [(0, 17, .ro, false)]⟩,
   ⟨0x60008, 1, 0x0, 1, 0x0, [(0, 17, .ro, false)]⟩,
   ⟨0x6000c, 1, 0x0, 1, 0x0, [(0, 16, .rw, true)]⟩,
   ⟨0x60010, 1, 0x0, 1, 0x0, [(0, 16, .ro, false)]⟩,
   ⟨0x60014, 1, 0x0, 1, 0x0, [(0, 32, .ro, false)]⟩,
   ⟨0x60018, 1, 0x0, 1, 0x0, [(0, 5, .w1c, false)]⟩,
   ⟨0x6001c, 1, 0x0, 1, 0x0, [(0, 5, .rw, false)]⟩,
   ⟨0x60020, 1, 0x0, 1, 0x0, [(0, 17, .rw, false)]⟩,
   ⟨0x60024, 1, 0x0, 1, 0x0, [(0, 32, .ro, false)]⟩,
   ⟨0x60028, 1, 0x0, 1, 0x0, [(0, 32, .ro, false)]⟩,
   ⟨0x6002c, 1, 0x0, 1, 0x0, [(0, 5, .ro, false)]⟩,
   ⟨0x60030, 1, 0x0, 1, 0x0, [(0, 5, .ro, false), (5, 3, .ro, false)]⟩,
   ⟨0x60034, 1, 0x0, 1, 0x0, [(0, 32, .ro, false)]⟩,
   ⟨0x60038, 1, 0x0, 1, 0x0, [(0, 32, .ro, false)]⟩,
   ⟨0x6003c, 1, 0x0, 1, 0x0, [(0, 32, .rc, false)]⟩,
   ⟨0x60040, 3, 0x20, 1, 0x0, [(0, 16, .rw, true)]⟩,
   ⟨0x60044, 3, 0x20, 1, 0x0, [(0, 2, .ro, false), (2, 5, .ro, false), (7, 1, .ro, false)]⟩,
   ⟨0x60048, 3, 0x20, 1, 0x0, [(0, 32, .ro, false)]⟩,
   ⟨0x6004c, 3, 0x20, 1, 0x0, [(0, 32, .ro, false)]⟩,
   ⟨0x60050, 3, 0x20, 1, 0x0, [(0, 32, .ro, false)]⟩,
   ⟨0x600a0, 17, 0x4, 1, 0x0, [(0, 1, .ro, false), (1, 1, .ro, false), (2, 1, .ro, false), (4, 16, .ro, false)]⟩]

/-- The registers of block TB, in address order of their first instance. -/
def rowsTb : List RegRow :=
  [
   ⟨0x70000, 1, 0x0, 1, 0x0, [(0, 1, .rw, true), (1, 1, .rw, false), (2, 1, .rw, true)]⟩,
   ⟨0x70004, 1, 0x0, 1, 0x0, [(0, 1, .ro, false), (1, 3, .ro, false), (4, 2, .ro, false), (6, 6, .ro, false), (12, 1, .ro, false)]⟩,
   ⟨0x70008, 1, 0x0, 1, 0x0, [(0, 32, .ro, false)]⟩,
   ⟨0x7000c, 1, 0x0, 1, 0x0, [(0, 32, .ro, false)]⟩,
   ⟨0x70010, 1, 0x0, 1, 0x0, [(0, 16, .rw, true)]⟩,
   ⟨0x70014, 1, 0x0, 1, 0x0, [(0, 32, .ro, false)]⟩,
   ⟨0x70018, 1, 0x0, 1, 0x0, [(0, 32, .rw, false)]⟩,
   ⟨0x7001c, 1, 0x0, 1, 0x0, [(0, 16, .rw, false), (31, 1, .sc, false)]⟩,
   ⟨0x70020, 1, 0x0, 1, 0x0, [(0, 16, .ro, false), (16, 8, .ro, false)]⟩,
   ⟨0x70024, 1, 0x0, 1, 0x0, [(0, 1, .sc, false)]⟩,
   ⟨0x70028, 1, 0x0, 1, 0x0, [(0, 32, .ro, false)]⟩,
   ⟨0x7002c, 1, 0x0, 1, 0x0, [(0, 32, .ro, false)]⟩,
   ⟨0x70030, 1, 0x0, 1, 0x0, [(0, 32, .ro, false)]⟩,
   ⟨0x70034, 1, 0x0, 1, 0x0, [(0, 32, .ro, false)]⟩,
   ⟨0x70038, 1, 0x0, 1, 0x0, [(0, 2, .rw, true), (2, 3, .ro, false), (5, 1, .sc, false), (8, 8, .rw, true), (16, 16, .rw, true)]⟩,
   ⟨0x7003c, 1, 0x0, 1, 0x0, [(0, 32, .rw, true)]⟩,
   ⟨0x70040, 1, 0x0, 1, 0x0, [(0, 32, .ro, false)]⟩,
   ⟨0x70044, 1, 0x0, 1, 0x0, [(0, 32, .ro, false)]⟩,
   ⟨0x70048, 1, 0x0, 1, 0x0, [(0, 16, .ro, false)]⟩,
   ⟨0x7004c, 1, 0x0, 1, 0x0, [(0, 11, .w1c, false)]⟩,
   ⟨0x70050, 1, 0x0, 1, 0x0, [(0, 11, .rw, false)]⟩,
   ⟨0x70054, 1, 0x0, 1, 0x0, [(0, 32, .ro, false)]⟩,
   ⟨0x70058, 1, 0x0, 1, 0x0, [(0, 32, .ro, false)]⟩,
   ⟨0x7005c, 1, 0x0, 1, 0x0, [(0, 32, .ro, false)]⟩,
   ⟨0x70060, 1, 0x0, 1, 0x0, [(0, 32, .ro, false)]⟩,
   ⟨0x70064, 2, 0x4, 1, 0x0, [(0, 32, .ro, false)]⟩,
   ⟨0x7006c, 1, 0x0, 1, 0x0, [(0, 32, .ro, false)]⟩,
   ⟨0x70070, 1, 0x0, 1, 0x0, [(0, 32, .ro, false)]⟩,
   ⟨0x70080, 2, 0x10, 1, 0x0, [(0, 1, .ro, false), (1, 3, .ro, false), (4, 16, .ro, false), (20, 5, .ro, false)]⟩,
   ⟨0x70084, 2, 0x10, 1, 0x0, [(0, 32, .ro, false)]⟩,
   ⟨0x70088, 2, 0x10, 1, 0x0, [(0, 24, .ro, false), (31, 1, .sc, false)]⟩,
   ⟨0x700a0, 1, 0x0, 1, 0x0, [(0, 3, .rw, false), (4, 1, .sc, false), (5, 1, .sc, false)]⟩,
   ⟨0x700a4, 1, 0x0, 1, 0x0, [(0, 32, .rw, false)]⟩,
   ⟨0x700a8, 1, 0x0, 1, 0x0, [(0, 32, .rw, false)]⟩,
   ⟨0x700ac, 1, 0x0, 1, 0x0, [(0, 2, .rw, false), (2, 1, .rw, false), (3, 1, .rw, false), (5, 1, .rw, false), (6, 8, .rw, false), (16, 16, .rw, false)]⟩,
   ⟨0x700b0, 1, 0x0, 1, 0x0, [(0, 8, .ro, false), (8, 8, .w1c, false), (16, 8, .w1c, false)]⟩]

/-- The registers of block CRC, in address order of their first instance. -/
def rowsCrc : List RegRow :=
  [
   ⟨0x80000, 8, 0x40, 1, 0x0, [(0, 2, .rw, true), (2, 2, .rw, true), (4, 1, .sc, false), (5, 1, .sc, false), (6, 1, .rw, false), (7, 1, .rw, false), (8, 1, .ro, false), (9, 1, .ro, false), (10, 1, .ro, false), (11, 1, .w1c, false), (12, 1, .w1c, false), (13, 1, .ro, false), (14, 2, .ro, false)]⟩,
   ⟨0x80004, 8, 0x40, 1, 0x0, [(0, 32, .rw, false)]⟩,
   ⟨0x80008, 8, 0x40, 1, 0x0, [(0, 8, .wo, false)]⟩,
   ⟨0x8000c, 8, 0x40, 1, 0x0, [(0, 16, .wo, false)]⟩,
   ⟨0x80010, 8, 0x40, 1, 0x0, [(0, 32, .wo, false)]⟩,
   ⟨0x80014, 8, 0x40, 1, 0x0, [(0, 32, .rw, false)]⟩,
   ⟨0x80018, 8, 0x40, 1, 0x0, [(0, 32, .rw, false)]⟩,
   ⟨0x8001c, 8, 0x40, 1, 0x0, [(0, 32, .rw, false)]⟩]

/-- The registers of block PERTURB, in address order of their first instance. -/
def rowsPerturb : List RegRow :=
  [
   ⟨0x90000, 1, 0x0, 1, 0x0, [(0, 7, .w1s, false)]⟩,
   ⟨0x90004, 1, 0x0, 1, 0x0, [(0, 7, .ro, false), (7, 1, .ro, false), (8, 3, .ro, false)]⟩,
   ⟨0x90008, 1, 0x0, 1, 0x0, [(0, 16, .ro, false)]⟩,
   ⟨0x9000c, 1, 0x0, 1, 0x0, [(0, 7, .ro, false)]⟩,
   ⟨0x90010, 1, 0x0, 1, 0x0, [(0, 32, .ro, false)]⟩,
   ⟨0x90014, 1, 0x0, 1, 0x0, [(0, 32, .ro, false)]⟩,
   ⟨0x90018, 1, 0x0, 1, 0x0, [(0, 32, .ro, false)]⟩,
   ⟨0x9001c, 1, 0x0, 1, 0x0, [(0, 32, .ro, false)]⟩,
   ⟨0x90040, 7, 0x20, 1, 0x0, [(0, 1, .rw, false), (1, 1, .ro, false), (2, 1, .ro, false), (3, 1, .ro, false)]⟩,
   ⟨0x90044, 7, 0x20, 1, 0x0, [(0, 32, .rw, false)]⟩,
   ⟨0x90048, 7, 0x20, 1, 0x0, [(0, 32, .rw, false)]⟩,
   ⟨0x9004c, 7, 0x20, 1, 0x0, [(0, 32, .rw, false)]⟩,
   ⟨0x90050, 7, 0x20, 1, 0x0, [(0, 31, .rw, false)]⟩,
   ⟨0x90054, 7, 0x20, 1, 0x0, [(0, 32, .rw, false)]⟩,
   ⟨0x90058, 7, 0x20, 1, 0x0, [(0, 32, .rw, false)]⟩,
   ⟨0x9005c, 7, 0x20, 1, 0x0, [(0, 32, .ro, false)]⟩]

/-- The registers of block AUDIO, in address order of their first instance. -/
def rowsAudio : List RegRow :=
  [
   ⟨0xa0000, 1, 0x0, 1, 0x0, [(0, 1, .rw, true), (1, 1, .rw, true)]⟩,
   ⟨0xa0004, 1, 0x0, 1, 0x0, [(0, 1, .ro, false), (1, 2, .ro, false)]⟩,
   ⟨0xa0008, 1, 0x0, 1, 0x0, [(0, 16, .rw, true), (16, 2, .rw, true), (18, 1, .rw, true)]⟩,
   ⟨0xa000c, 1, 0x0, 1, 0x0, [(0, 32, .ro, false)]⟩,
   ⟨0xa0010, 1, 0x0, 1, 0x0, [(0, 10, .w1c, false)]⟩,
   ⟨0xa0014, 1, 0x0, 1, 0x0, [(0, 10, .rw, false)]⟩,
   ⟨0xa0018, 1, 0x0, 1, 0x0, [(0, 19, .ro, false)]⟩,
   ⟨0xa001c, 1, 0x0, 1, 0x0, [(0, 16, .ro, false), (16, 16, .ro, false)]⟩,
   ⟨0xa0020, 1, 0x0, 1, 0x0, [(0, 32, .ro, false)]⟩,
   ⟨0xa0024, 1, 0x0, 1, 0x0, [(0, 32, .ro, false)]⟩,
   ⟨0xa0028, 1, 0x0, 1, 0x0, [(0, 32, .ro, false)]⟩,
   ⟨0xa002c, 1, 0x0, 1, 0x0, [(0, 32, .ro, false)]⟩,
   ⟨0xa0030, 1, 0x0, 1, 0x0, [(0, 32, .ro, false)]⟩,
   ⟨0xa0034, 1, 0x0, 1, 0x0, [(0, 32, .ro, false)]⟩,
   ⟨0xa0038, 1, 0x0, 1, 0x0, [(0, 32, .ro, false)]⟩,
   ⟨0xa003c, 1, 0x0, 1, 0x0, [(0, 4, .ro, false), (8, 4, .ro, false), (16, 5, .ro, false)]⟩,
   ⟨0xa0040, 4, 0x40, 1, 0x0, [(0, 2, .ro, false), (2, 1, .ro, false), (3, 5, .ro, false), (8, 1, .ro, false), (9, 1, .ro, false), (10, 1, .ro, false), (11, 1, .ro, false)]⟩,
   ⟨0xa0044, 4, 0x40, 1, 0x0, [(0, 1, .ro, false), (1, 1, .ro, false), (2, 1, .ro, false), (3, 4, .ro, false), (7, 1, .ro, false), (16, 16, .ro, false)]⟩,
   ⟨0xa0048, 4, 0x40, 1, 0x0, [(0, 16, .rw, true), (16, 16, .ro, false)]⟩,
   ⟨0xa004c, 4, 0x40, 1, 0x0, [(0, 16, .rw, true), (16, 16, .ro, false)]⟩,
   ⟨0xa0050, 4, 0x40, 1, 0x0, [(0, 32, .ro, false)]⟩,
   ⟨0xa0054, 4, 0x40, 1, 0x0, [(0, 32, .ro, false)]⟩,
   ⟨0xa0058, 4, 0x40, 1, 0x0, [(0, 32, .rw, true)]⟩,
   ⟨0xa005c, 4, 0x40, 1, 0x0, [(0, 32, .rw, true)]⟩,
   ⟨0xa0060, 4, 0x40, 1, 0x0, [(0, 32, .rw, true)]⟩,
   ⟨0xa0064, 4, 0x40, 1, 0x0, [(0, 32, .rw, true)]⟩,
   ⟨0xa0068, 4, 0x40, 1, 0x0, [(0, 32, .ro, false)]⟩,
   ⟨0xa006c, 4, 0x40, 1, 0x0, [(0, 32, .ro, false)]⟩,
   ⟨0xa0070, 4, 0x40, 1, 0x0, [(0, 32, .ro, false)]⟩,
   ⟨0xa0074, 4, 0x40, 1, 0x0, [(0, 32, .ro, false)]⟩,
   ⟨0xa0078, 4, 0x40, 1, 0x0, [(0, 32, .ro, false)]⟩,
   ⟨0xa007c, 4, 0x40, 1, 0x0, [(0, 32, .ro, false)]⟩,
   ⟨0xa0140, 32, 0x4, 1, 0x0, [(0, 8, .rw, true), (8, 2, .ro, false), (10, 1, .ro, false), (11, 1, .ro, false)]⟩,
   ⟨0xa01c0, 16, 0x4, 1, 0x0, [(0, 1, .ro, false), (1, 1, .ro, false), (2, 7, .ro, false), (9, 1, .ro, false), (10, 2, .ro, false), (12, 1, .ro, false), (13, 1, .ro, false), (16, 16, .ro, false)]⟩]

/-- The registers of block PREVIEW, in address order of their first instance. -/
def rowsPreview : List RegRow :=
  [⟨0xb0000, 1, 0x0, 1, 0x0, [(0, 4, .ro, false), (4, 2, .ro, false), (6, 7, .ro, false), (13, 3, .ro, false), (16, 2, .ro, false), (18, 7, .ro, false), (25, 4, .ro, false), (29, 1, .ro, false)]⟩,
   ⟨0xb0004, 1, 0x0, 1, 0x0, [(0, 13, .ro, false), (16, 13, .ro, false)]⟩,
   ⟨0xb0008, 1, 0x0, 1, 0x0, [(0, 32, .ro, false)]⟩,
   ⟨0xb000c, 1, 0x0, 1, 0x0, [(0, 32, .ro, false)]⟩,
   ⟨0xb0010, 1, 0x0, 1, 0x0, [(0, 16, .ro, false)]⟩,
   ⟨0xb0014, 1, 0x0, 1, 0x0, [(0, 16, .ro, false)]⟩,
   ⟨0xb0018, 1, 0x0, 1, 0x0, [(0, 16, .ro, false)]⟩,
   ⟨0xb001c, 1, 0x0, 1, 0x0, [(0, 16, .ro, false)]⟩,
   ⟨0xb0020, 1, 0x0, 1, 0x0, [(0, 16, .ro, false)]⟩,
   ⟨0xb0024, 1, 0x0, 1, 0x0, [(0, 16, .ro, false)]⟩,
   ⟨0xb0028, 1, 0x0, 1, 0x0, [(0, 16, .ro, false)]⟩,
   ⟨0xb002c, 1, 0x0, 1, 0x0, [(0, 16, .ro, false)]⟩,
   ⟨0xb0030, 1, 0x0, 1, 0x0, [(0, 16, .ro, false)]⟩,
   ⟨0xb0034, 1, 0x0, 1, 0x0, [(0, 16, .ro, false)]⟩,
   ⟨0xb0038, 1, 0x0, 1, 0x0, [(0, 16, .ro, false)]⟩,
   ⟨0xb003c, 1, 0x0, 1, 0x0, [(0, 16, .ro, false)]⟩,
   ⟨0xb0040, 1, 0x0, 1, 0x0, [(0, 8, .ro, false), (8, 7, .ro, false), (16, 7, .ro, false), (23, 1, .ro, false)]⟩,
   ⟨0xb0044, 1, 0x0, 1, 0x0, [(0, 16, .ro, false)]⟩,
   ⟨0xb0048, 1, 0x0, 1, 0x0, [(0, 16, .ro, false)]⟩,
   ⟨0xb004c, 1, 0x0, 1, 0x0, [(0, 30, .rw, true)]⟩,
   ⟨0xb0050, 1, 0x0, 1, 0x0, [(0, 32, .ro, false)]⟩,
   ⟨0xb0054, 1, 0x0, 1, 0x0, [(0, 32, .ro, false)]⟩,
   ⟨0xb0058, 1, 0x0, 1, 0x0, [(0, 32, .ro, false)]⟩,
   ⟨0xb005c, 1, 0x0, 1, 0x0, [(0, 32, .ro, false)]⟩,
   ⟨0xb0060, 1, 0x0, 1, 0x0, [(0, 32, .ro, false)]⟩,
   ⟨0xb0064, 1, 0x0, 1, 0x0, [(0, 6, .w1c, false)]⟩,
   ⟨0xb0068, 1, 0x0, 1, 0x0, [(0, 6, .rw, false)]⟩,
   ⟨0xb006c, 1, 0x0, 1, 0x0, [(0, 5, .ro, false)]⟩,
   ⟨0xb0070, 1, 0x0, 1, 0x0, [(0, 32, .ro, false)]⟩,
   ⟨0xb0074, 1, 0x0, 1, 0x0, [(0, 32, .ro, false)]⟩,
   ⟨0xb0078, 1, 0x0, 1, 0x0, [(0, 32, .ro, false)]⟩,
   ⟨0xb007c, 1, 0x0, 1, 0x0, [(0, 32, .ro, false)]⟩,
   ⟨0xb0080, 1, 0x0, 1, 0x0, [(0, 32, .ro, false)]⟩,
   ⟨0xb0084, 1, 0x0, 1, 0x0, [(0, 32, .ro, false)]⟩,
   ⟨0xb0088, 1, 0x0, 1, 0x0, [(0, 32, .ro, false)]⟩,
   ⟨0xb008c, 1, 0x0, 1, 0x0, [(0, 32, .ro, false)]⟩,
   ⟨0xb0090, 1, 0x0, 1, 0x0, [(0, 32, .ro, false)]⟩,
   ⟨0xb0094, 1, 0x0, 1, 0x0, [(0, 13, .ro, false)]⟩,
   ⟨0xb0098, 1, 0x0, 1, 0x0, [(0, 32, .ro, false)]⟩,
   ⟨0xb00a0, 4, 0x4, 1, 0x0, [(0, 1, .rw, true), (1, 3, .rw, true)]⟩] ++
  [⟨0xb00b0, 9, 0x4, 1, 0x0, [(0, 32, .ro, false)]⟩,
   ⟨0xb00d4, 12, 0x4, 1, 0x0, [(0, 16, .rw, true)]⟩]

/-- The registers of block SL, in address order of their first instance. -/
def rowsSl : List RegRow :=
  [
   ⟨0x100000, 128, 0x100, 1, 0x0, [(0, 1, .rw, true), (1, 3, .rw, true)]⟩,
   ⟨0x100004, 128, 0x100, 1, 0x0, [(0, 1, .ro, false), (1, 1, .ro, false), (2, 1, .ro, false), (3, 1, .ro, false), (4, 1, .ro, false), (5, 1, .ro, false), (6, 2, .ro, false), (8, 1, .ro, false), (16, 6, .ro, false)]⟩,
   ⟨0x100008, 128, 0x100, 1, 0x0, [(0, 6, .ro, false), (8, 8, .ro, false), (16, 8, .ro, false)]⟩,
   ⟨0x10000c, 128, 0x100, 1, 0x0, [(0, 16, .ro, false), (16, 4, .ro, false), (20, 8, .ro, false), (28, 2, .ro, false)]⟩,
   ⟨0x100010, 128, 0x100, 1, 0x0, [(0, 32, .ro, false)]⟩,
   ⟨0x100014, 128, 0x100, 1, 0x0, [(0, 32, .ro, false)]⟩,
   ⟨0x100018, 128, 0x100, 1, 0x0, [(0, 32, .ro, false)]⟩,
   ⟨0x10001c, 128, 0x100, 1, 0x0, [(0, 32, .ro, false)]⟩,
   ⟨0x100020, 128, 0x100, 1, 0x0, [(0, 32, .ro, false)]⟩,
   ⟨0x100024, 128, 0x100, 1, 0x0, [(0, 32, .ro, false)]⟩]

/-- The registers of block BUNDLE, in address order of their first instance. -/
def rowsBundle : List RegRow :=
  [
   ⟨0x110000, 16, 0x400, 1, 0x0, [(0, 8, .rw, true), (8, 1, .rw, true), (9, 3, .rw, true), (12, 2, .rw, true), (14, 1, .ro, false)]⟩,
   ⟨0x110004, 16, 0x400, 1, 0x0, [(0, 4, .ro, false), (4, 2, .ro, false), (6, 2, .ro, false), (8, 1, .ro, false), (9, 2, .ro, false), (11, 1, .ro, false), (12, 4, .ro, false), (16, 2, .ro, false)]⟩,
   ⟨0x110008, 16, 0x400, 1, 0x0, [(0, 8, .ro, false), (8, 8, .ro, false), (16, 8, .ro, false), (24, 8, .ro, false)]⟩,
   ⟨0x11000c, 16, 0x400, 1, 0x0, [(0, 16, .ro, false), (16, 16, .ro, false)]⟩,
   ⟨0x110010, 16, 0x400, 1, 0x0, [(0, 16, .ro, false), (16, 6, .ro, false)]⟩,
   ⟨0x110014, 16, 0x400, 1, 0x0, [(0, 1, .rw, true), (8, 8, .ro, false), (16, 8, .ro, false)]⟩,
   ⟨0x110018, 16, 0x400, 1, 0x0, [(0, 4, .ro, false), (4, 8, .ro, false), (12, 2, .ro, false), (14, 1, .ro, false)]⟩,
   ⟨0x11001c, 16, 0x400, 1, 0x0, [(0, 32, .ro, false)]⟩,
   ⟨0x110020, 16, 0x400, 1, 0x0, [(0, 11, .w1c, false)]⟩,
   ⟨0x110024, 16, 0x400, 1, 0x0, [(0, 11, .rw, false)]⟩,
   ⟨0x110028, 16, 0x400, 1, 0x0, [(0, 32, .ro, false)]⟩,
   ⟨0x11002c, 16, 0x400, 1, 0x0, [(0, 32, .ro, false)]⟩,
   ⟨0x110030, 16, 0x400, 1, 0x0, [(0, 32, .ro, false)]⟩,
   ⟨0x110034, 16, 0x400, 1, 0x0, [(0, 32, .ro, false)]⟩,
   ⟨0x110038, 16, 0x400, 1, 0x0, [(0, 32, .ro, false)]⟩,
   ⟨0x11003c, 16, 0x400, 1, 0x0, [(0, 32, .ro, false)]⟩,
   ⟨0x110040, 16, 0x400, 1, 0x0, [(0, 8, .rw, true), (8, 8, .rw, true), (16, 1, .sc, false)]⟩,
   ⟨0x110044, 16, 0x400, 1, 0x0, [(0, 10, .ro, false), (10, 1, .ro, false), (11, 1, .ro, false), (12, 10, .rc, false), (22, 5, .ro, false)]⟩,
   ⟨0x110048, 16, 0x400, 1, 0x0, [(0, 1, .rw, true), (1, 1, .rw, false), (2, 1, .rw, true), (3, 1, .ro, false)]⟩,
   ⟨0x11004c, 16, 0x400, 1, 0x0, [(0, 32, .ro, false)]⟩,
   ⟨0x110050, 16, 0x400, 1, 0x0, [(0, 32, .ro, false)]⟩,
   ⟨0x110054, 16, 0x400, 1, 0x0, [(0, 32, .ro, false)]⟩,
   ⟨0x110058, 16, 0x400, 1, 0x0, [(0, 32, .ro, false)]⟩,
   ⟨0x11005c, 16, 0x400, 1, 0x0, [(0, 32, .ro, false)]⟩]

/-- The registers of block CHAN, in address order of their first instance. -/
def rowsChan : List RegRow :=
  [
   ⟨0x200000, 128, 0x100, 1, 0x0, [(0, 3, .ro, false), (3, 1, .ro, false), (4, 1, .ro, false), (5, 1, .ro, false), (6, 2, .ro, false), (8, 8, .ro, false), (16, 4, .ro, false), (20, 1, .ro, false), (21, 1, .ro, false)]⟩,
   ⟨0x200004, 128, 0x100, 1, 0x0, [(0, 17, .ro, false), (17, 7, .ro, false)]⟩,
   ⟨0x200008, 128, 0x100, 1, 0x0, [(0, 17, .ro, false), (17, 8, .ro, false)]⟩,
   ⟨0x20000c, 128, 0x100, 1, 0x0, [(0, 9, .ro, false), (16, 9, .ro, false)]⟩,
   ⟨0x200010, 128, 0x100, 1, 0x0, [(0, 32, .ro, false)]⟩,
   ⟨0x200014, 128, 0x100, 1, 0x0, [(0, 32, .ro, false)]⟩,
   ⟨0x200018, 128, 0x100, 1, 0x0, [(0, 32, .ro, false)]⟩,
   ⟨0x20001c, 128, 0x100, 1, 0x0, [(0, 32, .ro, false)]⟩]

/-- The registers of block DISPATCH, in address order of their first instance. -/
def rowsDispatch : List RegRow :=
  [
   ⟨0x300000, 8, 0x1000, 1, 0x0, [(0, 1, .ro, false), (1, 1, .ro, false), (2, 1, .rw, true), (3, 1, .rw, true), (4, 1, .ro, false)]⟩,
   ⟨0x300004, 8, 0x1000, 1, 0x0, [(0, 10, .rw, true), (16, 10, .rw, true)]⟩,
   ⟨0x300008, 8, 0x1000, 1, 0x0, [(0, 16, .rw, true), (16, 8, .ro, false), (24, 8, .ro, false)]⟩,
   ⟨0x30000c, 8, 0x1000, 1, 0x0, [(0, 8, .ro, false), (8, 8, .ro, false), (16, 5, .ro, false), (21, 1, .ro, false), (22, 1, .ro, false)]⟩,
   ⟨0x300010, 8, 0x1000, 1, 0x0, [(0, 4, .wo, false), (4, 1, .wo, false)]⟩,
   ⟨0x300014, 8, 0x1000, 1, 0x0, [(0, 7, .ro, false), (8, 8, .ro, false), (16, 4, .ro, false), (20, 8, .ro, false), (28, 4, .ro, false)]⟩,
   ⟨0x300018, 8, 0x1000, 1, 0x0, [(0, 32, .rc, false)]⟩,
   ⟨0x30001c, 8, 0x1000, 1, 0x0, [(0, 32, .ro, false)]⟩,
   ⟨0x300020, 8, 0x1000, 1, 0x0, [(0, 5, .w1c, false)]⟩,
   ⟨0x300024, 8, 0x1000, 1, 0x0, [(0, 5, .rw, false)]⟩,
   ⟨0x300028, 8, 0x1000, 4, 0x4, [(0, 8, .ro, false), (8, 8, .ro, false), (16, 8, .ro, false), (24, 8, .ro, false)]⟩,
   ⟨0x300038, 8, 0x1000, 1, 0x0, [(0, 32, .ro, false)]⟩,
   ⟨0x30003c, 8, 0x1000, 1, 0x0, [(0, 32, .ro, false)]⟩,
   ⟨0x300040, 8, 0x1000, 1, 0x0, [(0, 32, .ro, false)]⟩,
   ⟨0x300044, 8, 0x1000, 1, 0x0, [(0, 32, .ro, false)]⟩,
   ⟨0x300048, 8, 0x1000, 1, 0x0, [(0, 32, .ro, false)]⟩,
   ⟨0x30004c, 8, 0x1000, 1, 0x0, [(0, 32, .ro, false)]⟩,
   ⟨0x300050, 8, 0x1000, 1, 0x0, [(0, 32, .ro, false)]⟩,
   ⟨0x300054, 8, 0x1000, 1, 0x0, [(0, 32, .ro, false)]⟩,
   ⟨0x300058, 8, 0x1000, 1, 0x0, [(0, 32, .ro, false)]⟩,
   ⟨0x30005c, 8, 0x1000, 1, 0x0, [(0, 32, .ro, false)]⟩,
   ⟨0x300060, 8, 0x1000, 1, 0x0, [(0, 32, .ro, false)]⟩,
   ⟨0x300064, 8, 0x1000, 1, 0x0, [(0, 32, .ro, false)]⟩,
   ⟨0x300068, 8, 0x1000, 1, 0x0, [(0, 32, .ro, false)]⟩,
   ⟨0x30006c, 8, 0x1000, 1, 0x0, [(0, 32, .ro, false)]⟩,
   ⟨0x300070, 8, 0x1000, 1, 0x0, [(0, 32, .ro, false)]⟩,
   ⟨0x300074, 8, 0x1000, 1, 0x0, [(0, 32, .ro, false)]⟩,
   ⟨0x300078, 8, 0x1000, 1, 0x0, [(0, 32, .ro, false)]⟩,
   ⟨0x30007c, 8, 0x1000, 1, 0x0, [(0, 32, .ro, false)]⟩]

/-- The registers of block ENG, in address order of their first instance. -/
def rowsEng : List RegRow :=
  [
   ⟨0x400000, 128, 0x1000, 1, 0x0, [(0, 3, .ro, false), (3, 1, .ro, false), (4, 3, .ro, false), (7, 1, .ro, false), (8, 2, .ro, false), (10, 2, .ro, false)]⟩,
   ⟨0x400004, 128, 0x1000, 1, 0x0, [(0, 7, .ro, false), (8, 8, .ro, false), (16, 8, .ro, false), (24, 4, .ro, false), (28, 1, .ro, false), (29, 1, .ro, false), (30, 2, .ro, false)]⟩,
   ⟨0x400008, 128, 0x1000, 1, 0x0, [(0, 32, .ro, false)]⟩,
   ⟨0x40000c, 128, 0x1000, 1, 0x0, [(0, 32, .ro, false)]⟩,
   ⟨0x400010, 128, 0x1000, 1, 0x0, [(0, 1, .rw, false), (1, 1, .sc, false)]⟩,
   ⟨0x400014, 128, 0x1000, 1, 0x0, [(0, 4, .ro, false), (4, 4, .ro, false), (8, 8, .ro, false), (16, 8, .ro, false)]⟩,
   ⟨0x400018, 128, 0x1000, 1, 0x0, [(0, 16, .ro, false), (16, 16, .ro, false)]⟩,
   ⟨0x40001c, 128, 0x1000, 1, 0x0, [(0, 12, .ro, false), (16, 16, .ro, false)]⟩,
   ⟨0x400020, 128, 0x1000, 1, 0x0, [(0, 32, .ro, false)]⟩,
   ⟨0x400024, 128, 0x1000, 1, 0x0, [(0, 32, .rc, false)]⟩,
   ⟨0x400028, 128, 0x1000, 1, 0x0, [(0, 32, .ro, false)]⟩,
   ⟨0x40002c, 128, 0x1000, 1, 0x0, [(0, 32, .ro, false)]⟩,
   ⟨0x400030, 128, 0x1000, 1, 0x0, [(0, 32, .ro, false)]⟩,
   ⟨0x400034, 128, 0x1000, 1, 0x0, [(0, 32, .ro, false)]⟩,
   ⟨0x400038, 128, 0x1000, 1, 0x0, [(0, 32, .ro, false)]⟩,
   ⟨0x40003c, 128, 0x1000, 1, 0x0, [(0, 32, .ro, false)]⟩,
   ⟨0x400040, 128, 0x1000, 1, 0x0, [(0, 32, .ro, false)]⟩,
   ⟨0x400044, 128, 0x1000, 1, 0x0, [(0, 32, .ro, false)]⟩,
   ⟨0x400048, 128, 0x1000, 1, 0x0, [(0, 5, .w1c, false)]⟩,
   ⟨0x40004c, 128, 0x1000, 1, 0x0, [(0, 28, .ro, false)]⟩,
   ⟨0x400050, 128, 0x1000, 1, 0x0, [(0, 32, .ro, false)]⟩,
   ⟨0x400054, 128, 0x1000, 1, 0x0, [(0, 32, .ro, false)]⟩,
   ⟨0x400058, 128, 0x1000, 1, 0x0, [(0, 32, .ro, false)]⟩,
   ⟨0x40005c, 128, 0x1000, 1, 0x0, [(0, 32, .ro, false)]⟩]

/-- The registers of block MEM, in address order of their first instance. -/
def rowsMem : List RegRow :=
  [
   ⟨0x600000, 4, 0x4000, 1, 0x0, [(0, 1, .rw, false), (8, 5, .rw, true)]⟩,
   ⟨0x600004, 4, 0x4000, 1, 0x0, [(0, 1, .ro, false), (1, 1, .ro, false), (2, 1, .ro, false), (3, 1, .ro, false), (4, 1, .ro, false), (8, 6, .ro, false)]⟩,
   ⟨0x600008, 4, 0x4000, 1, 0x0, [(0, 8, .ro, false), (8, 1, .ro, false)]⟩,
   ⟨0x60000c, 4, 0x4000, 1, 0x0, [(0, 12, .ro, false), (16, 8, .ro, false), (24, 4, .ro, false), (28, 1, .rw, true)]⟩,
   ⟨0x600010, 4, 0x4000, 1, 0x0, [(0, 16, .rw, true)]⟩,
   ⟨0x600014, 4, 0x4000, 1, 0x0, [(0, 8, .w1c, false)]⟩,
   ⟨0x600018, 4, 0x4000, 1, 0x0, [(0, 8, .rw, false)]⟩,
   ⟨0x60001c, 4, 0x4000, 1, 0x0, [(0, 5, .ro, false), (5, 3, .ro, false), (8, 4, .ro, false)]⟩,
   ⟨0x600020, 4, 0x4000, 1, 0x0, [(0, 32, .ro, false)]⟩,
   ⟨0x600024, 4, 0x4000, 1, 0x0, [(0, 5, .ro, false)]⟩,
   ⟨0x600028, 4, 0x4000, 1, 0x0, [(0, 1, .ro, false), (1, 1, .ro, false), (8, 6, .ro, false)]⟩,
   ⟨0x60002c, 4, 0x4000, 1, 0x0, [(0, 32, .ro, false)]⟩,
   ⟨0x600030, 4, 0x4000, 1, 0x0, [(0, 32, .ro, false)]⟩,
   ⟨0x600034, 4, 0x4000, 1, 0x0, [(0, 5, .ro, false), (5, 1, .ro, false), (16, 10, .ro, false)]⟩,
   ⟨0x600038, 4, 0x4000, 1, 0x0, [(0, 3, .ro, false)]⟩,
   ⟨0x60003c, 4, 0x4000, 1, 0x0, [(0, 32, .ro, false)]⟩,
   ⟨0x600040, 4, 0x4000, 11, 0x4, [(0, 16, .rw, true), (16, 1, .rw, true)]⟩,
   ⟨0x60006c, 4, 0x4000, 11, 0x4, [(0, 32, .rc, false)]⟩,
   ⟨0x600098, 4, 0x4000, 1, 0x0, [(0, 32, .ro, false)]⟩,
   ⟨0x60009c, 4, 0x4000, 1, 0x0, [(0, 32, .ro, false)]⟩,
   ⟨0x6000a0, 4, 0x4000, 1, 0x0, [(0, 32, .ro, false)]⟩,
   ⟨0x6000a4, 4, 0x4000, 1, 0x0, [(0, 32, .ro, false)]⟩,
   ⟨0x6000a8, 4, 0x4000, 1, 0x0, [(0, 32, .ro, false)]⟩,
   ⟨0x6000ac, 4, 0x4000, 1, 0x0, [(0, 32, .ro, false)]⟩,
   ⟨0x6000b0, 4, 0x4000, 1, 0x0, [(0, 32, .ro, false)]⟩,
   ⟨0x6000b4, 4, 0x4000, 1, 0x0, [(0, 32, .ro, false)]⟩,
   ⟨0x6000b8, 4, 0x4000, 1, 0x0, [(0, 32, .ro, false)]⟩,
   ⟨0x6000bc, 4, 0x4000, 1, 0x0, [(0, 32, .ro, false)]⟩,
   ⟨0x6000c0, 4, 0x4000, 1, 0x0, [(0, 32, .ro, false)]⟩,
   ⟨0x6000c4, 4, 0x4000, 1, 0x0, [(0, 32, .ro, false)]⟩,
   ⟨0x6000c8, 4, 0x4000, 1, 0x0, [(0, 32, .ro, false)]⟩,
   ⟨0x6000cc, 4, 0x4000, 1, 0x0, [(0, 32, .ro, false)]⟩,
   ⟨0x6000d0, 4, 0x4000, 1, 0x0, [(0, 32, .ro, false)]⟩,
   ⟨0x6000d4, 4, 0x4000, 1, 0x0, [(0, 32, .ro, false)]⟩,
   ⟨0x6000d8, 4, 0x4000, 8, 0x4, [(0, 8, .ro, false), (8, 8, .ro, false), (16, 8, .ro, false), (24, 8, .ro, false)]⟩,
   ⟨0x6000f8, 4, 0x4000, 1, 0x0, [(0, 32, .rc, false)]⟩,
   ⟨0x6000fc, 4, 0x4000, 1, 0x0, [(0, 32, .rc, false)]⟩,
   ⟨0x600100, 4, 0x4000, 16, 0x8, [(0, 6, .ro, true), (8, 6, .ro, true), (16, 13, .ro, true)]⟩,
   ⟨0x600104, 4, 0x4000, 16, 0x8, [(0, 8, .ro, true), (8, 2, .ro, true), (10, 1, .ro, true), (11, 4, .ro, true), (15, 1, .ro, true)]⟩]

/-- The registers of block XLAT, in address order of their first instance. -/
def rowsXlat : List RegRow :=
  [
   ⟨0x680000, 1, 0x0, 1, 0x0, [(0, 1, .rw, true)]⟩,
   ⟨0x680004, 1, 0x0, 1, 0x0, [(0, 11, .ro, false), (11, 1, .ro, false)]⟩,
   ⟨0x680008, 1, 0x0, 1, 0x0, [(0, 4, .ro, false), (4, 4, .ro, false), (8, 8, .ro, false), (16, 6, .ro, false), (22, 1, .ro, false)]⟩,
   ⟨0x68000c, 1, 0x0, 1, 0x0, [(0, 32, .ro, false)]⟩,
   ⟨0x680010, 1, 0x0, 1, 0x0, [(0, 16, .ro, false)]⟩,
   ⟨0x680014, 1, 0x0, 1, 0x0, [(0, 6, .w1c, false)]⟩,
   ⟨0x680018, 1, 0x0, 1, 0x0, [(0, 6, .rw, false)]⟩,
   ⟨0x68001c, 1, 0x0, 1, 0x0, [(0, 4, .ro, false)]⟩,
   ⟨0x680020, 1, 0x0, 1, 0x0, [(0, 32, .ro, false)]⟩,
   ⟨0x680024, 1, 0x0, 1, 0x0, [(0, 32, .ro, false)]⟩,
   ⟨0x680028, 1, 0x0, 1, 0x0, [(0, 32, .ro, false)]⟩,
   ⟨0x68002c, 1, 0x0, 1, 0x0, [(0, 32, .ro, false)]⟩,
   ⟨0x680030, 1, 0x0, 1, 0x0, [(0, 32, .ro, false)]⟩,
   ⟨0x680034, 1, 0x0, 1, 0x0, [(0, 32, .ro, false)]⟩,
   ⟨0x680038, 1, 0x0, 1, 0x0, [(0, 32, .ro, false)]⟩,
   ⟨0x68003c, 1, 0x0, 1, 0x0, [(0, 32, .ro, false)]⟩,
   ⟨0x680100, 16, 0x10, 1, 0x0, [(0, 1, .ro, false), (1, 3, .ro, false), (4, 1, .ro, false), (5, 1, .w1c, false), (6, 1, .ro, false), (7, 1, .sc, false), (8, 24, .ro, false)]⟩,
   ⟨0x680104, 16, 0x10, 1, 0x0, [(0, 32, .rw, false)]⟩,
   ⟨0x680108, 16, 0x10, 1, 0x0, [(0, 32, .ro, false)]⟩]

/-- The registers of block ETH, in address order of their first instance. -/
def rowsEth : List RegRow :=
  [⟨0x700000, 2, 0x1000, 1, 0x0, [(0, 1, .rw, true), (1, 1, .rw, true), (2, 1, .rw, false)]⟩,
   ⟨0x700004, 2, 0x1000, 1, 0x0, [(0, 1, .ro, false), (1, 1, .ro, false), (2, 1, .ro, false), (3, 1, .ro, false), (4, 1, .ro, false), (5, 1, .ro, false), (6, 1, .ro, false), (7, 1, .ro, false)]⟩,
   ⟨0x700008, 2, 0x1000, 1, 0x0, [(0, 32, .rw, true)]⟩,
   ⟨0x70000c, 2, 0x1000, 1, 0x0, [(0, 16, .rw, true)]⟩,
   ⟨0x700010, 2, 0x1000, 1, 0x0, [(0, 32, .rw, true)]⟩,
   ⟨0x700014, 2, 0x1000, 1, 0x0, [(0, 32, .rw, true)]⟩,
   ⟨0x700018, 2, 0x1000, 1, 0x0, [(0, 32, .rw, true)]⟩,
   ⟨0x70001c, 2, 0x1000, 1, 0x0, [(0, 32, .rw, true)]⟩,
   ⟨0x700020, 2, 0x1000, 1, 0x0, [(0, 32, .rw, true)]⟩,
   ⟨0x700024, 2, 0x1000, 1, 0x0, [(0, 6, .rw, true), (8, 8, .rw, true), (16, 6, .rw, true), (24, 8, .rw, true)]⟩,
   ⟨0x700028, 2, 0x1000, 1, 0x0, [(0, 8, .rw, true), (8, 1, .rw, true), (9, 1, .rw, true), (10, 1, .rw, true)]⟩,
   ⟨0x70002c, 2, 0x1000, 1, 0x0, [(0, 4, .ro, false), (4, 1, .ro, false)]⟩,
   ⟨0x700030, 2, 0x1000, 1, 0x0, [(0, 32, .ro, false)]⟩,
   ⟨0x700034, 2, 0x1000, 1, 0x0, [(0, 32, .ro, false)]⟩,
   ⟨0x700038, 2, 0x1000, 1, 0x0, [(0, 32, .ro, false)]⟩,
   ⟨0x70003c, 2, 0x1000, 1, 0x0, [(0, 32, .ro, false)]⟩,
   ⟨0x700040, 2, 0x1000, 1, 0x0, [(0, 32, .rc, false)]⟩,
   ⟨0x700044, 2, 0x1000, 1, 0x0, [(0, 7, .w1c, false)]⟩,
   ⟨0x700048, 2, 0x1000, 1, 0x0, [(0, 7, .rw, false)]⟩,
   ⟨0x70004c, 2, 0x1000, 4, 0x4, [(0, 1, .ro, false), (8, 8, .ro, false)]⟩,
   ⟨0x70005c, 2, 0x1000, 1, 0x0, [(0, 32, .ro, false)]⟩,
   ⟨0x700060, 2, 0x1000, 1, 0x0, [(0, 8, .ro, false), (8, 5, .ro, false)]⟩,
   ⟨0x700064, 2, 0x1000, 1, 0x0, [(0, 8, .ro, false), (8, 1, .ro, false), (9, 3, .ro, false)]⟩,
   ⟨0x700068, 2, 0x1000, 1, 0x0, [(0, 8, .ro, false)]⟩,
   ⟨0x70006c, 2, 0x1000, 1, 0x0, [(0, 8, .ro, false)]⟩,
   ⟨0x700070, 2, 0x1000, 1, 0x0, [(0, 32, .ro, false)]⟩,
   ⟨0x700074, 2, 0x1000, 1, 0x0, [(0, 32, .ro, false)]⟩,
   ⟨0x700078, 2, 0x1000, 1, 0x0, [(0, 32, .ro, false)]⟩,
   ⟨0x70007c, 2, 0x1000, 1, 0x0, [(0, 32, .ro, false)]⟩,
   ⟨0x700080, 2, 0x1000, 1, 0x0, [(0, 32, .ro, false)]⟩,
   ⟨0x700084, 2, 0x1000, 1, 0x0, [(0, 32, .ro, false)]⟩,
   ⟨0x700088, 2, 0x1000, 1, 0x0, [(0, 32, .ro, false)]⟩,
   ⟨0x70008c, 2, 0x1000, 1, 0x0, [(0, 32, .ro, false)]⟩,
   ⟨0x700090, 2, 0x1000, 1, 0x0, [(0, 32, .ro, false)]⟩,
   ⟨0x700094, 2, 0x1000, 1, 0x0, [(0, 32, .ro, false)]⟩,
   ⟨0x700098, 2, 0x1000, 1, 0x0, [(0, 32, .ro, false)]⟩,
   ⟨0x70009c, 2, 0x1000, 1, 0x0, [(0, 32, .ro, false)]⟩,
   ⟨0x7000a0, 2, 0x1000, 1, 0x0, [(0, 32, .ro, false)]⟩,
   ⟨0x7000a4, 2, 0x1000, 1, 0x0, [(0, 32, .ro, false)]⟩,
   ⟨0x7000a8, 2, 0x1000, 1, 0x0, [(0, 32, .ro, false)]⟩] ++
  [⟨0x7000ac, 2, 0x1000, 1, 0x0, [(0, 32, .ro, false)]⟩,
   ⟨0x7000b0, 2, 0x1000, 1, 0x0, [(0, 32, .ro, false)]⟩,
   ⟨0x7000b4, 2, 0x1000, 1, 0x0, [(0, 32, .ro, false)]⟩,
   ⟨0x7000b8, 2, 0x1000, 1, 0x0, [(0, 32, .ro, false)]⟩,
   ⟨0x7000bc, 2, 0x1000, 1, 0x0, [(0, 32, .ro, false)]⟩,
   ⟨0x7000c0, 2, 0x1000, 1, 0x0, [(0, 32, .ro, false)]⟩,
   ⟨0x7000c4, 2, 0x1000, 1, 0x0, [(0, 32, .ro, false)]⟩,
   ⟨0x7000c8, 2, 0x1000, 1, 0x0, [(0, 32, .ro, false)]⟩,
   ⟨0x7000cc, 2, 0x1000, 1, 0x0, [(0, 32, .ro, false)]⟩,
   ⟨0x7000d0, 2, 0x1000, 1, 0x0, [(0, 32, .ro, false)]⟩,
   ⟨0x7000d4, 2, 0x1000, 1, 0x0, [(0, 32, .ro, false)]⟩,
   ⟨0x7000d8, 2, 0x1000, 1, 0x0, [(0, 32, .ro, false)]⟩,
   ⟨0x7000dc, 2, 0x1000, 1, 0x0, [(0, 32, .ro, false)]⟩,
   ⟨0x7000e0, 2, 0x1000, 1, 0x0, [(0, 32, .ro, false)]⟩,
   ⟨0x7000e4, 2, 0x1000, 4, 0x4, [(0, 32, .ro, false)]⟩,
   ⟨0x7000f4, 2, 0x1000, 1, 0x0, [(0, 15, .ro, false)]⟩,
   ⟨0x7000f8, 2, 0x1000, 1, 0x0, [(0, 32, .ro, false)]⟩,
   ⟨0x7000fc, 2, 0x1000, 1, 0x0, [(0, 32, .ro, false)]⟩]

/-- The registers of block PCIE, in address order of their first instance. -/
def rowsPcie : List RegRow :=
  [
   ⟨0x720000, 1, 0x0, 1, 0x0, [(0, 6, .ro, false), (6, 3, .ro, false), (9, 5, .ro, false), (14, 1, .ro, false), (15, 1, .ro, false), (16, 1, .ro, false), (17, 1, .ro, false), (18, 1, .ro, false)]⟩,
   ⟨0x720004, 1, 0x0, 1, 0x0, [(0, 8, .rw, true)]⟩,
   ⟨0x720008, 1, 0x0, 1, 0x0, [(0, 7, .w1c, false)]⟩,
   ⟨0x72000c, 1, 0x0, 1, 0x0, [(0, 7, .rw, false)]⟩,
   ⟨0x720010, 1, 0x0, 1, 0x0, [(0, 22, .ro, false)]⟩,
   ⟨0x720014, 1, 0x0, 1, 0x0, [(0, 32, .ro, false)]⟩,
   ⟨0x720018, 1, 0x0, 1, 0x0, [(0, 26, .ro, false), (26, 1, .ro, false), (28, 4, .ro, false)]⟩,
   ⟨0x72001c, 1, 0x0, 1, 0x0, [(0, 32, .ro, false)]⟩,
   ⟨0x720020, 1, 0x0, 1, 0x0, [(0, 32, .ro, false)]⟩,
   ⟨0x720024, 1, 0x0, 1, 0x0, [(0, 32, .ro, false)]⟩,
   ⟨0x720028, 1, 0x0, 1, 0x0, [(0, 32, .ro, false)]⟩,
   ⟨0x72002c, 1, 0x0, 1, 0x0, [(0, 32, .ro, false)]⟩,
   ⟨0x720030, 1, 0x0, 1, 0x0, [(0, 32, .ro, false)]⟩,
   ⟨0x720034, 1, 0x0, 1, 0x0, [(0, 32, .ro, false)]⟩,
   ⟨0x720038, 1, 0x0, 1, 0x0, [(0, 32, .ro, false)]⟩,
   ⟨0x72003c, 1, 0x0, 1, 0x0, [(0, 32, .ro, false)]⟩,
   ⟨0x720040, 16, 0x4, 1, 0x0, [(0, 1, .ro, false), (1, 4, .ro, false), (5, 1, .ro, false)]⟩,
   ⟨0x720080, 16, 0x4, 1, 0x0, [(0, 32, .ro, false)]⟩]

/-- The registers of block RING, in address order of their first instance. -/
def rowsRing : List RegRow :=
  [
   ⟨0x740000, 1, 0x0, 1, 0x0, [(0, 1, .ro, true), (1, 3, .ro, true), (4, 1, .rw, true), (8, 8, .rw, true), (16, 8, .rw, true)]⟩,
   ⟨0x740004, 1, 0x0, 1, 0x0, [(0, 32, .ro, true)]⟩,
   ⟨0x740008, 1, 0x0, 1, 0x0, [(0, 2, .ro, false), (2, 3, .ro, false), (5, 1, .ro, false), (6, 1, .ro, false), (7, 1, .ro, false), (8, 3, .ro, false), (11, 1, .ro, false), (12, 1, .ro, false)]⟩,
   ⟨0x74000c, 1, 0x0, 1, 0x0, [(0, 24, .ro, false)]⟩,
   ⟨0x740010, 1, 0x0, 1, 0x0, [(0, 32, .ro, false)]⟩,
   ⟨0x740014, 1, 0x0, 1, 0x0, [(0, 32, .ro, false)]⟩,
   ⟨0x740018, 1, 0x0, 1, 0x0, [(0, 32, .ro, false)]⟩,
   ⟨0x74001c, 1, 0x0, 1, 0x0, [(0, 32, .ro, false)]⟩,
   ⟨0x740020, 1, 0x0, 1, 0x0, [(0, 32, .ro, false)]⟩,
   ⟨0x740024, 1, 0x0, 1, 0x0, [(0, 32, .ro, false)]⟩,
   ⟨0x740028, 1, 0x0, 1, 0x0, [(0, 32, .ro, false)]⟩,
   ⟨0x74002c, 1, 0x0, 1, 0x0, [(0, 32, .rc, false)]⟩,
   ⟨0x740030, 1, 0x0, 1, 0x0, [(0, 32, .ro, false)]⟩,
   ⟨0x740034, 1, 0x0, 1, 0x0, [(0, 32, .rc, false)]⟩,
   ⟨0x740038, 1, 0x0, 1, 0x0, [(0, 32, .ro, false)]⟩,
   ⟨0x74003c, 1, 0x0, 1, 0x0, [(0, 8, .ro, false)]⟩,
   ⟨0x740040, 8, 0x4, 1, 0x0, [(0, 16, .rw, true)]⟩,
   ⟨0x740060, 1, 0x0, 1, 0x0, [(0, 9, .w1c, false)]⟩,
   ⟨0x740064, 1, 0x0, 1, 0x0, [(0, 9, .rw, false)]⟩,
   ⟨0x740068, 1, 0x0, 1, 0x0, [(0, 32, .ro, false)]⟩,
   ⟨0x74006c, 1, 0x0, 1, 0x0, [(0, 32, .ro, false)]⟩,
   ⟨0x740070, 1, 0x0, 1, 0x0, [(0, 32, .ro, false)]⟩,
   ⟨0x740074, 1, 0x0, 1, 0x0, [(0, 32, .ro, false)]⟩,
   ⟨0x740078, 1, 0x0, 1, 0x0, [(0, 32, .ro, false)]⟩,
   ⟨0x74007c, 1, 0x0, 1, 0x0, [(0, 32, .ro, false)]⟩,
   ⟨0x740080, 1, 0x0, 1, 0x0, [(0, 32, .ro, false)]⟩,
   ⟨0x740084, 1, 0x0, 1, 0x0, [(0, 32, .ro, false)]⟩,
   ⟨0x740088, 1, 0x0, 1, 0x0, [(0, 32, .ro, false)]⟩,
   ⟨0x74008c, 1, 0x0, 1, 0x0, [(0, 32, .ro, false)]⟩,
   ⟨0x740090, 1, 0x0, 1, 0x0, [(0, 32, .ro, false)]⟩,
   ⟨0x740094, 1, 0x0, 1, 0x0, [(0, 32, .ro, false)]⟩,
   ⟨0x740098, 1, 0x0, 1, 0x0, [(0, 32, .ro, false)]⟩,
   ⟨0x74009c, 1, 0x0, 1, 0x0, [(0, 7, .ro, false)]⟩,
   ⟨0x7400a0, 8, 0x4, 1, 0x0, [(0, 32, .ro, false)]⟩]

/-- The registers of block TWIN, in address order of their first instance. -/
def rowsTwin : List RegRow :=
  [
   ⟨0x750000, 1, 0x0, 1, 0x0, [(0, 1, .ro, true), (1, 1, .ro, false), (2, 1, .rw, true), (3, 1, .rw, true)]⟩,
   ⟨0x750004, 1, 0x0, 1, 0x0, [(0, 10, .rw, true), (16, 10, .rw, true)]⟩,
   ⟨0x750008, 1, 0x0, 1, 0x0, [(0, 3, .ro, false), (3, 1, .ro, false), (4, 1, .ro, false), (5, 1, .ro, false), (6, 1, .ro, false), (7, 1, .ro, false), (8, 1, .ro, false), (9, 2, .ro, false), (11, 1, .ro, false), (12, 8, .ro, false)]⟩,
   ⟨0x75000c, 1, 0x0, 1, 0x0, [(0, 32, .ro, true)]⟩,
   ⟨0x750010, 1, 0x0, 1, 0x0, [(0, 32, .ro, false)]⟩,
   ⟨0x750014, 1, 0x0, 1, 0x0, [(0, 32, .ro, false)]⟩,
   ⟨0x750018, 1, 0x0, 1, 0x0, [(0, 32, .ro, false)]⟩,
   ⟨0x75001c, 1, 0x0, 1, 0x0, [(0, 32, .ro, false)]⟩,
   ⟨0x750020, 1, 0x0, 1, 0x0, [(0, 32, .ro, false)]⟩,
   ⟨0x750024, 4, 0x4, 1, 0x0, [(0, 32, .ro, false)]⟩,
   ⟨0x750034, 4, 0x4, 1, 0x0, [(0, 32, .ro, false)]⟩,
   ⟨0x750044, 1, 0x0, 1, 0x0, [(0, 7, .ro, false), (8, 2, .ro, false), (10, 1, .ro, false), (16, 16, .ro, false)]⟩,
   ⟨0x750048, 1, 0x0, 1, 0x0, [(0, 32, .ro, false)]⟩,
   ⟨0x75004c, 1, 0x0, 1, 0x0, [(0, 32, .ro, false)]⟩,
   ⟨0x750050, 1, 0x0, 1, 0x0, [(0, 32, .ro, false)]⟩,
   ⟨0x750054, 1, 0x0, 1, 0x0, [(0, 11, .w1c, false)]⟩,
   ⟨0x750058, 1, 0x0, 1, 0x0, [(0, 11, .rw, false)]⟩,
   ⟨0x75005c, 1, 0x0, 1, 0x0, [(0, 32, .ro, false)]⟩,
   ⟨0x750060, 1, 0x0, 1, 0x0, [(0, 32, .ro, false)]⟩,
   ⟨0x750064, 1, 0x0, 1, 0x0, [(0, 32, .ro, false)]⟩,
   ⟨0x750068, 1, 0x0, 1, 0x0, [(0, 32, .ro, false)]⟩,
   ⟨0x75006c, 1, 0x0, 1, 0x0, [(0, 32, .ro, false)]⟩,
   ⟨0x750070, 1, 0x0, 1, 0x0, [(0, 32, .ro, false)]⟩,
   ⟨0x750074, 1, 0x0, 1, 0x0, [(0, 32, .ro, false)]⟩,
   ⟨0x750078, 1, 0x0, 1, 0x0, [(0, 32, .ro, false)]⟩,
   ⟨0x75007c, 1, 0x0, 1, 0x0, [(0, 32, .ro, false)]⟩,
   ⟨0x750080, 1, 0x0, 1, 0x0, [(0, 32, .ro, false)]⟩,
   ⟨0x750084, 1, 0x0, 1, 0x0, [(0, 32, .ro, false)]⟩,
   ⟨0x750088, 1, 0x0, 1, 0x0, [(0, 32, .ro, false)]⟩,
   ⟨0x75008c, 1, 0x0, 1, 0x0, [(0, 32, .ro, false)]⟩,
   ⟨0x750090, 1, 0x0, 1, 0x0, [(0, 32, .ro, false)]⟩,
   ⟨0x750094, 1, 0x0, 1, 0x0, [(0, 7, .ro, false)]⟩,
   ⟨0x750098, 1, 0x0, 1, 0x0, [(0, 12, .ro, false)]⟩,
   ⟨0x75009c, 1, 0x0, 1, 0x0, [(0, 32, .rc, false)]⟩]

/-- The registers of block DECODE, in address order of their first instance. -/
def rowsDecode : List RegRow :=
  [
   ⟨0x760000, 16, 0x40, 1, 0x0, [(0, 4, .ro, false), (4, 1, .ro, false), (5, 1, .ro, false), (6, 1, .ro, false), (8, 8, .ro, false), (16, 8, .ro, false)]⟩,
   ⟨0x760004, 16, 0x40, 1, 0x0, [(0, 6, .ro, false)]⟩,
   ⟨0x760008, 16, 0x40, 1, 0x0, [(0, 32, .ro, false)]⟩,
   ⟨0x76000c, 16, 0x40, 1, 0x0, [(0, 32, .rc, false)]⟩]

/-- The rows of one block. -/
def Block.rows : Block → List RegRow
  | .keeper => rowsKeeper
  | .almanac => rowsAlmanac
  | .cmd => rowsCmd
  | .therm => rowsTherm
  | .pwr => rowsPwr
  | .clk => rowsClk
  | .tb => rowsTb
  | .crc => rowsCrc
  | .perturb => rowsPerturb
  | .audio => rowsAudio
  | .preview => rowsPreview
  | .sl => rowsSl
  | .bundle => rowsBundle
  | .chan => rowsChan
  | .dispatch => rowsDispatch
  | .eng => rowsEng
  | .mem => rowsMem
  | .xlat => rowsXlat
  | .eth => rowsEth
  | .pcie => rowsPcie
  | .ring => rowsRing
  | .twin => rowsTwin
  | .decode => rowsDecode

/-- The block whose address range holds `a`; none below no base (every address is at or above KEEPER). -/
def blockOf (a : Nat) : Block :=
  if 0x760000 ≤ a then .decode else
  if 0x750000 ≤ a then .twin else
  if 0x740000 ≤ a then .ring else
  if 0x720000 ≤ a then .pcie else
  if 0x700000 ≤ a then .eth else
  if 0x680000 ≤ a then .xlat else
  if 0x600000 ≤ a then .mem else
  if 0x400000 ≤ a then .eng else
  if 0x300000 ≤ a then .dispatch else
  if 0x200000 ≤ a then .chan else
  if 0x110000 ≤ a then .bundle else
  if 0x100000 ≤ a then .sl else
  if 0xb0000 ≤ a then .preview else
  if 0xa0000 ≤ a then .audio else
  if 0x90000 ≤ a then .perturb else
  if 0x80000 ≤ a then .crc else
  if 0x70000 ≤ a then .tb else
  if 0x60000 ≤ a then .clk else
  if 0x50000 ≤ a then .pwr else
  if 0x40000 ≤ a then .therm else
  if 0x20000 ≤ a then .cmd else
  if 0x10000 ≤ a then .almanac else
  .keeper

/-- Domain-resident blocks that R520 leaves unpowered in Standby. -/
def Block.standbyOff : Block → Bool
  | .sl | .bundle | .chan | .dispatch | .eng | .mem | .xlat | .eth | .ring | .twin | .decode | .audio | .preview => true
  | .keeper | .almanac | .cmd | .therm | .pwr | .clk | .tb | .crc | .perturb | .pcie => false

/-- One row of nonzero hardware reset values: field key of instance (0, 0), instances and strides, value. -/
structure ResetRow where
  field : Field
  n1 : Nat
  n2 : Nat
  value : Nat
  deriving DecidableEq, Repr

/-- Every field whose hardware reset value the tables give as one nonzero number. -/
def resetRows : List ResetRow :=
  [⟨F.KEEPER_MODE_BUSY, 1, 1, 1⟩,
   ⟨F.KEEPER_MODE_BOOT_TARGET, 1, 1, 1⟩,
   ⟨F.KEEPER_RESET_CAUSE_COLD, 1, 1, 1⟩,
   ⟨F.CMD_Q_CTRL_SQ_LOG2, 64, 1, 4⟩,
   ⟨F.CMD_Q_CTRL_RQ_LOG2, 64, 1, 5⟩,
   ⟨F.CMD_CTRL_SPI_EN, 1, 1, 1⟩,
   ⟨F.CMD_CTRL_INFLIGHT_LIMIT, 1, 1, 64⟩,
   ⟨F.CMD_JOURNAL_FREE, 1, 1, 16384⟩,
   ⟨F.SL_CTRL_EQ_PRESET, 128, 1, 3⟩,
   ⟨F.BUNDLE_CFG_LANE_EN, 16, 1, 255⟩,
   ⟨F.BUNDLE_CFG_PAR_LANE, 16, 1, 7⟩,
   ⟨F.BUNDLE_CFG_MAX_RATE, 16, 1, 3⟩,
   ⟨F.BUNDLE_STATE_CAP, 16, 1, 3⟩,
   ⟨F.BUNDLE_TALKBACK_EN, 16, 1, 1⟩,
   ⟨F.BUNDLE_FIFO_CTRL_HIGH_WM, 16, 1, 96⟩,
   ⟨F.BUNDLE_FIFO_CTRL_LOW_WM, 16, 1, 32⟩,
   ⟨F.BUNDLE_FIFO_STATUS_HOLD, 16, 1, 1⟩,
   ⟨F.ENG_TASK_KIND, 128, 1, 3⟩,
   ⟨F.ENG_SHED_E_CAP, 128, 1, 15⟩,
   ⟨F.ENG_SHED_AVAIL, 128, 1, 128⟩,
   ⟨F.DISPATCH_CTRL_STEAL_EN, 8, 1, 1⟩,
   ⟨F.DISPATCH_CTRL_XSTEAL_EN, 8, 1, 1⟩,
   ⟨F.DISPATCH_TIMERS_STEAL_DLY, 8, 1, 20⟩,
   ⟨F.DISPATCH_TIMERS_XSTEAL_DLY, 8, 1, 200⟩,
   ⟨F.DISPATCH_RESCUE_MARGIN_US, 8, 1, 50⟩,
   ⟨F.TWIN_CFG_REVERT_EN, 1, 1, 1⟩,
   ⟨F.TWIN_TIMERS_REVERT_S, 1, 1, 10⟩,
   ⟨F.TWIN_TIMERS_HOLD, 1, 1, 20⟩,
   ⟨F.RING_STATE_BYPASS, 1, 1, 1⟩,
   ⟨F.MEM_CTRL_WQ_DRAIN, 4, 1, 24⟩,
   ⟨F.MEM_REFRESH_TREFI_NS, 4, 1, 3900⟩,
   ⟨F.MEM_REFRESH_TRFC_NS, 4, 1, 210⟩,
   ⟨F.MEM_REFRESH_LIMIT, 4, 1, 8⟩,
   ⟨F.MEM_REFRESH_POSTPONE_EN, 4, 1, 1⟩,
   ⟨F.MEM_PD_CTRL_TIMER, 4, 1, 100⟩,
   ⟨F.XLAT_CTRL_PREEMPT_EN, 1, 1, 1⟩,
   ⟨F.ETH_CTRL_EN, 2, 1, 1⟩,
   ⟨F.ETH_NET_PREFIX4, 2, 1, 24⟩,
   ⟨F.ETH_NET_PREFIX6, 2, 1, 64⟩,
   ⟨F.ETH_NET_DSCP_PTP, 2, 1, 46⟩,
   ⟨F.ETH_NET_TTL_CTRL, 2, 1, 64⟩,
   ⟨F.ETH_PTP_CFG_DOMAIN, 2, 1, 127⟩,
   ⟨F.ETH_PTP_STATE_PORT_STATE, 2, 1, 1⟩,
   ⟨F.TB_CTRL_PTP_STEER, 1, 1, 1⟩,
   ⟨F.TB_INC, 1, 1, 67108864⟩,
   ⟨F.TB_INC_LIMIT_PPM, 1, 1, 100⟩,
   ⟨F.TB_HOLD_INC, 1, 1, 67108864⟩,
   ⟨F.TB_DISC_WINDOW_PPM, 1, 1, 50⟩,
   ⟨F.TB_DISC_REF_DIV, 1, 1, 1⟩,
   ⟨F.TB_REF_NOM, 1, 1, 1000000000⟩,
   ⟨F.PREVIEW_BACKGROUND, 1, 1, 537395264⟩,
   ⟨F.PREVIEW_LANE_DEEMPH, 4, 1, 2⟩,
   ⟨F.AUDIO_CTRL_PLL_EN, 1, 1, 1⟩,
   ⟨F.AUDIO_FADE_TIMEOUT_US, 1, 1, 20000⟩,
   ⟨F.AUDIO_FADE_RAMP_US, 1, 1, 1000⟩,
   ⟨F.AUDIO_P_TX_SRC_0, 4, 1, 4278124286⟩,
   ⟨F.AUDIO_P_TX_SRC_1, 4, 1, 4278124286⟩,
   ⟨F.AUDIO_P_TX_SRC_2, 4, 1, 4278124286⟩,
   ⟨F.AUDIO_P_TX_SRC_3, 4, 1, 4278124286⟩,
   ⟨F.CRC_CTRL_POLY, 8, 1, 1⟩,
   ⟨F.CRC_CTRL_GUARD_LEN, 8, 1, 2⟩,
   ⟨F.PWR_CTRL_AUTO_EN, 1, 1, 1⟩,
   ⟨F.PWR_CTRL_GUARD, 1, 1, 20⟩,
   ⟨F.PWR_BE_GATED, 1, 1, 200⟩,
   ⟨F.PWR_BE_RETAIN, 1, 1, 10000⟩,
   ⟨F.PWR_BE_OFF, 1, 1, 200000⟩,
   ⟨F.PWR_DOM_STATE, 183, 1, 3⟩,
   ⟨F.PWR_DOM_FLOOR, 183, 1, 3⟩,
   ⟨F.CLK_QCFG_QUAL_PPM, 3, 1, 100⟩,
   ⟨F.THERM_CTRL_THROTTLE_EN, 1, 1, 1⟩,
   ⟨F.THERM_CTRL_STEP_DOWN_MS, 1, 1, 10⟩,
   ⟨F.PERTURB_KEY_ID, 1, 1, 65535⟩,
   ⟨F.PERTURB_K_SEED, 7, 1, 1⟩,
   ⟨F.PCIE_CTRL_CPL_TIMEOUT_MS, 1, 1, 50⟩]
end Sys2Proof.Machine
end

