-- ==== Sys2Proof/Machine/Counters.lean ====
section
/-! DEFINITION. The counters of R485: every statistics counter (48 bits, in LO and HI registers, SAT in bit 31 of HI)
and every error counter (32 bits) of the register map, with the place of its SAT flag as its chapter names it. -/
namespace Sys2Proof.Machine

/-- A counter of R485. `wide lo hi`: 48 bits. `narrow c sat bit step`: 32 bits, SAT flag in bit `bit + step × instance`
of field `sat`; with `step` 0 the flag lies in the same block instance as the counter, otherwise in the one
SAT register of the block (R485, R521, R522). `none`: no field holds the flag (R495, CMD.SPI_DROP). -/
inductive Ctr where
  | wide (lo hi : Field)
  | narrow (c : Field) (sat : Option Field) (bit step : Nat)
  deriving DecidableEq, Repr

/-- The register at which R488 addresses the counter: LO, or the counter itself. -/
def Ctr.lo : Ctr → Field
  | .wide lo _ => lo
  | .narrow c _ _ _ => c

namespace C
/-- CMD.ACCEPTED -/
def CMD_ACCEPTED : Ctr := .wide F.CMD_ACCEPTED_LO F.CMD_ACCEPTED_HI
/-- CMD.REJECTED -/
def CMD_REJECTED : Ctr := .wide F.CMD_REJECTED_LO F.CMD_REJECTED_HI
/-- CMD.DUPLICATE -/
def CMD_DUPLICATE : Ctr := .wide F.CMD_DUPLICATE_LO F.CMD_DUPLICATE_HI
/-- CMD.RESUMED -/
def CMD_RESUMED : Ctr := .wide F.CMD_RESUMED_LO F.CMD_RESUMED_HI
/-- CMD.SPI_DROP -/
def CMD_SPI_DROP : Ctr := .narrow F.CMD_SPI_DROP none 0 0
/-- KEEPER.WARM_RESETS -/
def KEEPER_WARM_RESETS : Ctr := .narrow F.KEEPER_WARM_RESETS (some F.KEEPER_SAT) 0 0
/-- KEEPER.EVLOG_DROPPED -/
def KEEPER_EVLOG_DROPPED : Ctr := .narrow F.KEEPER_EVLOG_DROPPED (some F.KEEPER_SAT) 1 0
/-- THERM.WARN_CNT -/
def THERM_WARN_CNT : Ctr := .narrow F.THERM_WARN_CNT (some F.THERM_SAT) 0 0
/-- THERM.THROTTLE_CNT -/
def THERM_THROTTLE_CNT : Ctr := .narrow F.THERM_THROTTLE_CNT (some F.THERM_SAT) 1 0
/-- THERM.SENSOR_FAIL_CNT -/
def THERM_SENSOR_FAIL_CNT : Ctr := .narrow F.THERM_SENSOR_FAIL_CNT (some F.THERM_SAT) 2 0
/-- THERM.HOLD_CNT -/
def THERM_HOLD_CNT : Ctr := .narrow F.THERM_HOLD_CNT (some F.THERM_SAT) 3 0
/-- PWR.WAKES -/
def PWR_WAKES : Ctr := .wide F.PWR_WAKES_LO F.PWR_WAKES_HI
/-- PWR.DECISIONS -/
def PWR_DECISIONS : Ctr := .wide F.PWR_DECISIONS_LO F.PWR_DECISIONS_HI
/-- PWR.LATE_WAKE -/
def PWR_LATE_WAKE : Ctr := .narrow F.PWR_LATE_WAKE (some F.PWR_SAT) 0 0
/-- PWR.WAKE_FAIL -/
def PWR_WAKE_FAIL : Ctr := .narrow F.PWR_WAKE_FAIL (some F.PWR_SAT) 1 0
/-- CLK.PLL_UNLOCK -/
def CLK_PLL_UNLOCK : Ctr := .narrow F.CLK_PLL_UNLOCK (some F.CLK_SAT) 0 0
/-- CLK.RES_FAULT -/
def CLK_RES_FAULT : Ctr := .narrow F.CLK_RES_FAULT (some F.CLK_SAT) 1 0
/-- CLK.DISQUAL -/
def CLK_DISQUAL : Ctr := .narrow F.CLK_DISQUAL (some F.CLK_SAT) 2 1
/-- CLK.STARTS -/
def CLK_STARTS : Ctr := .wide F.CLK_STARTS_LO F.CLK_STARTS_HI
/-- TB.GLITCH -/
def TB_GLITCH : Ctr := .narrow F.TB_GLITCH (some F.TB_STATUS_SAT) 0 0
/-- TB.HOLDOVER -/
def TB_HOLDOVER : Ctr := .narrow F.TB_HOLDOVER (some F.TB_STATUS_SAT) 1 0
/-- TB.PULSE_LATE -/
def TB_PULSE_LATE : Ctr := .narrow F.TB_PULSE_LATE (some F.TB_STATUS_SAT) 2 0
/-- TB.PULSE_SKIP -/
def TB_PULSE_SKIP : Ctr := .narrow F.TB_PULSE_SKIP (some F.TB_STATUS_SAT) 3 0
/-- TB.TSQ_OVF -/
def TB_TSQ_OVF : Ctr := .narrow F.TB_TSQ_OVF (some F.TB_STATUS_SAT) 4 1
/-- TB.FREF_CNT -/
def TB_FREF_CNT : Ctr := .wide F.TB_FREF_CNT_LO F.TB_FREF_CNT_HI
/-- PERTURB.SET_CNT -/
def PERTURB_SET_CNT : Ctr := .narrow F.PERTURB_SET_CNT none 0 0
/-- PERTURB.KEY_FAIL -/
def PERTURB_KEY_FAIL : Ctr := .narrow F.PERTURB_KEY_FAIL none 0 0
/-- PERTURB.INJECTED -/
def PERTURB_INJECTED : Ctr := .wide F.PERTURB_INJECTED_LO F.PERTURB_INJECTED_HI
/-- PERTURB.K_COUNT -/
def PERTURB_K_COUNT : Ctr := .narrow F.PERTURB_K_COUNT (some F.PERTURB_K_CFG_SAT) 0 0
/-- AUDIO.PDM_STUCK -/
def AUDIO_PDM_STUCK : Ctr := .narrow F.AUDIO_PDM_STUCK (some F.AUDIO_SAT) 0 0
/-- AUDIO.AMCLK_GLITCH -/
def AUDIO_AMCLK_GLITCH : Ctr := .narrow F.AUDIO_AMCLK_GLITCH (some F.AUDIO_SAT) 1 0
/-- AUDIO.AMCLK_LOSS -/
def AUDIO_AMCLK_LOSS : Ctr := .narrow F.AUDIO_AMCLK_LOSS (some F.AUDIO_SAT) 2 0
/-- AUDIO.P_GLITCH -/
def AUDIO_P_GLITCH : Ctr := .narrow F.AUDIO_P_GLITCH (some F.AUDIO_SAT) 3 4
/-- AUDIO.P_CLK_LOSS -/
def AUDIO_P_CLK_LOSS : Ctr := .narrow F.AUDIO_P_CLK_LOSS (some F.AUDIO_SAT) 4 4
/-- AUDIO.P_SLIP -/
def AUDIO_P_SLIP : Ctr := .narrow F.AUDIO_P_SLIP (some F.AUDIO_SAT) 5 4
/-- AUDIO.P_RATE_CHANGE -/
def AUDIO_P_RATE_CHANGE : Ctr := .narrow F.AUDIO_P_RATE_CHANGE (some F.AUDIO_SAT) 6 4
/-- AUDIO.RAMPS -/
def AUDIO_RAMPS : Ctr := .wide F.AUDIO_RAMPS_LO F.AUDIO_RAMPS_HI
/-- AUDIO.CROSSES -/
def AUDIO_CROSSES : Ctr := .wide F.AUDIO_CROSSES_LO F.AUDIO_CROSSES_HI
/-- AUDIO.P_FRAMES -/
def AUDIO_P_FRAMES : Ctr := .wide F.AUDIO_P_FRAMES_LO F.AUDIO_P_FRAMES_HI
/-- PREVIEW.BASE_REPEAT -/
def PREVIEW_BASE_REPEAT : Ctr := .narrow F.PREVIEW_BASE_REPEAT (some F.PREVIEW_SAT) 0 0
/-- PREVIEW.BASE_MISSING -/
def PREVIEW_BASE_MISSING : Ctr := .narrow F.PREVIEW_BASE_MISSING (some F.PREVIEW_SAT) 1 0
/-- PREVIEW.LATE_LINE -/
def PREVIEW_LATE_LINE : Ctr := .narrow F.PREVIEW_LATE_LINE (some F.PREVIEW_SAT) 2 0
/-- PREVIEW.READ_POISON -/
def PREVIEW_READ_POISON : Ctr := .narrow F.PREVIEW_READ_POISON (some F.PREVIEW_SAT) 3 0
/-- PREVIEW.LINK_RESTART -/
def PREVIEW_LINK_RESTART : Ctr := .narrow F.PREVIEW_LINK_RESTART (some F.PREVIEW_SAT) 4 0
/-- PREVIEW.LANES -/
def PREVIEW_LANES : Ctr := .wide F.PREVIEW_LANES_LO F.PREVIEW_LANES_HI
/-- PREVIEW.PROXY -/
def PREVIEW_PROXY : Ctr := .wide F.PREVIEW_PROXY_LO F.PREVIEW_PROXY_HI
/-- SL.CODE_ERR -/
def SL_CODE_ERR : Ctr := .narrow F.SL_CODE_ERR (some F.SL_STATUS_SAT) 0 0
/-- SL.MARKER_ERR -/
def SL_MARKER_ERR : Ctr := .narrow F.SL_MARKER_ERR (some F.SL_STATUS_SAT) 1 0
/-- SL.POISON -/
def SL_POISON : Ctr := .narrow F.SL_POISON (some F.SL_STATUS_SAT) 2 0
/-- SL.LOCK_LOSS -/
def SL_LOCK_LOSS : Ctr := .narrow F.SL_LOCK_LOSS (some F.SL_STATUS_SAT) 3 0
/-- SL.RECON -/
def SL_RECON : Ctr := .narrow F.SL_RECON (some F.SL_STATUS_SAT) 4 0
/-- SL.RETRAIN -/
def SL_RETRAIN : Ctr := .narrow F.SL_RETRAIN (some F.SL_STATUS_SAT) 5 0
/-- BUNDLE.RECON -/
def BUNDLE_RECON : Ctr := .wide F.BUNDLE_RECON_LO F.BUNDLE_RECON_HI
/-- BUNDLE.POISON -/
def BUNDLE_POISON : Ctr := .wide F.BUNDLE_POISON_LO F.BUNDLE_POISON_HI
/-- BUNDLE.TRAIN_FAIL -/
def BUNDLE_TRAIN_FAIL : Ctr := .narrow F.BUNDLE_TRAIN_FAIL (some F.BUNDLE_STATE_SAT) 0 0
/-- BUNDLE.LANE_LOSS -/
def BUNDLE_LANE_LOSS : Ctr := .narrow F.BUNDLE_LANE_LOSS (some F.BUNDLE_STATE_SAT) 1 0
/-- BUNDLE.FLUSH_DISCARD -/
def BUNDLE_FLUSH_DISCARD : Ctr := .narrow F.BUNDLE_FLUSH_DISCARD (some F.BUNDLE_FIFO_STATUS_SAT) 0 0
/-- BUNDLE.OVERFLOW -/
def BUNDLE_OVERFLOW : Ctr := .narrow F.BUNDLE_OVERFLOW (some F.BUNDLE_FIFO_STATUS_SAT) 1 0
/-- BUNDLE.CHECK_ERR -/
def BUNDLE_CHECK_ERR : Ctr := .narrow F.BUNDLE_CHECK_ERR (some F.BUNDLE_FIFO_STATUS_SAT) 2 0
/-- BUNDLE.SEQ_ERR -/
def BUNDLE_SEQ_ERR : Ctr := .narrow F.BUNDLE_SEQ_ERR (some F.BUNDLE_FIFO_STATUS_SAT) 3 0
/-- BUNDLE.PARITY_ERR -/
def BUNDLE_PARITY_ERR : Ctr := .narrow F.BUNDLE_PARITY_ERR (some F.BUNDLE_FIFO_STATUS_SAT) 4 0
/-- CHAN.EXCURSION -/
def CHAN_EXCURSION : Ctr := .narrow F.CHAN_EXCURSION (some F.CHAN_STATE_SAT_EXC) 0 0
/-- CHAN.CONCEAL -/
def CHAN_CONCEAL : Ctr := .narrow F.CHAN_CONCEAL (some F.CHAN_STATE_SAT_CONC) 0 0
/-- DISPATCH.UNISSUED -/
def DISPATCH_UNISSUED : Ctr := .narrow F.DISPATCH_UNISSUED (some F.DISPATCH_STATUS_SAT_UNISSUED) 0 0
/-- DISPATCH.ISSUED -/
def DISPATCH_ISSUED : Ctr := .wide F.DISPATCH_ISSUED_LO F.DISPATCH_ISSUED_HI
/-- DISPATCH.TAKEN -/
def DISPATCH_TAKEN : Ctr := .wide F.DISPATCH_TAKEN_LO F.DISPATCH_TAKEN_HI
/-- DISPATCH.AFFINITY -/
def DISPATCH_AFFINITY : Ctr := .wide F.DISPATCH_AFFINITY_LO F.DISPATCH_AFFINITY_HI
/-- DISPATCH.STEAL -/
def DISPATCH_STEAL : Ctr := .wide F.DISPATCH_STEAL_LO F.DISPATCH_STEAL_HI
/-- DISPATCH.XSTEAL -/
def DISPATCH_XSTEAL : Ctr := .wide F.DISPATCH_XSTEAL_LO F.DISPATCH_XSTEAL_HI
/-- DISPATCH.PREEMPT -/
def DISPATCH_PREEMPT : Ctr := .wide F.DISPATCH_PREEMPT_LO F.DISPATCH_PREEMPT_HI
/-- DISPATCH.CANCELLED -/
def DISPATCH_CANCELLED : Ctr := .wide F.DISPATCH_CANCELLED_LO F.DISPATCH_CANCELLED_HI
/-- DISPATCH.REISSUED -/
def DISPATCH_REISSUED : Ctr := .wide F.DISPATCH_REISSUED_LO F.DISPATCH_REISSUED_HI
/-- DISPATCH.RESCUED -/
def DISPATCH_RESCUED : Ctr := .wide F.DISPATCH_RESCUED_LO F.DISPATCH_RESCUED_HI
/-- ENG.REFETCH -/
def ENG_REFETCH : Ctr := .narrow F.ENG_REFETCH (some F.ENG_STATE_SAT) 0 0
/-- ENG.PUBLISH_ERR -/
def ENG_PUBLISH_ERR : Ctr := .narrow F.ENG_PUBLISH_ERR (some F.ENG_STATE_SAT) 1 0
/-- ENG.CTUS -/
def ENG_CTUS : Ctr := .wide F.ENG_CTUS_LO F.ENG_CTUS_HI
/-- ENG.ROWS -/
def ENG_ROWS : Ctr := .wide F.ENG_ROWS_LO F.ENG_ROWS_HI
/-- ENG.FETCH -/
def ENG_FETCH : Ctr := .wide F.ENG_FETCH_LO F.ENG_FETCH_HI
/-- ENG.STALL -/
def ENG_STALL : Ctr := .wide F.ENG_STALL_LO F.ENG_STALL_HI
/-- MEM.SECTOR_ERR -/
def MEM_SECTOR_ERR : Ctr := .narrow F.MEM_SECTOR_ERR (some F.MEM_SAT) 0 0
/-- MEM.ECC_UNCORR -/
def MEM_ECC_UNCORR : Ctr := .narrow F.MEM_ECC_UNCORR (some F.MEM_SAT) 1 0
/-- MEM.REBUILT -/
def MEM_REBUILT : Ctr := .narrow F.MEM_REBUILT (some F.MEM_SAT) 2 0
/-- MEM.REFRESHES -/
def MEM_REFRESHES : Ctr := .wide F.MEM_REFRESHES_LO F.MEM_REFRESHES_HI
/-- MEM.POSTPONED -/
def MEM_POSTPONED : Ctr := .wide F.MEM_POSTPONED_LO F.MEM_POSTPONED_HI
/-- MEM.CATCHUP -/
def MEM_CATCHUP : Ctr := .wide F.MEM_CATCHUP_LO F.MEM_CATCHUP_HI
/-- MEM.FORCED -/
def MEM_FORCED : Ctr := .wide F.MEM_FORCED_LO F.MEM_FORCED_HI
/-- MEM.URGENT -/
def MEM_URGENT : Ctr := .wide F.MEM_URGENT_LO F.MEM_URGENT_HI
/-- MEM.ECC_CORR -/
def MEM_ECC_CORR : Ctr := .wide F.MEM_ECC_CORR_LO F.MEM_ECC_CORR_HI
/-- MEM.PD_ENTRY -/
def MEM_PD_ENTRY : Ctr := .wide F.MEM_PD_ENTRY_LO F.MEM_PD_ENTRY_HI
/-- XLAT.FAULTS -/
def XLAT_FAULTS : Ctr := .narrow F.XLAT_FAULTS (some F.XLAT_SAT) 0 0
/-- XLAT.SAVE_FAULT -/
def XLAT_SAVE_FAULT : Ctr := .narrow F.XLAT_SAVE_FAULT (some F.XLAT_SAT) 1 0
/-- XLAT.CTX_BAD -/
def XLAT_CTX_BAD : Ctr := .narrow F.XLAT_CTX_BAD (some F.XLAT_SAT) 2 0
/-- XLAT.OVERFLOW_SEG -/
def XLAT_OVERFLOW_SEG : Ctr := .narrow F.XLAT_OVERFLOW_SEG (some F.XLAT_SAT) 3 0
/-- XLAT.SAVES -/
def XLAT_SAVES : Ctr := .wide F.XLAT_SAVES_LO F.XLAT_SAVES_HI
/-- XLAT.DMA_PREEMPT -/
def XLAT_DMA_PREEMPT : Ctr := .wide F.XLAT_DMA_PREEMPT_LO F.XLAT_DMA_PREEMPT_HI
/-- ETH.FEC_UNCORR -/
def ETH_FEC_UNCORR : Ctr := .narrow F.ETH_FEC_UNCORR (some F.ETH_SAT) 0 0
/-- ETH.FCS_ERR -/
def ETH_FCS_ERR : Ctr := .narrow F.ETH_FCS_ERR (some F.ETH_SAT) 1 0
/-- ETH.RX_DISCARD -/
def ETH_RX_DISCARD : Ctr := .narrow F.ETH_RX_DISCARD (some F.ETH_SAT) 2 0
/-- ETH.TX_DROP -/
def ETH_TX_DROP : Ctr := .narrow F.ETH_TX_DROP (some F.ETH_SAT) 3 0
/-- ETH.UNRESOLVED -/
def ETH_UNRESOLVED : Ctr := .narrow F.ETH_UNRESOLVED (some F.ETH_SAT) 4 0
/-- ETH.LINK_LOSS -/
def ETH_LINK_LOSS : Ctr := .narrow F.ETH_LINK_LOSS (some F.ETH_SAT) 5 0
/-- ETH.PAUSE_RX -/
def ETH_PAUSE_RX : Ctr := .narrow F.ETH_PAUSE_RX (some F.ETH_SAT) 6 0
/-- ETH.PACE_LATE -/
def ETH_PACE_LATE : Ctr := .narrow F.ETH_PACE_LATE (some F.ETH_SAT) 7 0
/-- ETH.ANNOUNCE_TO -/
def ETH_ANNOUNCE_TO : Ctr := .narrow F.ETH_ANNOUNCE_TO (some F.ETH_SAT) 8 0
/-- ETH.FEC_SYM -/
def ETH_FEC_SYM : Ctr := .narrow F.ETH_FEC_SYM (some F.ETH_SAT) 9 1
/-- ETH.PTP_STEPS -/
def ETH_PTP_STEPS : Ctr := .narrow F.ETH_PTP_STEPS (some F.ETH_SAT) 13 0
/-- ETH.HOLDOVER -/
def ETH_HOLDOVER : Ctr := .narrow F.ETH_HOLDOVER (some F.ETH_SAT) 14 0
/-- ETH.TX_FRAMES -/
def ETH_TX_FRAMES : Ctr := .wide F.ETH_TX_FRAMES_LO F.ETH_TX_FRAMES_HI
/-- ETH.TX_BYTES -/
def ETH_TX_BYTES : Ctr := .wide F.ETH_TX_BYTES_LO F.ETH_TX_BYTES_HI
/-- ETH.RX_FRAMES -/
def ETH_RX_FRAMES : Ctr := .wide F.ETH_RX_FRAMES_LO F.ETH_RX_FRAMES_HI
/-- ETH.RX_BYTES -/
def ETH_RX_BYTES : Ctr := .wide F.ETH_RX_BYTES_LO F.ETH_RX_BYTES_HI
/-- ETH.MEDIA_PKTS -/
def ETH_MEDIA_PKTS : Ctr := .wide F.ETH_MEDIA_PKTS_LO F.ETH_MEDIA_PKTS_HI
/-- ETH.PTP_TX -/
def ETH_PTP_TX : Ctr := .wide F.ETH_PTP_TX_LO F.ETH_PTP_TX_HI
/-- ETH.PTP_RX -/
def ETH_PTP_RX : Ctr := .wide F.ETH_PTP_RX_LO F.ETH_PTP_RX_HI
/-- ETH.BEACON_TX -/
def ETH_BEACON_TX : Ctr := .wide F.ETH_BEACON_TX_LO F.ETH_BEACON_TX_HI
/-- ETH.PEER_SEEN -/
def ETH_PEER_SEEN : Ctr := .wide F.ETH_PEER_SEEN_LO F.ETH_PEER_SEEN_HI
/-- ETH.FEC_CORR -/
def ETH_FEC_CORR : Ctr := .wide F.ETH_FEC_CORR_LO F.ETH_FEC_CORR_HI
/-- PCIE.CORR_ERR -/
def PCIE_CORR_ERR : Ctr := .narrow F.PCIE_CORR_ERR (some F.PCIE_SAT) 0 0
/-- PCIE.UNCORR_ERR -/
def PCIE_UNCORR_ERR : Ctr := .narrow F.PCIE_UNCORR_ERR (some F.PCIE_SAT) 1 0
/-- PCIE.REPLAY -/
def PCIE_REPLAY : Ctr := .narrow F.PCIE_REPLAY (some F.PCIE_SAT) 2 0
/-- PCIE.CPL_TIMEOUT -/
def PCIE_CPL_TIMEOUT : Ctr := .narrow F.PCIE_CPL_TIMEOUT (some F.PCIE_SAT) 3 0
/-- PCIE.RECOVERY -/
def PCIE_RECOVERY : Ctr := .narrow F.PCIE_RECOVERY (some F.PCIE_SAT) 4 0
/-- PCIE.DIRECT_REFUSED -/
def PCIE_DIRECT_REFUSED : Ctr := .narrow F.PCIE_DIRECT_REFUSED (some F.PCIE_SAT) 5 0
/-- PCIE.LANE_ERR -/
def PCIE_LANE_ERR : Ctr := .narrow F.PCIE_LANE_ERR (some F.PCIE_SAT) 6 1
/-- PCIE.RX_TLP -/
def PCIE_RX_TLP : Ctr := .wide F.PCIE_RX_TLP_LO F.PCIE_RX_TLP_HI
/-- PCIE.TX_TLP -/
def PCIE_TX_TLP : Ctr := .wide F.PCIE_TX_TLP_LO F.PCIE_TX_TLP_HI
/-- RING.LEADER_CHANGE -/
def RING_LEADER_CHANGE : Ctr := .narrow F.RING_LEADER_CHANGE (some F.RING_SAT) 0 0
/-- RING.MISSED -/
def RING_MISSED : Ctr := .narrow F.RING_MISSED (some F.RING_SAT) 1 0
/-- RING.UNSYNC -/
def RING_UNSYNC : Ctr := .narrow F.RING_UNSYNC (some F.RING_SAT) 2 0
/-- RING.WITHHOLD -/
def RING_WITHHOLD : Ctr := .narrow F.RING_WITHHOLD (some F.RING_SAT) 3 0
/-- RING.MSG_ERR -/
def RING_MSG_ERR : Ctr := .narrow F.RING_MSG_ERR (some F.RING_SAT) 4 0
/-- RING.LINK_LOSS -/
def RING_LINK_LOSS : Ctr := .narrow F.RING_LINK_LOSS (some F.RING_SAT) 5 0
/-- RING.DUPLICATE -/
def RING_DUPLICATE : Ctr := .narrow F.RING_DUPLICATE (some F.RING_SAT) 6 0
/-- RING.CALENDS -/
def RING_CALENDS : Ctr := .wide F.RING_CALENDS_LO F.RING_CALENDS_HI
/-- RING.FORWARDED -/
def RING_FORWARDED : Ctr := .wide F.RING_FORWARDED_LO F.RING_FORWARDED_HI
/-- RING.STATS_RX -/
def RING_STATS_RX : Ctr := .wide F.RING_STATS_RX_LO F.RING_STATS_RX_HI
/-- TWIN.TAKEOVER -/
def TWIN_TAKEOVER : Ctr := .narrow F.TWIN_TAKEOVER (some F.TWIN_SAT) 0 0
/-- TWIN.DEMOTE -/
def TWIN_DEMOTE : Ctr := .narrow F.TWIN_DEMOTE (some F.TWIN_SAT) 1 0
/-- TWIN.LINK_LOSS -/
def TWIN_LINK_LOSS : Ctr := .narrow F.TWIN_LINK_LOSS (some F.TWIN_SAT) 2 0
/-- TWIN.DIGEST_MISMATCH -/
def TWIN_DIGEST_MISMATCH : Ctr := .narrow F.TWIN_DIGEST_MISMATCH (some F.TWIN_SAT) 3 0
/-- TWIN.UNCONFIRMED -/
def TWIN_UNCONFIRMED : Ctr := .narrow F.TWIN_UNCONFIRMED (some F.TWIN_SAT) 4 0
/-- TWIN.COPY_FAIL -/
def TWIN_COPY_FAIL : Ctr := .narrow F.TWIN_COPY_FAIL (some F.TWIN_SAT) 5 0
/-- TWIN.MSG_ERR -/
def TWIN_MSG_ERR : Ctr := .narrow F.TWIN_MSG_ERR (some F.TWIN_SAT) 6 0
/-- TWIN.DIGEST_OK -/
def TWIN_DIGEST_OK : Ctr := .wide F.TWIN_DIGEST_OK_LO F.TWIN_DIGEST_OK_HI
/-- TWIN.DIVERGE -/
def TWIN_DIVERGE : Ctr := .wide F.TWIN_DIVERGE_LO F.TWIN_DIVERGE_HI
/-- TWIN.PROPOSALS -/
def TWIN_PROPOSALS : Ctr := .wide F.TWIN_PROPOSALS_LO F.TWIN_PROPOSALS_HI
/-- DECODE.BUDGET_ERR -/
def DECODE_BUDGET_ERR : Ctr := .narrow F.DECODE_BUDGET_ERR (some F.DECODE_STATE_SAT) 0 0
end C

/-- A counter with its instances: `n1` block instances, `n2` inner ones. -/
structure CtrRow where
  ctr : Ctr
  block : Block
  n1 : Nat
  n2 : Nat
  deriving DecidableEq, Repr

/-- Every counter of the register map, in block order. -/
def ctrRows : List CtrRow :=
  [⟨C.CMD_ACCEPTED, .cmd, 1, 1⟩,
   ⟨C.CMD_REJECTED, .cmd, 1, 1⟩,
   ⟨C.CMD_DUPLICATE, .cmd, 1, 1⟩,
   ⟨C.CMD_RESUMED, .cmd, 1, 1⟩,
   ⟨C.CMD_SPI_DROP, .cmd, 1, 1⟩,
   ⟨C.KEEPER_WARM_RESETS, .keeper, 1, 1⟩,
   ⟨C.KEEPER_EVLOG_DROPPED, .keeper, 1, 1⟩,
   ⟨C.THERM_WARN_CNT, .therm, 1, 1⟩,
   ⟨C.THERM_THROTTLE_CNT, .therm, 1, 1⟩,
   ⟨C.THERM_SENSOR_FAIL_CNT, .therm, 1, 1⟩,
   ⟨C.THERM_HOLD_CNT, .therm, 1, 1⟩,
   ⟨C.PWR_WAKES, .pwr, 1, 1⟩,
   ⟨C.PWR_DECISIONS, .pwr, 1, 1⟩,
   ⟨C.PWR_LATE_WAKE, .pwr, 1, 1⟩,
   ⟨C.PWR_WAKE_FAIL, .pwr, 1, 1⟩,
   ⟨C.CLK_PLL_UNLOCK, .clk, 1, 1⟩,
   ⟨C.CLK_RES_FAULT, .clk, 1, 1⟩,
   ⟨C.CLK_DISQUAL, .clk, 3, 1⟩,
   ⟨C.CLK_STARTS, .clk, 1, 1⟩,
   ⟨C.TB_GLITCH, .tb, 1, 1⟩,
   ⟨C.TB_HOLDOVER, .tb, 1, 1⟩,
   ⟨C.TB_PULSE_LATE, .tb, 1, 1⟩,
   ⟨C.TB_PULSE_SKIP, .tb, 1, 1⟩,
   ⟨C.TB_TSQ_OVF, .tb, 2, 1⟩,
   ⟨C.TB_FREF_CNT, .tb, 1, 1⟩,
   ⟨C.PERTURB_SET_CNT, .perturb, 1, 1⟩,
   ⟨C.PERTURB_KEY_FAIL, .perturb, 1, 1⟩,
   ⟨C.PERTURB_INJECTED, .perturb, 1, 1⟩,
   ⟨C.PERTURB_K_COUNT, .perturb, 7, 1⟩,
   ⟨C.AUDIO_PDM_STUCK, .audio, 1, 1⟩] ++
  [⟨C.AUDIO_AMCLK_GLITCH, .audio, 1, 1⟩,
   ⟨C.AUDIO_AMCLK_LOSS, .audio, 1, 1⟩,
   ⟨C.AUDIO_P_GLITCH, .audio, 4, 1⟩,
   ⟨C.AUDIO_P_CLK_LOSS, .audio, 4, 1⟩,
   ⟨C.AUDIO_P_SLIP, .audio, 4, 1⟩,
   ⟨C.AUDIO_P_RATE_CHANGE, .audio, 4, 1⟩,
   ⟨C.AUDIO_RAMPS, .audio, 1, 1⟩,
   ⟨C.AUDIO_CROSSES, .audio, 1, 1⟩,
   ⟨C.AUDIO_P_FRAMES, .audio, 4, 1⟩,
   ⟨C.PREVIEW_BASE_REPEAT, .preview, 1, 1⟩,
   ⟨C.PREVIEW_BASE_MISSING, .preview, 1, 1⟩,
   ⟨C.PREVIEW_LATE_LINE, .preview, 1, 1⟩,
   ⟨C.PREVIEW_READ_POISON, .preview, 1, 1⟩,
   ⟨C.PREVIEW_LINK_RESTART, .preview, 1, 1⟩,
   ⟨C.PREVIEW_LANES, .preview, 1, 1⟩,
   ⟨C.PREVIEW_PROXY, .preview, 1, 1⟩,
   ⟨C.SL_CODE_ERR, .sl, 128, 1⟩,
   ⟨C.SL_MARKER_ERR, .sl, 128, 1⟩,
   ⟨C.SL_POISON, .sl, 128, 1⟩,
   ⟨C.SL_LOCK_LOSS, .sl, 128, 1⟩,
   ⟨C.SL_RECON, .sl, 128, 1⟩,
   ⟨C.SL_RETRAIN, .sl, 128, 1⟩,
   ⟨C.BUNDLE_RECON, .bundle, 16, 1⟩,
   ⟨C.BUNDLE_POISON, .bundle, 16, 1⟩,
   ⟨C.BUNDLE_TRAIN_FAIL, .bundle, 16, 1⟩,
   ⟨C.BUNDLE_LANE_LOSS, .bundle, 16, 1⟩,
   ⟨C.BUNDLE_FLUSH_DISCARD, .bundle, 16, 1⟩,
   ⟨C.BUNDLE_OVERFLOW, .bundle, 16, 1⟩,
   ⟨C.BUNDLE_CHECK_ERR, .bundle, 16, 1⟩,
   ⟨C.BUNDLE_SEQ_ERR, .bundle, 16, 1⟩] ++
  [⟨C.BUNDLE_PARITY_ERR, .bundle, 16, 1⟩,
   ⟨C.CHAN_EXCURSION, .chan, 128, 1⟩,
   ⟨C.CHAN_CONCEAL, .chan, 128, 1⟩,
   ⟨C.DISPATCH_UNISSUED, .dispatch, 8, 1⟩,
   ⟨C.DISPATCH_ISSUED, .dispatch, 8, 1⟩,
   ⟨C.DISPATCH_TAKEN, .dispatch, 8, 1⟩,
   ⟨C.DISPATCH_AFFINITY, .dispatch, 8, 1⟩,
   ⟨C.DISPATCH_STEAL, .dispatch, 8, 1⟩,
   ⟨C.DISPATCH_XSTEAL, .dispatch, 8, 1⟩,
   ⟨C.DISPATCH_PREEMPT, .dispatch, 8, 1⟩,
   ⟨C.DISPATCH_CANCELLED, .dispatch, 8, 1⟩,
   ⟨C.DISPATCH_REISSUED, .dispatch, 8, 1⟩,
   ⟨C.DISPATCH_RESCUED, .dispatch, 8, 1⟩,
   ⟨C.ENG_REFETCH, .eng, 128, 1⟩,
   ⟨C.ENG_PUBLISH_ERR, .eng, 128, 1⟩,
   ⟨C.ENG_CTUS, .eng, 128, 1⟩,
   ⟨C.ENG_ROWS, .eng, 128, 1⟩,
   ⟨C.ENG_FETCH, .eng, 128, 1⟩,
   ⟨C.ENG_STALL, .eng, 128, 1⟩,
   ⟨C.MEM_SECTOR_ERR, .mem, 4, 1⟩,
   ⟨C.MEM_ECC_UNCORR, .mem, 4, 1⟩,
   ⟨C.MEM_REBUILT, .mem, 4, 1⟩,
   ⟨C.MEM_REFRESHES, .mem, 4, 1⟩,
   ⟨C.MEM_POSTPONED, .mem, 4, 1⟩,
   ⟨C.MEM_CATCHUP, .mem, 4, 1⟩,
   ⟨C.MEM_FORCED, .mem, 4, 1⟩,
   ⟨C.MEM_URGENT, .mem, 4, 1⟩,
   ⟨C.MEM_ECC_CORR, .mem, 4, 1⟩,
   ⟨C.MEM_PD_ENTRY, .mem, 4, 1⟩,
   ⟨C.XLAT_FAULTS, .xlat, 1, 1⟩] ++
  [⟨C.XLAT_SAVE_FAULT, .xlat, 1, 1⟩,
   ⟨C.XLAT_CTX_BAD, .xlat, 1, 1⟩,
   ⟨C.XLAT_OVERFLOW_SEG, .xlat, 1, 1⟩,
   ⟨C.XLAT_SAVES, .xlat, 1, 1⟩,
   ⟨C.XLAT_DMA_PREEMPT, .xlat, 1, 1⟩,
   ⟨C.ETH_FEC_UNCORR, .eth, 2, 1⟩,
   ⟨C.ETH_FCS_ERR, .eth, 2, 1⟩,
   ⟨C.ETH_RX_DISCARD, .eth, 2, 1⟩,
   ⟨C.ETH_TX_DROP, .eth, 2, 1⟩,
   ⟨C.ETH_UNRESOLVED, .eth, 2, 1⟩,
   ⟨C.ETH_LINK_LOSS, .eth, 2, 1⟩,
   ⟨C.ETH_PAUSE_RX, .eth, 2, 1⟩,
   ⟨C.ETH_PACE_LATE, .eth, 2, 1⟩,
   ⟨C.ETH_ANNOUNCE_TO, .eth, 2, 1⟩,
   ⟨C.ETH_FEC_SYM, .eth, 2, 4⟩,
   ⟨C.ETH_PTP_STEPS, .eth, 2, 1⟩,
   ⟨C.ETH_HOLDOVER, .eth, 2, 1⟩,
   ⟨C.ETH_TX_FRAMES, .eth, 2, 1⟩,
   ⟨C.ETH_TX_BYTES, .eth, 2, 1⟩,
   ⟨C.ETH_RX_FRAMES, .eth, 2, 1⟩,
   ⟨C.ETH_RX_BYTES, .eth, 2, 1⟩,
   ⟨C.ETH_MEDIA_PKTS, .eth, 2, 1⟩,
   ⟨C.ETH_PTP_TX, .eth, 2, 1⟩,
   ⟨C.ETH_PTP_RX, .eth, 2, 1⟩,
   ⟨C.ETH_BEACON_TX, .eth, 2, 1⟩,
   ⟨C.ETH_PEER_SEEN, .eth, 2, 1⟩,
   ⟨C.ETH_FEC_CORR, .eth, 2, 1⟩,
   ⟨C.PCIE_CORR_ERR, .pcie, 1, 1⟩,
   ⟨C.PCIE_UNCORR_ERR, .pcie, 1, 1⟩,
   ⟨C.PCIE_REPLAY, .pcie, 1, 1⟩] ++
  [⟨C.PCIE_CPL_TIMEOUT, .pcie, 1, 1⟩,
   ⟨C.PCIE_RECOVERY, .pcie, 1, 1⟩,
   ⟨C.PCIE_DIRECT_REFUSED, .pcie, 1, 1⟩,
   ⟨C.PCIE_LANE_ERR, .pcie, 16, 1⟩,
   ⟨C.PCIE_RX_TLP, .pcie, 1, 1⟩,
   ⟨C.PCIE_TX_TLP, .pcie, 1, 1⟩,
   ⟨C.RING_LEADER_CHANGE, .ring, 1, 1⟩,
   ⟨C.RING_MISSED, .ring, 1, 1⟩,
   ⟨C.RING_UNSYNC, .ring, 1, 1⟩,
   ⟨C.RING_WITHHOLD, .ring, 1, 1⟩,
   ⟨C.RING_MSG_ERR, .ring, 1, 1⟩,
   ⟨C.RING_LINK_LOSS, .ring, 1, 1⟩,
   ⟨C.RING_DUPLICATE, .ring, 1, 1⟩,
   ⟨C.RING_CALENDS, .ring, 1, 1⟩,
   ⟨C.RING_FORWARDED, .ring, 1, 1⟩,
   ⟨C.RING_STATS_RX, .ring, 1, 1⟩,
   ⟨C.TWIN_TAKEOVER, .twin, 1, 1⟩,
   ⟨C.TWIN_DEMOTE, .twin, 1, 1⟩,
   ⟨C.TWIN_LINK_LOSS, .twin, 1, 1⟩,
   ⟨C.TWIN_DIGEST_MISMATCH, .twin, 1, 1⟩,
   ⟨C.TWIN_UNCONFIRMED, .twin, 1, 1⟩,
   ⟨C.TWIN_COPY_FAIL, .twin, 1, 1⟩,
   ⟨C.TWIN_MSG_ERR, .twin, 1, 1⟩,
   ⟨C.TWIN_DIGEST_OK, .twin, 1, 1⟩,
   ⟨C.TWIN_DIVERGE, .twin, 1, 1⟩,
   ⟨C.TWIN_PROPOSALS, .twin, 1, 1⟩,
   ⟨C.DECODE_BUDGET_ERR, .decode, 16, 1⟩]
end Sys2Proof.Machine
end

