-- ==== Sys2Proof/Config.lean ====
section
/-! DEFINITION. What an implementation fixes or the spec leaves open. Every constant below is opaque: nothing in
Lean can evaluate it, and every statement holds whatever its value is. The entry of the assumption log that declares it
stands in its docstring. -/
namespace Sys2Proof.Config

/-- A value the spec leaves open, the n-th drawn since reset (log entry 5): `Dev.free` counts the draws. -/
opaque freeValue : Nat → Nat

/-- Byte `a` of the flash as the device leaves the factory (log entry 4): the spec gives the structure of the
factory Almanac (R42 to R48) and no contents. -/
opaque factoryFlash : Nat → BitVec 8

/-- What a byte of the in-package memory that nothing has written holds after power-on (log entry 6). -/
opaque hbmPowerOn : Nat → BitVec 8

/-- The assembler's bound O(s) on the bits of an access unit's other NAL units (log entry 8): R245 says what it is
computed from and gives no formula. Arguments: the parameter block, and whether the picture is a random access picture. It fits in 32 bits. -/
opaque overheadBits : List (BitVec 8) → Bool → BitVec 32

/-- The largest Δ of the panes of a gang mosaic on other members (R178, log entry 96): no message of the ring carries their heights. Arguments: the
mosaic, and the panes reported. -/
opaque remoteDelta : Nat → List Nat → BitVec 8

/-- The 16-byte record of a line in the store (R144), whose layout the spec does not give (log entry 94). Arguments: the line, its words, damage. -/
opaque lineRecord : Nat → Nat → Bool → List (BitVec 8)

/-- The 60 bytes of a picture commit record before its CRC (R144), whose layout the spec does not give (log entry 94). The list holds its fields. -/
opaque commitRecord : List Nat → List (BitVec 8)

/-- An HEVC luma sample interpolated at a quarter-sample fraction from the 8 by 8 samples around it (R197, log entry 98). -/
opaque interpolated : List Nat → Nat → Nat → Nat

/-- The 8 by 8 Hadamard transformed difference of 64 differences (R197, log entry 98): the spec gives no scale. -/
opaque hadamard8 : List Int → Nat

/-- The average of two predicted samples (R197, log entry 98). -/
opaque averaged : Nat → Nat → Nat

/-- The estimated bits of a vector's difference against its first AMVP predictor (R197, log entry 98). Arguments: what the predictor rests on, WV, and
the vector in quarter samples. -/
opaque mvdBits : List Nat → Int × Int → Int × Int → Nat

/-- D before its scaling and R of coding a CU in one way (R199, log entry 98): the reconstruction and the bit tables of the engine. Arguments: the
inputs of R187 with what is coded before, and the option. -/
opaque trial : List Nat → List Nat → Nat × Nat

/-- The merge candidates of a CU in list order, each its references and vectors (R199, log entry 98). Arguments: as `trial`, then size and place. -/
opaque mergeCandidates : List Nat → Nat → Nat → Nat → List (List (Nat × Int × Int))

/-- The 8 by 8 Hadamard cost of a luma intra mode at a CU (R199, log entry 98). Arguments: as `trial`, then size, place and mode. -/
opaque intraCost : List Nat → Nat → Nat → Nat → Nat → Nat

/-- The three most probable modes of a CU (R199, log entry 98). Arguments: as `trial`, then size and place. -/
opaque probableModes : List Nat → Nat → Nat → Nat → List Nat

/-- The motion summary of a row without a coarse vector (R192, log entry 98). The argument is the row's inputs. -/
opaque emptyMedian : List Nat → Int × Int

/-- What coding a CTU comes to (R187, log entry 98), as one name for its part of the substream, its reconstruction, its final motion data and the CABAC
states after it. Arguments: the inputs of R187, and the coding that was chosen. -/
opaque ctuCoding : List Nat → List Nat → BitVec 256

/-- The coded bits of a row, its NAL unit overhead and side data message included (R244, log entry 98). Arguments: the names of its CTUs, its side words. -/
opaque codedBits : List Nat → Nat → BitVec 32

/-- A sample of the reconstruction of a row (R187, log entry 98). Arguments: the names of its CTUs, the component (0 Y, 1 Cb, 2 Cr), the column and the
line within the row, both in the component's own grid. -/
opaque codedSample : List Nat → Nat → Nat → Nat → BitVec 16

/-- The rest of what a copy join carries after the rate-control record (R297, log entry 99), whose layout the spec does not give. Arguments: LINEAGE,
the last random access index and the model's figures; then each picture whose reconstruction is held, with its digest and summaries. -/
opaque copyRest : List Int → List (List Int) → List (BitVec 8)

/-- A byte of an access unit (R298, R365, log entry 99). Arguments: its channel, LINEAGE and picture, and the place of the byte. -/
opaque accessUnitByte : List Nat → Nat → BitVec 8

/-- A byte of the MAC address that a unicast destination resolves to (R388, log entry 101). Arguments: the address, and the place of the byte. -/
opaque resolvedMac : Nat → Nat → BitVec 8

/-- A byte of a NAL unit (R381, log entry 101). Arguments: its channel, LINEAGE, picture, first sequence number and whether it is filler; the place. -/
opaque nalByte : List Nat → Nat → BitVec 8

/-- A field of check-value unit 7 as it reads (R449, log entry 103): what the firmware's own checks leave in it. Arguments: the field's place, and when. -/
opaque firmwareUnit : Nat → Nat → Nat

/-- The record of a row in TAIL (R298, log entry 99), whose layout the spec does not give: motion summary, QP, rung and cap. -/
opaque tailRow : List Int → List (BitVec 8)

/-- The bytes of reconstruction buffers, pyramid rows and motion summaries a channel needs (log entry 10): R159 asks that
they fit, and gives no size beyond what the memory can hold. -/
opaque reconBytes : List (BitVec 8) → BitVec 36

/-- How an entry of the fixed tables of R246 is rounded (log entry 11): table 0 is 2 to the k sixths in 16 fraction bits,
table 1 is log2 in 64ths. The last argument is the entry. -/
opaque tableRound : Nat → Nat → Bool

/-- log2 in 64ths where an operand is 0, from the fixed table (log entry 75): R246, R247 and R254 state no result there. -/
opaque logOpen : Nat → Nat → Int

/-- ρ of R247 where its denominator is 0, as a numerator and a denominator less 1 (log entry 75). The argument is the numerator. -/
opaque rhoOpen : Nat → Nat × Nat

/-- A share p(r) of R246 where Σ n is 0 (log entry 75). Arguments: U(s), the number of rows, and the row. -/
opaque shareOpen : Nat → Nat → Nat → Nat

/-- The 16-bit signature of SELFTEST for the firmware in force (R207, log entry 13): GET-INFO reports it. -/
opaque selftestSignature : Nat

/-- The 2,048 bytes of the window table (R354) that the firmware writes for a channel or a decode context (log entry 17): the
spec gives a window's layout and no content. Arguments: the table, and the parameters of the command that writes it. -/
opaque windowTable : Nat → List (BitVec 8) → List (BitVec 8)

/-- The bytes of decode buffers that a context needs (log entry 20): R259 asks that they fit, and gives no size. Arguments: the
parameters of DECODE-OPEN and, for CONFIDENCE, the channel's parameter block. -/
opaque decodeBytes : List (BitVec 8) → List (BitVec 8) → BitVec 36

/-- A sample that the compositor reads and no command of the model carries (log entry 21): of a decoded picture, or of a line that is
missing from a picture store. The list names the source and the place. -/
opaque openSample : List Nat → Nat

/-- A sample scaled by a gain of a number of half decibels (log entry 22): R427 gives the gain in dB and no rounding. -/
opaque gainScale : Int → Int → Int

/-- The n-th number of the 31-bit generator of R491 from a seed (log entry 23): the spec gives its width and not its rule. -/
opaque perturbDraw : Nat → Nat → Nat

/-- The 64-byte life record of R550 (log entry 24): the spec gives its length and no layout. Arguments: hours, mean, slowdown. -/
opaque lifeRecord : Nat → Int → Nat → List (BitVec 8)

end Sys2Proof.Config
end

