-- ==== Sys2Proof/Machine/AlmanacTypes.lean ====
section
/-! DEFINITION. Plain data of the Almanac: parsed images (R43, R44) and the flash job in progress (R55, R56, R58). -/
namespace Sys2Proof.Machine

/-- One section of an image as its directory names it (R44), with its bytes. -/
structure AlmSection where
  type : Nat
  version : Nat
  offset : Nat
  length : Nat
  crc : Nat
  bytes : List Byte
  deriving DecidableEq, Repr

/-- A parsed image. -/
structure AlmImage where
  generation : Nat
  length : Nat
  sections : List AlmSection
  deriving DecidableEq, Repr

/-- The operations a flash job still has to make, in order: erase a sector, program one sector of the image, check
the image read back, program the commit record, or program COMMIT_WORD of a copy to 0. -/
inductive FlashOp where
  | erase (copy sector : Nat)
  | program (copy sector : Nat)
  | readBack (copy : Nat)
  | commitRecord (copy : Nat)
  | retire (copy : Nat)
  deriving DecidableEq, Repr

/-- A commit or revert in progress: its command, target and generation (R55, R60), the image bytes it writes, and the
operations left, the first of which is in progress. `failed` is set once the check of R58 has failed. -/
structure FlashJob where
  client : Nat
  tag : Nat
  confirm : Bool
  commit : Bool
  target : Nat
  generation : Nat
  image : List Byte
  ops : List FlashOp
  deriving DecidableEq, Repr

/-- What the applied Almanac sections hold beside registers (R47): ENGINE_RESERVE, RESCUE_MARGIN_US and FLOOR_EFFORT; the RESCUE entries
(format, kind, MAX_BITS_PER_CTU), factory first; the KEYS records (KEY_ID, PERMIT, VALUE); the PASR ranges; for each port of
NETID the MAC address and the default IPv4 and IPv6 sources; SERIAL and LOT; and IDENTITY's TWIN_PREF_OVERRIDE and the
gang's fields. -/
structure AlmSettings where
  reserve : Nat := 8
  floorEffort : Nat := 4
  margin : Nat := 50
  rescue : List (Nat × Nat × Nat) := []
  keys : List (Nat × Nat × Nat) := []
  pasr : List (Nat × Nat) := []
  macs : List Nat := [0, 0]
  ip4s : List Nat := [0, 0]
  ip6s : List Nat := [0, 0]
  serial : Nat := 0
  lot : Nat := 0
  prefOverride : Nat := 0
  gangEnable : Bool := false
  twinEnable : Bool := false
  deriving DecidableEq, Repr

end Sys2Proof.Machine
end

