-- ==== Sys2Proof/Machine/AvTypes.lean ====
section
/-! DEFINITION. Plain data of the preview compositor (R412 to R422) and of the audio block (R423 to R442), beside their registers. -/
namespace Sys2Proof.Machine

/-- An array of R418: sparse contents of the active and the pending bank, by entry, and whether a SWAP is pending. Array k is
0 to 5 the LUTs, 6 the scaler coefficients, 7 the Lantern image, 8 the plane. -/
structure ArrayBank where
  active : List (Nat × Nat) := []
  pending : List (Nat × Nat) := []
  swap : Bool := false
  deriving DecidableEq, Repr

/-- What an entry of array `k` holds after a cold reset (R418). -/
def arrayReset (k i : Nat) : Nat :=
  if k < 6 then i % 4096
  else if k = 6 then
    -- luma horizontal, luma vertical, chroma horizontal, chroma vertical
    let horizontal := i % 896 < 512
    let j := if horizontal then i % 896 else i % 896 - 512
    let taps := if horizontal then 8 else 6
    let f := j / taps
    let t := j % taps
    let mid := if horizontal then 3 else 2
    if t = mid then 1024 - 16 * f else if t = mid + 1 then 16 * f else 0
  else 0

/-- The settings that a start tick latches (R416): the block of PREVIEW-CONFIGURE, the Lantern position, its hotspot, BACKGROUND and
GFX_CSC. -/
structure PrevSet where
  block : List Byte := []
  x : Int := 0
  y : Int := 0
  visible : Bool := false
  hx : Nat := 0
  hy : Nat := 0
  background : Nat := 0
  csc : List Int := []
  deriving DecidableEq, Repr

/-- The compositor's state beside its registers: the settings recorded and those latched, the arrays, the hotspot of the pending
Lantern bank, the base picture (kind, source, index) of this output picture and of the one before, whether it has been released under it,
the next line, whether the pulse generator has fired for a start, and since when the preview lanes send, with the MCOUNT of their last marker. -/
structure PrevSt where
  latest : PrevSet := {}
  act : PrevSet := {}
  arrays : List ArrayBank := List.replicate 9 {}
  pendHx : Nat := 0
  pendHy : Nat := 0
  base : Option (Nat × Nat × Nat) := none
  gone : Bool := false
  running : Bool := false
  line : Nat := 0
  due : Bool := false
  started : Bool := false
  lanesTick : Option Nat := none
  lanesMc : Nat := 0
  deriving DecidableEq, Repr

/-! ### Audio -/

/-- A fading point (R435, R436): its gain in 1/96, its target, where the fade stands (0 at target, 1 waiting for a crossing, 2 ramping), since
when it waits, and the last sample before the gain. -/
structure Fade where
  gain : Nat := 96
  on : Bool := true
  phase : Nat := 0
  since : Nat := 0
  prev : Int := 0
  deriving DecidableEq, Repr

/-- A TDM port (R429 to R434): when its masks were last written, the last good frame start, consecutive good frames, edges at a new
position, slip buffer fills, the last frame out of the receive buffer, the latest frames into the transmit buffer (latest first), the last
measurements, its DIN slots, and whether AMCLK's loss silences them. -/
structure AudioPort where
  rxTick : Nat := 0
  txTick : Nat := 0
  lastFrame : Nat := 0
  good : Nat := 0
  glitchPos : Nat := 0
  glitchRun : Nat := 0
  rxFill : Nat := 4
  txFill : Nat := 4
  rxLast : List Int := []
  txFrames : List (List Int) := []
  meas : List Nat := []
  din : List Fade := List.replicate 16 {}
  silent : Bool := false
  deriving DecidableEq, Repr

/-- An audio stream (R438, R439): its sources, LINEAGE, channels, the samples of the block that is forming, the frames of the block and of the packet
that are forming, and whether its next segment carries DISCONTINUITY. -/
structure AudioStream where
  sources : List Nat := []
  lineage : Nat := 0
  chans : List Fade := []
  pcm : List Int := []
  inBlock : Nat := 0
  blockFirst : Nat := 0
  inPacket : Nat := 0
  packetFirst : Nat := 0
  packet : List Int := []
  whole : Bool := true
  disc : Bool := false
  stopping : Bool := false
  deriving DecidableEq, Repr

/-- A command whose reply follows the end of a fade (R436): AUDIO-MUTE's KIND, INDEX and SLOT, or a stream (KIND 2). -/
structure FadeJob where
  client : Nat
  tag : Nat
  op : Nat
  kind : Nat
  index : Nat
  slot : Nat := 0
  deriving DecidableEq, Repr

/-- The audio block beside its registers; `sig` holds the signals of the latest sample frame after their gains: the microphones, then the
DIN slots. `stuckRun` counts the sample periods in which a stuck microphone's bits have changed. -/
structure AudioSt where
  mics : List Fade := List.replicate 32 {}
  stuckRun : List Nat := List.replicate 32 0
  ports : List AudioPort := List.replicate 4 {}
  streams : List AudioStream := List.replicate 16 {}
  jobs : List FadeJob := []
  sig : List Int := List.replicate 96 0
  deriving DecidableEq, Repr

end Sys2Proof.Machine
end

