-- ==== Sys2Proof/Machine/CoreTypes.lean ====
section
/-! DEFINITION. Plain data shared by every block: the modes (R11), statuses (R552), event records (R482), replies
(R63), duplicate-window and journal entries (R66, R84), and what the device drives outwards. -/
namespace Sys2Proof.Machine

/-- The status codes of R552. -/
inductive Status where
  | ok | accepted | duplicate | badCheck | badParam | badOpcode | badLength | wrongMode | busy
  | noResource | tempForbids | fenced | fault | twinUnconfirmed
  deriving DecidableEq, Repr

/-- The code of a status, as R552 tables it. -/
def Status.code : Status → Nat
  | .ok => 0x0000 | .accepted => 0x0001 | .duplicate => 0x0002 | .badCheck => 0x0010
  | .badParam => 0x0011 | .badOpcode => 0x0012 | .badLength => 0x0013 | .wrongMode => 0x0014
  | .busy => 0x0015 | .noResource => 0x0016 | .tempForbids => 0x0017 | .fenced => 0x0018
  | .fault => 0x0019 | .twinUnconfirmed => 0x001A

/-- What the device as a whole is doing, beside KEEPER.MODE (R11, R22, R25, R26, R29, R472, R459). -/
inductive Phase where
  /-- Nothing powered but, at most, the keeper island; or held in cold reset. Waits for the start reference. -/
  | coldReset
  /-- Start-up holds before step 7 (R25). -/
  | startHold
  /-- Start-up stopped (R26). -/
  | stopped
  /-- Start-up or resume complete. -/
  | run
  /-- Warm reset entered; waits for its release (R29). -/
  | warmReset
  /-- Thermal shutdown (R472). -/
  | shutdown
  /-- Held in reset because the resonator failed (R459). -/
  | clockStop
  deriving DecidableEq, Repr

/-- One record of the event log (R482). SEQ is its place in the log; `tick` is the model's own stamp, by which
the order of R482 within one tick is kept. -/
structure EvRec where
  tick : Nat
  ns : Nat
  era : Nat
  block : Nat
  code : Nat
  inst : Nat
  flags : Nat
  unitKind : Nat
  arg0 : Nat
  arg1 : Nat
  deriving DecidableEq, Repr

/-- A reply of R63. -/
structure Reply where
  done : Bool
  long : Bool := false
  resumed : Bool := false
  untrusted : Bool := false
  lost : Bool := false
  opcode : Nat
  tag : Nat
  client : Nat
  status : Nat
  detail : Nat
  rlen : Nat
  acceptTime : Nat
  data : List Byte
  deriving DecidableEq, Repr

/-- A duplicate-window entry (R84): newest entries first in a client's window. -/
structure WinEntry where
  tag : Nat
  opcode : Nat
  crc : Nat
  done : Bool
  reply : Reply
  deriving DecidableEq, Repr

/-- A journal entry (R66, R67): one accepted command that is not yet DONE. `order` is its place in the
acceptance order of R82; `fixed` the target copy and the generation that an ALMANAC-COMMIT records (R60); `resumed` whether a warm reset has
come since its acceptance (R63, R88). -/
structure JEntry where
  order : Nat
  client : Nat
  tag : Nat
  opcode : Nat
  barrier : Bool
  ptr : Bool
  spi : Bool
  buf : Nat
  bufcap : Nat
  params : List Byte
  acceptTime : Nat
  started : Bool
  committed : Bool
  fixed : Option (Nat × Nat) := none
  resumed : Bool := false
  deriving DecidableEq, Repr

/-- What a client queue holds beside its registers: the tail last given by SQ_DB, the reply slots in use, the
RING_PHASE of the present pass (R72), the doorbells latched while fetching is off (R24, R87), the failed reads of the slot at SQ_HEAD
(R71), for each doorbell whose slots are not all passed the tail it gave and TB.NS when it was taken (R63), whether the slot at SQ_HEAD waits
for parameter space (R73), and the replies of the last pass, whose confirming read may not have ended (R88). -/
structure Queue where
  tail : Nat := 0
  used : Nat := 0
  ringPhase : Bool := true
  latchSq : Option Nat := none
  latchRq : Option Nat := none
  retries : Nat := 0
  bells : List (Nat × Nat) := []
  waits : Bool := false
  pass : List Reply := []
  deriving DecidableEq, Repr

/-- A command packet on the management SPI that waits to be checked (R78), TB.NS when its interrupt was taken (R63), and whether it waits for
parameter space (R73). -/
structure SpiPacket where
  bytes : List Byte
  time : Nat := 0
  waits : Bool := false
  deriving DecidableEq, Repr

/-- What the parameter sets of a stream say (R167, R169, R237), element by element: the VPS and SPS with the VUI and its HRD parameters, then the
PPS. `planes` names the component of a line's sample groups that is coded as luma, Cb and Cr; a sub-layer below the highest has every HRD
value of the highest, with cbr_flag `subLayerCbr`. `qpDelta` is cu_qp_delta_enabled_flag, `qpDeltaDepth` diff_cu_qp_delta_depth. -/
structure StreamParams where
  profileIdc : Nat
  tier : Nat
  levelIdc : Nat
  subLayers : Nat
  chroma : Nat
  planes : List Nat
  bitDepth : Nat
  width : Nat
  height : Nat
  cropRight : Nat
  cropBottom : Nat
  pocLsbBits : Nat := 16
  maxDecMinus1 : Nat
  reorder : Nat := 0
  ctbLog2 : Nat := 6
  minCbLog2 : Nat := 3
  minTbLog2 : Nat := 2
  maxTbLog2 : Nat := 5
  temporalMvp : Bool := true
  sao : Bool := true
  longTerm : Bool := false
  extendedPrecision : Bool := false
  unitsInTick : Nat
  timeScale : Nat
  fixedPicRate : Bool := false
  primaries : Nat
  transfer : Nat
  matrix : Nat
  fullRange : Nat
  hrdPresent : Bool := true
  nalHrd : Bool := true
  vclHrd : Bool := true
  subPicHrd : Bool := false
  cpbCntMinus1 : Nat := 0
  rateScale : Nat
  sizeScale : Nat
  rateMinus1 : Nat
  sizeMinus1 : Nat
  nalCbr : Bool
  vclCbr : Bool := false
  subLayerCbr : Bool := false
  initialLenMinus1 : Nat := 23
  removalLenMinus1 : Nat := 23
  dpbLenMinus1 : Nat := 0
  lowDelayHrd : Bool := false
  entropySync : Bool := true
  dependentSegments : Bool := true
  tiles : Bool := false
  weighted : Bool := false
  pcm : Bool := false
  scalingLists : Bool := false
  signHiding : Bool := true
  deblocking : Bool := true
  qpDelta : Bool := true
  qpDeltaDepth : Nat := 0
  deriving DecidableEq, Repr

/-- What the header of a slice segment says (R165, R169, R237): its row, whether it depends on row 0's, the kind of the picture (0 IDR, 1 CRA, 2
TRAIL_R, 3 TRAIL_N), its TemporalId, pic_order_cnt_lsb, the slice type (0 I, 1 P, 2 B) and SliceQpY; and the row's QP that cu_qp_delta carries. -/
structure SliceHead where
  row : Nat
  dependent : Bool
  kind : Nat
  temporalId : Nat
  pocLsb : Nat
  sliceType : Nat
  sliceQp : Int
  rowQp : Int
  deriving DecidableEq, Repr

/-- One NAL unit of an access unit as it departs (R170): its kind, the figure it carries (a delay of R238, a QP, a count), what a parameter set or a
slice segment header says, and the bytes of its message where the spec lays them out. Kinds: 1 access unit delimiter, 2 VPS, 3 SPS, 4 PPS, 5 buffering
period, 6 picture timing, 7 recovery point, 8 mosaic descriptor, 9 slice segment, 10 side data, 11 decoded picture hash,
12 picture status, 13 end of sequence, 14 filler data. -/
structure Nal where
  kind : Nat
  figure : Nat := 0
  params : Option StreamParams := none
  slice : Option SliceHead := none
  bytes : List Byte := []
  deriving DecidableEq, Repr

/-- What the device drives outwards, in the order it drives it (newest first in `Dev.out`). -/
inductive Out where
  /-- A reply written to slot `slot` of queue `client`'s reply ring, with RING_PHASE (R72). -/
  | reply (client slot : Nat) (phase : Bool) (r : Reply)
  /-- The bytes a READ-REPLY, READ-REG or STATUS frame returns (R77), or a BAR0 read (R515). -/
  | spiBytes (bs : List Byte)
  | readData (v : Nat)
  /-- A write to host memory (R64, R361, R487). -/
  | hostWrite (addr : Nat) (bs : List Byte)
  /-- A write into a scatter-described host buffer of R356, at a buffer offset. -/
  | bufWrite (scatter off : Nat) (bs : List Byte)
  /-- A sector delivered to a memory port, with its poison tag (R350). -/
  | sector (port addr : Nat) (bs : List Byte) (poison : Bool)
  /-- An MSI-X message (R76, R89). -/
  | msix (v : Nat)
  /-- A marker or a message word on a bundle's talkback lane (R96, R104), with the line bits it is sent as (R93, R94). -/
  | talkback (bundle word : Nat) (line : List Bool)
  /-- A twin link message (R285, R286): TYPE, SEQ, body words. -/
  | twin (type seq : Nat) (body : List Nat)
  /-- A ring message (R307, R309): TYPE, SEQ, body words. -/
  | ring (type seq : Nat) (body : List Nat)
  /-- A marker sent on a lane of the ring (R96, R307). -/
  | ringMarker (lane word : Nat)
  /-- A path beacon (R282): port, path, body words. -/
  | beacon (port path : Nat) (body : List Nat)
  /-- An Ethernet frame: port, kind code, body words. -/
  | frame (port kind : Nat) (body : List Nat)
  /-- A row handed to egress with the NAL units that go with it (R164, R170): channel, picture, row. -/
  | coded (channel picture row : Nat) (nals : List Nal)
  /-- A marker on a preview lane (R96, R420). -/
  | previewMarker (lane word : Nat)
  /-- A line packet on the preview lanes (R420): its words. -/
  | line (picture line : Nat) (words : List Nat)
  /-- A TDM frame's DOUT slots (R430, R432): a 24-bit sample each, or high impedance. -/
  | tdm (port : Nat) (slots : List (Option Int))
  /-- A pulse on PULSE_OUT[k] (R407): width in 0.1 µs, active level low. -/
  | pulse (gen width : Nat) (low : Bool)
  deriving DecidableEq, Repr

end Sys2Proof.Machine
end

