-- ==== Sys2Proof/Machine/LifeTypes.lean ====
section
/-! DEFINITION. Plain data of the modes and resets (R11 to R40), of power and clocks (R452 to R463), of the thermal sensors (R464 to
R477), of perturbation (R491 to R495) and of the life record (R550), beside their registers. -/
namespace Sys2Proof.Machine

/-- A mode transition in progress (R14, R15): where it goes, the command it answers (none for the boot target of start-up step 13),
and the groups of engines already powered (R16). -/
structure ModeJob where
  cmd : Option Ctx
  from_ : Nat
  target : Nat
  groups : Nat := 0
  deriving DecidableEq, Repr

/-- A hold of R467: the zone, when it began, the request of R470 it keeps. -/
structure ZoneHold where
  zone : Nat
  tick : Nat
  request : Nat
  deriving DecidableEq, Repr

/-- The thermal readout beside its registers. `real` holds the actual readings without injection, in 1/64 °C; `raw` each sensor's
last raw code with the tick it last changed; `trim` OFFSET and GAIN of THERMTRIM; `stepTick` when S_target fell below S_t, or S_t last
fell; `hotTick` since when some valid reading has stood at or above 115 °C; `tripped` while THERMTRIP_N is asserted, since `tripTick`;
`due` once the restart count of R473 is complete and waits for PWROK. -/
structure Therm where
  real : List Int := List.replicate 38 0
  raw : List (Option (Int × Nat)) := List.replicate 38 none
  trim : List (Int × Nat) := List.replicate 38 (0, 0)
  holds : List ZoneHold := []
  requests : List Nat := List.replicate 13 0
  stepTick : Nat := 0
  hotTick : Option Nat := none
  tripped : Bool := false
  tripTick : Nat := 0
  due : Bool := false
  deriving DecidableEq, Repr

/-- Power domains beside PWR.DOM (R455 to R457): compare values of the armed alarm timers by domain, the ticks at which wakes in
progress begin, and the wakes from Off of each die (0 West, 1 East, 2 keeper). -/
structure PowerSt where
  alarms : List (Nat × Nat) := []
  wakes : List (Nat × Nat) := []
  exits : List (Nat × Nat) := []
  deriving DecidableEq, Repr

/-- The clocks beside CLK's registers (R459 to R462): PLLs whose one restart is running, when each reference began to qualify, and
whether each has logged that it is slow. -/
structure ClockSt where
  restarts : List Nat := []
  since : List Nat := [0, 0, 0]
  deriving DecidableEq, Repr

/-- A kind of perturbation beside its registers (R491, R495): when it began to inject, and its draws so far. -/
structure PertSt where
  since : Nat := 0
  draws : Nat := 0
  deriving DecidableEq, Repr

/-- The life record of R550: hours of operation, the lifetime mean of the hottest valid reading and the ageing slowdown as last
measured, and the next free position of the flash area. -/
structure LifeSt where
  hours : Nat := 0
  mean : Int := 0
  slow : Nat := 0
  next : Nat := 0
  deriving DecidableEq, Repr

/-- Shadows of R489: transport (0 BAR0, 1 SPI, 2 commands), address of the HI register, value. -/
structure Shadow where
  path : Nat
  addr : Nat
  value : Nat
  deriving DecidableEq, Repr

end Sys2Proof.Machine
end

