-- ==== Sys2Proof/Machine/RegReset.lean ====
section
/-! DEFINITION. What each register field holds at its hardware reset value: the tables' single numbers, and the fields
whose reset value depends on the instance (R182, R339, R414, R449, R464). -/
namespace Sys2Proof.Machine

/-- The address of instance (i, j) of a field's register (R513). -/
def Field.addr (f : Field) (i j : Nat) : Nat := f.base + i * f.s1 + j * f.s2

/-- The key of a field in the register file: its bit address. -/
def Field.key (f : Field) (i j : Nat) : Nat := f.addr i j * 32 + f.lsb

/-- The index of an address among the instances of a stride, if it is one. -/
def strideIndex (d s n : Nat) : Option Nat :=
  if n ≤ 1 then (if d = 0 then some 0 else none)
  else if s = 0 then none
  else if d % s = 0 && d / s < n then some (d / s) else none

/-- The instance (i, j) at offset `d` from instance (0, 0) among `n1` by `n2` instances. -/
def instanceAt (d n1 s1 n2 s2 : Nat) : Option (Nat × Nat) :=
  if n1 ≤ 1 then (strideIndex d s2 n2).map (fun j => (0, j))
  else if n2 ≤ 1 then (strideIndex d s1 n1).map (fun i => (i, 0))
  else if s1 = 0 then none
  else if d / s1 < n1 then (strideIndex (d % s1) s2 n2).map (fun j => (d / s1, j)) else none

/-- The value a row of nonzero reset values gives for key `k`. -/
def ResetRow.at (r : ResetRow) (k : Nat) : Option Nat :=
  if k < r.field.key 0 0 then none
  else
    let d := k - r.field.key 0 0
    if d % 32 ≠ 0 then none
    else (instanceAt (d / 32) r.n1 r.field.s1 r.n2 r.field.s2).map (fun _ => r.value)

/-- The first row that gives key `k` a value. -/
def resetLookup : List ResetRow → Nat → Option Nat
  | [], _ => none
  | r :: rest, k =>
    match r.at k with
    | some v => some v
    | none => resetLookup rest k

/-- The latency target and POSTPONE of port `q` (R339). -/
def qosReset (q : Nat) : Nat × Nat :=
  match q with
  | 0 => (2000, 1) | 1 => (2000, 1) | 2 => (1500, 1) | 3 => (1000, 1) | 4 => (4000, 0) | 5 => (2000, 1)
  | 6 => (1000, 1) | 7 => (20000, 0) | 8 => (8000, 0) | 9 => (2000, 1) | _ => (500, 0)

/-- The zone of sensor `s` (R464). -/
def sensorZone (s : Nat) : Nat :=
  if s < 32 then s / 4 else if s < 34 then 8 else 9 + (s - 34)

/-- GFX_CSC reset values (R414), as 16-bit two's complement. -/
def gfxCscReset (j : Nat) : Nat :=
  getAt 0 [2991, 10064, 1016, 65536 - 1649, 65536 - 5547, 7196, 7196, 65536 - 6536, 65536 - 660, 256, 2048, 2048] j

/-- Reset values that depend on the instance: ENG.STATE.DIE and CLUSTER, MEM.QOS, THERM.SENSOR.ZONE, CRC
CTRL.FW_OWNED of unit 7, PREVIEW.GFX_CSC. -/
def resetSpecial (k : Nat) : Option Nat :=
  let at1 (f : Field) (n : Nat) (g : Nat → Nat) : Option Nat :=
    if k < f.key 0 0 then none
    else
      let d := k - f.key 0 0
      if d % 32 ≠ 0 then none else (instanceAt (d / 32) n f.s1 1 0).map (fun p => g p.1)
  let at2 (f : Field) (n1 n2 : Nat) (g : Nat → Nat) : Option Nat :=
    if k < f.key 0 0 then none
    else
      let d := k - f.key 0 0
      if d % 32 ≠ 0 then none else (instanceAt (d / 32) n1 f.s1 n2 f.s2).map (fun p => g p.2)
  (at1 F.ENG_STATE_DIE 128 (fun n => n / 64)).orElse fun _ =>
  (at1 F.ENG_STATE_CLUSTER 128 (fun n => n / 16)).orElse fun _ =>
  (at2 F.MEM_QOS_TARGET 4 11 (fun q => (qosReset q).1)).orElse fun _ =>
  (at2 F.MEM_QOS_POSTPONE 4 11 (fun q => (qosReset q).2)).orElse fun _ =>
  (at1 F.THERM_SENSOR_ZONE 38 sensorZone).orElse fun _ =>
  (at1 F.CRC_CTRL_FW_OWNED 8 (fun u => if u = 7 then 1 else 0)).orElse fun _ =>
  at1 F.PREVIEW_GFX_CSC_VALUE 12 gfxCscReset

/-- The hardware reset value of the field whose key is `k`; 0 where the tables give 0. -/
def resetField (k : Nat) : Nat :=
  match resetLookup resetRows k with
  | some v => v
  | none => (resetSpecial k).getD 0

end Sys2Proof.Machine
end

