-- ==== Sys2Proof/Machine/TimeTypes.lean ====
section
/-! DEFINITION. State of the timebase beside its registers (R394 to R411). -/
namespace Sys2Proof.Machine

/-- A pulse generator's active settings (R407, R409). `tfrac` is the kept fraction of the target in 2^−16 ns, `last`
the target of its last firing, `passed` set when a step or a LOAD has put TB.NS past the target (R408, R409). -/
structure Gen where
  mode : Nat := 0
  pin : Bool := false
  internal : Bool := false
  invert : Bool := false
  width : Nat := 0
  frac : Nat := 0
  period : Nat := 0
  start : Nat := 0
  target : Nat := 0
  tfrac : Nat := 0
  last : Option Nat := none
  passed : Bool := false
  deriving DecidableEq, Repr

/-- What the timebase keeps of a counted reference (R402, R403): the times of the last good edge and of the last edge,
the last interval, the consistency count with the sum of its intervals, and the edges towards relock. -/
structure RefState where
  good : Option Nat := none
  last : Option Nat := none
  prev : Option Nat := none
  consist : Nat := 0
  sum : Nat := 0
  relock : Nat := 0
  deriving DecidableEq, Repr

/-- A transmit timestamp entry (R405). -/
structure TsEntry where
  msgType : Nat
  seqId : Nat
  ns : Nat
  stamp : Nat
  deriving DecidableEq, Repr

/-- The timebase's own state: the fraction of the accumulator in 2^−24 ns (R394), the generators, the references
(0 CLKREF_IN, 1 FREF_IN), the transmit timestamp queues of the two ports, whether PTP has measured an offset (R396), and the WRAPS value of
the firmware's last snapshot (R401). -/
structure TimeState where
  frac : Nat := 0
  gens : List Gen := List.replicate 8 {}
  refs : List RefState := List.replicate 2 {}
  tsq : List (List TsEntry) := [[], []]
  ptpMeasured : Bool := false
  eraWraps : Nat := 0
  rateSum : Nat := 0
  deriving DecidableEq, Repr

end Sys2Proof.Machine
end

