-- ==== Sys2Proof/Machine/State.lean ====
section
/-! DEFINITION. The state of the device, plain data: every register field in one sparse table, and what the spec gives the device beside
its registers; the queue of waiting commands; how a step can stop; and the state after reset. -/
namespace Sys2Proof.Machine

/-- The device without its queue of commands. Registers have one home, `regs`; every other field is state that the spec names and no
register shows whole. -/
structure Dev where
  /-- The register fields that differ from their hardware reset values, by bit address, rising (R8, R49, R513). -/
  regs : List (Nat × Nat) := []
  /-- Timebase ticks since power-on: the model's own clock for durations. -/
  tick : Nat := 0
  /-- The firmware's era, the upper half of PTP time in ns (R399). -/
  era : Nat := 0
  /-- How many free values have been drawn: the model's own field (log entry 5). -/
  free : Nat := 0
  /-- What the device as a whole is doing (R11, R22, R25, R26, R29, R459, R472). -/
  phase : Phase := .coldReset
  /-- The event log, newest first (R482). -/
  evlog : List EvRec := []
  /-- Counters without a SAT flag whose saturation has been logged (R486). -/
  satNoted : List Nat := []
  /-- The fenced units, kind and index, oldest first (R478). -/
  fences : List (Nat × Nat) := []
  /-- What has been driven outwards, newest first. -/
  out : List Out := []
  /-- Client queues beside their registers (R70 to R76). -/
  queues : List (Nat × Queue) := []
  /-- The duplicate windows (R84). -/
  windows : List (Nat × List WinEntry) := []
  /-- The journal in acceptance order (R66, R67). -/
  journal : List JEntry := []
  /-- Replies that wait for room in a reply ring, with their client (R72). -/
  held : List (Nat × Reply) := []
  /-- Replies that wait for READ-REPLY, oldest first (R77). -/
  spiOut : List Reply := []
  /-- Whether the journal is being replayed (R29). -/
  replaying : Bool := false
  /-- EXPECT of the eight check-value units in full (R446). -/
  crcExpect : List Nat := List.replicate 8 0
  /-- The timebase beside its registers (R394 to R411). -/
  time : TimeState := {}
  /-- The flash where it differs from its factory contents, by address, rising (R41). -/
  flash : List (Nat × Byte) := []
  /-- The staging area of the Almanac where it differs from 0xFF (R53). -/
  stage : List (Nat × Byte) := []
  /-- Whether the staged image has been committed since it was staged (R53). -/
  almCommitted : Bool := false
  /-- A commit or revert of the Almanac in progress (R55 to R59). -/
  flashJob : Option FlashJob := none
  /-- The thermal readout (R464 to R477). -/
  therm : Therm := {}
  /-- Sensor lanes (R95 to R117). -/
  lanes : List (Nat × LaneSt) := []
  /-- Bundles (R101 to R142). -/
  bundles : List (Nat × BundleSt) := []
  /-- The merged words of a bundle's last parity group (R103). -/
  merged : List (Nat × List LineWord) := []
  /-- Channels that have been opened (R156). -/
  chans : List (Nat × Chan) := []
  /-- Row tasks and their places (R212, R214). -/
  tasks : List Task := []
  /-- What the Almanac sections in force say beside registers (R47). -/
  alm : AlmSettings := {}
  /-- The user image applied at the last start or warm reset (R50, R51). -/
  almUser : Option AlmImage := none
  /-- The twin (R277 to R303). -/
  twin : TwinSt := {}
  /-- The gang ring (R305 to R326). -/
  ring : RingSt := {}
  /-- Window cache tags of the engines (R195). -/
  caches : List (Nat × List CacheTag) := []
  /-- Held engines that GIVE has released for one ask (R223). -/
  given : List Nat := []
  /-- FROZEN captures kept across Standby (R153). -/
  keptCaptures : List (Nat × Harvest × List Pic) := []
  /-- Record queues beside their registers (R360 to R366). -/
  recqs : List (Nat × RecQueue) := []
  /-- Streams bound to record queues (R363). -/
  segs : List SegStream := []
  /-- Segments that a Vigil unit holds back (R293). -/
  vigilSegs : List (Nat × Segment) := []
  /-- Bound network streams (R376). -/
  binds : List Binding := []
  /-- Decode contexts (R258 to R275). -/
  decs : List (Nat × DecCtx) := []
  /-- The in-package memory where it differs from what it held at power-on (log entry 6): data bytes by device address, and above
  2^37 the check bits of protected stripes. -/
  hbm : List (Nat × Byte) := []
  /-- The Ethernet ports beside their registers (R373 to R392). -/
  eth : List EthSt := [{}, {}]
  /-- PTP as a whole (R391). -/
  ptp : PtpSt := {}
  /-- The preview compositor (R412 to R422). -/
  prev : PrevSt := {}
  /-- The audio block (R423 to R442). -/
  audio : AudioSt := {}
  /-- The window tables the firmware has written (R354). -/
  winTabs : List (Nat × List Byte) := []
  /-- The record queue served last (R362). -/
  dmaLast : Nat := 15
  /-- Pseudo-channels (R339 to R348). -/
  pcs : List (Nat × PcSt) := []
  /-- The next place in the acceptance order, and the next issue order of a task (R82, R217). -/
  nextOrder : Nat := 0
  /-- The next task token (R212). -/
  nextToken : Nat := 0
  /-- Engines returned to service that are still to be served their first task by ask (R32, R223). -/
  fresh : List Nat := []
  /-- Heartbeats missed in a row by each dispatcher (R229). -/
  hbMiss : List Nat := List.replicate 8 0
  /-- Power domains beside PWR.DOM (R452 to R457). -/
  power : PowerSt := {}
  /-- Clocks beside CLK's registers (R459 to R462). -/
  clock : ClockSt := {}
  /-- A mode transition in progress (R14 to R17). -/
  modeJob : Option ModeJob := none
  /-- SET-MODEs that wait (R17, R59). -/
  modeWait : List (Ctx × Nat) := []
  /-- An accepted WARM-RESET whose entry is to come (R29). -/
  warmAsk : Option Ctx := none
  /-- Whether the present warm reset came by command, and whether the internal release has come (R29). -/
  warmByCmd : Bool := false
  released : Bool := false
  /-- The mode a warm reset resumes to (R29). -/
  resumeMode : Nat := 0
  /-- The level of PWROK (R542, R543). -/
  pwrok : Bool := true
  /-- Whether replies wait for Bus Master Enable after a thermal restart (R88). -/
  awaitBme : Bool := false
  /-- A release of PERST_N that waits for start-up step 5, with the speed, the width and the lanes its link trains to (R24). -/
  perst : Option (Nat × Nat × Nat) := none
  /-- Perturbation kinds beside their registers (R491). -/
  perts : List PertSt := List.replicate 7 {}
  /-- The life record (R550). -/
  life : LifeSt := {}
  /-- Shadows of 48-bit counters (R489). -/
  shadows : List Shadow := []
  /-- Command packets from the SPI that wait to be checked (R78). -/
  spiIn : List SpiPacket := []
  /-- Whether the last SPI frame was refused (R77). -/
  spiRefused : Bool := false
  /-- Whether ALERT_N is asserted (R80). -/
  alert : Bool := false
  /-- The bits of KEEPER.INT_STATUS and of PREVIEW.INT_STATUS that have raised vector 64 and are still set (R80, R521). -/
  unread : Nat × Nat := (0, 0)
  /-- The MSI-X table of BAR2, by doubleword offset, where it differs from 0 (R69). -/
  msixTable : List (Nat × Nat) := []
  deriving DecidableEq, Repr

/-- Whether the machine can stop: it cannot. Every command of the table has an effect the spec gives, so no reason is listed and no
step ends in a fault. -/
inductive Fault where
  deriving DecidableEq, Repr

/-- Why a command is refused. -/
inductive Refusal where
  /-- Raised by the dispatch for a command that has no meaning yet; safe. No command is refused now. -/
  | notModelled (mnemonic : String)
  deriving DecidableEq, Repr

/-- The state of the block: the commands that wait, first in, first out, and the device. -/
structure State where
  pending : List Instr
  dev : Dev
  deriving DecidableEq, Repr

/-- The outcome of a step. -/
abbrev Outcome := Host.Outcome State Fault Refusal

/-- The machine right after reset: every register at its hardware reset value, held in cold reset, no command waiting (R28). -/
def State.reset : State := { pending := [], dev := {} }

end Sys2Proof.Machine
end

