-- ==== Sys2Proof/Machine/Ops.lean ====
section
/-! DEFINITION. The shared operations of every meaning: register fields (R8, R513), the free values, the event log
(R482, R483), interrupts (R89), counters (R485, R486), fences (R478, R479) and what is driven outwards. -/
namespace Sys2Proof.Machine

/-- Field `f` of instance (i, j), as a number. -/
def Dev.getF (d : Dev) (f : Field) (i : Nat := 0) (j : Nat := 0) : Nat :=
  Cells.get resetField d.regs (f.key i j)

/-- Field `f` of instance (i, j) set to the low bits of `v`. -/
def Dev.setF (d : Dev) (f : Field) (v : Nat) (i : Nat := 0) (j : Nat := 0) : Dev :=
  { d with regs := Cells.set resetField d.regs (f.key i j) (v % 2 ^ f.width) }

/-- Field `f` back at its hardware reset value. -/
def Dev.resetF (d : Dev) (f : Field) (i : Nat := 0) (j : Nat := 0) : Dev :=
  { d with regs := Cells.set resetField d.regs (f.key i j) (resetField (f.key i j)) }

/-- A one-bit field. -/
def Dev.flag (d : Dev) (f : Field) (i : Nat := 0) (j : Nat := 0) : Bool := d.getF f i j != 0

/-- A one-bit field set to `b`. -/
def Dev.setFlag (d : Dev) (f : Field) (b : Bool) (i : Nat := 0) (j : Nat := 0) : Dev :=
  d.setF f (b2n b) i j

/-- A 64-bit value held in a LO and a HI field. -/
def Dev.get64 (d : Dev) (lo hi : Field) (i : Nat := 0) (j : Nat := 0) : Nat :=
  d.getF lo i j + 2 ^ 32 * d.getF hi i j

/-- Write a value over a LO and a HI field. -/
def Dev.set64 (d : Dev) (lo hi : Field) (v : Nat) (i : Nat := 0) (j : Nat := 0) : Dev :=
  (d.setF lo (v % 2 ^ 32) i j).setF hi (v / 2 ^ 32) i j

/-- Raise a maximum-since-read field (access RC) to at least `v`. -/
def Dev.maxF (d : Dev) (f : Field) (v : Nat) (i : Nat := 0) (j : Nat := 0) : Dev :=
  if d.getF f i j < v then d.setF f v i j else d

/-- Drive `o` outwards. -/
def Dev.emit (d : Dev) (o : Out) : Dev := { d with out := o :: d.out }

/-- Draw the next value the spec leaves open, of `w` bits (log entry 5): `k` gets it. -/
def Dev.freeBits (d : Dev) (w : Nat) : Nat := Config.freeValue d.free % 2 ^ w

/-- Advance the counter of free values past one draw. -/
def Dev.drawn (d : Dev) : Dev := { d with free := d.free + 1 }

/-- The mode in force (R11): 0 Standby, 1 Configure, 2 Live, 3 Burst, 4 Review, 5 Maintenance. -/
def Dev.mode (d : Dev) : Nat := d.getF F.KEEPER_MODE_MODE

/-- TB.NS (R394). -/
def Dev.ns (d : Dev) : Nat := d.getF F.TB_NS

/-! ### Interrupts -/

/-- The block's INT_STATUS and INT_EN fields, where it has them. -/
def Block.ints : Block → Option (Field × Field)
  | .keeper => some (F.KEEPER_INT_STATUS, F.KEEPER_INT_EN)
  | .therm => some (F.THERM_INT_STATUS, F.THERM_INT_EN)
  | .pwr => some (F.PWR_INT_STATUS, F.PWR_INT_EN)
  | .clk => some (F.CLK_INT_STATUS, F.CLK_INT_EN)
  | .tb => some (F.TB_INT_STATUS, F.TB_INT_EN)
  | .audio => some (F.AUDIO_INT_STATUS, F.AUDIO_INT_EN)
  | .preview => some (F.PREVIEW_INT_STATUS, F.PREVIEW_INT_EN)
  | .bundle => some (F.BUNDLE_INT_STATUS, F.BUNDLE_INT_EN)
  | .dispatch => some (F.DISPATCH_INT_STATUS, F.DISPATCH_INT_EN)
  | .mem => some (F.MEM_INT_STATUS, F.MEM_INT_EN)
  | .xlat => some (F.XLAT_INT_STATUS, F.XLAT_INT_EN)
  | .eth => some (F.ETH_INT_STATUS, F.ETH_INT_EN)
  | .pcie => some (F.PCIE_INT_STATUS, F.PCIE_INT_EN)
  | .ring => some (F.RING_INT_STATUS, F.RING_INT_EN)
  | .twin => some (F.TWIN_INT_STATUS, F.TWIN_INT_EN)
  | .almanac | .cmd | .crc | .perturb | .sl | .chan | .eng | .decode => none

/-- The MSI-X vector that bit `k` of the block's INT_STATUS raises (R89, R125 and the field tables). -/
def Block.vector (b : Block) (k : Nat) : Nat :=
  match b with
  | .keeper | .preview => 64
  | .therm => 65
  | .twin | .ring => 66
  | .tb | .clk => 67
  | .audio => 68
  | .bundle => if k = 9 then 70 else 69
  | .eth => if 4 ≤ k then 67 else 70
  | .crc => 71
  | .pwr | .dispatch | .mem | .xlat | .pcie | .almanac | .cmd | .perturb | .sl | .chan | .eng | .decode => 70

/-- The SAT bit of the block's INT_STATUS, where it has one. -/
def Block.satBit : Block → Option Nat
  | .keeper => some 4 | .therm => some 5 | .pwr => some 3 | .clk => some 4 | .tb => some 9
  | .audio => some 9 | .preview => some 5 | .bundle => some 7 | .dispatch => some 4 | .mem => some 6
  | .xlat => some 5 | .eth => some 3 | .pcie => some 6 | .ring => some 8 | .twin => some 9
  | .almanac | .cmd | .crc | .perturb | .sl | .chan | .eng | .decode => none

/-- Set bit `k` of the block's INT_STATUS and raise its vector where INT_EN has the bit set. -/
def Dev.setInt (d : Dev) (b : Block) (i k : Nat) : Dev :=
  match b.ints with
  | none => d
  | some (st, en) =>
    let d1 := d.setF st (setBit (d.getF st i) k) i
    if bit (d1.getF en i) k then d1.emit (.msix (b.vector k)) else d1

/-! ### The event log -/

/-- Whether a perturbation of the raising block is injecting (R482 FLAGS bit 2, R491). -/
def Dev.perturbed (d : Dev) (b : Block) : Bool :=
  let a := d.getF F.PERTURB_STATUS_ACTIVE
  let t1 := d.getF F.PERTURB_K_TARGET 1 / 16 % 16
  let t3 := d.getF F.PERTURB_K_TARGET 3 / 256 % 4
  match b with
  | .dispatch => bit a 0 || (bit a 1 && t1 == 1)
  | .bundle => bit a 1 && t1 == 0
  | .xlat => bit a 1 && t1 == 2
  | .mem => bit a 2 || bit a 5
  | .sl => bit a 3 && t3 == 0
  | .twin => bit a 4 || (bit a 3 && t3 == 1)
  | .ring => bit a 3 && t3 == 2
  | .therm => bit a 6
  | _ => false

/-- Place a record among those of its tick in ascending BLOCK, then INSTANCE order (R482); newest first. -/
def evInsert (r : EvRec) : List EvRec → List EvRec
  | [] => [r]
  | e :: rest =>
    if e.tick = r.tick ∧ (r.block < e.block ∨ (r.block = e.block ∧ r.inst < e.inst)) then e :: evInsert r rest
    else r :: e :: rest

/-- The event records held (R482). -/
def evCapacity : Nat := 4096

/-- Put a record into the log: EVLOG_SEQ advances, the oldest of 4,096 makes room, vector 64 is raised. -/
def Dev.putEvent (d : Dev) (r : EvRec) : Dev :=
  let seq := d.get64 F.KEEPER_EVLOG_SEQ_LO F.KEEPER_EVLOG_SEQ_HI + 1
  let log := (evInsert r d.evlog).take evCapacity
  let d1 := { d with evlog := log }.set64 F.KEEPER_EVLOG_SEQ_LO F.KEEPER_EVLOG_SEQ_HI seq
  let d2 := d1.set64 F.KEEPER_EVLOG_OLDEST_LO F.KEEPER_EVLOG_OLDEST_HI (seq - log.length)
  let d3 := d2.setF F.KEEPER_INT_STATUS (setBit (d2.getF F.KEEPER_INT_STATUS) 3)
  d3.emit (.msix 64)

/-- The record of an event of block `b` now. -/
def Dev.evRec (d : Dev) (b : Block) (code inst flags unitKind arg0 arg1 : Nat) : EvRec :=
  { tick := d.tick, ns := d.ns, era := d.era, block := b.index, code := code, inst := inst,
    flags := flags + (if d.perturbed b then 4 else 0) + 32 * d.mode,
    unitKind := unitKind, arg0 := arg0 % 2 ^ 32, arg1 := arg1 % 2 ^ 32 }

/-- Count a record discarded from a full log (R482): EVLOG_DROPPED saturates as R486 lays down. -/
def Dev.countDropped (d : Dev) : Dev :=
  let v := d.getF F.KEEPER_EVLOG_DROPPED
  if v + 1 < 2 ^ 32 then d.setF F.KEEPER_EVLOG_DROPPED (v + 1)
  else if bit (d.getF F.KEEPER_SAT) 1 then d
  else
    let d1 := d.setF F.KEEPER_SAT (setBit (d.getF F.KEEPER_SAT) 1)
    let d2 := d1.putEvent (d1.evRec .keeper 0xF2 0 0 0 (F.KEEPER_EVLOG_DROPPED.addr 0 0) 0)
    d2.setInt .keeper 0 4

/-- Log an event (R482, R483). -/
def Dev.logEvent (d : Dev) (b : Block) (code inst : Nat) (arg0 : Nat := 0) (arg1 : Nat := 0)
    (unitKind : Nat := 0) (flags : Nat := 0) : Dev :=
  let full := evCapacity ≤ d.evlog.length
  let d1 := d.putEvent (d.evRec b code inst flags unitKind arg0 arg1)
  if full then d1.countDropped else d1

/-- The block's LAST_EVENT, LAST_FAULT or FAULT register, where it has one (R483, ARG0 of codes 0x00 to 0x3F). -/
def Dev.lastEvent (d : Dev) (b : Block) (i : Nat) : Nat :=
  match b with
  | .therm => d.getF F.THERM_LAST_EVENT_SENSOR + 2 ^ 8 * d.getF F.THERM_LAST_EVENT_ZONE +
      2 ^ 12 * d.getF F.THERM_LAST_EVENT_CAUSE
  | .pwr => d.getF F.PWR_LAST_EVENT_DOMAIN + 2 ^ 8 * d.getF F.PWR_LAST_EVENT_CAUSE
  | .clk => d.getF F.CLK_LAST_EVENT_PLL + 2 ^ 5 * d.getF F.CLK_LAST_EVENT_CAUSE
  | .audio => d.getF F.AUDIO_LAST_EVENT_CAUSE + 2 ^ 8 * d.getF F.AUDIO_LAST_EVENT_PORT +
      2 ^ 16 * d.getF F.AUDIO_LAST_EVENT_MIC
  | .dispatch => d.getF F.DISPATCH_LAST_FAULT_CHANNEL i + 2 ^ 8 * d.getF F.DISPATCH_LAST_FAULT_ROW i +
      2 ^ 16 * d.getF F.DISPATCH_LAST_FAULT_ENGINE i + 2 ^ 20 * d.getF F.DISPATCH_LAST_FAULT_GEN i +
      2 ^ 28 * d.getF F.DISPATCH_LAST_FAULT_CAUSE i
  | .xlat => d.getF F.XLAT_LAST_FAULT_KIND + 2 ^ 4 * d.getF F.XLAT_LAST_FAULT_CLIENT +
      2 ^ 8 * d.getF F.XLAT_LAST_FAULT_TABLE + 2 ^ 16 * d.getF F.XLAT_LAST_FAULT_WINDOW +
      2 ^ 22 * d.getF F.XLAT_LAST_FAULT_WRITE
  | .mem => d.getF F.MEM_FAULT_PC i + 2 ^ 5 * d.getF F.MEM_FAULT_KIND i + 2 ^ 8 * d.getF F.MEM_FAULT_PORT i
  | .eng => d.getF F.ENG_FAULT i
  | _ => 0

/-- An event that sets bit `k` of the block's INT_STATUS (R483): the bit, the record, the vector where enabled. -/
def Dev.raise (d : Dev) (b : Block) (i k : Nat) : Dev :=
  (d.logEvent b k i (d.lastEvent b i)).setInt b i k

/-! ### Counters -/

/-- The SAT flag's place for counter instance (i, j): field, its instance and the bit. -/
def Ctr.satPlace (c : Ctr) (i j : Nat) : Option (Field × Nat × Nat × Nat) :=
  match c with
  | .wide _ hi => some (hi, i, j, 31)
  | .narrow _ none _ _ => none
  | .narrow f (some s) b step =>
    if step = 0 then some (s, i, j, b)
    else if f.s2 = 0 then some (s, 0, 0, b + step * i)
    else some (s, i, 0, b + step * j)

/-- The count held. -/
def Dev.ctr (d : Dev) (c : Ctr) (i : Nat := 0) (j : Nat := 0) : Nat :=
  match c with
  | .wide lo hi => d.getF lo i j + 2 ^ 32 * (d.getF hi i j % 2 ^ 16)
  | .narrow f _ _ _ => d.getF f i j

/-- Whether the SAT flag is set; a counter without one has saturated once it stands at all-ones and its event is
logged, which `Dev.satNoted` records. -/
def Dev.ctrSat (d : Dev) (c : Ctr) (i : Nat := 0) (j : Nat := 0) : Bool :=
  match c.satPlace i j with
  | some (f, a, b, k) => bit (d.getF f a b) k
  | none => d.satNoted.contains (c.lo.addr i j)

/-- The largest count (R485). -/
def Ctr.max : Ctr → Nat
  | .wide _ _ => 2 ^ 48 - 1
  | .narrow _ _ _ _ => 2 ^ 32 - 1

/-- Write the count, keeping SAT. -/
def Dev.putCtr (d : Dev) (c : Ctr) (v i j : Nat) : Dev :=
  match c with
  | .wide lo hi => (d.setF lo (v % 2 ^ 32) i j).setF hi (v / 2 ^ 32 % 2 ^ 16 + 2 ^ 31 * (d.getF hi i j / 2 ^ 31)) i j
  | .narrow f _ _ _ => d.setF f v i j

/-- Set or clear the SAT flag. -/
def Dev.putSat (d : Dev) (c : Ctr) (b : Bool) (i j : Nat) : Dev :=
  match c.satPlace i j with
  | some (f, x, y, k) => d.setF f (putBit (d.getF f x y) k b) x y
  | none =>
    let a := c.lo.addr i j
    let rest := d.satNoted.filter (fun x => x ≠ a)
    { d with satNoted := if b then a :: rest else rest }

/-- Set the SAT bit of the INT_STATUS of the block that owns a saturated counter; a lane's counter belongs to its
bundle's INT_STATUS (R125). -/
def Dev.satInt (d : Dev) (b : Block) (i : Nat) : Dev :=
  match b with
  | .sl => d.raise .bundle (i / 8) 7
  | _ =>
    match b.satBit with
    | none => d
    | some k => d.raise b (if b = .bundle ∨ b = .dispatch ∨ b = .mem ∨ b = .eth then i else 0) k

/-- Count `n` more (R486): a counter that would pass all-ones stays there, sets SAT and logs one COUNTER_SAT. -/
def Dev.count (d : Dev) (c : Ctr) (i : Nat := 0) (j : Nat := 0) (n : Nat := 1) : Dev :=
  let v := d.ctr c i j
  if v + n ≤ c.max then d.putCtr c (v + n) i j
  else if d.ctrSat c i j then d
  else
    let b := blockOf (c.lo.addr i j)
    let d1 := (d.putCtr c c.max i j).putSat c true i j
    (d1.logEvent b 0xF2 i (c.lo.addr i j)).satInt b i

/-- Clear a counter and its SAT flag (R487, R28). -/
def Dev.clearCtr (d : Dev) (c : Ctr) (i : Nat := 0) (j : Nat := 0) : Dev :=
  (d.putCtr c 0 i j).putSat c false i j

/-! ### Folding over instances -/

/-- Apply `f` for 0, …, n − 1, in ascending order. -/
def Dev.upto (n : Nat) (f : Nat → Dev → Dev) (d : Dev) : Dev :=
  (List.range n).foldl (fun d i => f i d) d

/-- Apply `f` for each element, in order. -/
def Dev.each {α : Type} (l : List α) (f : α → Dev → Dev) (d : Dev) : Dev :=
  l.foldl (fun d a => f a d) d

/-- `f` where `c` holds. -/
def Dev.when (c : Bool) (f : Dev → Dev) (d : Dev) : Dev := if c then f d else d

/-! ### Fences (R478, R479, R481) -/

/-- The block that reports a unit's fences. -/
def unitBlock (kind : Nat) : Block :=
  match kind with
  | 1 => .sl | 2 => .bundle | 3 => .eng | 4 => .dispatch | 5 => .mem | 6 => .mem | 7 => .eth | 8 => .twin
  | 9 => .ring | 10 => .decode | _ => .clk

/-- How many units of a kind there are (R478). -/
def unitCount (kind : Nat) : Nat :=
  match kind with
  | 1 => 128 | 2 => 16 | 3 => 128 | 4 => 8 | 5 => 128 | 6 => 4 | 7 => 2 | 8 => 1 | 9 => 1 | 10 => 16 | 11 => 16 | _ => 0

/-- Whether R478 numbers such a unit; PLLs are 2 to 15. -/
def unitExists (kind index : Nat) : Bool :=
  decide (index < unitCount kind) && (kind != 11 || decide (2 ≤ index))

/-- A consecutive run of units of one kind. -/
def unitRun (kind first n : Nat) : List (Nat × Nat) := (List.range n).map (fun i => (kind, first + i))

/-- The units that kinds 2, 4 and 6 contain directly (R478). -/
def unitPartsDirect (kind index : Nat) : List (Nat × Nat) :=
  match kind with
  | 2 => unitRun 1 (8 * index) 8
  | 4 => unitRun 3 (16 * index) 16
  | 6 => unitRun 5 (32 * index) 32
  | _ => []

/-- Containing units with what they contain. -/
def withParts (us : List (Nat × Nat)) : List (Nat × Nat) :=
  us.flatMap (fun u => u :: unitPartsDirect u.1 u.2)

/-- Every unit a unit contains (R478). -/
def unitParts (kind index : Nat) : List (Nat × Nat) :=
  if kind = 11 then
    match index with
    | 3 => withParts (unitRun 4 0 4 ++ unitRun 10 0 8)
    | 4 => withParts (unitRun 4 4 4 ++ unitRun 10 8 8)
    | 13 => [(8, 0), (9, 0)]
    | 14 => [(7, 0)]
    | 15 => [(7, 1)]
    | i => if 5 ≤ i ∧ i ≤ 8 then withParts [(6, i - 5)]
           else if 9 ≤ i ∧ i ≤ 12 then withParts (unitRun 2 (4 * (i - 9)) 4) else []
  else unitPartsDirect kind index

/-- Whether a unit is fenced. -/
def Dev.fenced (d : Dev) (kind index : Nat) : Bool := d.fences.contains (kind, index)

/-- The power domain of a unit (R452), where it has one of its own. -/
def unitDomain (kind index : Nat) : Option Nat :=
  match kind with
  | 2 => some (158 + index)
  | 3 => some index
  | 4 => some (128 + index)
  | 6 => some (152 + index)
  | 7 => some (174 + index)
  | 8 => some 176
  | 9 => some 177
  | 10 => some (136 + index)
  | _ => none

/-- The BUNDLE.STATE code of a fenced bundle, twin link or ring (R108). -/
def stFenced : Nat := 8

/-- The register flags that show a unit's fence. -/
def Dev.showFence (d : Dev) (kind index : Nat) (on : Bool) : Dev :=
  let d1 :=
    match kind with
    | 1 =>
      let b := index / 8
      (d.setFlag F.SL_STATUS_FENCED on index).setF F.BUNDLE_MASKS_FENCED
        (putBit (d.getF F.BUNDLE_MASKS_FENCED b) (index % 8) on) b
    | 2 => d.setF F.BUNDLE_STATE_STATE (if on then stFenced else 0) index
    | 3 => d.setF F.ENG_STATE_PHASE (if on then 6 else 1) index
    | 4 => d.setFlag F.DISPATCH_CTRL_FENCED on index
    | 5 =>
      let k := index / 32
      let m := putBit (d.getF F.MEM_PC_FENCED k) (index % 32) on
      (d.setF F.MEM_PC_FENCED m k).setF F.MEM_STATUS_FENCED_PCS (popCount 32 m) k
    | 6 => d.setFlag F.MEM_STATUS_FENCED on index
    | 7 => d.setFlag F.ETH_STATUS_FENCED on index
    | 8 => d.setF F.TWIN_LINK (d.getF F.TWIN_LINK % 256 + 256 * (if on then stFenced else 0))
    | 9 => d.setF F.RING_LINK (d.getF F.RING_LINK % 16 + 16 * (if on then stFenced else 0))
    | 10 => d.setFlag F.DECODE_STATE_FENCED on index
    | _ => d
  match unitDomain kind index with
  | none => d1
  | some n =>
    let d2 := d1.setFlag F.PWR_DOM_FENCED on n
    if on then d2.setF F.PWR_DOM_STATE 3 n else d2

/-- Fence one unit that is not yet fenced: its flags and its FENCED record, with FLAGS bit 0 (and bit 1 where the
fence comes from the Almanac), UNIT_KIND, the cause in ARG0 and INDEX in ARG1. -/
def Dev.fenceOne (d : Dev) (kind index cause : Nat) (fromAlmanac : Bool) : Dev :=
  if d.fenced kind index then d
  else
    let d1 := ({ d with fences := d.fences ++ [(kind, index)] }).showFence kind index true
    d1.logEvent (unitBlock kind) 0xF0 index cause index kind (if fromAlmanac then 3 else 1)

/-- Fence a unit and every unit it contains (R479). -/
def Dev.fence (d : Dev) (kind index cause : Nat) (fromAlmanac : Bool := false) : Dev :=
  if d.fenced kind index then d
  else Dev.each ((kind, index) :: unitParts kind index) (fun u d => d.fenceOne u.1 u.2 cause fromAlmanac) d

/-- Lift the fence of one unit, with its FENCE_CLEARED record. -/
def Dev.unfenceOne (d : Dev) (kind index : Nat) : Dev :=
  if d.fenced kind index then
    let d1 := ({ d with fences := d.fences.filter (fun u => u ≠ (kind, index)) }).showFence kind index false
    d1.logEvent (unitBlock kind) 0xF1 index 0 index kind 0
  else d

/-- Lift the fence of a unit and of those it contains (R479). -/
def Dev.unfence (d : Dev) (kind index : Nat) : Dev :=
  Dev.each ((kind, index) :: unitParts kind index) (fun u d => d.unfenceOne u.1 u.2) d

/-- Whether a unit that contains this one is fenced (R479). -/
def Dev.containerFenced (d : Dev) (kind index : Nat) : Bool :=
  d.fences.any (fun u => u ≠ (kind, index) && (unitParts u.1 u.2).contains (kind, index))

/-- A direct access refused (R514 to R520): DIRECT_REFUSED counts it and LAST_REFUSED names it. -/
def Dev.refuseDirect (d : Dev) (addr : Nat) (spi : Bool) (cause : Nat) : Dev :=
  let d1 := d.count C.PCIE_DIRECT_REFUSED
  let d2 := (d1.setF F.PCIE_LAST_REFUSED_ADDR addr).setFlag F.PCIE_LAST_REFUSED_SPI spi
  (d2.setF F.PCIE_LAST_REFUSED_CAUSE cause).raise .pcie 0 5

end Sys2Proof.Machine
end

