-- ==== Sys2Proof/Machine/Regions.lean ====
section
/-! DEFINITION. The region table (R329 to R336) as the channels and the controllers read it. -/
namespace Sys2Proof.Machine

/-- Whether entry `r` of the region table is valid; the four controllers hold the same table. -/
def Dev.regionValid (d : Dev) (r : Nat) : Bool := d.flag F.MEM_REGION_CFG_VALID 0 r

/-- The entry that carries a purpose (R332). -/
def Dev.regionOf (d : Dev) (purpose : Nat) : Option Nat :=
  (List.range 16).find? (fun r => d.regionValid r && decide (d.getF F.MEM_REGION_CFG_PURPOSE 0 r = purpose))

/-- Store groups in a mask. -/
def groupCount (mask : Nat) : Nat := popCount 8 mask

/-- The size in bytes of a region: PC_LEN × 16 MiB × 16 × the number of store groups (R329). -/
def Dev.regionSize (d : Dev) (r : Nat) : Nat :=
  d.getF F.MEM_REGION_MAP_PC_LEN 0 r * 2 ^ 24 * 16 * groupCount (d.getF F.MEM_REGION_CFG_MASK 0 r)

/-- The first device memory address of a region. -/
def Dev.regionBase (d : Dev) (r : Nat) : Nat := d.getF F.MEM_REGION_MAP_BASE 0 r * 2 ^ 24

/-- The bytes a purpose has, over all its store groups. -/
def Dev.purposeBytes (d : Dev) (purpose : Nat) : Nat :=
  match d.regionOf purpose with | some r => d.regionSize r | none => 0

/-- The bytes the part of one store group has in the region of a purpose (R333). -/
def Dev.groupBytes (d : Dev) (purpose g : Nat) : Nat :=
  match d.regionOf purpose with
  | none => 0
  | some r => if bit (d.getF F.MEM_REGION_CFG_MASK 0 r) g then d.getF F.MEM_REGION_MAP_PC_LEN 0 r * 2 ^ 24 * 16 else 0

/-- The hot state that controller `k` decides on a reading (R344). -/
def Dev.hotNow (d : Dev) (k : Nat) (reading : Int) : Bool :=
  d.flag F.MEM_CTRL_HOT_FORCE k || d.flag F.MEM_TEMP_SENSOR_FAILED k || decide (85 < reading) || (d.flag F.MEM_STATUS_HOT k && decide (83 < reading))

/-- STATUS.HOT follows what decides it with the last reading, with the event where it changes (R344, R353). -/
def Dev.showHot (d : Dev) (k : Nat) : Dev :=
  let h := d.hotNow k (sext 8 (d.getF F.MEM_TEMP_TJ k))
  if h = d.flag F.MEM_STATUS_HOT k then d else (d.setFlag F.MEM_STATUS_HOT h k).raise .mem k 3

end Sys2Proof.Machine
end

