-- ==== Sys2Proof/Machine/ChanGeom.lean ====
section
/-! DEFINITION. What a parameter block implies: the fixed-delay model (R160 to R165), the store (R143, R144), level limits
(R167, R168) and the rate controller's fixed quantities (R236, R241 to R245). -/
namespace Sys2Proof.Machine

/-- t_ctu of R160, in ns. -/
def tCtu (p : List Byte) : Nat := if format444 (pFormat p) then 21845 else 16384

/-- ACTIVE of R160 as a fraction of µs over RATE_NUM: its numerator. -/
def activeNum (p : List Byte) : Nat :=
  if pActive p = 0 then 1000000 * pRateDen p else pActive p * pRateNum p

/-- The common denominator of the quantities of R160. -/
def geomQ (p : List Byte) : Nat := 512000 * pRateNum p * pHeight p

/-- t_row × Q. -/
def tRowQ (p : List Byte) : Nat := pWidth p * tCtu p * 8 * pRateNum p * pHeight p

/-- guard × Q: an eighth of t_row. -/
def guardQ (p : List Byte) : Nat := pWidth p * tCtu p * pRateNum p * pHeight p

/-- t_a × Q. -/
def tAQ (p : List Byte) : Nat := activeNum p * 64 * 512000

/-- t_pic × Q. -/
def tPicQ (p : List Byte) : Nat := 1000000 * pRateDen p * 512000 * pHeight p

/-- span × Q. -/
def spanQ (p : List Byte) : Nat := activeNum p * (pHeight p - 72) * 512000

/-- D_min of R160, in µs; `xsteal` in 0.1 µs, `margin` in µs. -/
def dMinOf (p : List Byte) (xsteal margin : Nat) : Nat :=
  let q := geomQ p
  let rows := pRows p
  let twf := 2 * (rows - 1) * (tCtu p * 512 * pRateNum p * pHeight p) - spanQ p
  let tlag := if pLag p < rows then tRowQ p + guardQ p - pLag p * tAQ p else 0
  ceilDiv (56 * q + tRowQ p + guardQ p + twf + tlag + xsteal * (q / 10) + margin * q) q

/-- Whether the rate lag is feasible (R161). -/
def lagOk (p : List Byte) : Bool := decide (pRows p ≤ pLag p) || decide (tRowQ p ≤ pLag p * tAQ p)

/-- A_min of R161. -/
def aMinOf (p : List Byte) : Nat := ceilDiv (tRowQ p) (tAQ p)

/-- The delay asked for: D_US, or D_min where it is 0. -/
def dInForce (p : List Byte) (dmin : Nat) : Nat := if pDelay p = 0 then dmin else pDelay p

/-- Δ of R165 item 1; 1 for a DEFERRED channel. -/
def refDist (p : List Byte) (dUs : Nat) : Nat :=
  if pClass p = 1 then 1 else max 1 (ceilDiv (dUs * geomQ p + min 10 (pRows p - 1) * tAQ p) (tPicQ p))

/-- Temporal layers in force (R165 items 2 and 3). -/
def tlayersUsed (p : List Byte) (delta : Nat) : Nat := if delta = 1 then pTlayers p else 2

/-- LOAD_MILLI of R157. -/
def loadMilli (p : List Byte) : Nat :=
  ceilDiv (pWidth p * pHeight p * pRateNum p * tCtu p * 1000) (pRateDen p * 4096000000000)

/-- The bytes a line occupies in the store (R144). -/
def lineBytes (p : List Byte) : Nat := ceilDiv (8 * (pSideMax p + lineWords (pFormat p) (pWidth p) 0)) 64 * 64

/-- Stripes of a slot (R144). -/
def slotStripes (p : List Byte) : Nat :=
  ceilDiv (pHeight p * lineBytes p) 3840 + ceilDiv (pHeight p * 16 + 64) 3840

/-- The plan distance P of R240. -/
def planDist (p : List Byte) (dUs : Nat) : Nat :=
  if pClass p = 1 then 2 else ceilDiv (activeNum p * 512000 * pHeight p + dUs * geomQ p) (tPicQ p)

/-- The fewest slots (R162). -/
def minSlots (p : List Byte) (dUs : Nat) : Nat := if pClass p = 1 then 3 else planDist p dUs + 1

/-- Slots granted (R162). -/
def grantedSlots (p : List Byte) (dUs : Nat) : Nat := if pSlots p = 0 then minSlots p dUs + 1 else pSlots p

/-! ### The rate controller's fixed quantities -/

/-- The least scale from 0 to 15 that brings `v / 2 ^ (base + s)` within 32 bits (R236). -/
def scaleOf (v base : Nat) : Nat :=
  ((List.range 16).find? (fun s => decide (v / 2 ^ (base + s) < 2 ^ 32))).getD 15

/-- R_hrd of R236. -/
def rHrd (p : List Byte) : Nat := (if pRcMode p = 0 then pBitrate p else pMaxBitrate p) * 1000

/-- The signalled rate R_s. -/
def rSig (p : List Byte) : Nat := let s := 6 + scaleOf (rHrd p) 6; rHrd p / 2 ^ s * 2 ^ s

/-- The signalled size B_s. -/
def bSig (p : List Byte) : Nat := let v := pCpb p * 1000; let s := 4 + scaleOf v 4; v / 2 ^ s * 2 ^ s

/-- QpBdOffsetY of a format. -/
def qpOffset (f : Nat) : Nat := 6 * (formatBits f - 8)

/-- The side data bound of a row whose lines carry `words` side words (R244). -/
def sideBits (p : List Byte) (words : Nat) : Nat :=
  if pSideMax p = 0 then 0 else 8 * (8 + ceilDiv (3 * (64 * 28 + 8 * words)) 2)

/-- MAX_BITS_PER_CTU in force (R243): the last RESCUE entry of the format and kind, else the factory value. -/
def Dev.maxBitsPerCtu (d : Dev) (format : Nat) (intra : Bool) : Nat :=
  match d.alm.rescue.reverse.find? (fun e => e.1 = format ∧ e.2.1 = b2n intra) with
  | some e => e.2.2
  | none => if intra then (match format with | 0 => 160 | 1 => 160 | 2 => 192 | 3 => 192 | 4 => 224 | 5 => 224 | _ => 128) else 32

/-- w(r) of R243 for a row whose lines carry `words` side words. -/
def Dev.rowCost (d : Dev) (p : List Byte) (intra : Bool) (words : Nat) : Nat :=
  256 + pCtus p * d.maxBitsPerCtu (pFormat p) intra + sideBits p words

/-- The assembler's bound O on the other NAL units (R245), which the spec does not give: log entry 8. -/
def overhead (p : List Byte) (rap : Bool) : Nat := (Config.overheadBits p rap).toNat

/-- W_max of R241. -/
def Dev.wMax (d : Dev) (p : List Byte) : Nat := overhead p true + pRows p * d.rowCost p true (64 * pSideMax p)

/-- The buffer conditions of R241. -/
def Dev.bufferOk (d : Dev) (p : List Byte) : Bool :=
  decide (d.wMax p * pRateNum p ≤ rSig p * pRateDen p) && decide (2 * d.wMax p ≤ bSig p) && decide (8 * rSig p ≤ bSig p * 90000)

/-! ### Profiles and levels -/

/-- The formats a profile accepts, and whether it is an intra profile (R167). -/
def profileRow (k : Nat) : List Nat × Bool :=
  match k with
  | 0 => ([0], false) | 1 => ([0, 1], false) | 2 => ([0, 1, 2], false) | 3 => ([0, 1, 2, 3], false)
  | 4 => ([0, 1, 2, 3, 4, 5, 6], false) | 5 => ([6], false) | 6 => ([6, 7], false)
  | 7 => ([0, 1, 2], true) | 8 => ([0, 1, 2, 3], true) | _ => ([0, 1, 2, 3, 4, 5, 6], true)

/-- The HEVC standard's limits by general_level_idc (R168; PRESUMED from the standard, log entry 9): picture size,
sample rate, and in units of 1,000 the CPB size and bit rate of the Main and High tiers. -/
def levelRow (idc : Nat) : Option (Nat × Nat × Nat × Nat × Nat × Nat) :=
  match idc with
  | 30 => some (36864, 552960, 350, 0, 128, 0)
  | 60 => some (122880, 3686400, 1500, 0, 1500, 0)
  | 63 => some (245760, 7372800, 3000, 0, 3000, 0)
  | 90 => some (552960, 16588800, 6000, 0, 6000, 0)
  | 93 => some (983040, 33177600, 10000, 0, 10000, 0)
  | 120 => some (2228224, 66846720, 12000, 30000, 12000, 30000)
  | 123 => some (2228224, 133693440, 20000, 50000, 20000, 50000)
  | 150 => some (8912896, 267386880, 25000, 100000, 25000, 100000)
  | 153 => some (8912896, 534773760, 40000, 160000, 40000, 160000)
  | 156 => some (8912896, 1069547520, 60000, 240000, 60000, 240000)
  | 180 => some (35651584, 1069547520, 60000, 240000, 60000, 240000)
  | 183 => some (35651584, 2139095040, 120000, 480000, 120000, 480000)
  | 186 => some (35651584, 4278190080, 240000, 800000, 240000, 800000)
  | _ => none

/-- The standard's bit rate and CPB factor of a profile (log entry 9). -/
def profileFactor (k : Nat) : Nat :=
  match k with
  | 0 => 1000 | 1 => 1000 | 2 => 1667 | 3 => 2000 | 4 => 3000 | 5 => 1000 | 6 => 1333 | 7 => 1667 | 8 => 2000 | _ => 3000

/-- The level and tier limits of R168; none at level 8.5. -/
def levelOk (p : List Byte) : Bool :=
  if pLevel p = 255 then true
  else
    match levelRow (pLevel p) with
    | none => false
    | some (ps, sr, cpbM, cpbH, brM, brH) =>
      let w := ceilDiv (pWidth p) 8 * 8
      let h := ceilDiv (pHeight p) 8 * 8
      let k := profileFactor (pProfile p)
      let cpb := if pTier p = 1 then cpbH else cpbM
      let br := if pTier p = 1 then brH else brM
      decide (w * h ≤ ps) && decide (w * w ≤ 8 * ps) && decide (h * h ≤ 8 * ps) &&
      decide (w * h * pRateNum p ≤ sr * pRateDen p) && decide (rSig p ≤ br * k) && decide (bSig p ≤ cpb * k)

/-- The general_level_idc values of R156. -/
def levelCodes : List Nat := [30, 60, 63, 90, 93, 120, 123, 150, 153, 156, 180, 183, 186, 255]

/-- The field ranges of R156 with R130 (R159 order 1); `reconf` admits FORCE_IDR. ENGINES and BITRATE have no range there, and that the
number of bundles fits SOURCE is the check of order 6. -/
def pRangesOk (p : List Byte) (reconf : Bool) : Bool :=
  let qTop := 51 + qpOffset (pFormat p)
  decide (pChannel p ≤ 127) && decide (pClass p ≤ 1) && decide (pFormat p ≤ 7) && decide (pProfile p ≤ 9) &&
  levelCodes.contains (pLevel p) && decide (pTier p ≤ 1) && (pTier p == 0 || decide (120 ≤ pLevel p)) &&
  decide ((if reconf then pFlags p % 128 else pFlags p) ≤ 7) && decide (pSource p ≤ 1) &&
  decide (pBundles p ≤ 16) &&
  (List.range 16).all (fun j => if j < pBundles p then decide (pBundleAt p j ≤ 15) else decide (pBundleAt p j = 0)) &&
  decide (pSideMax p ≤ 64) && decide (pWidth p % 2 = 0) && decide (128 ≤ pWidth p) && decide (pWidth p ≤ 16384) &&
  decide (128 ≤ pHeight p) && decide (pHeight p ≤ 16384) && (!format420 (pFormat p) || decide (pHeight p % 2 = 0)) &&
  decide (1 ≤ pRateNum p) && decide (1 ≤ pRateDen p) && decide (pActive p * pRateNum p ≤ 1000000 * pRateDen p) &&
  (pDelay p == 0 || (decide (200 ≤ pDelay p) && decide (pDelay p ≤ 100000))) && decide (pStoreGroup p ≤ 7) &&
  decide (4 ≤ pLag p) && decide (pLag p ≤ 64) && decide (pEffort p ≤ 15) &&
  (pFloor p == 255 || decide (pFloor p ≤ pEffort p)) && decide (pStructure p ≤ 2) &&
  (pStructure p == 0 || (decide (1 ≤ pRefs p) && decide (pRefs p ≤ 2))) && decide (1 ≤ pTlayers p) && decide (pTlayers p ≤ 3) &&
  decide (pRcMode p ≤ 1) && decide (pQpMin p ≤ pQpMax p) && decide (pQpMax p ≤ qTop) &&
  (if pRcMode p = 0 then pMaxBitrate p == pBitrate p else decide (pBitrate p ≤ pMaxBitrate p)) &&
  (pIntraRefresh p == 0 || (decide (2 ≤ pIntraRefresh p) && decide (pIntraRefresh p ≤ 1024))) &&
  (pFormat p != 5 || pMatrix p == 0) && decide (pFullRange p ≤ 1) &&
  (pMosaic p == 0 || (decide (2 ≤ pPanes p) && decide (pPanes p ≤ 128) && decide (pPane p < pPanes p)))

/-- Bundles distinct, and none but with SOURCE 0 (R159 order 6). -/
def pBundlesOk (p : List Byte) : Bool :=
  decide (pBundleList p).Nodup && (if pSource p = 0 then decide (1 ≤ pBundles p) else decide (pBundles p = 0))

/-- FORMAT, STRUCTURE and INTRA_REFRESH as R167 and R166 allow them (R159 order 2). -/
def pProfileOk (p : List Byte) (delta : Nat) : Bool :=
  (profileRow (pProfile p)).1.contains (pFormat p) && (!(profileRow (pProfile p)).2 || pStructure p == 0) &&
  (pIntraRefresh p == 0 || (delta == 1 && tlayersUsed p delta == 1 && pStructure p != 0))

/-! ### Samples of a line (R130) -/

/-- Where a component of a line starts among its samples, in units of samples, by format (R130): component 0 Y, 1 Cb, 2 Cr. RGB
enters with G, B and R in the Y, Cb and Cr paths. -/
def componentAt (f w comp : Nat) : Nat :=
  match f, comp with
  | 5, 0 => w | 5, 1 => 2 * w | 5, _ => 0
  | 4, c => c * w
  | _, 0 => 0
  | _, 1 => w
  | _, _ => w + w / 2

/-- Sample `x` of a component of a line of width `w`, from its pixel words (R130). -/
def LineRec.sample (r : LineRec) (f w comp x : Nat) : Nat :=
  bits (r.pixels.foldr (fun w a => w % 2 ^ 64 + 2 ^ 64 * a) 0) ((componentAt f w comp + x) * formatBits f) (formatBits f)

end Sys2Proof.Machine
end

