-- ==== Sys2Proof/Machine/Crc.lean ====
section
/-! DEFINITION. The four checks of R443, over bytes in the order in which they are fed. -/
namespace Sys2Proof.Machine

/-- `n` shifts of a reflected CRC register. -/
def crcShiftR (poly : Nat) : Nat → Nat → Nat
  | 0, v => v
  | n + 1, v => crcShiftR poly n (if v % 2 = 1 then (v / 2) ^^^ poly else v / 2)

/-- `n` shifts of a CRC register of `w` bits that is not reflected. -/
def crcShiftL (w poly : Nat) : Nat → Nat → Nat
  | 0, v => v
  | n + 1, v => crcShiftL w poly n (if v.testBit (w - 1) then (v * 2 % 2 ^ w) ^^^ poly else v * 2 % 2 ^ w)

/-- The polynomials of CTRL.POLY (R443), reflected where the check is. -/
def crcByte (poly v : Nat) (b : Byte) : Nat :=
  match poly with
  | 0 => crcShiftR 0xEDB88320 8 (v ^^^ b.toNat)
  | 1 => crcShiftR 0x82F63B78 8 (v ^^^ b.toNat)
  | 2 => crcShiftL 16 0x1021 8 (v ^^^ (b.toNat * 2 ^ 8))
  | _ => crcShiftL 64 0x42F0E1EBA9EA3693 8 (v ^^^ (b.toNat * 2 ^ 56))

/-- The initial value of R443. -/
def crcInit (poly : Nat) : Nat :=
  match poly with
  | 0 => 0xFFFFFFFF | 1 => 0xFFFFFFFF | 2 => 0xFFFF | _ => 0

/-- The final XOR of R443. -/
def crcFinal (poly : Nat) : Nat :=
  match poly with
  | 0 => 0xFFFFFFFF | 1 => 0xFFFFFFFF | _ => 0

/-- The width of a check in bits. -/
def crcWidth (poly : Nat) : Nat :=
  match poly with
  | 0 => 32 | 1 => 32 | 2 => 16 | _ => 64

/-- Feed bytes into a running value. -/
def crcFeed (poly v : Nat) (bs : List Byte) : Nat := bs.foldl (crcByte poly) v

/-- The check over `guard` folded in first, then `bs` (R444). -/
def crcOf (poly : Nat) (guard bs : List Byte) : Nat :=
  crcFeed poly (crcFeed poly (crcInit poly) guard) bs ^^^ crcFinal poly

/-- CRC-32C with no guard. -/
def crc32c (bs : List Byte) : Nat := crcOf 1 [] bs

/-- CRC-16/CCITT over the 6 bytes of bits [47:0] (R96). -/
def crcWord48 (w : Nat) : Nat := crcOf 2 [] (leBytes 6 w)

end Sys2Proof.Machine
end

