-- ==== Sys2Proof/Machine/LineCode.lean ====
section
/-! DEFINITION. The VXL line code (R93 to R96, R104): the self-synchronising scrambler, stuff bits, and the words that a talkback lane sends. -/
namespace Sys2Proof.Machine

/-! ### The scrambler (R93) -/

/-- A history of 31 scrambled bits, the latest in bit 0, after one more. -/
def histPush (h : Nat) (s : Bool) : Nat := (2 * h + b2n s) % 2 ^ 31

/-- s(k − 28) XOR s(k − 31) of a history. -/
def histTap (h : Nat) : Bool := bit h 27 ^^ bit h 30

/-- The scrambled bits of payload bits, in sending order, and the history they leave. -/
def scrambleBits (h : Nat) : List Bool → List Bool × Nat
  | [] => ([], h)
  | x :: rest =>
    let s := x ^^ histTap h
    let (ss, h2) := scrambleBits (histPush h s) rest
    (s :: ss, h2)

/-- The payload bits of received scrambled bits, and the history they leave. -/
def descrambleBits (h : Nat) : List Bool → List Bool × Nat
  | [] => ([], h)
  | s :: rest =>
    let (xs, h2) := descrambleBits (histPush h s) rest
    ((s ^^ histTap h) :: xs, h2)

/-- The bits of a word, bit 0 first (R92). -/
def wordBits (w : Nat) : List Bool := (List.range 64).map (fun k => bit w k)

/-- The word of bits, bit 0 first. -/
def bitsWord (xs : List Bool) : Nat := xs.foldr (fun x a => b2n x + 2 * a) 0

/-- A payload word recovered from the 64 scrambled bits received for it, and the history they leave. -/
def descrambleWord (h w : Nat) : Nat × Nat :=
  let (xs, h2) := descrambleBits h (wordBits w)
  (bitsWord xs, h2)

/-! ### Stuff bits (R94, R95) -/

/-- The run count of a line, and the last bit that was no stuff bit. -/
structure LineRun where
  count : Nat := 0
  last : Bool := false
  deriving DecidableEq, Repr

/-- The run count after one more bit that is no stuff bit. -/
def LineRun.next (r : LineRun) (x : Bool) : LineRun := { count := if r.count = 0 ∨ x ≠ r.last then 1 else r.count + 1, last := x }

/-- The line bits of bits to be sent: a bit of the opposite value follows a run of 24. -/
def stuffBits (r : LineRun) : List Bool → List Bool × LineRun
  | [] => ([], r)
  | x :: rest =>
    let r1 := r.next x
    if r1.count = 24 then
      let (ys, r2) := stuffBits { r1 with count := 0 } rest
      (x :: (!x) :: ys, r2)
    else
      let (ys, r2) := stuffBits r1 rest
      (x :: ys, r2)

/-- The bits received from line bits: the bit after a run of 24 goes, and is a violation where it has the run's value. -/
def unstuffBits (r : LineRun) : List Bool → List Bool × Nat × LineRun
  | [] => ([], 0, r)
  | x :: rest =>
    if r.count = 24 then
      let (ys, v, r2) := unstuffBits { r with count := 0 } rest
      (ys, v + b2n (x == r.last), r2)
    else
      let (ys, v, r2) := unstuffBits (r.next x) rest
      (x :: ys, v, r2)

/-! ### Words of a talkback lane (R96, R104) -/

/-- A word of 48 bits with its CHECK. -/
def checkedWord (w : Nat) : Nat := w % 2 ^ 48 + 2 ^ 48 * crcWord48 w

/-- The marker of bundle `b`'s talkback with MCOUNT `mc`: PAR and RATE are 0, and so are SMSG and SARG. -/
def talkMarker (b mc : Nat) : Nat := checkedWord (0x2D3 + 2 ^ 10 * b + 2 ^ 32 * (mc % 2 ^ 16))

/-- A message word (R104). -/
def talkWord (type seq argA argB mc : Nat) : Nat :=
  checkedWord (type % 2 ^ 8 + 2 ^ 8 * (seq % 2 ^ 8) + 2 ^ 16 * (argA % 2 ^ 8) + 2 ^ 24 * (argB % 2 ^ 8) + 2 ^ 32 * (mc % 2 ^ 16))

/-- The line bits of a payload word: scrambled from history `h`, stuffed from run `r`. -/
def payloadLine (h : Nat) (r : LineRun) (w : Nat) : List Bool := (stuffBits r (scrambleBits h (wordBits w)).1).1

/-- The line bits of a marker, which is not scrambled. -/
def markerLine (r : LineRun) (w : Nat) : List Bool := (stuffBits r (wordBits w)).1

end Sys2Proof.Machine
end

