-- ==== Sys2Proof/Machine/Reply.lean ====
section
/-! DEFINITION. Replies (R63, R64, R72, R77), the journal and the duplicate windows (R66, R84), and how a command
completes. -/
namespace Sys2Proof.Machine

/-- The queue record of client `n`. -/
def Dev.queue (d : Dev) (n : Nat) : Queue := (assoc d.queues n).getD {}

/-- Replace the queue record of client `n`. -/
def Dev.putQueue (d : Dev) (n : Nat) (q : Queue) : Dev := { d with queues := assocPut d.queues n q }

/-- Slots of the submission ring of queue `n`. -/
def Dev.sqSize (d : Dev) (n : Nat) : Nat := 2 ^ d.getF F.CMD_Q_CTRL_SQ_LOG2 n

/-- Slots of the reply ring of queue `n`. -/
def Dev.rqSize (d : Dev) (n : Nat) : Nat := 2 ^ d.getF F.CMD_Q_CTRL_RQ_LOG2 n

/-- Whether replies reach rings and frames now: not in a reset (R28, R88). -/
def Dev.serving (d : Dev) : Bool := d.phase == .run

/-- Whether queue `n` has a free reply slot (R72). All the slots of the ring may hold replies that the host has not read, so an RQ_DB that repeats the
head it gave last frees none: how a full ring is told from an empty one is open (DESIGN CHOICE, log entry 83). -/
def Dev.replyRoom (d : Dev) (n : Nat) : Bool := decide ((d.queue n).used < d.rqSize n)

/-- RFLAGS of a reply (R63) in a ring whose RING_PHASE is `phase`; over the SPI bit 7 is 0. -/
def Reply.flags (r : Reply) (phase : Bool) : Nat :=
  b2n r.done + 2 * b2n r.long + 4 * b2n r.resumed + 8 * b2n r.untrusted + 16 * b2n r.lost + 128 * b2n phase

/-- The header of a reply with its RCRC, then its inline results (R63). -/
def Reply.image (r : Reply) (phase : Bool) : List Byte :=
  let h := leBytes 4 0x50525856 ++ leBytes 1 1 ++ leBytes 1 (r.flags phase) ++ leBytes 2 r.opcode ++ leBytes 4 r.tag ++ leBytes 1 r.client ++ leBytes 1 0 ++
    leBytes 2 r.status ++ leBytes 2 r.rlen ++ leBytes 2 0 ++ leBytes 4 r.acceptTime ++ leBytes 4 r.detail
  h ++ leBytes 4 (crc32c (h ++ r.data)) ++ r.data

/-- The bytes of a reply over the SPI (R77). -/
def Reply.bytes (r : Reply) : List Byte := r.image false

/-- The 128 bytes of a reply slot (R63, R69): what follows the inline results is 0 (DESIGN CHOICE, log entry 84). -/
def Reply.slotBytes (r : Reply) (phase : Bool) : List Byte := (r.image phase ++ List.replicate 128 (0 : Byte)).take 128

/-- Write one reply at RQ_TAIL (R72): RING_PHASE changes at each wrap. -/
def Dev.writeReply (d : Dev) (n : Nat) (r : Reply) : Dev :=
  let q := d.queue n
  let tail := d.getF F.CMD_Q_RQ_TAIL n
  let next := (tail + 1) % d.rqSize n
  let d0 := d.emit (.hostWrite (d.get64 F.CMD_Q_RQ_BASE_LO F.CMD_Q_RQ_BASE_HI n + 128 * tail) (r.slotBytes q.ringPhase))
  let d1 := d0.emit (.reply n tail q.ringPhase r)
  let d2 := d1.putQueue n { q with used := q.used + 1, ringPhase := (if next = 0 then !q.ringPhase else q.ringPhase), pass := q.pass ++ [r] }
  d2.setF F.CMD_Q_RQ_TAIL next n

/-- Whether replies can be written into the ring of client `n` now. -/
def Dev.ringOpen (d : Dev) (n : Nat) : Bool := d.serving && !d.awaitBme && d.flag F.CMD_Q_CTRL_OPEN n && d.replyRoom n

/-- One held reply in a pass over those of client `n`: written, or held on. -/
def Dev.flushOne (n : Nat) (d : Dev) (e : Nat × Reply) : Dev :=
  if e.1 = n ∧ d.ringOpen n = true then d.writeReply n e.2 else { d with held := d.held ++ [e] }

/-- Vector n is signalled where IRQ_EN is set (R76). -/
def Dev.signalPass (d : Dev) (n : Nat) : Dev := if d.flag F.CMD_Q_CTRL_IRQ_EN n then d.emit (.msix n) else d

/-- Write the held replies of client `n` while its ring has room (R72), oldest first: one pass, after which its vector is signalled (R76). -/
def Dev.flushReplies (d : Dev) (n : Nat) : Dev :=
  if d.ringOpen n = false ∨ d.held.any (fun e => e.1 == n) = false then d
  else (d.held.foldl (Dev.flushOne n) ({ d with held := [] }.putQueue n { d.queue n with pass := [] })).signalPass n

/-- The replies a READ-REPLY can return (R77): CMD.STATUS.SPI_PENDING follows the list. -/
def Dev.putSpiOut (d : Dev) (l : List Reply) : Dev :=
  ({ d with spiOut := l }).setF F.CMD_STATUS_SPI_PENDING (min 64 l.length)

/-- CMD.STATUS.JOURNAL_FULL follows the commands that wait for parameter space (R73). -/
def Dev.showWaits (d : Dev) : Dev := d.setFlag F.CMD_STATUS_JOURNAL_FULL (d.queues.any (fun q => q.2.waits) || d.spiIn.any (fun x => x.waits))

/-- Send a reply to client `n`, over the SPI or into its ring (R63, R72, R78). -/
def Dev.postReply (d : Dev) (spi : Bool) (n : Nat) (r : Reply) : Dev :=
  if spi then d.putSpiOut (d.spiOut ++ [r])
  else ({ d with held := d.held ++ [(n, r)] }).flushReplies n

/-- CMD.INFLIGHT of client `n`. -/
def inflightField (n : Nat) : Field :=
  match n % 4 with
  | 0 => F.CMD_INFLIGHT_B0 | 1 => F.CMD_INFLIGHT_B1 | 2 => F.CMD_INFLIGHT_B2 | _ => F.CMD_INFLIGHT_B3

/-- How many commands of client `n` are accepted and not yet DONE (R73). -/
def Dev.inflight (d : Dev) (n : Nat) : Nat := d.getF (inflightField n) (n / 4)

/-- CMD.WINDOW of client `n`. -/
def windowField (n : Nat) : Field := if n % 2 = 0 then F.CMD_WINDOW_W0 else F.CMD_WINDOW_W1

/-- The duplicate window of client `n`, newest first (R84). -/
def Dev.window (d : Dev) (n : Nat) : List WinEntry := (assoc d.windows n).getD []

/-- Replace a window; CMD.WINDOW shows its fill. -/
def Dev.putWindow (d : Dev) (n : Nat) (w : List WinEntry) : Dev :=
  ({ d with windows := assocPut d.windows n w }).setF (windowField n) w.length (n / 2)

/-- The journal entry of an accepted command that is not yet DONE. -/
def Dev.journalOf (d : Dev) (client tag : Nat) : Option JEntry :=
  d.journal.find? (fun e => e.client = client ∧ e.tag = tag)

/-- Journal parameter space of a command, in 64-byte units (R73). -/
def journalUnits (plen : Nat) : Nat := ceilDiv plen 64

/-- Record the effect of a command as made (R67). -/
def Dev.commitPoint (d : Dev) (c : Ctx) : Dev :=
  { d with journal := d.journal.map (fun e => if e.client = c.client ∧ e.tag = c.tag then { e with committed := true } else e) }

/-- The status a reply carries in DETAIL where the catalogue names no reason (R498). -/
def detailOf (st : Status) (detail : Nat) : Nat := if st ≠ .ok ∧ detail = 0 then 0x08 else detail

/-- Whether a client number is bound to the SPI (R79). -/
def Dev.spiBound (d : Dev) (n : Nat) : Bool := d.flag F.CMD_Q_CTRL_SPI_BOUND n

/-- A translation fault (R358): LAST_FAULT and FAULT_VA name it, FAULTS counts it, the log holds it. `table` is 0xFF for a
scatter entry. -/
def Dev.xlatFault (d : Dev) (kind client table window : Nat) (write : Bool) (va : Nat) : Dev :=
  let d1 := ((d.setF F.XLAT_LAST_FAULT_KIND kind).setF F.XLAT_LAST_FAULT_CLIENT client).setF F.XLAT_LAST_FAULT_TABLE table
  let d2 := (d1.setF F.XLAT_LAST_FAULT_WINDOW window).setFlag F.XLAT_LAST_FAULT_WRITE write
  let d3 := d2.set64 F.XLAT_FAULT_VA_LO F.XLAT_FAULT_VA_HI va
  (d3.count C.XLAT_FAULTS).raise .xlat 0 0

/-- A translation fault of a client whose virtual address no command carries: KIND 1 to 4, the window, the direction and the address are open
(log entry 100). -/
def Dev.xlatOpen (d : Dev) (client table : Nat) : Dev :=
  let v := d.freeBits 64
  d.drawn.xlatFault (1 + bits v 0 2) client table (bits v 2 6) (bit v 8) (bits v 9 48)

/-- The fault, if any, of the host reads made on a command's behalf, as client 12 (R358, R359). -/
def Dev.bufFault (d : Dev) (c : Ctx) : Dev :=
  match c.rd.fault with
  | some k => d.xlatFault k 12 0xFF 0 false (c.rd.bytes.length / 64 * 64)
  | none => d

/-- The reply of a completing command, and what goes to BUF (R64): results above 96 bytes on PCIe are written there,
confirmed by a read whose outcome is `c.confirm`. -/
def Dev.doneReply (d : Dev) (c : Ctx) (op : Nat) (st : Status) (detail : Nat) (data : List Byte) : Dev × Reply :=
  let spi := d.spiBound c.client
  let je := d.journalOf c.client c.tag
  let long := decide (96 < data.length) && !spi
  let buf := (je.map (·.buf)).getD c.buf
  let r : Reply :=
    { done := true, long := long, resumed := d.replaying || (je.map (·.resumed)).getD false, lost := (decide (0 < data.length)) && long && !c.confirm
      opcode := op, tag := c.tag, client := c.client, status := st.code, detail := detailOf st detail
      rlen := data.length, acceptTime := (je.map (·.acceptTime)).getD d.ns, data := if long then [] else data }
  (if long then
    let d1 := d.emit (.hostWrite buf data)
    if c.confirm then d1 else d1.xlatFault 7 12 0xFF 0 false 0
   else d, r)

/-- Take a command out of the journal: its space is free and INFLIGHT falls (R73). -/
def Dev.dropJournal (d : Dev) (client tag : Nat) : Dev :=
  match d.journalOf client tag with
  | none => d
  | some e =>
    let d1 := { d with journal := d.journal.filter (fun x => ¬ (x.client = client ∧ x.tag = tag)) }
    let d2 := d1.setF F.CMD_JOURNAL_FREE (d1.getF F.CMD_JOURNAL_FREE + journalUnits e.params.length)
    d2.setF (inflightField client) (d2.inflight client - 1) (client / 4)

/-- Once every accepted command of a closing queue is DONE, OPEN and CLOSING clear (R75). -/
def Dev.closeIfDone (d : Dev) (n : Nat) : Dev :=
  if d.flag F.CMD_Q_CTRL_CLOSING n ∧ d.journal.all (fun e => e.client ≠ n) = true ∧
      d.held.all (fun e => e.1 ≠ n) = true then
    let d1 := (d.setFlag F.CMD_Q_CTRL_OPEN false n).setFlag F.CMD_Q_CTRL_CLOSING false n
    let f := if n < 32 then F.CMD_OPEN_LO else F.CMD_OPEN_HI
    d1.setF f (clearBit (d1.getF f) (n % 32))
  else d

/-- Whether journal replay completes a command: it was accepted before a warm reset. -/
def Dev.replayed (d : Dev) (c : Ctx) : Bool :=
  match d.journalOf c.client c.tag with | some e => e.resumed || d.replaying | none => false

/-- A command reaches DONE (R66): its single final reply, the journal entry gone, the window entry answered. -/
def Dev.finish (d : Dev) (c : Ctx) (op : Nat) (st : Status) (detail : Nat := 0) (data : List Byte := []) : Dev :=
  let (d0, r) := d.doneReply c op st detail data
  let d1 := if d.replayed c then d0.count C.CMD_RESUMED else d0
  let d2 := d1.dropJournal c.client c.tag
  let w := (d2.window c.client).map (fun e => if e.tag = c.tag ∧ e.done = false then { e with done := true, reply := r } else e)
  let d3 := if (d2.window c.client).isEmpty then d2 else d2.putWindow c.client w
  d3.postReply (d3.spiBound c.client) c.client r

/-- A command that R65 turns away before acceptance: one DONE reply, nothing journaled (R65). -/
def Dev.reject (d : Dev) (spi : Bool) (n : Nat) (op tag client : Nat) (st : Status) (detail : Nat)
    (untrusted : Bool := false) (data : List Byte := []) (now : Nat := d.ns) : Dev :=
  let r : Reply :=
    { done := true, untrusted := untrusted, opcode := op, tag := tag, client := client, status := st.code
      detail := detail, rlen := data.length, acceptTime := now, data := data }
  (d.count C.CMD_REJECTED).postReply spi n r

/-- A command that a check turns away: rejected where it was not accepted (R65), ended where the check failed only when it
started (R553). -/
def Dev.turnAway (d : Dev) (c : Ctx) (op : Nat) (st : Status) (detail : Nat) (data : List Byte := []) : Dev :=
  if (d.journalOf c.client c.tag).isSome then d.finish c op st detail data
  else d.reject (d.spiBound c.client) c.client op c.tag c.client st (detailOf st detail) false data

/-- Every mode; every mode but Standby (R11). -/
def allModes : List Nat := [0, 1, 2, 3, 4, 5]
def notStandby : List Nat := [1, 2, 3, 4, 5]

end Sys2Proof.Machine
end

