-- ==== Sys2Proof/Machine/Lanes.lean ====
section
/-! DEFINITION. Sensor lanes and bundles: markers, bring-up, lane faults, talkback and the parity lane (R90 to R125). -/
namespace Sys2Proof.Machine

/-- Lane `n` of the sensor lanes. -/
def Dev.lane (d : Dev) (n : Nat) : LaneSt := (assoc d.lanes n).getD {}

/-- Replace lane `n`. -/
def Dev.putLane (d : Dev) (n : Nat) (l : LaneSt) : Dev := { d with lanes := assocPut d.lanes n l }

/-- Bundle `b`. -/
def Dev.bundle (d : Dev) (b : Nat) : BundleSt := (assoc d.bundles b).getD {}

/-- Replace bundle `b`. -/
def Dev.putBundle (d : Dev) (b : Nat) (s : BundleSt) : Dev := { d with bundles := assocPut d.bundles b s }

/-- The state code of bundle `b` (R108). -/
def Dev.bundleState (d : Dev) (b : Nat) : Nat := d.getF F.BUNDLE_STATE_STATE b

/-- The lane at position `p` of bundle `b` (R90). -/
def laneAt (b p : Nat) : Nat := 8 * b + p

/-- The positions of a bundle whose lane satisfies `f`, as a mask. -/
def maskOf (f : Nat → Bool) : Nat := (List.range 8).foldl (fun m p => if f p then setBit m p else m) 0

/-- The positions 0 to 7 in a mask. -/
def positions (m : Nat) : List Nat := (List.range 8).filter (fun p => bit m p)

/-- Lanes flagged LOST. -/
def Dev.lostMask (d : Dev) (b : Nat) : Nat := maskOf (fun p => d.flag F.SL_STATUS_LOST (laneAt b p))

/-- Lanes marked MISWIRED (R99). -/
def Dev.miswiredMask (d : Dev) (b : Nat) : Nat := maskOf (fun p => d.flag F.SL_STATUS_MISWIRED (laneAt b p))

/-- Whether the parity lane of bundle `b` is active: PAR_EN as latched, and READY carried bit 7 (R102). -/
def Dev.parityActive (d : Dev) (b : Nat) : Bool := (d.bundle b).parEn && d.flag F.BUNDLE_SOURCE_PAR b

/-- The lanes SEEK waits for: enabled, not MISWIRED, not fenced (R108). -/
def Dev.wantedMask (d : Dev) (b : Nat) : Nat :=
  maskOf (fun p => bit (d.bundle b).laneEn p && !bit (d.miswiredMask b) p && !bit (d.getF F.BUNDLE_MASKS_FENCED b) p)

/-- The mask of usable lanes of talkback messages (R105): locked, not lost, not MISWIRED, not fenced. -/
def Dev.usableMask (d : Dev) (b : Nat) : Nat :=
  maskOf (fun p => bit (d.wantedMask b) p && bit (d.getF F.BUNDLE_MASKS_LOCKED b) p && !bit (d.lostMask b) p)

/-- The full stripe mask: every enabled data lane that is not MISWIRED (R99, R102, R105). -/
def Dev.fullStripe (d : Dev) (b : Nat) : Nat :=
  maskOf (fun p => bit (d.bundle b).laneEn p && !bit (d.miswiredMask b) p && !(d.parityActive b && p == (d.bundle b).parLane))

/-- Put a stripe mask in force; IN_USE follows it (SL.STATUS.IN_USE). A MISWIRED lane is not used (R99). -/
def Dev.putStripe (d : Dev) (b m : Nat) : Dev :=
  let d1 := d.setF F.BUNDLE_MASKS_STRIPE m b
  Dev.upto 8 (fun p d => d.setFlag F.SL_STATUS_IN_USE
    (m != 0 && (bit m p || (d.parityActive b && p == (d.bundle b).parLane && !d.flag F.SL_STATUS_MISWIRED (laneAt b p)))) (laneAt b p)) d1

/-- Bundle `b` enters state `st` now (R108). -/
def Dev.toState (d : Dev) (b st : Nat) : Dev :=
  (d.setF F.BUNDLE_STATE_STATE st b).putBundle b { d.bundle b with stateTick := d.tick }

/-- Ticks of 10 ms, after which a training state, RESUME or a retrain attempt is over (R109, R117). -/
def ticks10ms : Nat := 2500000

/-- Ticks of the marker period at rate code 0 without stuff bits, 335.5 µs (R91). -/
def ticksTalkMarker : Nat := 83886

/-- Whether bundle `b`'s talkback lane sends: enabled, out of electrical idle, and not in a reset (R37, R104, R122). -/
def Dev.talks (d : Dev) (b : Nat) : Bool :=
  d.phase == .run && d.flag F.BUNDLE_TALKBACK_EN b && d.bundleState b != 0 && d.bundleState b != 8

/-- The scrambler history of a talkback lane at the next word: any but all zeros. How many idle words went before it is open (R93, log entry 92). -/
def Dev.talkHist (d : Dev) : Nat := 1 + Config.freeValue d.free % (2 ^ 31 - 1)

/-- The run count of a talkback lane at the next word (R94, log entry 92). -/
def Dev.talkRun (d : Dev) : LineRun := { count := Config.freeValue d.free / 2 ^ 31 % 24, last := bit (Config.freeValue d.free) 63 }

/-- Send a word on bundle `b`'s talkback lane (R104): the lane's own marker goes first where its period is over. -/
def Dev.sendTalk (d : Dev) (b w : Nat) : Dev :=
  let s := d.bundle b
  let d1 :=
    if s.talkTick + ticksTalkMarker ≤ d.tick then
      (d.putBundle b { s with talkMc := (s.talkMc + 1) % 65536, talkTick := d.tick }).emit
        (.talkback b (talkMarker b s.talkMc) (markerLine d.talkRun (talkMarker b s.talkMc)))
    else d
  (d1.emit (.talkback b w (payloadLine d.talkHist d.talkRun w))).drawn

/-- Send a new talkback message (R104, R105); none while TALKBACK.EN is 0 or the transmitter is idle. -/
def Dev.talk (d : Dev) (b type argA argB mc : Nat) : Dev :=
  if d.talks b = false then d
  else
    let seq := (d.getF F.BUNDLE_TALKBACK_SEQ b + 1) % 256
    let d1 := (d.setF F.BUNDLE_TALKBACK_SEQ seq b).setF F.BUNDLE_TALKBACK_TYPE type b
    let d2 := d1.putBundle b { d1.bundle b with argA := argA, argB := argB, mc := mc }
    d2.sendTalk b (talkWord type seq argA argB mc)

/-- The current message of bundle `b` as a word (R104). -/
def Dev.currentTalk (d : Dev) (b : Nat) : Nat :=
  let s := d.bundle b
  talkWord (d.getF F.BUNDLE_TALKBACK_TYPE b) (d.getF F.BUNDLE_TALKBACK_SEQ b) s.argA s.argB s.mc

/-- The current message once more (R104). -/
def Dev.talkRepeat (d : Dev) (b : Nat) : Dev :=
  if d.talks b = false ∨ d.getF F.BUNDLE_TALKBACK_TYPE b = 0 then d else d.sendTalk b (d.currentTalk b)

/-- Set or clear the marker lock of lane `n`; a MISWIRED lane does not count as locked (R99). -/
def Dev.setLock (d : Dev) (n : Nat) (on : Bool) : Dev :=
  let b := n / 8
  let d1 := d.setFlag F.SL_STATUS_MARKER_LOCK on n
  let on2 := on && !d1.flag F.SL_STATUS_MISWIRED n
  d1.setF F.BUNDLE_MASKS_LOCKED (putBit (d1.getF F.BUNDLE_MASKS_LOCKED b) (n % 8) on2) b

/-- Lane `n` has neither lock nor alignment; what it keeps is the tick of its loss and its equaliser preset. -/
def Dev.dropLock (d : Dev) (n : Nat) : Dev :=
  ((d.setLock n false).setFlag F.SL_STATUS_ALIGNED false n).putLane n { lostTick := (d.lane n).lostTick, eq := (d.lane n).eq }

/-- The receiver of lane `n` starts over: no clock, no lock, no alignment, nothing remembered. -/
def Dev.clearLane (d : Dev) (n : Nat) : Dev := (d.dropLock n).setFlag F.SL_STATUS_CDR_LOCK false n

/-- The receiver of lane `n` starts over for a SEEK, which applies its equaliser preset (R125). -/
def Dev.seekLane (d : Dev) (n : Nat) : Dev :=
  (d.clearLane n).putLane n { lostTick := (d.lane n).lostTick, eq := d.getF F.SL_CTRL_EQ_PRESET n }

/-- Whether the loss of lane `n` counts (R98, R99): it has marker lock in a bundle that is on, and is neither MISWIRED nor lost already. -/
def Dev.canBeLost (d : Dev) (n : Nat) : Bool :=
  let st := d.bundleState (n / 8)
  st != 0 && st != 6 && st != 8 && bit (d.bundle (n / 8)).laneEn (n % 8) && d.flag F.SL_STATUS_MARKER_LOCK n &&
    !d.flag F.SL_STATUS_MISWIRED n && !d.flag F.SL_STATUS_LOST n

/-- Lane `n` is flagged LOST and LANE_DOWN is sent (R105, R114). -/
def Dev.laneDown (d : Dev) (n : Nat) : Dev :=
  let b := n / 8
  let mc := (d.lane n).last.getD (d.getF F.BUNDLE_ALIGN_MCOUNT b)
  let d1 := (d.dropLock n).setFlag F.SL_STATUS_LOST true n
  let d2 := (d1.putLane n { lostTick := d1.tick, eq := (d1.lane n).eq }).putBundle b { d1.bundle b with verify := 0 }
  d2.talk b 5 (n % 8) (d2.usableMask b) mc

/-- A lane is declared lost (R98, R114); a lane being retrained only loses the lock it had regained, and begins its SEEK again. -/
def Dev.declareLost (d : Dev) (n : Nat) : Dev :=
  if d.canBeLost n then
    let b := n / 8
    (((d.count C.SL_LOCK_LOSS n).count C.BUNDLE_LANE_LOSS b).laneDown n).raise .bundle b 2
  else
    let keep := d.lane n
    (d.dropLock n).putLane n { lostTick := keep.lostTick, eq := keep.eq, attempt := keep.attempt, attemptTick := keep.attemptTick, stage := b2n keep.attempt }

/-- One failed attempt of lane `n` (R117): the third in a row fences the lane, and LANE_FENCED is sent. -/
def Dev.attemptFail (d : Dev) (n : Nat) : Dev :=
  let b := n / 8
  let k := d.getF F.SL_STATUS_ATTEMPTS n + 1
  let d1 := (d.clearLane n).setF F.SL_STATUS_ATTEMPTS (min 3 k) n
  let d2 := d1.putLane n { lostTick := d1.tick, eq := (d1.lane n).eq }
  if 3 ≤ k then
    let d3 := d2.fence 1 n 0
    (d3.talk b 7 (n % 8) (d3.usableMask b) (d3.getF F.BUNDLE_ALIGN_MCOUNT b)).raise .bundle b 3
  else d2

/-- A lane that cannot be locked or aligned with its bundle counts one failed attempt and is handled as a lost lane (R100, R111). DEDUCED for
R100 (log entry 91): the lane is taken out of the bundle, as R111 says of a lane that does not lock. -/
def Dev.laneOut (d : Dev) (n : Nat) : Dev := (d.laneDown n).attemptFail n

/-- Start a training from SEEK at rate code 0 (R108, R123): CFG is latched, HELLO asks for the full mask. -/
def Dev.enterSeek (d : Dev) (b : Nat) : Dev :=
  let d1 := Dev.upto 8 (fun p d =>
    let n := laneAt b p
    let e := (d.seekLane n).setFlag F.SL_STATUS_MISWIRED false n
    if e.flag F.SL_STATUS_FENCED n then e else e.setFlag F.SL_STATUS_LOST false n) d
  let s : BundleSt :=
    { d1.bundle b with
      laneEn := d1.getF F.BUNDLE_CFG_LANE_EN b, parEn := d1.flag F.BUNDLE_CFG_PAR_EN b,
      parLane := d1.getF F.BUNDLE_CFG_PAR_LANE b, maxRate := d1.getF F.BUNDLE_CFG_MAX_RATE b,
      slots := 0, goods := 0, counts := [], messages := [], ready := false, verify := 0, blemish := false,
      seekTick := d1.tick, acked := false, striped := none, completed := false, gap := false, stream := [] }
  let d2 := ((d1.putBundle b s).toState b 1).setF F.BUNDLE_STATE_RATE 0 b
  let d3 := ((d2.setF F.BUNDLE_MASKS_PENDING 0 b).setF F.BUNDLE_TIMING_PEND_MC 0 b).setF F.BUNDLE_TIMING_NEXT_RETRY 0 b
  (d3.putStripe b 0).talk b 1 0 (2 * b2n s.parEn) 0

/-- The SEEK after a STEP, at the new rate: no new message, READY stays read. -/
def Dev.seekAgain (d : Dev) (b rate : Nat) : Dev :=
  let d1 := Dev.upto 8 (fun p d => (d.seekLane (laneAt b p)).setFlag F.SL_STATUS_MISWIRED false (laneAt b p)) d
  let s : BundleSt :=
    { d1.bundle b with
      laneEn := d1.getF F.BUNDLE_CFG_LANE_EN b, parEn := d1.flag F.BUNDLE_CFG_PAR_EN b,
      parLane := d1.getF F.BUNDLE_CFG_PAR_LANE b, maxRate := d1.getF F.BUNDLE_CFG_MAX_RATE b,
      slots := 0, goods := 0, counts := [], messages := [], verify := 0, blemish := false, acked := false }
  (((d1.putBundle b s).toState b 1).setF F.BUNDLE_STATE_RATE rate b).setF F.BUNDLE_TIMING_PEND_MC 0 b

/-- Milliseconds of the backoff after the k-th consecutive failure (R109). -/
def backoffMs (k : Nat) : Nat := if 8 ≤ k then 1000 else min 1000 (10 * 2 ^ (k - 1))

/-- A failure of training at `rate` (R109, R110): TRAIN_FAIL, FAILS, the cap after three at one rate above 0, WAITING
with FALLBACK and then HELLO. -/
def Dev.trainFail (d : Dev) (b rate : Nat) : Dev :=
  let d1 := d.count C.BUNDLE_TRAIN_FAIL b
  let k := min 15 (d1.getF F.BUNDLE_STATE_FAILS b + 1)
  let d2 := d1.setF F.BUNDLE_STATE_FAILS k b
  let n := if (d2.bundle b).failRate = rate then d2.getF F.BUNDLE_STATE_STEP_FAILS b + 1 else 1
  let d3 := (d2.setF F.BUNDLE_STATE_STEP_FAILS (if rate = 0 then 0 else min 3 n) b).putBundle b { d2.bundle b with failRate := rate }
  let d4 :=
    if 3 ≤ n ∧ 0 < rate then
      ((d3.setF F.BUNDLE_STATE_CAP (rate - 1) b).setFlag F.BUNDLE_STATE_CAPPED true b).raise .bundle b 4
    else d3
  let d5 := Dev.upto 8 (fun p d => d.clearLane (laneAt b p)) d4
  let d6 := ((d5.toState b 6).setF F.BUNDLE_STATE_RATE 0 b).setF F.BUNDLE_TIMING_NEXT_RETRY (backoffMs k) b
  let d7 := (d6.setF F.BUNDLE_TIMING_PEND_MC 0 b).putBundle b { d6.bundle b with waitTick := d6.tick, slots := 0, goods := 0, counts := [], messages := [], completed := false, gap := false, stream := [] }
  let d8 := (d7.putStripe b 0).talk b 4 0 0 0
  (d8.talk b 1 0 (2 * b2n (d8.flag F.BUNDLE_CFG_PAR_EN b)) 0).raise .bundle b 1

/-- The target rate (R108): the lowest of MAX_RATE, READY's rate and the cap; 0 while TALKBACK.EN is 0 (R104). -/
def Dev.targetRate (d : Dev) (b : Nat) : Nat :=
  if d.flag F.BUNDLE_TALKBACK_EN b then
    min (d.bundle b).maxRate (min (d.getF F.BUNDLE_SOURCE_MAX_RATE b) (d.getF F.BUNDLE_STATE_CAP b))
  else 0

/-- The bundle reaches UP (R108, R109): k is 0; after a training RATE_OK is sent, TRAIN_TIME and the stripe mask are set. -/
def Dev.goUp (d : Dev) (b : Nat) (trained : Bool) : Dev :=
  let d1 := ((d.toState b 5).setF F.BUNDLE_STATE_FAILS 0 b).setF F.BUNDLE_STATE_STEP_FAILS 0 b
  let d2 := (d1.setF F.BUNDLE_TIMING_PEND_MC 0 b).putBundle b { d1.bundle b with failRate := 0, stream := [] }
  let d3 :=
    if trained then
      let us := (d2.tick - (d2.bundle b).seekTick) * 4 / 1000
      ((d2.talk b 3 (d2.getF F.BUNDLE_STATE_RATE b) 0 (d2.getF F.BUNDLE_ALIGN_MCOUNT b)).setF F.BUNDLE_TRAIN_TIME us b).putStripe b (d2.fullStripe b)
    else d2
  d3.raise .bundle b 0

/-- VERIFY passed below the target rate: STEP (R108); a lane flagged LOST fails the step at once (R121). -/
def Dev.enterStep (d : Dev) (b : Nat) : Dev :=
  let rate := d.getF F.BUNDLE_STATE_RATE b
  let m := d.getF F.BUNDLE_ALIGN_MCOUNT b
  let d1 := (d.toState b 4).setF F.BUNDLE_TIMING_PEND_MC ((m + 4) % 65536) b
  let d2 := (d1.putBundle b { d1.bundle b with stepFrom := m, acked := false }).talk b 2 (rate + 1) 0 ((m + 4) % 65536)
  if d2.lostMask b &&& d2.wantedMask b = 0 then d2 else d2.trainFail b (rate + 1)

/-- VERIFY has passed (R108). -/
def Dev.verifyPassed (d : Dev) (b : Nat) : Dev :=
  if d.getF F.BUNDLE_STATE_RATE b < d.targetRate b then d.enterStep b else d.goUp b true

/-- READY read (R102, R106): the source's highest rate and its parity bit; PAR_OFF follows, and is an event at each training that finds
no parity lane. -/
def Dev.readReady (d : Dev) (b sarg : Nat) : Dev :=
  let d1 := (d.setF F.BUNDLE_SOURCE_MAX_RATE (sarg % 4) b).setFlag F.BUNDLE_SOURCE_PAR (bit sarg 7) b
  let d2 := d1.putBundle b { d1.bundle b with ready := true }
  if (d2.bundle b).parEn then
    if bit sarg 7 then d2.setFlag F.BUNDLE_STATE_PAR_OFF false b
    else if (d.bundle b).ready ∧ d2.flag F.BUNDLE_STATE_PAR_OFF b = true then d2
    else (d2.setFlag F.BUNDLE_STATE_PAR_OFF true b).raise .bundle b 10
  else d2

/-- RESTRIPE read in UP in the markers of period `mc` (R118): the mask is pending from M + 2, or is answered with
LANE_DOWN when it names a lane not in use or the parity lane. DESIGN CHOICE (log entry 93): a mask that names no lane is refused too, with lane
position 0, and of several unusable lanes LANE_DOWN carries the lowest. -/
def Dev.restripe (d : Dev) (b mask mc : Nat) : Dev :=
  let s := d.bundle b
  let repeated := match s.striped with | some (m, k) => m == mask && (k + 1) % 65536 == mc | none => false
  if repeated then d
  else
    let d1 := d.putBundle b { s with striped := some (mask, mc) }
    let bad := (positions mask).filter (fun p => !bit (d1.usableMask b) p || (d1.parityActive b && p == s.parLane))
    match bad, mask with
    | [], 0 => d1.talk b 5 0 (d1.usableMask b) mc
    | [], _ =>
      ((d1.setF F.BUNDLE_MASKS_PENDING mask b).setF F.BUNDLE_TIMING_PEND_MC ((mc + 2) % 65536) b).talk b 8 mask 0 ((mc + 2) % 65536)
    | p :: _, _ => d1.talk b 5 p (d1.usableMask b) mc

/-- The message of a marker period (R107): none when the lanes differ or the code is reserved. -/
def Dev.periodMessage (d : Dev) (b : Nat) : Dev × Option (Nat × Nat) :=
  match (d.bundle b).messages with
  | [] => (d, none)
  | m :: rest =>
    if rest.any (fun x => x != m) ∨ 5 ≤ m.1 then (d.raise .bundle b 8, none)
    else if m.1 = 0 then (d, none)
    else ((d.setF F.BUNDLE_SOURCE_SMSG m.1 b).setF F.BUNDLE_SOURCE_SARG m.2 b, some m)

/-- Lanes whose MCOUNT differed from every other locked lane's in two consecutive periods are lost (R98). -/
def Dev.checkDiffer (d : Dev) (b : Nat) : Dev :=
  let cs := (d.bundle b).counts.filter (fun c => bit (d.getF F.BUNDLE_MASKS_LOCKED b) c.1)
  cs.foldl (fun d c =>
    let others := cs.filter (fun e => e.1 ≠ c.1)
    let odd := !others.isEmpty && others.all (fun e => e.2 ≠ c.2)
    let l := d.lane (laneAt b c.1)
    let k := if odd then l.differ + 1 else 0
    let d1 := d.putLane (laneAt b c.1) { l with differ := k }
    if 2 ≤ k then d1.declareLost (laneAt b c.1) else d1) d

/-- Readmission of a retrained lane at the marker boundary (R117). -/
def Dev.readmit (d : Dev) (n : Nat) : Dev :=
  let b := n / 8
  let d1 := ((d.setFlag F.SL_STATUS_LOST false n).setF F.SL_STATUS_ATTEMPTS 0 n).setFlag F.SL_STATUS_ALIGNED true n
  let d2 := d1.putLane n { d1.lane n with attempt := false, stage := 0, good := 0, suspect := 0 }
  d2.talk b 6 (n % 8) (d2.usableMask b) (d2.getF F.BUNDLE_ALIGN_MCOUNT b)

/-- Progress of the lanes in a retrain attempt at the end of a period (R117): a lane passes SEEK with marker lock, DESKEW once it is
aligned, and VERIFY with 4 good periods without a parity mismatch, which readmit it. -/
def Dev.attemptProgress (d : Dev) (b : Nat) : Dev :=
  let s := d.bundle b
  let mc := d.getF F.BUNDLE_ALIGN_MCOUNT b
  Dev.upto 8 (fun p d =>
    let n := laneAt b p
    let l := d.lane n
    if l.attempt = false then d
    else
      let locked := bit s.goods p && d.flag F.SL_STATUS_MARKER_LOCK n
      let even := s.counts.any (fun c => c.1 = p ∧ c.2 = mc)
      if locked = false then d.putLane n { l with good := 0, mismatch := false }
      else if l.stage ≤ 1 then d.putLane n { l with stage := 2, good := 0, mismatch := false }
      else if l.stage = 2 then d.putLane n { l with stage := if even && d.flag F.SL_STATUS_ALIGNED n then 3 else 2, good := 0, mismatch := false }
      else
        let g := if even && decide (l.violations = 0) && !l.mismatch then l.good + 1 else 0
        if 4 ≤ g then d.readmit n else d.putLane n { l with good := g, mismatch := false }) d

/-- What the end of a marker period does in each state (R108). -/
def Dev.periodState (d : Dev) (b mc : Nat) (msg : Option (Nat × Nat)) : Dev :=
  let s := d.bundle b
  let locked := d.getF F.BUNDLE_MASKS_LOCKED b
  let inUse := maskOf (fun p => bit locked p && !bit (d.lostMask b) p)
  match d.bundleState b with
  | 1 => if s.ready ∧ d.wantedMask b ≠ 0 ∧ d.wantedMask b &&& locked = d.wantedMask b then d.toState b 2 else d
  | 2 =>
    if (positions inUse).all (fun p => d.flag F.SL_STATUS_ALIGNED (laneAt b p)) ∧ s.counts.all (fun c => c.2 = mc) then
      (d.putBundle b { s with verify := 0, blemish := false }).toState b 3
    else d
  | 3 =>
    let good := s.goods &&& inUse = inUse ∧ inUse ≠ 0 ∧ s.blemish = false ∧ s.counts.all (fun c => bit inUse c.1 = false ∨ c.2 = mc)
    if good then
      if 3 ≤ s.verify then d.verifyPassed b else d.putBundle b { s with verify := s.verify + 1 }
    else d.putBundle b { s with verify := 0, blemish := false }
  | 4 =>
    let rate := d.getF F.BUNDLE_STATE_RATE b
    let since := (mc + 65536 - s.stepFrom) % 65536
    let heard := if 1 ≤ since ∧ since ≤ 3 then msg else none
    if heard = some (3, rate + 1) then (d.setF F.BUNDLE_STATE_CAP rate b).goUp b true
    else
      let acked := s.acked || heard == some (2, rate + 1)
      let d1 := d.putBundle b { s with acked := acked }
      if since < 3 then d1
      else if acked then d1.seekAgain b (rate + 1) else d1.trainFail b (rate + 1)
  | 5 =>
    let d1 := match msg with | some (4, m) => d.restripe b m mc | _ => d
    let pending := d1.getF F.BUNDLE_MASKS_PENDING b
    if pending ≠ 0 ∧ d1.getF F.BUNDLE_TIMING_PEND_MC b = mc then
      (((d1.putStripe b pending).setF F.BUNDLE_MASKS_PENDING 0 b).setF F.BUNDLE_TIMING_PEND_MC 0 b).raise .bundle b 5
    else d1
  | 7 =>
    if s.resumeMask &&& locked = s.resumeMask ∧ (positions s.resumeMask).all (fun p => d.flag F.SL_STATUS_ALIGNED (laneAt b p)) then
      d.goUp b false
    else d
  | _ => d

/-- The end of a marker period: every lane that can have a marker slot has had one (R107, R108). -/
def Dev.periodEnd (d : Dev) (b : Nat) : Dev :=
  let inUse := (d.bundle b).counts.filter (fun c => !bit (d.lostMask b) c.1)
  let mc := match inUse, (d.bundle b).counts with | c :: _, _ => c.2 | [], c :: _ => c.2 | [], [] => d.getF F.BUNDLE_ALIGN_MCOUNT b
  let skew := (List.range 8).foldl (fun m p => if bit (d.bundle b).goods p then max m (d.getF F.SL_SKEW_WORDS (laneAt b p)) else m) 0
  let d1 := if (d.bundle b).goods = 0 then d else (d.setF F.BUNDLE_ALIGN_MCOUNT mc b).setF F.BUNDLE_ALIGN_SKEW_MAX skew b
  let (d2, msg) := d1.periodMessage b
  let st := d2.bundleState b
  let d3 := match msg with | some (1, a) => if 1 ≤ st ∧ st ≤ 4 then d2.readReady b a else d2 | _ => d2
  let d4 := (d3.checkDiffer b).attemptProgress b
  let d5 := if (d3.bundle b).goods = 0 then d4 else d4.periodState b mc msg
  let d6 := Dev.upto 8 (fun p d => d.putLane (laneAt b p) { d.lane (laneAt b p) with violations := 0 }) d5
  d6.putBundle b { d6.bundle b with slots := 0, goods := 0, counts := [], messages := [] }

/-- The lanes of the bundle that have marker lock now, whether or not they are in use. -/
def Dev.tracked (d : Dev) (b : Nat) : Nat := maskOf (fun p => d.flag F.SL_STATUS_MARKER_LOCK (laneAt b p))

/-- A slot of lane `n` belongs to a new period when the lane had one already: the old period ends first. -/
def Dev.slotBefore (d : Dev) (n : Nat) : Dev := if bit (d.bundle (n / 8)).slots (n % 8) then d.periodEnd (n / 8) else d

/-- Record that lane `n` has had its slot; the period ends once every lane with lock has had one. -/
def Dev.slotAfter (d : Dev) (n : Nat) : Dev :=
  let b := n / 8
  let d1 := d.putBundle b { d.bundle b with slots := setBit (d.bundle b).slots (n % 8) }
  let t := d1.tracked b
  if t ≠ 0 ∧ (d1.bundle b).slots &&& t = t then d1.periodEnd b else d1

/-- The slot of lane `n` holds no good marker (R98): counted while locked, and the fourth in a row loses the lane. -/
def Dev.markerMissed (d : Dev) (n : Nat) : Dev :=
  let d0 := d.slotBefore n
  let l := d0.lane n
  if d0.flag F.SL_STATUS_MARKER_LOCK n then
    let d1 := (d0.count C.SL_MARKER_ERR n).putLane n { l with miss := l.miss + 1, away := l.away + 1 }
    let d2 := d1.putBundle (n / 8) { d1.bundle (n / 8) with blemish := true }
    let d3 := if 4 ≤ l.miss + 1 then d2.declareLost n else d2
    d3.slotAfter n
  else d0.putLane n { l with last := none, away := 0 }

/-- A word in the marker slot is a good marker (R96): SYNC and CHECK. -/
def markerGood (w : Nat) : Bool := bits w 0 10 == 0x2D3 && bits w 48 16 == crcWord48 w

/-- Whether a marker `gap` words after the last good one stands in lane `n`'s slot (R92): a lane without lock has none yet. -/
def Dev.inSlot (d : Dev) (n gap : Nat) : Bool :=
  !d.flag F.SL_STATUS_MARKER_LOCK n || gap == 8192 * ((d.lane n).miss + 1)

/-- Lane `n` carries another lane's number (R99): it is not used, and not retrained. -/
def Dev.miswire (d : Dev) (n : Nat) : Dev :=
  let b := n / 8
  let d1 := d.setFlag F.SL_STATUS_MISWIRED true n
  let d2 := d1.setF F.BUNDLE_MASKS_LOCKED (clearBit (d1.getF F.BUNDLE_MASKS_LOCKED b) (n % 8)) b
  let d3 := d2.putLane n { d2.lane n with attempt := false, stage := 0 }
  (d3.putStripe b (clearBit (d3.getF F.BUNDLE_MASKS_STRIPE b) (n % 8))).raise .bundle b 6

/-- A good marker on lane `n`: `gap` words since the last good one, `skew` words behind the earliest lane, the eye of
R125 in its steps (R98 to R100, R107). -/
def Dev.markerGoodAt (d : Dev) (n w gap skew eyeH eyeW : Nat) : Dev :=
  let b := n / 8
  let mc := bits w 32 16
  let d0 := d.slotBefore n
  let l := d0.lane n
  let d1 := (((d0.setF F.SL_MARKER_MCOUNT mc n).setF F.SL_MARKER_SMSG (bits w 20 4) n).setF F.SL_MARKER_SARG (bits w 24 8) n).setF F.SL_MARKER_RATE (bits w 18 2) n
  let wired := bits w 10 7 == n
  let d2 := if wired ∨ d1.flag F.SL_STATUS_MISWIRED n = true then d1 else d1.miswire n
  let d3 := (d2.setF F.SL_SKEW_WORDS (min skew 32) n).setFlag F.SL_STATUS_CDR_LOCK true n
  let locked := d3.flag F.SL_STATUS_MARKER_LOCK n
  let follows := match l.last with | none => false | some k => mc == (k + 1 + l.miss) % 65536
  let gains := !locked && gap == 8192 && (match l.last with | none => false | some k => mc == (k + 1) % 65536)
  if locked ∧ follows = false then
    ((d3.declareLost n).putLane n { (d3.declareLost n).lane n with last := some mc }).slotAfter n
  else
    let d4 := if gains then (if d3.bundleState b = 1 then d3.setFlag F.SL_STATUS_LOST false n else d3).setLock n true else d3
    let aligned := skew ≤ 32 && d4.flag F.SL_STATUS_MARKER_LOCK n
    let d5 := if 2 ≤ d4.bundleState b then d4.setFlag F.SL_STATUS_ALIGNED aligned n else d4
    let d6 := if d5.bundleState b = 3 ∨ l.attempt then (d5.setF F.SL_SKEW_EYE_H eyeH n).setF F.SL_SKEW_EYE_W eyeW n else d5
    let d7 := d6.putLane n { d6.lane n with last := some mc, miss := 0, away := 0, par := bit w 17 }
    let s := d7.bundle b
    let d8 := if d7.flag F.SL_STATUS_MISWIRED n then d7 else d7.putBundle b
      { s with goods := setBit s.goods (n % 8), counts := s.counts ++ [(n % 8, mc)], messages := s.messages ++ [(bits w 20 4, bits w 24 8)] }
    let tooLate := locked && decide (32 < skew) && !d8.flag F.SL_STATUS_MISWIRED n
    let st := d8.bundleState b
    let d9 :=
      if tooLate ∧ l.attempt then d8.attemptFail n
      else if tooLate ∧ d8.flag F.SL_STATUS_LOST n = false ∧ 2 ≤ st ∧ st ≤ 5 then d8.laneOut n
      else d8
    d9.slotAfter n

/-- Whether the receiver of lane `n` is on and used: its bundle is neither DOWN nor fenced, the lane enabled and not fenced (R108). -/
def Dev.laneReceives (d : Dev) (n : Nat) : Bool :=
  let st := d.bundleState (n / 8)
  st != 0 && st != 8 && bit (d.bundle (n / 8)).laneEn (n % 8) && !d.flag F.SL_STATUS_FENCED n

/-- Whether sensor lane `n` is receiving markers: its receiver is on, and its bundle trains or runs (R98, R108). -/
def Dev.laneListens (d : Dev) (n : Nat) : Bool := d.laneReceives n && d.bundleState (n / 8) != 6

/-- A marker slot of sensor lane `n` with word `w` (R92, R98). -/
def Dev.sensorMarker (d : Dev) (n w gap skew eyeH eyeW : Nat) : Dev :=
  if d.laneListens n = false then d
  else if markerGood w ∧ d.inSlot n gap = true then d.markerGoodAt n w gap skew eyeH eyeW else d.markerMissed n

/-- A marker slot of sensor lane `n` passes without a good marker (R98). -/
def Dev.sensorSlotMissed (d : Dev) (n : Nat) : Dev := if d.laneListens n then d.markerMissed n else d

/-- A stuffing violation on lane `n`, which holds `held` words (R95, R98, R103, R114). -/
def Dev.stuffing (d : Dev) (n held : Nat) : Dev :=
  if d.laneReceives n = false then d
  else
    let b := n / 8
    let l := d.lane n
    let d1 := (d.count C.SL_CODE_ERR n).putLane n { l with violations := l.violations + 1, suspect := max l.suspect (min held 36) }
    let d2 := d1.putBundle b { d1.bundle b with blemish := true }
    if 16 < l.violations + 1 ∧ d2.flag F.SL_STATUS_MARKER_LOCK n = true then d2.declareLost n else d2

/-- Loss of signal or of clock recovery on lane `n` (R98, R114). -/
def Dev.sensorLos (d : Dev) (n : Nat) : Dev :=
  let d1 := d.setFlag F.SL_STATUS_CDR_LOCK false n
  if d.flag F.SL_STATUS_FENCED n then d1 else d1.declareLost n

/-- A retrain attempt of lane `n` begins: it seeks marker lock on its own (R117). -/
def Dev.attemptBegin (d : Dev) (n : Nat) : Dev :=
  let d1 := (d.count C.SL_RETRAIN n).seekLane n
  d1.putLane n { d1.lane n with attempt := true, attemptTick := d1.tick, stage := 1 }

/-- Whether a retrain attempt of lane `n` is due (R117): an inter-picture gap begins now, or 100 ms have passed since the loss or the last
failure. -/
def Dev.attemptDue (d : Dev) (n : Nat) : Bool :=
  let s := d.bundle (n / 8)
  (s.gap && s.gapTick == d.tick) || decide ((d.lane n).lostTick + 25000000 ≤ d.tick)

/-- A retrain attempt of a lost lane begins (R117), where one is due. -/
def Dev.retrainBegin (d : Dev) (n : Nat) : Dev :=
  if d.bundleState (n / 8) = 5 ∧ d.flag F.SL_STATUS_LOST n = true ∧ d.flag F.SL_STATUS_FENCED n = false ∧
      d.flag F.SL_STATUS_MISWIRED n = false ∧ (d.lane n).attempt = false ∧ d.attemptDue n = true then d.attemptBegin n
  else d

/-- A retrain attempt has lasted 10 ms without success (R117). -/
def Dev.attemptTimeout (d : Dev) (n : Nat) : Dev :=
  if (d.lane n).attempt ∧ (d.lane n).attemptTick + ticks10ms ≤ d.tick then d.attemptFail n else d

/-- A training state or RESUME has lasted 10 ms (R109, R111). -/
def Dev.trainTimeout (d : Dev) (b : Nat) : Dev :=
  let st := d.bundleState b
  let rate := d.getF F.BUNDLE_STATE_RATE b
  let locked := d.getF F.BUNDLE_MASKS_LOCKED b &&& d.wantedMask b
  if d.tick < (d.bundle b).stateTick + ticks10ms then d
  else if st = 1 ∧ rate = 0 ∧ locked ≠ 0 ∧ (d.bundle b).ready = true then
    Dev.each ((positions (d.wantedMask b)).filter (fun p => !bit locked p)) (fun p d => d.laneOut (laneAt b p)) (d.toState b 2)
  else if st = 1 ∨ st = 2 ∨ st = 3 ∨ st = 7 then d.trainFail b rate
  else if st = 4 then d.trainFail b (rate + 1)
  else d

/-- The backoff of a WAITING bundle expires (R109). -/
def Dev.backoffEnd (d : Dev) (b : Nat) : Dev :=
  if d.bundleState b = 6 ∧ (d.bundle b).waitTick + 250000 * backoffMs (d.getF F.BUNDLE_STATE_FAILS b) ≤ d.tick then d.enterSeek b else d

/-- One millisecond of a backoff has passed at this tick: NEXT_RETRY counts down (R125). -/
def Dev.tickBackoff (d : Dev) : Dev :=
  Dev.upto 16 (fun b d =>
    if d.bundleState b = 6 ∧ (d.tick - (d.bundle b).waitTick) % 250000 = 0 then
      d.setF F.BUNDLE_TIMING_NEXT_RETRY (d.getF F.BUNDLE_TIMING_NEXT_RETRY b - 1) b
    else d) d

/-! ### The parity lane (R101 to R103) -/

/-- The outcome of merging one parity group: the merged words with their poison tags, in stripe order. -/
structure Merged where
  words : List LineWord
  rebuilt : Option Nat
  poisoned : List Nat
  groupPoison : Bool
  deriving DecidableEq, Repr

/-- Merge one group (R103): `words` holds word j of each lane position, `lost` the positions whose word is lost, `par`
the active parity lane. -/
def mergeGroup (stripe : List Nat) (par : Option Nat) (lost : Nat → Bool) (words : List Nat) : Merged :=
  let w := fun p => getAt 0 words p
  let lostData := stripe.filter lost
  match par with
  | none => { words := stripe.map (fun p => ⟨w p, lost p⟩), rebuilt := none, poisoned := lostData, groupPoison := false }
  | some q =>
    let others := fun p => (stripe.filter (fun x => x ≠ p)).foldl (fun a x => a ^^^ w x) (w q)
    match lostData, lost q with
    | [], false =>
      let sum := stripe.foldl (fun a x => a ^^^ w x) 0
      if sum = w q then { words := stripe.map (fun p => ⟨w p, false⟩), rebuilt := none, poisoned := [], groupPoison := false }
      else { words := stripe.map (fun p => ⟨w p, true⟩), rebuilt := none, poisoned := [], groupPoison := true }
    | [p0], false =>
      { words := stripe.map (fun p => ⟨if p = p0 then others p else w p, false⟩), rebuilt := some p0, poisoned := [], groupPoison := false }
    | [], true => { words := stripe.map (fun p => ⟨w p, false⟩), rebuilt := none, poisoned := [], groupPoison := false }
    | _, _ => { words := stripe.map (fun p => ⟨w p, lost p⟩), rebuilt := none, poisoned := lostData, groupPoison := false }

/-- Whether the word lane position `p` holds for this group is lost (R103): its lane is lost, fenced, MISWIRED or suspect. -/
def Dev.wordLost (d : Dev) (b p : Nat) : Bool :=
  let n := laneAt b p
  d.flag F.SL_STATUS_LOST n || d.flag F.SL_STATUS_FENCED n || d.flag F.SL_STATUS_MISWIRED n || !d.flag F.SL_STATUS_MARKER_LOCK n || decide (0 < (d.lane n).suspect)

/-- The history that lane `n`'s receiver descrambles with (R93): until the model has seen 31 of its payload bits it is open (log entry 92). -/
def Dev.laneHist (d : Dev) (n : Nat) : Nat :=
  (d.lane n).hist.getD (Config.freeValue d.free / 2 ^ (31 * (n % 8)) % 2 ^ 31)

/-- The payload words that bundle `b` recovers from the words received at its lane positions, stuff bits removed (R93, R95, R102). -/
def Dev.received (d : Dev) (b : Nat) (words : List Nat) : List Nat :=
  words.zipIdx.map (fun x => (descrambleWord (d.laneHist (laneAt b x.2)) x.1).1)

/-- The receivers of bundle `b` have taken one payload word each. -/
def Dev.tookWords (d : Dev) (b : Nat) (words : List Nat) : Dev :=
  Dev.each words.zipIdx (fun x e =>
    let n := laneAt b x.2
    let l := e.lane n
    e.putLane n { l with hist := some (descrambleWord (d.laneHist n) x.1).2, suspect := l.suspect - 1 }) d.drawn

/-- Whether the words of a group, with those of the lane at `p`, which is being retrained, fail the parity check (R108, R117). -/
def parityFails (stripe : List Nat) (q : Nat) (words : List Nat) : Bool :=
  stripe.foldl (fun a x => a ^^^ getAt 0 words x) 0 != getAt 0 words q

/-- A bundle in VERIFY or UP merges a parity group (R101 to R103): `words` are what its lanes received, stuff bits removed. Counters, the
VERIFY of the bundle and of a lane being retrained, and the words the bundle stream gains. -/
def Dev.parityGroup (d : Dev) (b : Nat) (words : List Nat) : Dev :=
  let st := d.bundleState b
  let s := d.bundle b
  let stripe := positions (if st = 5 then d.getF F.BUNDLE_MASKS_STRIPE b else d.fullStripe b)
  let par := if d.parityActive b then some s.parLane else none
  if st ≠ 5 ∧ st ≠ 3 then d
  else
    let ws := d.received b words
    let m := mergeGroup stripe par (d.wordLost b) ws
    let d1 := { d.tookWords b words with merged := assocPut d.merged b m.words }
    let lost := (match par with | some q => stripe ++ [q] | none => []).filter (d.wordLost b)
    let d2 := match par, lost with
      | some q, [p] =>
        let l := d1.lane (laneAt b p)
        if l.attempt ∧ parityFails stripe q ws = true then d1.putLane (laneAt b p) { l with mismatch := true } else d1
      | _, _ => d1
    if st = 3 then
      if m.groupPoison then d2.putBundle b { d2.bundle b with blemish := true } else d2
    else
      let d3 := d2.putBundle b { d2.bundle b with stream := (d2.bundle b).stream ++ m.words }
      let d4 := if m.groupPoison then d3.count C.BUNDLE_POISON b else d3
      let d5 := match m.rebuilt with | some p => (d4.count C.SL_RECON (laneAt b p)).count C.BUNDLE_RECON b | none => d4
      Dev.each m.poisoned (fun p d => d.count C.SL_POISON (laneAt b p)) d5

/-! ### The words of a line packet (R101, R103, R116) -/

/-- Whether words stand at the front of a stream; the poison tags they have there, and what follows them. -/
def frontOf : List Nat → List LineWord → Option (List Bool × List LineWord)
  | [], rest => some ([], rest)
  | _, [] => none
  | w :: ws, x :: rest => if x.value = w then (frontOf ws rest).map (fun r => (x.poison :: r.1, r.2)) else none

/-- A packet's words in the bundle stream, after the fill words and packets that went before. -/
def findPacket (ws : List Nat) : List LineWord → Option (List Bool × List LineWord)
  | [] => none
  | x :: rest => match frontOf ws (x :: rest) with | some r => some r | none => findPacket ws rest

/-- Data lanes in the stripe whose lost words are not rebuilt (R103): all of them without an active parity lane, or beside another lost lane. -/
def Dev.unrepaired (d : Dev) (b : Nat) : List Nat :=
  let gone := fun (p : Nat) => d.flag F.SL_STATUS_LOST (laneAt b p) || d.flag F.SL_STATUS_FENCED (laneAt b p)
  let lost := (positions (d.getF F.BUNDLE_MASKS_STRIPE b)).filter gone
  if d.parityActive b ∧ gone (d.bundle b).parLane = false ∧ lost.length ≤ 1 then [] else lost

/-- Whether a packet's line is damaged by a poisoned word (R103, R116): its own tags say so, or those its words have in the bundle stream; where the
stream does not hold them, a lost lane that is not repaired damages it, surely where the packet has a word on every lane of the stripe, and as
a free value decides where it is shorter (log entry 92). -/
def Dev.packetDamaged (d : Dev) (b : Nat) (words : List LineWord) : Bool :=
  words.any (·.poison) ||
  match findPacket (words.map (·.value)) (d.bundle b).stream with
  | some r => r.1.any id
  | none =>
    if d.unrepaired b = [] then false
    else decide ((positions (d.getF F.BUNDLE_MASKS_STRIPE b)).length ≤ words.length) || bit (Config.freeValue d.free) 0

/-- The bundle stream after a packet has been taken from it. -/
def Dev.packetTaken (d : Dev) (b : Nat) (words : List LineWord) : Dev :=
  match findPacket (words.map (·.value)) (d.bundle b).stream with
  | some r => d.putBundle b { d.bundle b with stream := r.2 }
  | none => d.drawn

/-! ### Modes and commands (R122, R123) -/

/-- A bundle goes to DOWN: receivers and talkback off. -/
def Dev.bundleDown (d : Dev) (b : Nat) : Dev :=
  if d.bundleState b = 8 then d
  else
    let d1 := Dev.upto 8 (fun p d => d.clearLane (laneAt b p)) d
    ((d1.toState b 0).setF F.BUNDLE_STATE_RATE 0 b).putStripe b 0

/-- The bundles the Almanac names start in SEEK (R123, start-up step 10 and leaving Standby). -/
def Dev.bundlesStart (d : Dev) : Dev :=
  Dev.upto 16 (fun b d => if d.flag F.BUNDLE_CFG_AUTO b ∧ d.bundleState b = 0 then d.enterSeek b else d) d

/-- Warm resume step 5 (R122): bundles in UP go to RESUME with HELLO KEPT = 1, training ones restart. An announced stripe mask is dropped: the
bundle uses the one it kept (R118). -/
def Dev.bundlesResume (d : Dev) : Dev :=
  Dev.upto 16 (fun b d =>
    let st := d.bundleState b
    if st = 5 ∨ st = 7 then
      let mask := if st = 7 then (d.bundle b).resumeMask else d.getF F.BUNDLE_MASKS_LOCKED b
      let d1 := Dev.upto 8 (fun p d => if d.flag F.SL_STATUS_LOST (laneAt b p) then d else d.clearLane (laneAt b p)) d
      let s : BundleSt :=
        { d1.bundle b with
          resumeMask := mask, slots := 0, goods := 0, counts := [], messages := [], striped := none, completed := false, gap := false, stream := [] }
      let d2 := (d1.putBundle b s).toState b 7
      ((d2.setF F.BUNDLE_MASKS_PENDING 0 b).setF F.BUNDLE_TIMING_PEND_MC 0 b).talk b 1 (d2.getF F.BUNDLE_STATE_RATE b) (1 + 2 * b2n (d2.bundle b).parEn) 0
    else if 1 ≤ st ∧ st ≤ 4 ∨ st = 6 then d.enterSeek b
    else d) d

/-- FENCE-CLEAR on a lane starts a fresh attempt (R117, R32). -/
def Dev.laneUnfenced (d : Dev) (n : Nat) : Dev :=
  let d1 := (d.setF F.SL_STATUS_ATTEMPTS 0 n).setFlag F.SL_STATUS_LOST (d.bundleState (n / 8) == 5) n
  if d1.bundleState (n / 8) = 5 then d1.attemptBegin n else d1.clearLane n

/-- Start a bundle from SEEK at rate 0 with its backoff reset; the attempts of its lost lanes are dropped (R108, R123). -/
def Dev.bundleAgain (d : Dev) (b : Nat) : Dev :=
  let d1 := (d.setF F.BUNDLE_STATE_FAILS 0 b).setF F.BUNDLE_STATE_STEP_FAILS 0 b
  let d2 := Dev.upto 8 (fun p d =>
    if d.flag F.SL_STATUS_FENCED (laneAt b p) then d else d.setF F.SL_STATUS_ATTEMPTS 0 (laneAt b p)) d1
  (d2.putBundle b { d2.bundle b with failRate := 0 }).enterSeek b

/-- BUNDLE-TRAIN restarts a bundle so, and removes its rate cap (R110, R123). -/
def Dev.bundleRestart (d : Dev) (b : Nat) : Dev :=
  ((d.setF F.BUNDLE_STATE_CAP 3 b).setFlag F.BUNDLE_STATE_CAPPED false b).bundleAgain b

/-- Whether a started channel takes lines from bundle `b`. -/
def Dev.bundleInUse (d : Dev) (b : Nat) : Bool :=
  d.chans.any (fun c => d.getF F.CHAN_STATE_STATE c.1 == 2 && (pBundleList c.2.params).contains b)

/-- The checks of BUNDLE-TRAIN (R123, R480). -/
def chkBundleTrain (b : Nat) (d : Dev) : Option (Status × Nat) :=
  if 16 ≤ b then some (.badParam, 0x08)
  else if d.fenced 2 b then some (.fenced, 0x08)
  else if (d.mode = 2 ∨ d.mode = 3) ∧ d.bundleInUse b = true then some (.busy, 0x08) else none

/-- BUNDLE-TRAIN (R123). -/
def runBundleTrain (c : Ctx) (b : Nat) (d : Dev) : Dev := ((d.bundleRestart b).commitPoint c).finish c 0x0302 .ok

/-- The registers LANE-STATUS returns (R506), without clearing RC fields. -/
def Dev.regWord (d : Dev) (a : Nat) : Nat :=
  match ((blockOf a).rows).findSome? (fun r => if a < r.base then none else (instanceAt (a - r.base) r.n1 r.s1 r.n2 r.s2).map (fun p => (r, p.1, p.2))) with
  | none => 0
  | some (r, i, j) => r.fields.foldl (fun v f =>
      v + d.getF { base := r.base, s1 := r.s1, s2 := r.s2, lsb := f.1, width := f.2.1 } i j * 2 ^ f.1) 0

/-- `n` registers from address `a` on, in address order. -/
def Dev.regBytes (d : Dev) (a n : Nat) : List Byte := (List.range n).flatMap (fun k => leBytes 4 (d.regWord (a + 4 * k)))

/-- The checks of LANE-STATUS. -/
def chkLaneStatus (b : Nat) : Option (Status × Nat) := if 16 ≤ b then some (.badParam, 0x08) else none

/-- What LANE-STATUS returns (R506): 8 × 40 bytes of SL registers, then 96 bytes of BUNDLE registers. -/
def Dev.laneRecord (d : Dev) (b : Nat) : List Byte :=
  (List.range 8).flatMap (fun p => d.regBytes (F.SL_CTRL_POL_INV.addr (laneAt b p) 0) 10) ++ d.regBytes (F.BUNDLE_CFG_LANE_EN.addr b 0) 24

/-- LANE-STATUS. -/
def runLaneStatus (c : Ctx) (b : Nat) (d : Dev) : Dev := d.finish c 0x0303 .ok 0 (d.laneRecord b)

end Sys2Proof.Machine
end

