-- ==== Sys2Proof/Machine/Lockstep.lean ====
section
/-! DEFINITION. What the channels need of the twin: messages, lockstep states, notes, leaving lockstep, and the start of a
proposal (R277 to R303). -/
namespace Sys2Proof.Machine

/-- Channel `n`. -/
def Dev.chan (d : Dev) (n : Nat) : Chan := (assoc d.chans n).getD {}

/-- Replace channel `n`. -/
def Dev.putChan (d : Dev) (n : Nat) (c : Chan) : Dev := { d with chans := assocPut d.chans n c }

/-- The state of channel `n` (R155): 0 CLOSED, 1 OPEN, 2 STARTED, 3 STOPPING. -/
def Dev.chanState (d : Dev) (n : Nat) : Nat := d.getF F.CHAN_STATE_STATE n

/-- The role of R278. -/
def Dev.role (d : Dev) : Nat := d.getF F.TWIN_STATE_ROLE

/-- Whether the unit is paired. -/
def Dev.isPaired (d : Dev) : Bool := d.twin.paired

/-- Bytes as 64-bit words, padded with zero bytes (R286). -/
def wordsOf (n : Nat) (bs : List Byte) : List Nat := (List.range n).map (fun k => leAt bs (8 * k) 8)

/-- The words a message body takes. -/
def bodyWords (bs : List Byte) : List Nat := wordsOf (ceilDiv bs.length 8) bs

/-- Whether the twin link can carry a message: at least one lane in use. -/
def Dev.twinUp (d : Dev) : Bool := d.flag F.TWIN_STATE_LINK_UP

/-- Send a twin message (R285): SEQ counts the messages of this direction. -/
def Dev.sendTwin (d : Dev) (type : Nat) (body : List Byte) : Dev :=
  if d.twinUp then
    ({ d with twin := { d.twin with seq := (d.twin.seq + 1) % 65536 } }).emit (.twin type d.twin.seq (bodyWords body))
  else d

/-- Set the lockstep state of a channel (R291); TWIN.LOCKED shows LOCKED. -/
def Dev.setLockState (d : Dev) (n : Nat) (l : Lock) : Dev :=
  let d1 := d.putChan n { d.chan n with lock := l }
  d1.setF F.TWIN_LOCKED (putBit (d1.getF F.TWIN_LOCKED (n / 32)) (n % 32) (l == .locked)) (n / 32)

/-- Whether this unit's role lets it transmit channel `n` (R278, R287, R291). -/
def Dev.mayTransmit (d : Dev) (n : Nat) : Bool :=
  let c := d.chan n
  match d.role with
  | 0 => true
  | 2 => if d.isPaired then c.lock == .alone || c.lock == .locked || c.lock == .unverified || pSource c.params == 1 else true
  | 3 => pSource c.params == 0 && (c.lock == .locked || c.lock == .unverified)
  | 1 => d.twin.solo
  | 5 => d.flag F.TWIN_CFG_PREF
  | _ => false

/-- TWIN.TX shows whether this unit transmits channel `n`. -/
def Dev.showTx (d : Dev) (n : Nat) : Dev :=
  let on := decide (2 ≤ d.chanState n) && d.mayTransmit n && (d.chan n).transmitFrom.isNone
  d.setF F.TWIN_TX (putBit (d.getF F.TWIN_TX (n / 32)) (n % 32) on) (n / 32)

/-- Whether this unit's role has it record (R278). -/
def Dev.records (d : Dev) : Bool :=
  d.role == 0 || d.role == 2 || (d.role == 1 && d.twin.solo) || (d.role == 5 && d.flag F.TWIN_CFG_PREF)

/-- Whether this unit records stream `stream` of kind `kind` now: a channel whose hand-over target has passed goes with the other
role (R303). -/
def Dev.recordsNow (d : Dev) (kind stream : Nat) : Bool := d.records != (kind == 0 && (d.chan stream).handed)

/-- JOIN_REQ for a JOINING channel (R294, R297): METHOD of TWIN.CFG, a GEN one higher than any used. -/
def Dev.sendJoinReq (d : Dev) (n : Nat) : Dev :=
  let gen := ((assoc d.twin.joinGen n).getD 0 + 1) % 65536
  let m := d.getF F.TWIN_CFG_JOIN_METHOD
  let d1 := { d with twin := { d.twin with joinGen := assocPut d.twin.joinGen n gen, joinTick := assocPut d.twin.joinTick n d.tick } }
  d1.sendTwin 0x0C (leBytes 1 n ++ leBytes 1 m ++ leBytes 2 gen)

/-- Whether a channel may re-join now: one that left because effort was shed does so only with S_t at 0 and E_cap at 15 again (R203). -/
def Dev.mayRejoin (d : Dev) (n : Nat) : Bool :=
  !(d.chan n).shedLeft || (decide (d.getF F.ENG_SHED_S_T = 0) && decide (d.getF F.ENG_SHED_E_CAP = 15))

/-- The channel begins to join (R291, R294): a shadow stream of IDR pictures, no transmission, JOIN_REQ sent where it may re-join. -/
def Dev.beginJoin (d : Dev) (n : Nat) : Dev :=
  let d1 := d.setLockState n .joining
  let d2 := d1.putChan n { d1.chan n with
    matches2 := 0, peerDigests := [], digests := [], transmitFrom := none, shadow := true, normalFrom := none, pathFree := none }
  let d3 := d2.showTx n
  if d3.mayRejoin n then d3.sendJoinReq n else { d3 with twin := { d3.twin with joinTick := assocPut d3.twin.joinTick n d3.tick } }

/-- The channel leaves lockstep at picture `pic` (R291, R292): LEAVE, DIVERGE, LAST_DIVERGE, the event; LEFT becomes JOINING
at once. -/
def Dev.leaveLockstep (d : Dev) (n pic cause : Nat) : Dev :=
  let d0 := d.setLockState n .left
  let d1 := d0.putChan n { d0.chan n with shedLeft := (d0.chan n).shedLeft || cause == 3, leaveAt := none }
  let d2 := d1.setF F.TWIN_LAST_DIVERGE (n + 2 ^ 8 * cause + 2 ^ 16 * (pic % 65536))
  let d3 := (d2.count C.TWIN_DIVERGE).raise .twin 0 4
  let d4 := d3.sendTwin 0x0B (leBytes 1 n ++ leBytes 1 cause ++ leBytes 2 0 ++ leBytes 8 pic)
  ({ d4 with twin := { d4.twin with vigilTick := d4.tick } }).beginJoin n

/-- The channel leaves lockstep as row 0 of picture `pic` is due to depart (R290, R292). -/
def Dev.leaveFrom (d : Dev) (n pic cause : Nat) : Dev :=
  let c := d.chan n
  if (c.lock == .locked || c.lock == .unverified) = true ∧ c.leaveAt.isNone = true then d.putChan n { c with leaveAt := some (pic, cause) } else d

/-- An exceptional decision about a row (R291): the note is kept and sent; in UNVERIFIED the unit stops the channel. -/
def Dev.exceptional (d : Dev) (n pic row kind : Nat) : Dev :=
  let c := d.chan n
  match c.lock with
  | .locked =>
    let d0 := { d with twin := { d.twin with vigilTick := if kind = 1 then d.tick else d.twin.vigilTick } }
    let d1 := d0.putChan n { c with notes := c.notes ++ [⟨pic, row, kind⟩] }
    d1.sendTwin 0x0A (leBytes 1 n ++ leBytes 1 row ++ leBytes 1 kind ++ leBytes 1 0 ++ leBytes 8 pic)
  | .unverified => d.leaveLockstep n pic kind
  | _ => d

/-- Whether a command that names channel `n` goes through a proposal (R289, R290). -/
def Dev.proposes (d : Dev) (n : Nat) : Bool := d.isPaired && (d.chan n).lock == .locked

/-- The first picture whose row 0 has not been issued: one above the last planned, or the oldest picture held. -/
def Dev.nextUnissued (d : Dev) (n : Nat) : Nat :=
  let c := d.chan n
  match c.lastPlanned with
  | some k => k + 1
  | none => match c.pics with | p :: _ => p.index | [] => 0

/-- The channel digest D_ch (R280): CRC-64 over D_dev and the parameter block with SLOTS, STORE_GROUP and ENGINES 0. -/
def Dev.chanDigest (d : Dev) (n : Nat) : Nat :=
  let p := (d.chan n).params
  let q := p.take 48 ++ leBytes 5 0 ++ (p.drop 53).take 1 ++ leBytes 1 0 ++ p.drop 55
  crcOf 3 [] (leBytes 8 (d.get64 F.TWIN_DIGEST_LO F.TWIN_DIGEST_HI) ++ q)

/-- The body of PROPOSE (R286). -/
def Dev.proposeBody (d : Dev) (p : Proposal) : List Byte :=
  let dch := match p.entries with | e :: _ => d.chanDigest e.1 | [] => 0
  leBytes 4 p.id ++ leBytes 2 p.opcode ++ leBytes 1 p.entries.length ++ leBytes 1 0 ++ leBytes 4 (crc32c p.params) ++
  leBytes 8 dch ++ p.entries.flatMap (fun e => leBytes 1 e.1 ++ leBytes 8 e.2) ++ p.params

/-- Send the unit's own proposal. -/
def Dev.sendPropose (d : Dev) (p : Proposal) : Dev :=
  let d1 := { d with twin := { d.twin with own := some { p with tick := d.tick, phase := .proposed } } }
  (d1.count C.TWIN_PROPOSALS).sendTwin 0x03 (d.proposeBody p)

/-- Count a command that ends TWIN_UNCONFIRMED (R290). -/
def Dev.unconfirmed (d : Dev) (c : Ctx) (op detail : Nat) : Dev :=
  (d.count C.TWIN_UNCONFIRMED).finish c op .twinUnconfirmed detail

/-- Carry a command out through a proposal (R289): PROPOSE with TARGET two above the first unissued picture; with the link
lost it ends unconfirmed at once (R290). A proposal made while another of this unit's is open waits for it. -/
def Dev.propose (d : Dev) (c : Ctx) (op : Nat) (chans : List Nat) (params : List Byte) (reply : Bool := true)
    (logged : Bool := false) : Dev :=
  if d.twin.lost ∨ d.twinUp = false then
    if reply then d.unconfirmed c op 1 else d
  else
    let p : Proposal :=
      { id := d.twin.nextProp, opcode := op, entries := chans.map (fun n => (n, d.nextUnissued n + 2)), params := params,
        client := c.client, tag := c.tag, reply := reply, logged := logged, phase := .proposed, tick := d.tick }
    let d1 := { d with twin := { d.twin with nextProp := (d.twin.nextProp + 1) % 2 ^ 32 } }
    match d1.twin.own with
    | none => d1.sendPropose p
    | some _ => { d1 with twin := { d1.twin with waiting := d1.twin.waiting ++ [p] } }

/-- Whether row 0 of picture `pic` of channel `n` waits for a proposal that names it (R289): a proposal open for a target at
or below it, until 20 µs before the row's RESCUE_AT. -/
def Dev.heldByProposal (d : Dev) (n pic rescueAt : Nat) : Bool :=
  let names := fun (p : Option Proposal) => match p with
    | none => false
    | some q => q.entries.any (fun e => e.1 = n ∧ e.2 ≤ pic)
  (names d.twin.own || names d.twin.peer) && decide (sext 32 (d.ns + 20000 + 2 ^ 32 - rescueAt % 2 ^ 32) < 0)

/-! ### Joins and digests (R292, R294, R299) -/

/-- A join of channel `n` fails (R294, R298): JOIN_REQ follows after 10 ms. -/
def Dev.joinFails (d : Dev) (n : Nat) : Dev :=
  let d1 := { d with twin := { d.twin with copyIn := none, joinTick := assocPut d.twin.joinTick n d.tick } }
  let d2 := (d1.setF F.TWIN_COPY_PHASE 0).putChan n { d1.chan n with normalFrom := none, matches2 := 0, shadow := true }
  (d2.count C.TWIN_COPY_FAIL).raise .twin 0 10

/-- Row `r` of a picture. -/
def Pic.row (p : Pic) (r : Nat) : RowSt := (p.rows.find? (fun x => x.row = r)).getD { row := r }

/-- The first picture whose row 0 has not departed. -/
def Dev.nextToDepart (d : Dev) (n : Nat) : Nat :=
  let c := d.chan n
  match (c.pics.filter (fun p => !p.dropped && !(p.row 0).departed)).head? with
  | some p => p.index
  | none => d.nextUnissued n

/-- The channel becomes LOCKED after its second match (R299): a joining unit transmits from the next picture to depart, and a unit
that holds the other path releases it there. -/
def Dev.becomeLocked (d : Dev) (n : Nat) : Dev :=
  let k := d.nextToDepart n
  let joined := (d.chan n).lock == .joining
  let d1 := d.setLockState n .locked
  let d2 := d1.putChan n { d1.chan n with
    shadow := false, shedLeft := false, matches2 := 0, transmitFrom := if joined then some k else none
    pathFree := if d.twin.holdsOther ∧ joined = false then some k else none }
  let mine := d2.getF F.TWIN_COPY_CHANNEL = n
  let d3 := if mine then ({ d2 with twin := { d2.twin with copyIn := none, copyOut := none, copyLast := none } }).setF F.TWIN_COPY_PHASE 0 else d2
  let d4 := { d3 with twin := { d3.twin with vigilTick := d3.tick } }
  ((d4.setFlag F.TWIN_STATE_IN_DOUBT false).raise .twin 0 5).showTx n

/-- Compare the own and the peer's digests of a picture that both lists hold (R292, R299). -/
def Dev.digestOf (d : Dev) (n k : Nat) (own peer : Nat × Nat × Nat) : Dev :=
  let c := d.chan n
  let same := own == peer
  match c.lock with
  | .alone =>
    if same = false then d.putChan n { c with matches2 := 0 }
    else if c.matches2 + 1 < 2 then d.putChan n { c with matches2 := c.matches2 + 1 } else d.becomeLocked n
  | .joining =>
    let counts : Bool := match c.normalFrom with | some q => decide (q ≤ k) | none => false
    if counts = false then d
    else if same = false then d.joinFails n
    else if c.matches2 + 1 < 2 then d.putChan n { c with matches2 := c.matches2 + 1 } else d.becomeLocked n
  | .left => d
  | _ =>
    if same then
      let d1 := d.count C.TWIN_DIGEST_OK
      if c.lock = .unverified ∧ d.twin.lost = false then d1.becomeLocked n else d1
    else
      let d1 := (d.count C.TWIN_DIGEST_MISMATCH).logEvent .twin 6 0 own.1 peer.1
      let d2 := d1.setInt .twin 0 6
      if d2.role = 3 then d2.leaveFrom n (d2.nextToDepart n) 5 else d2

/-- Compare what can be compared of channel `n`, oldest first; `m` bounds the pictures looked at. -/
def Dev.compareDigests (n : Nat) : Nat → Dev → Dev
  | 0, d => d
  | m + 1, d =>
    let c := d.chan n
    match c.digests.find? (fun x => c.peerDigests.any (fun y => y.1 = x.1)) with
    | none => d
    | some x =>
      let peer := ((c.peerDigests.find? (fun y => y.1 = x.1)).map (·.2)).getD x.2
      let d1 := d.putChan n { c with
        digests := c.digests.filter (fun y => y.1 ≠ x.1), peerDigests := c.peerDigests.filter (fun y => x.1 < y.1) }
      Dev.compareDigests n m (d1.digestOf n x.1 x.2 peer)

/-- The configuration digest D_dev (R280), recomputed: protocol major version, the RESCUE section as applied, and each
bundle's CONVERT_EN, FILTER, MATRIX_SEL and coefficient banks. -/
def Dev.showDigest (d : Dev) : Dev :=
  let resc := (List.range 8).flatMap (fun f => [0, 1].flatMap (fun k =>
    leBytes 1 f ++ leBytes 1 k ++ leBytes 2 0 ++ leBytes 4 (d.maxBitsPerCtu f (k == 1))))
  let bank := fun (l : List Int) => l.flatMap (fun x => leBytes 2 (wrapInt 16 x))
  let buns := (List.range 16).flatMap (fun b =>
    leBytes 1 (d.getF F.BUNDLE_FRONT_CTRL_CONVERT_EN b) ++ leBytes 1 (d.getF F.BUNDLE_FRONT_CTRL_FILTER b) ++
    leBytes 1 (d.getF F.BUNDLE_FRONT_CTRL_MATRIX_SEL b) ++ bank (d.bundle b).bank0 ++ bank (d.bundle b).bank1)
  d.set64 F.TWIN_DIGEST_LO F.TWIN_DIGEST_HI
    (crcOf 3 [] (leBytes 1 (d.getF F.TWIN_VERSION % 256) ++ resc ++ buns))

end Sys2Proof.Machine
end

