-- ==== Sys2Proof/Machine/EgressRate.lean ====
section
/-! DEFINITION. What network egress shares with the channels: the paths a unit transmits (R278, R281), EGRESS-BIND's parameters
(R376), the reserved rate (R377), packets and their numbering (R380, R381), and the send buffers (R384). -/
namespace Sys2Proof.Machine

/-! ### Paths -/

/-- The path of this unit: A for the preferred unit, else B (R281). -/
def Dev.ownPath (d : Dev) : Nat := if d.flag F.TWIN_CFG_PREF then 0 else 1

/-- Whether this unit transmits path `k` (R278, R281, R287, R300; R375 for a unit that is OFF). -/
def Dev.pathOn (d : Dev) (k : Nat) : Bool :=
  let acts := d.role == 2 || d.role == 3 || (d.role == 1 && d.twin.solo) || (d.role == 5 && d.flag F.TWIN_CFG_PREF)
  d.role == 0 || (acts && (k == d.ownPath || d.twin.holdsOther))

/-- Port `p`'s state beside its registers. -/
def Dev.ethSt (d : Dev) (p : Nat) : EthSt := getAt {} d.eth p

/-- Replace it. -/
def Dev.putEth (d : Dev) (p : Nat) (e : EthSt) : Dev := { d with eth := setAt d.eth p e }

/-- Whether a port can send: enabled, with link, not fenced. -/
def Dev.portUp (d : Dev) (p : Nat) : Bool := d.flag F.ETH_CTRL_EN p && d.flag F.ETH_STATUS_LINK p && !d.fenced 7 p

/-- A frame of `bytes` bytes leaves a port: kinds 1 gratuitous ARP, 2 unsolicited advertisement, 3 media, 4 Delay_Req, 5 address
resolution, 6 IGMP report, 7 MLD report, 8 echo reply, 9 ARP or neighbour advertisement. -/
def Dev.sendFrame (d : Dev) (p kind bytes : Nat) (body : List Nat) : Dev :=
  ((d.emit (.frame p kind body)).count C.ETH_TX_FRAMES p).count C.ETH_TX_BYTES p 0 bytes

/-- The watch port of a unit of a pair: the one that carries the peer's path (R281). -/
def Dev.watchPort (d : Dev) : Nat := if d.flag F.TWIN_CFG_PREF then 1 else 0

/-- Whether the own path's port has link, and which port is watched, shown in TWIN.STATE and ETH.STATUS (R281, R304). -/
def Dev.showOwnPath (d : Dev) : Dev :=
  let on := d.flag F.TWIN_CFG_ENABLE
  let d1 := d.setFlag F.TWIN_STATE_OWN_PATH_UP (on && d.flag F.ETH_STATUS_LINK d.ownPath)
  (d1.setFlag F.ETH_STATUS_WATCH (on && d.watchPort == 0) 0).setFlag F.ETH_STATUS_WATCH (on && d.watchPort == 1) 1

/-- A gratuitous ARP and an unsolicited neighbour advertisement for path `k` (R387); `left` more are to follow, 1 ms apart. -/
def Dev.gratuitous (d : Dev) (k left : Nat) : Dev :=
  let d1 := if d.portUp k then (d.sendFrame k 1 64 [k]).sendFrame k 2 90 [k] else d
  d1.putEth k { d1.ethSt k with garp := left, garpTick := d1.tick }

/-! ### Parameters and the reserved rate (R376, R377) -/

def ebKind (p : List Byte) : Nat := leAt p 0 1
def ebStream (p : List Byte) : Nat := leAt p 1 1
def ebPath (p : List Byte) (k : Nat) : Bool := bit (leAt p 2 1) k
def ebV6 (p : List Byte) : Bool := bit (leAt p 3 1) 0
def ebLevel (p : List Byte) : Nat := leAt p 7 1
def ebUdp (p : List Byte) : Nat := leAt p 12 2
def ebDest (p : List Byte) (k : Nat) : List Byte := (p.drop (16 + 16 * k)).take 16
def ebOrigin (p : List Byte) : Nat := leAt p 48 8

/-- Whether a destination is a multicast group. -/
def isMulticast (v6 : Bool) (a : List Byte) : Bool := if v6 then leAt a 0 1 == 255 else leAt a 0 1 / 16 == 14

/-- The wire bytes of a full packet. -/
def ebWire (p : List Byte) : Nat := ebUdp p + (if ebV6 p then 86 else 66)

/-- The payload of an audio packet of `count` channels (R383). -/
def audioPayload (level count : Nat) : Nat := (if level = 0 then 48 else 6) * count * 3

/-- R_res of a binding, as a numerator over a denominator; 0 for a channel that is CLOSED. -/
def Dev.resRate (d : Dev) (p : List Byte) : Nat × Nat :=
  let w := ebWire p
  let u := ebUdp p
  if ebKind p = 0 then
    let b := (d.chan (ebStream p)).params
    if b = [] ∨ pRateDen b = 0 then (0, 1)
    else (rSig b * w / (u - 15) * pRateDen b + (2 * pRows b + 12) * w * 8 * pRateNum b, pRateDen b)
  else
    let n := d.getF F.AUDIO_STREAM_COUNT (ebStream p)
    ((if ebLevel p = 0 then 1000 else 8000) * (audioPayload (ebLevel p) n + 12 + w - u) * 8, 1)

/-- Sum of fractions. -/
def sumRates (l : List (Nat × Nat)) : Nat × Nat := l.foldl (fun a x => (a.1 * x.2 + x.1 * a.2, a.2 * x.2)) (0, 1)

/-- Whether a binding counts on port `k`: it names path `k`, which leaves by port `k`, and the unit is unpaired or owns that path. -/
def Dev.bindsPort (d : Dev) (p : List Byte) (k : Nat) : Bool := ebPath p k && (d.role == 0 || k == d.ownPath)

/-- The reserved rate of port `k`, with `more` bindings added. -/
def Dev.portRate (d : Dev) (k : Nat) (more : List (List Byte)) : Nat × Nat :=
  sumRates (((d.binds.map (·.params) ++ more).filter (fun p => d.bindsPort p k)).map d.resRate)

/-- The groups a port has joined (R389), as (IPv6, address): the PTP group on the port that runs PTP, and on a watch port the peer
path's multicast destinations. -/
def Dev.netGroups (d : Dev) (k : Nat) : List (Bool × List Byte) :=
  let v6 := d.flag F.ETH_PTP_CFG_IPV6 0
  let ptp := if d.ptp.port = some k then [(v6, if v6 then leBytes 16 (0x81010000000000000000000000000EFF) else [224, 0, 1, 129])] else []
  let watch := if d.flag F.ETH_STATUS_WATCH k then
      (d.binds.filter (fun b => ebPath b.params k && isMulticast (ebV6 b.params) (ebDest b.params k))).map (fun b => (ebV6 b.params, ebDest b.params k))
    else []
  ptp ++ watch.eraseDups

/-- A report for each group of `gs` on port `k` (R389): joined or left. -/
def Dev.reportGroups (d : Dev) (k : Nat) (joined : Bool) (gs : List (Bool × List Byte)) : Dev :=
  if d.portUp k then Dev.each gs (fun g d => d.sendFrame k (if g.1 then 7 else 6) 64 [leNat g.2, b2n joined]) d else d

/-- The groups that port `k` needs now are joined, those it needs no more are left (R389). -/
def Dev.syncGroups (d : Dev) (k : Nat) : Dev :=
  let gs := d.netGroups k
  let old := (d.ethSt k).groups
  let d1 := (d.reportGroups k true (gs.filter (fun g => !old.contains g))).reportGroups k false (old.filter (fun g => !gs.contains g))
  d1.putEth k { d1.ethSt k with groups := gs }

/-- RES_MBPS, BOUND, JOINS, RESOLVED and the streams' EGRESS_BOUND shown. -/
def Dev.showEgress (d : Dev) : Dev :=
  let one := fun (k : Nat) (d : Dev) =>
    let r := d.portRate k []
    let on := d.binds.filter (fun b => d.bindsPort b.params k)
    let d1 := d.setF F.ETH_RES_MBPS (ceilDiv r.1 (r.2 * 1000000)) k
    let d2 := (d1.setF F.ETH_BOUND_VIDEO (on.filter (fun b => b.kind == 0)).length k).setF F.ETH_BOUND_AUDIO (on.filter (fun b => b.kind == 1)).length k
    let d3 := (d2.syncGroups k).setF F.ETH_JOINS (d.netGroups k).length k
    d3.setF F.ETH_RESOLVED (on.filter (fun b => (getAt {} b.paths k).ok && !isMulticast (ebV6 b.params) (ebDest b.params k))).length k
  let d1 := one 1 (one 0 d)
  Dev.upto 16 (fun k d => d.setFlag F.AUDIO_STREAM_EGRESS_BOUND (d.binds.any (fun b => b.kind == 1 && b.stream == k)) k) d1

/-! ### Packets (R380, R381) -/

/-- The CRC-32C that gives SSRC (R380, R383). -/
def ssrcOf (streamId lineage scope : Nat) : Nat := crc32c (leBytes 8 streamId ++ leBytes 4 lineage ++ leBytes 4 scope)

/-- How many packets a unit takes: one, or fragmentation units of U − 15 bytes after the NAL unit's own header. -/
def packetsOf (p : List Byte) (u : SendUnit) : Nat :=
  let m := ebUdp p
  if ebKind p = 1 ∨ u.bytes + 12 ≤ m then 1 else ceilDiv (u.bytes - 2) (m - 15)

/-- The bytes of the unit that packet `j` of it carries. -/
def packetBytes (p : List Byte) (u : SendUnit) (j : Nat) : Nat :=
  let m := ebUdp p
  if packetsOf p u = 1 then u.bytes else min (m - 15) (u.bytes - 2 - j * (m - 15))

/-- The UDP payload of that packet. -/
def packetUdp (p : List Byte) (u : SendUnit) (j : Nat) : Nat := packetBytes p u j + (if packetsOf p u = 1 then 12 else 15)

/-- SCOPE of a lineage that begins now (R380). -/
def Dev.scopeNow (d : Dev) : Nat := if d.isPaired then d.getF F.TWIN_PAIR_ID else d.alm.serial % 2 ^ 32

/-- A new lineage brings a new SSRC and starts the sequence numbers (R380, R383). -/
def Binding.newLineage (x : Binding) (lineage scope ssrc : Nat) : Binding :=
  if x.begun ∧ x.lineage = lineage then x
  else { x with begun := true, lineage := lineage, scope := scope, ssrc := ssrc, nextSeq := ssrc % 65536 }

/-- Units numbered in order from `seq`, each with timestamp `ts`. -/
def numberUnits (p : List Byte) (ts : Nat) : Nat → List SendUnit → List SendUnit × Nat
  | seq, [] => ([], seq)
  | seq, u :: r =>
    let x := numberUnits p ts ((seq + packetsOf p u) % 65536) r
    ({ u with seq := seq, ts := ts } :: x.1, x.2)

/-- A binding takes units into the send buffers of the paths that this unit transmits. -/
def Dev.bindTake (d : Dev) (x : Binding) (ts next : Nat) (us : List SendUnit) : Binding :=
  let (l, seq) := numberUnits x.params ts x.nextSeq us
  { x with
    nextSeq := seq, picture := next
    starts := if x.picture < next then (x.starts ++ [(next - 1, x.nextSeq)]).drop (x.starts.length + 1 - 16) else x.starts
    paths := x.paths.zipIdx.map (fun (y : PathSend × Nat) => if ebPath x.params y.2 && d.pathOn y.2 then { y.1 with send := y.1.send ++ l } else y.1) }

/-- The RTP timestamp of a picture (R380). -/
def pictureTs (p block : List Byte) (k : Nat) : Nat := (ebOrigin p + k * 90000 * pRateDen block / max 1 (pRateNum block)) % 2 ^ 32

/-- Whether picture `k` of channel `n` leaves by a binding (R378). -/
def Binding.carries (x : Binding) (n k : Nat) : Bool :=
  x.kind == 0 && x.stream == n && decide (x.fromPic ≤ k) && (match x.ending with | some e => decide (k ≤ e.1) | none => true)

/-- Hand NAL units of picture `k` to the send buffers of the channel's binding (R384). -/
def Dev.handOver (d : Dev) (n k lineage : Nat) (us : List SendUnit) : Dev :=
  let b := (d.chan n).params
  let s := d.scopeNow
  let f := fun (x : Binding) =>
    if x.carries n k then
      d.bindTake (x.newLineage lineage s (ssrcOf (pStreamId b) lineage s)) (pictureTs x.params b k) (k + 1) us
    else x
  { d with binds := d.binds.map f }

/-! ### The egress record (R386) -/

/-- Whether every access unit of channel `n` below picture `k` is packetised: its rows have departed, and none is still open for filler (R253). -/
def Dev.packetisedBelow (d : Dev) (n k : Nat) : Bool :=
  let c := d.chan n
  decide (k ≤ d.nextToDepart n) && (c.pics.filter (fun p => decide (p.index < k))).all (fun p => p.dropped || (List.range (pRows c.params)).all (fun r => (p.row r).departed)) &&
  (match c.au with | some a => decide (k ≤ a.picture) | none => true)

/-- The sequence number of the first packet of picture `k` by a binding: as it was, or the next one where all before `k` is packetised. -/
def Dev.seqAt (d : Dev) (n k : Nat) (x : Binding) : Option Nat :=
  if x.begun = false then none
  else match assoc x.starts k with
    | some q => some q
    | none => if d.packetisedBelow n k then some x.nextSeq else none

/-- The 24-byte egress record of a channel's binding for picture `k`, once it is known. -/
def Dev.egressRecord (d : Dev) (n k : Nat) : Option (List Byte) :=
  (d.binds.find? (fun x => x.kind = 0 ∧ x.stream = n)).bind (fun x => (d.seqAt n k x).map (fun q =>
    leBytes 4 x.ssrc ++ leBytes 4 x.scope ++ leBytes 4 x.lineage ++ leBytes 4 q ++ leBytes 8 k))

/-- A joining unit takes over the record. -/
def Dev.takeEgress (d : Dev) (n : Nat) (r : List Byte) : Dev :=
  if r.length < 24 then d
  else
    let f := fun (x : Binding) =>
      if x.kind = 0 ∧ x.stream = n then
        { x with begun := true, ssrc := leAt r 0 4, scope := leAt r 4 4, lineage := leAt r 8 4, nextSeq := leAt r 12 4 % 65536, picture := leAt r 16 8 }
      else x
    { d with binds := d.binds.map f }

/-- A joining unit packetises an access unit of TAIL, given the bytes of its NAL units (R386): only the numbering moves. -/
def Dev.countTail (d : Dev) (n k : Nat) (lens : List Nat) : Dev :=
  let f := fun (x : Binding) =>
    if x.kind = 0 ∧ x.stream = n ∧ x.begun = true then
      { x with nextSeq := (numberUnits x.params 0 x.nextSeq (lens.map (fun m => { picture := k, bytes := m, filler := false, last := false, tick := 0 }))).2, picture := k + 1 }
    else x
  { d with binds := d.binds.map f }

/-! ### Binding and unbinding -/

/-- A binding is recorded (R376): its first picture is `fromPic`; the buckets' first fill is open (log entry 19). -/
def Dev.addBinding (d : Dev) (p : List Byte) (fromPic : Nat) : Dev :=
  let cap := ebUdp p * 2000000000
  let path := fun (k : Nat) =>
    { level := d.freeBits 64 % (cap + 1), levelTick := d.tick, ok := isMulticast (ebV6 p) (ebDest p k), tryTick := d.tick : PathSend }
  let x : Binding := { kind := ebKind p, stream := ebStream p, params := p, fromPic := fromPic, paths := [path 0, path 1] }
  (({ d with binds := d.binds ++ [x] } : Dev).drawn).showEgress

/-- A binding goes once nothing more of its last access unit waits; the command that asked ends. -/
def Dev.endBinding (d : Dev) (x : Binding) : Dev :=
  match x.ending with
  | none => d
  | some (_, c) =>
    let d1 := ({ d with binds := d.binds.filter (fun y => !(y.kind == x.kind && y.stream == x.stream)) } : Dev).showEgress
    match c with
    | some c => (d1.commitPoint c).finish c 0x0209 .ok
    | none => d1

/-- Whether an ending binding's last access unit has wholly left: nothing waits, and the channel's next picture to depart is past it. -/
def Dev.bindingDone (d : Dev) (x : Binding) : Bool :=
  x.paths.all (fun y => y.send.isEmpty) &&
  (match x.ending with
   | some e => x.kind == 1 || d.chanState x.stream < 2 || decide (e.1 < d.nextToDepart x.stream)
   | none => false)

/-- End the bindings that are done. -/
def Dev.endBindings (d : Dev) : Dev := Dev.each (d.binds.filter d.bindingDone) (fun x d => d.endBinding x) d

/-- A stream's egress is to end after picture `k` (R376, R378). -/
def Dev.unbindAt (d : Dev) (kind stream k : Nat) (c : Option Ctx) : Dev :=
  let f := fun (x : Binding) =>
    if x.kind = kind ∧ x.stream = stream then
      { x with
        ending := some (k, c)
        paths := x.paths.map (fun (y : PathSend) =>
          { y with send := y.send.zipIdx.filterMap (fun (u : SendUnit × Nat) => if u.1.picture ≤ k ∨ kind = 1 ∧ u.2 = 0 then some u.1 else none) : PathSend }) }
    else x
  ({ d with binds := d.binds.map f }).endBindings

end Sys2Proof.Machine
end

