-- ==== Sys2Proof/Machine/HbmStore.lean ====
section
/-! DEFINITION. What the in-package memory holds (R327 to R331, R349): where an address lies, sectors with their checks and parity; and the picture
stores and Harvest buffers in it (R143 to R147, R333). -/
namespace Sys2Proof.Machine

/-! ### Contents -/

/-- What a byte of the memory that nothing has written holds: open (log entry 6). -/
def hbmUnlisted (a : Nat) : Byte := Config.hbmPowerOn a

/-- Byte `a` of device memory. The checks of the sectors lie above 2^37: two bytes for each. -/
def Dev.hbmByte (d : Dev) (a : Nat) : Byte := Cells.get hbmUnlisted d.hbm a

/-- `n` bytes from `a` on. -/
def Dev.hbmBytes (d : Dev) (a n : Nat) : List Byte := (List.range n).map (fun i => d.hbmByte (a + i))

/-- Write bytes from `a` on. -/
def Dev.hbmWrite (d : Dev) (a : Nat) (bs : List Byte) : Dev :=
  { d with hbm := bs.zipIdx.foldl (fun l x => Cells.set hbmUnlisted l (a + x.2) x.1) d.hbm }

/-- Where the check of the sector at `a` lies. -/
def checkAddr (a : Nat) : Nat := 2 ^ 37 + 2 * (a / 32)

/-- The check of R349: bits [36:5] of the address folded in first. -/
def sectorCheck (a : Nat) (bs : List Byte) : Nat := crcOf 2 (leBytes 4 (a / 32)) bs

/-- Write the sector at `a` with its check. -/
def Dev.writeSector (d : Dev) (a : Nat) (bs : List Byte) : Dev :=
  (d.hbmWrite (a / 32 * 32) bs).hbmWrite (checkAddr a) (leBytes 2 (sectorCheck a bs))

/-! ### Regions and places (R328 to R331) -/

/-- Fields of a region entry; the four controllers hold the same table. -/
def Dev.regMask (d : Dev) (r : Nat) : Nat := d.getF F.MEM_REGION_CFG_MASK 0 r
def Dev.regOrder (d : Dev) (r : Nat) : Nat := d.getF F.MEM_REGION_CFG_ORDER 0 r
def Dev.regProtect (d : Dev) (r : Nat) : Bool := d.flag F.MEM_REGION_CFG_PROTECT 0 r

/-- The valid region that holds device memory address `a`. -/
def Dev.regionAt (d : Dev) (a : Nat) : Option Nat :=
  (List.range 16).find? (fun r => d.regionValid r && decide (d.regionBase r ≤ a) && decide (a < d.regionBase r + d.regionSize r))

/-- Entry `i` of store group `g`'s list (R328), as 32k + p. -/
def groupEntry (g i : Nat) : Nat := 32 * (i % 4) + 4 * g + i / 4

/-- The store groups of a mask. -/
def groupsOf (mask : Nat) : List Nat := (List.range 8).filter (fun g => bit mask g)

/-- The granule of an order (R330). -/
def granule (order : Nat) : Nat := if order = 0 ∨ order = 3 then 256 else 1024

/-- Where an address lies: pseudo-channel, bank, row and column (R330). -/
structure MemPlace where
  pc : Nat
  bank : Nat
  row : Nat
  col : Nat
  deriving DecidableEq, Repr

/-- The part of a Partition region, and the offset within it, of an offset from its base. -/
def Dev.partOf (d : Dev) (r off : Nat) : Nat × Nat :=
  let part := d.getF F.MEM_REGION_MAP_PC_LEN 0 r * 2 ^ 24 * 16
  if part = 0 then (0, off) else (off / part, off % part)

/-- The place of address `a` in region `r`. -/
def Dev.placeIn (d : Dev) (r a : Nat) : MemPlace :=
  let order := d.regOrder r
  let g := granule order
  let off0 := a - d.regionBase r
  let gs := groupsOf (d.regMask r)
  let (off, pcs) :=
    if order = 3 then
      let (p, o) := d.partOf r off0
      (o, (List.range 16).map (groupEntry (getAt 0 gs p)))
    else if order = 0 then (off0, (List.range 128).map (fun i => 32 * (i % 4) + i / 4))
    else (off0, gs.flatMap (fun x => (List.range 16).map (groupEntry x)))
  let n := pcs.length
  let u := off / g
  let o := u / n * g + off % g
  let b0 := d.getF F.MEM_REGION_MAP_PC_OFF 0 r
  let nb := d.getF F.MEM_REGION_MAP_PC_LEN 0 r
  if order = 2 then { pc := getAt 0 pcs (u % n), bank := b0 + o / 2 ^ 24, row := o / 1024 % 16384, col := o % 1024 }
  else { pc := getAt 0 pcs (u % n), bank := b0 + o / 1024 % nb, row := o / (1024 * nb), col := o % 1024 }

/-- The addresses of the other 15 units of the stripe of `a`, at its place in the unit (R331). -/
def Dev.stripeMates (d : Dev) (r a : Nat) : List Nat :=
  let off := a - d.regionBase r
  let (p, o) := d.partOf r off
  let base := d.regionBase r + (off - o)
  let s := o / 256 / 16
  let j := o / 256 % 16
  let _ := p
  ((List.range 16).filter (fun i => i ≠ j)).map (fun i => base + (16 * s + i) * 256 + o % 256)

/-- The address of the parity unit of the stripe of `a`, at its place in the unit: position s mod 16. -/
def Dev.parityAddr (d : Dev) (r a : Nat) : Nat :=
  let off := a - d.regionBase r
  let o := (d.partOf r off).2
  let s := o / 256 / 16
  d.regionBase r + (off - o) + (16 * s + s % 16) * 256 + o % 256

/-- The XOR of sectors. -/
def xorSectors (l : List (List Byte)) : List Byte :=
  (List.range 32).map (fun i => l.foldl (fun x s => x ^^^ getAt 0 s i) 0)

/-- A write of a sector, with the parity of a protected region kept (R331). -/
def Dev.storeSector (d : Dev) (a : Nat) (bs : List Byte) : Dev :=
  match d.regionAt a with
  | none => d
  | some r =>
    let base := a / 32 * 32
    let d1 := d.writeSector base bs
    if d.regProtect r then
      let par := d.parityAddr r base
      if par = base then d1
      else d1.writeSector par (xorSectors ((d.stripeMates r par).map (fun x => d1.hbmBytes x 32)))
    else d1

/-- Whether what pseudo-channel `n` holds cannot be read from it: it is fenced, or its controller is (R351, R352). -/
def Dev.pcLost (d : Dev) (n : Nat) : Bool := d.fenced 5 n || d.fenced 6 (n / 32)

/-- A rebuild of the sector at `a` from the other 15 units of its stripe; none where another of them is lost (R350). -/
def Dev.rebuilt (d : Dev) (r a : Nat) : Option (List Byte) :=
  let mates := d.stripeMates r a
  if mates.any (fun m => d.pcLost (d.placeIn r m).pc) then none else some (xorSectors (mates.map (fun m => d.hbmBytes m 32)))

/-! ### Picture stores and Harvest buffers (R143 to R145, R333) -/

/-- The least place for `len` stripes among `room` beside those in use, given as first stripe and length. DESIGN CHOICE (log entry 94): the spec does
not say where in its part a store lies. -/
def fitStripes (used : List (Nat × Nat)) (len room : Nat) : Option Nat :=
  let clear := fun (x : Nat) => decide (x + len ≤ room) && used.all (fun u => decide (x + len ≤ u.1) || decide (u.1 + u.2 ≤ x))
  ((0 :: used.map (fun u => u.1 + u.2)).filter clear).foldl (fun (m : Option Nat) x => match m with | some y => some (min x y) | none => some x) none

/-- Stripes of one store group's part of the region of a purpose. -/
def Dev.groupStripes (d : Dev) (purpose : Nat) : Nat :=
  match d.regionOf purpose with | some r => d.getF F.MEM_REGION_MAP_PC_LEN 0 r * 2 ^ 24 * 16 / 4096 | none => 0

/-- The position in its stripe of data unit `u` of stripe `s`: those before the parity unit at s mod 16, then those after it (R143). -/
def unitPos (s u : Nat) : Nat := if u < s % 16 then u else u + 1

/-- Where a slot lies: the region, its part, and the first stripe. -/
structure SlotPlace where
  region : Nat
  part : Nat
  stripe : Nat
  deriving DecidableEq, Repr

/-- The place of slot `s` of a channel: its picture store, in its store group's part, or the Harvest buffer, slot by slot over the groups (R333). -/
def Dev.slotPlace (d : Dev) (c : Chan) (s : Nat) : Option SlotPlace :=
  match c.harvest with
  | some h => (d.regionOf 4).map (fun r =>
      let m := max 1 (groupCount (d.regMask r))
      { region := r, part := s % m, stripe := h.base + s / m * slotStripes c.params })
  | none => (d.regionOf 1).map (fun r =>
      { region := r, part := (groupsOf (d.regMask r)).idxOf (pStoreGroup c.params), stripe := c.storeBase + s * slotStripes c.params })

/-- The device memory address of data byte `off` of a slot. -/
def Dev.slotAddr (d : Dev) (x : SlotPlace) (off : Nat) : Nat :=
  let s := x.stripe + off / 3840
  d.regionBase x.region + x.part * (d.getF F.MEM_REGION_MAP_PC_LEN 0 x.region * 2 ^ 24 * 16) + s * 4096 + unitPos s (off % 3840 / 256) * 256 + off % 256

/-- Lay bytes over a sector from `skip` on. -/
def overlay (sector : List Byte) (skip : Nat) (bs : List Byte) : List Byte :=
  (sector.take skip ++ bs ++ sector.drop (skip + bs.length)).take 32

/-- Write data bytes into a slot from `off` on, sector by sector, with the parity of each stripe (R145). -/
def Dev.slotWrite (d : Dev) (x : SlotPlace) (off : Nat) (bs : List Byte) : Dev :=
  let lead := off % 32
  let n := ceilDiv (lead + bs.length) 32
  (List.range n).foldl (fun d k =>
    let a := d.slotAddr x (off - lead + 32 * k)
    let skip := if k = 0 then lead else 0
    let part := (bs.drop (32 * k - (if k = 0 then 0 else lead))).take (32 - skip)
    d.storeSector a (overlay (d.hbmBytes a 32) skip part)) d

/-- The bytes of a line in the store (R144): room for SIDE_MAX side words, then the pixel words. -/
def lineImage (p : List Byte) (side pixels : List Nat) : List Byte :=
  let m := pSideMax p
  (((side.take m ++ List.replicate (m - side.length) 0) ++ pixels).flatMap (leBytes 8)).take (lineBytes p)

/-- The data bytes before a slot's metadata area. -/
def metaStart (p : List Byte) : Nat := ceilDiv (pHeight p * lineBytes p) 3840 * 3840

/-- The 16-byte record of a line (R144), whose layout is open (log entry 94). -/
def lineRecordBytes (line words : Nat) (damaged : Bool) : List Byte :=
  let bs := Config.lineRecord line words damaged
  bs.take 16 ++ List.replicate (16 - bs.length) 0

/-- The 64-byte commit record of a picture (R144): its fields, in a layout that is open (log entry 94), and their CRC-32C with the picture index
folded in as guard. -/
def commitRecordBytes (r : CommitRec) : List Byte :=
  let bs := Config.commitRecord [r.channel, r.index, r.present, r.damaged, r.missing, r.firstNs, r.lastNs]
  let body := bs.take 60 ++ List.replicate (60 - bs.length) 0
  body ++ leBytes 4 (crcOf 1 (leBytes 8 r.index) body)

/-- A line of channel `c` is durable in its slot, with its record (R145). -/
def Dev.storeLine (d : Dev) (c : Chan) (slot line : Nat) (side pixels : List Nat) (damaged : Bool) : Dev :=
  match d.slotPlace c slot with
  | none => d
  | some x =>
    let p := c.params
    (d.slotWrite x (line * lineBytes p) (lineImage p side pixels)).slotWrite x (metaStart p + 16 * line) (lineRecordBytes line (side.length + pixels.length) damaged)

/-- A picture's commit record is durable (R146). -/
def Dev.storeCommit (d : Dev) (c : Chan) (slot : Nat) (r : CommitRec) : Dev :=
  match d.slotPlace c slot with
  | none => d
  | some x => d.slotWrite x (metaStart c.params + 16 * pHeight c.params) (commitRecordBytes r)

/-- The pseudo-channels of store group `g` that cannot be read. -/
def Dev.lostOf (d : Dev) (g : Nat) : List Nat := ((List.range 16).map (groupEntry g)).filter d.pcLost

/-- Whether a line in a slot can be neither read nor rebuilt (R147): two pseudo-channels of its group are lost, and one of its units lies on one
of them. -/
def Dev.lineUnreadable (d : Dev) (c : Chan) (x : SlotPlace) (line : Nat) : Bool :=
  let g := getAt 0 (groupsOf (d.regMask x.region)) x.part
  let lost := d.lostOf g
  let lo := line * lineBytes c.params
  decide (2 ≤ lost.length) && (List.range (ceilDiv (lo % 256 + lineBytes c.params) 256)).any (fun k =>
    lost.contains (d.placeIn x.region (d.slotAddr x ((lo / 256 + k) * 256))).pc)

/-! ### Windows (R354, R355) -/

/-- A window of R354. -/
structure Window where
  base : Nat
  limit : Nat
  target : Nat
  perm : Nat
  check : Nat
  bytes : List Byte
  deriving DecidableEq, Repr

/-- Window `w` of a table's bytes. -/
def windowAt (t : List Byte) (w : Nat) : Window :=
  let b := (t.drop (32 * w)).take 32
  { base := leAt b 0 8, limit := leAt b 8 8, target := leAt b 16 8, perm := leAt b 24 2, check := leAt b 28 4, bytes := b.take 28 }

/-- Whether a window covers `v`. -/
def Window.covers (x : Window) (v : Nat) : Bool := bit x.perm 0 && decide (x.base ≤ v) && decide (v ≤ x.limit)

/-- Whether a window allows a read or a write by a port. -/
def Window.allows (x : Window) (port : Nat) (write : Bool) : Bool := bit x.perm (if write then 2 else 1) && bit x.perm (3 + port)

/-- Whether CHECK holds: CRC-32C over bytes 0 to 27, the table and window numbers folded in first. -/
def Window.checks (x : Window) (table w : Nat) : Bool := crc32c (leBytes 4 (table + 256 * w) ++ x.bytes) == x.check

/-- Translation (R355): the device memory address of virtual address `v`, or the fault kind of R358 and the window it names. -/
def Dev.translate (d : Dev) (table port : Nat) (write : Bool) (v : Nat) : Nat × Except (Nat × Nat) Nat :=
  let t := (assoc d.winTabs table).getD []
  let ws := (List.range 64).map (fun w => (w, windowAt t w))
  match ws.find? (fun x => x.2.covers v && x.2.allows port write) with
  | none =>
    match ws.find? (fun x => x.2.covers v) with
    | none => (0, .error (1, 0))
    | some x => (x.1, .error (2, x.1))
  | some x =>
    let a := x.2.target + (v - x.2.base)
    if x.2.checks table x.1 = false then (x.1, .error (3, x.1))
    else if (d.regionAt a).isNone then (x.1, .error (4, x.1))
    else (x.1, .ok a)

/-- The device addresses of the virtual addresses from `lo` up to but not including `hi`, as pieces (first address, bytes): each lies in the
lowest-numbered valid window that covers it. -/
def windowPieces : List Window → Nat → Nat → List (Nat × Nat)
  | [], _, _ => []
  | x :: rest, lo, hi =>
    let a := max lo x.base
    let b := min hi (x.limit + 1)
    if hi ≤ lo then []
    else if bit x.perm 0 = false ∨ b ≤ a then windowPieces rest lo hi
    else (x.target + (a - x.base), b - a) :: (windowPieces rest lo a ++ windowPieces rest b hi)

/-- The table of the device's own clients (R354), as the firmware writes it at start-up (log entry 100). -/
def Dev.ownTable (d : Dev) : Dev := { d with winTabs := assocPut d.winTabs 144 (Config.windowTable 144 []) }

/-- The device addresses of the PASR ranges (R348), translated through the windows in force, those of the device's own table (log entry 100). -/
def Dev.pasrPieces (d : Dev) : List (Nat × Nat) :=
  let t := (assoc d.winTabs 144).getD []
  d.alm.pasr.flatMap (fun g => windowPieces ((List.range 64).map (windowAt t)) g.1 (g.1 + g.2))

end Sys2Proof.Machine
end

