-- ==== Sys2Proof/Machine/Tasks.lean ====
section
/-! DEFINITION. Row tasks on ready lists, in local slots and on engines (R212 to R222), and their cancellation (R226, R227). -/
namespace Sys2Proof.Machine

/-- The signed difference of two TB.NS values (R212). -/
def nsDiff (a b : Nat) : Int := sext 32 (a + 2 ^ 32 - b % 2 ^ 32)

/-- Whether a task is LIVE: an encode task with a deadline. -/
def Task.live (t : Task) : Bool := t.kind == 0 && !t.deferred

/-- The engine a task stands at. -/
def Task.engine (t : Task) : Nat := match t.place with | .list e => e | .slot e => e | .run e => e

/-- Whether a task waits on a list or in a slot. -/
def Task.queued (t : Task) : Bool := match t.place with | .run _ => false | _ => true

/-- Whether a task runs. -/
def Task.running (t : Task) : Bool := match t.place with | .run _ => true | _ => false

/-- The order of R217: LIVE tasks by RESCUE_AT and then issue order, then the others. -/
def Task.before (a b : Task) : Bool :=
  match a.live, b.live with
  | true, false => true
  | false, true => false
  | true, true => let x := nsDiff a.rescueAt b.rescueAt; decide (x < 0) || (decide (x = 0) && decide (a.rank < b.rank))
  | false, false => decide (a.rank < b.rank)

/-- Insert a task at its place of R217. -/
def insertTask (t : Task) : List Task → List Task
  | [] => [t]
  | u :: rest => if t.before u then t :: u :: rest else u :: insertTask t rest

/-- Tasks in the order of R217. -/
def sortTasks (l : List Task) : List Task := l.foldr insertTask []

/-- The entries of engine `e`'s ready list, in order. -/
def Dev.listOf (d : Dev) (e : Nat) : List Task := sortTasks (d.tasks.filter (fun t => t.place == .list e))

/-- The task in engine `e`'s local slot. -/
def Dev.slotOf (d : Dev) (e : Nat) : Option Task := d.tasks.find? (fun t => t.place == .slot e)

/-- The task engine `e` runs. -/
def Dev.runOf (d : Dev) (e : Nat) : Option Task := d.tasks.find? (fun t => t.place == .run e)

/-- Slot and list of engine `e`, the slot counted first (R217). -/
def Dev.entriesOf (d : Dev) (e : Nat) : List Task := (d.slotOf e).toList ++ d.listOf e

/-- Replace a task, known by its token. -/
def Dev.putTask (d : Dev) (t : Task) : Dev := { d with tasks := d.tasks.map (fun u => if u.token = t.token then t else u) }

/-- Take a task out. -/
def Dev.dropTask (d : Dev) (token : Nat) : Dev := { d with tasks := d.tasks.filter (fun u => u.token ≠ token) }

/-! ### Pictures and rows of a channel -/

/-- Picture `k` of a channel. -/
def Chan.pic (c : Chan) (k : Nat) : Option Pic := c.pics.find? (fun p => p.index = k)

/-- Replace a picture. -/
def Chan.putPic (c : Chan) (p : Pic) : Chan := { c with pics := c.pics.map (fun q => if q.index = p.index then p else q) }

/-- Replace or add a row. -/
def Pic.putRow (p : Pic) (x : RowSt) : Pic :=
  { p with rows := if p.rows.any (fun y => y.row = x.row) then p.rows.map (fun y => if y.row = x.row then x else y) else p.rows ++ [x] }

/-- Change picture `k` of channel `n`. -/
def Dev.updPic (d : Dev) (n k : Nat) (f : Pic → Pic) : Dev :=
  d.putChan n { d.chan n with pics := (d.chan n).pics.map (fun p => if p.index = k then f p else p) }

/-- Change row `r` of picture `k` of channel `n`. -/
def Dev.updRow (d : Dev) (n k r : Nat) (f : RowSt → RowSt) : Dev := d.updPic n k (fun p => p.putRow (f (p.row r)))

/-- Row `r` of picture `k` of channel `n`. -/
def Dev.rowOf (d : Dev) (n k r : Nat) : RowSt := (((d.chan n).pic k).map (fun p => p.row r)).getD { row := r }

/-- Whether a row has committed or been rescued. -/
def RowSt.done (x : RowSt) : Bool := x.phase == .committed || x.phase == .rescued

/-- Whether a decode task's row may start: its context keeps the rows decoded, which lets row r start after row r − 1. -/
def Dev.decodeEligible (d : Dev) (t : Task) : Bool :=
  t.row == 0 || d.tasks.any (fun u => u.kind = 1 ∧ u.chan = t.chan ∧ u.pic = t.pic ∧ u.row + 1 = t.row ∧ u.running = true) ||
  !d.tasks.any (fun u => u.kind = 1 ∧ u.chan = t.chan ∧ u.pic = t.pic ∧ u.row + 1 = t.row)

/-- Whether an entry is eligible (R218). -/
def Dev.eligible (d : Dev) (t : Task) : Bool :=
  if t.kind = 0 then
    t.row == 0 || (let x := d.rowOf t.chan t.pic (t.row - 1); x.begun || x.done)
  else if t.kind = 1 then d.decodeEligible t
  else true

/-! ### The registers that show lists, slots and engines -/

/-- LIST_FILL byte `k` (DISPATCH). -/
def listFillField (k : Nat) : Field :=
  match k with | 0 => F.DISPATCH_LIST_FILL_B0 | 1 => F.DISPATCH_LIST_FILL_B1 | 2 => F.DISPATCH_LIST_FILL_B2 | _ => F.DISPATCH_LIST_FILL_B3

/-- The code of ENG.TASK.KIND for an engine with no task. -/
def noTask : Nat := 3

/-- The registers of engine `e`: its list's fill, its slot, and its current task. -/
def Dev.showEngine (d : Dev) (e : Nat) : Dev :=
  let d1 := d.setF (listFillField (e % 4)) (d.listOf e).length (e / 16) (e % 16 / 4)
  let d2 := d1.setFlag F.ENG_STATE_SLOT_FULL (d1.slotOf e).isSome e
  let ph := d2.getF F.ENG_STATE_PHASE e
  match d2.runOf e with
  | none =>
    let d3 := (d2.setF F.ENG_TASK_KIND noTask e).setF F.ENG_STATE_WAIT_WHY 0 e
    if ph = 0 ∨ ph = 6 then d3 else d3.setF F.ENG_STATE_PHASE 1 e
  | some t =>
    let d3 := ((d2.setF F.ENG_TASK_KIND t.kind e).setF F.ENG_TASK_CHANNEL t.chan e).setF F.ENG_TASK_ROW t.row e
    let last := if t.kind = 0 then pCtus (d3.chan t.chan).params - 1 else 255
    let d4 := ((d3.setF F.ENG_TASK_CTU (min t.progress last) e).setF F.ENG_TASK_EFFORT t.effort e).setFlag F.ENG_TASK_SKIP_BIAS t.skipBias e
    let d5 := ((d4.setFlag F.ENG_TASK_INTRA t.intra e).setF F.ENG_PIC_LO (t.pic % 2 ^ 32) e).setF F.ENG_PIC_HI (t.pic / 2 ^ 32) e
    let d6 := d5.setF F.ENG_STATE_WAIT_WHY (b2n (t.waits && !t.saving)) e
    d6.setF F.ENG_STATE_PHASE (if t.saving then 5 else if t.waits then 2 else if t.kind = 0 then 3 else if t.kind = 1 then 4 else 7) e

/-- Engines of a cluster. -/
def clusterEngines (c : Nat) : List Nat := (List.range 16).map (fun k => 16 * c + k)

/-- Whether engine `e` is in service: neither it nor its cluster is fenced. -/
def Dev.engineUp (d : Dev) (e : Nat) : Bool := !d.fenced 3 e && !d.fenced 4 (e / 16)

/-- Whether engine `e` may be given tasks: not fenced and not held (R207, R219). -/
def Dev.engineOpen (d : Dev) (e : Nat) : Bool := d.engineUp e && !d.flag F.ENG_CTRL_HOLD e

/-- Whether engine `e`'s list has room for a task (R217). -/
def Dev.listRoom (d : Dev) (e : Nat) (live : Bool) : Bool :=
  let l := d.listOf e
  decide (l.length < 8) && (live || decide ((l.filter (fun t => !t.live)).length < 6))

/-- The STATUS register of cluster `c`. -/
def Dev.showCluster (d : Dev) (c : Nat) : Dev :=
  let es := (clusterEngines c).flatMap d.entriesOf
  let live := (es.filter (·.live)).length
  let run := ((clusterEngines c).filter (fun e => let p := d.getF F.ENG_STATE_PHASE e; p = 3 || p = 4)).length
  let d1 := ((d.setF F.DISPATCH_STATUS_LIVE_READY live c).setF F.DISPATCH_STATUS_OTHER_READY (es.length - live) c).setF F.DISPATCH_STATUS_RUNNING run c
  let full := (clusterEngines c).all (fun e => !d1.listRoom e true)
  let was := d1.flag F.DISPATCH_STATUS_FULL c
  let d2 := d1.setFlag F.DISPATCH_STATUS_FULL full c
  if full ∧ was = false then d2.raise .dispatch c 2 else d2

/-- Show engine `e` and its cluster. -/
def Dev.showAt (d : Dev) (e : Nat) : Dev := (d.showEngine e).showCluster (e / 16)

/-! ### Placing (R219) -/

/-- How many LIVE entries engine `e`'s list has. -/
def Dev.liveEntries (d : Dev) (e : Nat) : Nat := ((d.listOf e).filter (·.live)).length

/-- The list of a cluster with the fewest LIVE entries that has room; ties to the lower number. Step 2 of R219 leaves no held
engine out, so a held engine can be fed single tasks (R207, R223). -/
def Dev.bestList (d : Dev) (c : Nat) (live : Bool) : Option Nat :=
  ((clusterEngines c).filter (fun e => d.engineUp e && d.listRoom e live)).foldl (fun best e =>
    match best with
    | none => some e
    | some b => if d.liveEntries e < d.liveEntries b then some e else some b) none

/-- The list that takes a task of channel `n`, row `r` (R219). -/
def Dev.placeFor (d : Dev) (n r : Nat) (affinity : Option Nat) (live : Bool) : Option Nat :=
  let aff := affinity.filter (fun e => d.engineOpen e && d.listRoom e live)
  aff.orElse (fun _ => (List.range 8).findSome? (fun k => d.bestList ((n + r + k) % 8) live))

/-- Put a task on the list of engine `e`. -/
def Dev.placeOn (d : Dev) (t : Task) (e : Nat) : Dev :=
  let d1 := { d with tasks := d.tasks ++ [{ t with place := .list e, wait := d.ns }] }
  (d1.count C.DISPATCH_ISSUED (e / 16)).showAt e

/-- Whether cluster `c` is in ask-and-block service (R223). -/
def Dev.askBlock (d : Dev) (c : Nat) : Bool := d.flag F.DISPATCH_CTRL_ASK_BLOCK c

/-- Whether engine `e` is served by ask and block: its cluster is, or it has not asked since it was powered (R223). -/
def Dev.mustAsk (d : Dev) (e : Nat) : Bool := d.askBlock (e / 16) || d.fresh.contains e

/-- In normal service the first eligible entry of engine `e`'s list moves into its empty slot while it runs a task (R220). -/
def Dev.fillSlot (d : Dev) (e : Nat) : Dev :=
  if d.mustAsk e ∨ (d.runOf e).isNone = true ∨ (d.slotOf e).isSome = true ∨ d.engineOpen e = false then d
  else
    match (d.listOf e).find? d.eligible with
    | none => d
    | some t => (d.putTask { t with place := .slot e }).showAt e

/-! ### The descriptor (R212) -/

/-- The reconstruction buffer of a reference; 0xFFFF when there is none (R212). -/
def Dev.bufferOf (d : Dev) (n : Nat) (q : Option Nat) : Nat :=
  match q with
  | none => 0xFFFF
  | some k => (((d.chan n).pic k).bind (·.buf)).getD 0xFFFF

/-- The guard of DCHK: CHANNEL, ROW << 8 and GEN << 16 (R212). -/
def descGuard (chan row gen : Nat) : List Byte := leBytes 4 (chan % 256 + 2 ^ 8 * (row % 256) + 2 ^ 16 * (gen % 256))

/-- Bytes 0 to 43 of the descriptor of a task (R212). -/
def Dev.descBody (d : Dev) (t : Task) : List Byte :=
  let flags := b2n t.skipBias + 2 * b2n t.intra + 4 * b2n t.deferred + 8 * b2n t.conceal + 16 * b2n t.resumed
  leBytes 1 t.kind ++ leBytes 1 t.chan ++ leBytes 1 t.row ++ leBytes 1 (t.effort % 16) ++ leBytes 1 t.qp ++ leBytes 1 flags ++ leBytes 2 t.token ++
    leBytes 8 t.pic ++ leBytes 4 t.arrival ++ leBytes 4 t.rescueAt ++ leBytes 4 t.departAt ++ leBytes 2 (d.bufferOf t.chan t.ref0) ++
    leBytes 2 (d.bufferOf t.chan t.ref1) ++ leBytes 2 (d.bufferOf t.chan t.concealSrc) ++ leBytes 1 t.gen ++ leBytes 1 (t.affinity.getD 0xFF) ++
    leBytes 4 t.slot ++ leBytes 2 t.steal ++ leBytes 2 t.xsteal

/-- A task with its 48-byte descriptor (R212). -/
def Dev.described (d : Dev) (t : Task) : Task :=
  let b := d.descBody t
  { t with desc := b ++ leBytes 4 (crcOf 1 (descGuard t.chan t.row t.gen) b) }

/-- Whether DCHK of a descriptor is good (R212). -/
def descGood (bs : List Byte) : Bool :=
  bs.length == 48 && leAt bs 44 4 == crcOf 1 (descGuard (leAt bs 1 1) (leAt bs 2 1) (leAt bs 34 1)) (bs.take 44)

/-! ### Outcomes of tokens (R214) -/

/-- The token of an instance returns to the issuer with its outcome (R214). -/
def Dev.returnToken (d : Dev) (t : Task) (o : TaskOutcome) : Dev :=
  if t.kind = 0 then d.updRow t.chan t.pic t.row (fun (x : RowSt) => { x with returned := x.returned ++ [(t.token, o)] }) else d

/-! ### Rescue lanes (R231, R234) -/

/-- Show the busy lanes of both rescue coders, the same in all eight instances. -/
def Dev.putLanes (d : Dev) (w e : Nat) : Dev :=
  Dev.upto 8 (fun c d => (d.setF F.DISPATCH_RESCUE_LANES_W w c).setF F.DISPATCH_RESCUE_LANES_E e c) d

/-- Busy lanes of a die. -/
def Dev.lanesBusy (d : Dev) (die : Nat) : Nat := if die = 0 then d.getF F.DISPATCH_RESCUE_LANES_W else d.getF F.DISPATCH_RESCUE_LANES_E

/-- Take or free a lane of a die. -/
def Dev.moveLane (d : Dev) (die : Nat) (take : Bool) : Dev :=
  let step := fun (x : Nat) => if take then x + 1 else x - 1
  if die = 0 then d.putLanes (step (d.lanesBusy 0)) (d.lanesBusy 1) else d.putLanes (d.lanesBusy 0) (step (d.lanesBusy 1))

/-! ### Cancellation (R226, R227) -/

/-- A token returns CANCELLED (R214), for a task at engine `e`. -/
def Dev.countCancelled (d : Dev) (e : Nat) : Dev := d.count C.DISPATCH_CANCELLED (e / 16)

/-- A decode task that ends without committing: its row is concealed (R227, R269). -/
def Dev.decodeLost (d : Dev) (t : Task) : Dev :=
  if t.kind ≠ 1 then d
  else
    let f := fun (x : Nat × DecCtx) =>
      if x.1 = t.chan then
        (x.1, { x.2 with pic := x.2.pic.map (fun (p : DecPic) =>
          if p.number = t.pic ∧ p.done.contains t.row = false then { p with done := t.row :: p.done, concealed := t.row :: p.concealed } else p) })
      else x
    { d with decs := d.decs.map f }

/-- Cancel one instance: off its list, slot or engine, its token CANCELLED. -/
def Dev.cancelTask (d : Dev) (t : Task) : Dev :=
  let e := t.engine
  ((((d.dropTask t.token).returnToken t .cancelled).countCancelled e).showAt e).fillSlot e

/-- Withdraw a decode task wherever its instance is (R262): the outcomes of R227; its token returns CANCELLED to a context that holds no tokens. -/
def Dev.cancelDecode (d : Dev) (t : Task) : Dev :=
  let e := t.engine
  (((d.dropTask t.token).countCancelled e).showAt e).fillSlot e

/-- Cancel row `r` of picture `k` of channel `n` (R227): an instance anywhere is cancelled; a rescue lane stops, and a committed row that
has not departed is discarded. -/
def Dev.cancelRow (d : Dev) (n k r : Nat) : Dev :=
  let ts := d.tasks.filter (fun t => t.kind = 0 ∧ t.chan = n ∧ t.pic = k ∧ t.row = r)
  let d1 := Dev.each ts (fun t d => d.cancelTask t) d
  let d2 := match (d.rowOf n k r).lane with | some die => d1.moveLane die false | none => d1
  d2.updRow n k r (fun x => if x.departed then x else { x with phase := .cancelled, lane := none })

/-- Cancel every row of picture `k` of channel `n` from row `r` on that has not departed. -/
def Dev.cancelFrom (d : Dev) (n k r : Nat) : Dev :=
  let rows := pRows (d.chan n).params
  Dev.each ((List.range (rows - r)).map (fun j => r + j)) (fun x d => if (d.rowOf n k x).departed then d else d.cancelRow n k x) d

/-! ### Recovery (R223) -/

/-- Whether a row re-issued after a warm reset is still to commit. -/
def Dev.recovering (d : Dev) : Bool :=
  d.chans.any (fun c => c.2.pics.any (fun p => !p.dropped && p.rows.any (fun x => x.resumed && !x.departed && !x.done && decide (x.phase ≠ .cancelled))))

/-- CTRL.RECOVERY, and with it ask-and-block service, of the clusters that are not fenced. -/
def Dev.setRecovery (d : Dev) (on : Bool) : Dev :=
  Dev.upto 8 (fun c d => (d.setFlag F.DISPATCH_CTRL_RECOVERY (on && !d.fenced 4 c) c).setFlag F.DISPATCH_CTRL_ASK_BLOCK ((on && !d.fenced 4 c) || decide (d.mode = 5)) c) d

/-- Recovery ends once every row re-issued under R35 has committed. -/
def Dev.updRecovery (d : Dev) : Dev :=
  if (List.range 8).any (fun c => d.flag F.DISPATCH_CTRL_RECOVERY c) ∧ d.recovering = false then d.setRecovery false else d

/-! ### Capacity (R204) -/

/-- C(e) of R201 for formats of at most 2 samples per pixel. -/
def cycleBound (e : Nat) : Nat :=
  getAt 16384 [2048, 2560, 3072, 3584, 4096, 5120, 6144, 7168, 8192, 9216, 10240, 12288, 13312, 14336, 15360, 16384] e

/-- C(e) for a format (R201). -/
def cycleBoundOf (format e : Nat) : Nat := if format444 format then cycleBound e * 4 / 3 else cycleBound e

/-- E of R204: engines that neither their own fence nor that of their cluster keeps from working. -/
def Dev.enginesAvail (d : Dev) : Nat := ((List.range 128).filter d.engineUp).length

/-- A of R204: the allocations of the STARTED LIVE channels. -/
def Dev.liveAlloc (d : Dev) : Nat :=
  (d.chans.filter (fun c => d.chanState c.1 = 2 && pClass c.2.params = 0)).foldl (fun a c => a + d.getF F.CHAN_DMIN_ENGINES c.1) 0

/-- E_cap of R204. -/
def Dev.eCap (d : Dev) : Nat :=
  let a := d.liveAlloc
  let e := d.enginesAvail
  if a ≤ e then 15
  else (((List.range 16).reverse).find? (fun k => decide (cycleBound k * a ≤ 16384 * e))).getD 0

/-- SHED shows E_cap, S_t, E and A; every instance reads the same values. -/
def Dev.showShed (d : Dev) : Dev :=
  let cap := d.eCap
  let av := d.enginesAvail
  let al := d.liveAlloc
  if d.getF F.ENG_SHED_E_CAP = cap ∧ d.getF F.ENG_SHED_AVAIL = av ∧ d.getF F.ENG_SHED_ALLOC = al then d
  else Dev.upto 128 (fun e d => ((d.setF F.ENG_SHED_E_CAP cap e).setF F.ENG_SHED_AVAIL av e).setF F.ENG_SHED_ALLOC al e) d

end Sys2Proof.Machine
end

