-- ==== Sys2Proof/Machine/Ingress.lean ====
section
/-! DEFINITION. Picture ingress: line packets, the FIFO and HOLD_N, the picture store, closing and acceptance of pictures,
and what they do to a Harvest capture (R126 to R153, R209). -/
namespace Sys2Proof.Machine

/-! ### HOLD_N (R37, R137, R142, R149, R557) -/

/-- The fill of a bundle's FIFO in bytes (R136). -/
def BundleSt.fill (s : BundleSt) : Nat := 8 * (s.words0 + s.words1)

/-- Whether bundle `b` is under test in Maintenance (R557). -/
def Dev.underTest (d : Dev) (b : Nat) : Bool := d.bundleInUse b

/-- Whether a FROZEN capture holds bundle `b` (R149). -/
def Dev.frozenHold (d : Dev) (b : Nat) : Bool :=
  d.chans.any (fun c => (match c.2.harvest with | some h => h.phase == .frozen | none => false) &&
    decide (1 ≤ d.chanState c.1) && (pBundleList c.2.params).contains b)

/-- Whether the watermarks drive HOLD_N of bundle `b` now. -/
def Dev.byWatermark (d : Dev) (b : Nat) : Bool :=
  d.phase == .run && (d.mode == 2 || d.mode == 3 || (d.mode == 5 && d.underTest b)) && !d.frozenHold b

/-- FIFO_STATUS and HOLD_N of bundle `b` follow its fill; an assertion in Live is an event (R142). -/
def Dev.updHold (d : Dev) (b : Nat) : Dev :=
  let fill := (d.bundle b).fill
  let was := d.flag F.BUNDLE_FIFO_STATUS_HOLD b
  let on :=
    if d.byWatermark b then
      if d.getF F.BUNDLE_FIFO_CTRL_HIGH_WM b * 4096 ≤ fill then true
      else if fill ≤ d.getF F.BUNDLE_FIFO_CTRL_LOW_WM b * 4096 then false else was
    else true
  let d1 := ((d.setF F.BUNDLE_FIFO_STATUS_FILL_KIB (min 1023 (fill / 1024)) b).maxF F.BUNDLE_FIFO_STATUS_PEAK_KIB (min 1023 (fill / 1024)) b).setFlag F.BUNDLE_FIFO_STATUS_HOLD on b
  if on ∧ was = false ∧ d1.mode = 2 ∧ d1.byWatermark b = true then d1.raise .bundle b 9 else d1

/-- HOLD_N of every bundle, after a change of mode or of the started channels. -/
def Dev.updHolds (d : Dev) : Dev := Dev.upto 16 (fun b d => d.updHold b) d

/-! ### The FIFO banks (R136) -/

/-- The words a bank holds. -/
def bankWords : Nat := 32768

/-- Put `n` words into the filling bank `f`, and past its end into the other. -/
def BundleSt.fillIn (s : BundleSt) (f n : Nat) : BundleSt :=
  let here := if f = 0 then s.words0 else s.words1
  let a := min n (bankWords - here)
  if f = 0 then { s with words0 := s.words0 + a, words1 := s.words1 + (n - a) }
  else { s with words1 := s.words1 + a, words0 := s.words0 + (n - a) }

/-- Take `n` words, first from the draining bank. -/
def BundleSt.drainOut (s : BundleSt) (f n : Nat) : BundleSt :=
  let there := if f = 0 then s.words1 else s.words0
  let a := min n there
  if f = 0 then { s with words1 := s.words1 - a, words0 := s.words0 - (n - a) }
  else { s with words0 := s.words0 - a, words1 := s.words1 - (n - a) }

/-- The banks change roles when the draining bank is empty and the filling bank holds at least one word. -/
def Dev.swapBanks (d : Dev) (b : Nat) : Dev :=
  let s := d.bundle b
  let f := d.getF F.BUNDLE_FIFO_STATUS_FILL_BANK b
  let filling := if f = 0 then s.words0 else s.words1
  let draining := if f = 0 then s.words1 else s.words0
  if draining = 0 ∧ 1 ≤ filling then d.setF F.BUNDLE_FIFO_STATUS_FILL_BANK (1 - f) b else d

/-! ### Shares, closing and arrival (R131, R146, R209) -/

/-- The position of bundle `b` in a channel's list. -/
def bundleIndex (p : List Byte) (b : Nat) : Option Nat := ((pBundleList p).zipIdx.find? (fun x => x.1 = b)).map (·.2)

/-- The last line of a picture on the bundle at position `j` of the list (R131). -/
def lastLineOn (p : List Byte) (j : Nat) : Nat :=
  let b := max 1 (pBundles p)
  (pHeight p - 1 - j) / b * b + j

/-- The lines of a picture on the bundle at position `j` from `lo` up to but not including `hi`. -/
def linesOn (p : List Byte) (j lo hi : Nat) : List Nat :=
  (List.range (hi - lo)).filterMap (fun k => if (lo + k) % (max 1 (pBundles p)) = j then some (lo + k) else none)

/-- Whether line `l` of a picture is present: placed, or marked missing (R133). -/
def Pic.present (p : Pic) (l : Nat) : Bool := p.lines.any (fun x => x.line = l)

/-- Mark lines missing that are not present. -/
def Pic.markMissing (p : Pic) (b : Nat) (ls : List Nat) : Pic :=
  { p with lines := p.lines ++ (ls.filter (fun l => !p.present l)).map (fun l =>
      { line := l, bundle := b, placed := false, damaged := false, committed := true, side := [], pixels := [] }) }

/-- Whether row `r` has arrived (R209): each line it needs is in memory or marked missing. -/
def Pic.rowArrived (p : Pic) (h r : Nat) : Bool :=
  let m := min (64 * r + 71) (h - 1)
  decide ((p.lines.filter (fun x => decide (x.line ≤ m) && x.committed)).length = m + 1)

/-- Rows whose lines have become present arrive now (R209). -/
def Pic.arrive (p : Pic) (h ns : Nat) : Pic :=
  (List.range (ceilDiv h 64)).foldl (fun p r =>
    if (p.row r).arrival.isNone ∧ p.rowArrived h r = true then p.putRow { p.row r with arrival := some ns } else p) p

/-- Close a picture whose shares are all closed: lines not present are missing (R146). -/
def Pic.tryClose (p : Pic) (params : List Byte) : Pic :=
  if p.closed = false ∧ (pBundleList params).all (fun b => p.shut.contains b) then
    { (p.markMissing 0xFF (List.range (pHeight params))) with closed := true }
  else p

/-- Close the share of bundle `b` in picture `k`. -/
def Chan.shutShare (c : Chan) (b k ns : Nat) : Chan :=
  match c.pic k with
  | none => c
  | some p =>
    let p1 := if p.shut.contains b then p else { p with shut := p.shut ++ [b] }
    let p2 := (p1.tryClose c.params).arrive (pHeight c.params) ns
    let c1 := c.putPic p2
    if p2.closed ∧ p.closed = false then { c1 with lastClosed := some (max k ((c1.lastClosed).getD k)) } else c1

/-- Add an empty picture at its place in index order. -/
def insertPic (p : Pic) : List Pic → List Pic
  | [] => [p]
  | q :: rest => if p.index < q.index then p :: q :: rest else q :: insertPic p rest

/-- Whether pictures below the first coded one are ignored (R180). -/
def Chan.belowFirst (c : Chan) (k : Nat) : Bool := match c.firstPic with | some f => decide (k < f) | none => false

/-- The channel with picture `k` present in its list. -/
def Chan.withPic (c : Chan) (k : Nat) : Chan := if c.pics.any (fun p => p.index = k) then c else { c with pics := insertPic { index := k } c.pics }

/-- Mark lines of picture `k` missing on bundle `b`, creating the picture if need be. -/
def Chan.missing (c : Chan) (b k : Nat) (ls : List Nat) (ns : Nat) : Chan :=
  if ls.isEmpty ∨ c.belowFirst k = true then c
  else
    let c1 := c.withPic k
    match c1.pic k with
    | none => c1
    | some p => c1.putPic ((p.markMissing b ls).arrive (pHeight c1.params) ns)

/-! ### Harvest captures (R149 to R152) -/

/-- How many pictures a capture holds before picture `k`, at most PRE. -/
def Harvest.before (h : Harvest) (k : Nat) : Nat := min h.pre (h.held.filter (fun x => x < k)).length

/-- A trigger names picture `k`: of the pictures named, the earliest is the trigger picture (R150). -/
def Harvest.name (h : Harvest) (k : Nat) : Harvest :=
  let t := match h.picture with | some x => min x k | none => k
  { h with picture := some t, preHeld := h.before t }

/-- A trigger that names picture `k` (R150): a first trigger fixes it; of two that coincide the one that names the earlier picture wins;
later ones are ignored and counted. -/
def Harvest.fire (h : Harvest) (k ns : Nat) : Harvest :=
  match h.phase with
  | .armed => { h with phase := .triggered, trigTime := ns }.name k
  | .triggered => if h.trigTime = ns then h.name k else { h with ignored := h.ignored + 1 }
  | .frozen => { h with ignored := h.ignored + 1 }

/-- A command or pulse trigger (R150): its moment is now; its picture is named by the next first committed line, and is the trigger picture
where no trigger of the same moment names an earlier one. -/
def Harvest.fireMoment (h : Harvest) (tick ns : Nat) : Harvest :=
  match h.phase with
  | .armed => { h with phase := .triggered, moment := some tick, trigTime := ns }
  | .triggered => if h.trigTime = ns then { h with moment := some tick } else { h with ignored := h.ignored + 1 }
  | .frozen => { h with ignored := h.ignored + 1 }

/-- A picture is accepted, or is not taken, by a capture (R149): an ARMED one reuses its oldest slot once PRE pictures are held; a TRIGGERED one takes
the pictures from the trigger picture on, and POST of them freeze it. Answers the pictures whose slots are free again. -/
def Harvest.accept (h : Harvest) (k : Nat) : Harvest × List Nat :=
  match h.phase with
  | .frozen => (h, [])
  | .armed =>
    let held := h.held ++ [k]
    let extra := held.length - h.pre
    ({ h with held := held.drop extra }, held.take extra)
  | .triggered =>
    match h.picture with
    | some t =>
      if t ≤ k then
        let held := h.held ++ [k]
        let n := (held.filter (fun x => decide (t ≤ x))).length
        ({ h with held := held, phase := if h.post ≤ n then .frozen else .triggered }, [])
      else (h, [k])
    | none => (h, [k])

/-- The pulse trigger of generator `g` reaches every capture armed for it (R150). -/
def Dev.harvestPulse (d : Dev) (g : Nat) : Dev :=
  Dev.each (d.chans.map (·.1)) (fun n d =>
    match (d.chan n).harvest with
    | some h => if bit h.triggers 2 ∧ h.gen = g then d.putChan n { d.chan n with harvest := some (h.fireMoment d.tick d.ns) } else d
    | none => d) d

/-! ### Placing lines (R132, R133, R146) -/

/-- Whether channel `n` takes lines now: STARTED without a FROZEN capture and not draining, or OPEN with a capture that
fills (R149, R180). -/
def Dev.takesLines (d : Dev) (n : Nat) : Bool :=
  let c := d.chan n
  let filling := match c.harvest with | some h => h.phase != .frozen | none => false
  match d.chanState n with
  | 2 => c.harvest.isNone && c.stopping.isNone
  | 1 => filling
  | _ => false

/-- A line is placed at picture `k`, line `l` (R132): the share bookkeeping of R146 and the arrival of R209. -/
def Dev.placeLine (d : Dev) (n b k l : Nat) (damaged trig : Bool) (side pixels : List Nat) : Dev :=
  let c := d.chan n
  if c.belowFirst k then d
  else
    let c1 := c.withPic k
    let c2 := c1.pics.foldl (fun c p => if p.index < k ∧ p.closed = false then c.shutShare b p.index d.ns else c) c1
    let first := l = 0 ∧ c2.waits k = true ∧ d.chanState n = 2
    let c3 := if first then { c2 with firstPic := some k, awaited := none, pics := c2.pics.filter (fun p => !(c2.waits p.index && p.index < k)) } else c2
    let add := fun (p : Pic) =>
      let p1 := if p.present l then p else
        { p with lines := p.lines ++ [{ line := l, bundle := b, placed := true, damaged := damaged, committed := false, side := side, pixels := pixels }] }
      let p2 := if p1.firstTick.isNone then { p1 with firstTick := some d.tick, firstNs := d.ns } else p1
      ({ p2 with lastNs := d.ns }).arrive (pHeight c.params) d.ns
    let c4 := match c3.pic k with | some p => c3.putPic (add p) | none => c3
    let c5 := match c4.harvest with
      | some h => if trig ∧ bit h.triggers 1 then { c4 with harvest := some (h.fire k d.ns) } else c4
      | none => c4
    let j := (bundleIndex c.params b).getD 0
    d.putChan n (if l = lastLineOn c.params j then c5.shutShare b k d.ns else c5)

/-- The first line above `l` on the bundle at position `j` of the list (R131). -/
def lineAfter (p : List Byte) (j l : Nat) : Nat :=
  let b := max 1 (pBundles p)
  if l < j then j else j + ((l - j) / b + 1) * b

/-- The expected position after a placed line (R132): the next line of that picture on this bundle. -/
def nextExpect (p : List Byte) (j k l : Nat) : Expect :=
  if lastLineOn p j ≤ l then { pic := none, last := some k, line := j } else { pic := some k, last := some k, line := lineAfter p j l }

/-- The expected position of channel `n` on bundle `b`. -/
def Chan.expectOn (c : Chan) (b : Nat) : Expect :=
  (assoc c.expect b).getD { pic := none, last := none, line := (bundleIndex c.params b).getD 0 }

/-! ### The front end (R134, R135) -/

/-- The samples packed in pixel words from bit 0 up (R130). -/
def unpackSamples (bitsPer n : Nat) (ws : List Nat) : List Nat :=
  let v := ws.foldr (fun w a => w % 2 ^ 64 + 2 ^ 64 * a) 0
  (List.range n).map (fun k => bits v (k * bitsPer) bitsPer)

/-- Pack samples into pixel words (R130). -/
def packSamples (bitsPer : Nat) (xs : List Nat) : List Nat :=
  let v := xs.foldr (fun x a => x % 2 ^ bitsPer + 2 ^ bitsPer * a) 0
  (List.range (ceilDiv (xs.length * bitsPer) 64)).map (fun k => bits v (64 * k) 64)

/-- x / 2^14 to the nearest whole number; the direction of an exact half is open (log entry 11). -/
def roundQ14 (x : Int) : Int :=
  let q := x / 16384
  let r := x % 16384
  if r < 8192 then q else if 8192 < r then q + 1 else if Config.tableRound 2 (wrapInt 40 x) then q + 1 else q

/-- One output of the matrix (R134). -/
def matrixOut (m : List Int) (i : Nat) (a b c : Nat) : Nat :=
  let k := fun j => getAt 0 m j
  let v := roundQ14 (k (3 * i) * a + k (3 * i + 1) * b + k (3 * i + 2) * c) + k (9 + i)
  if v < 0 then 0 else if 4095 < v then 4095 else v.toNat

/-- Decimate a chroma line of samples (R134). -/
def decimate (filter : Bool) (xs : List Nat) : List Nat :=
  let n := xs.length
  (List.range (n / 2)).map (fun k =>
    let at_ := fun i => getAt 0 xs (min i (n - 1))
    if filter then at_ (2 * k) else (at_ (2 * k - 1) + 2 * at_ (2 * k) + at_ (2 * k + 1) + 2) / 4)

/-- A 4:4:4 line of `w` samples converted to YCC422-12 (R134). -/
def convertLine (m : List Int) (filter : Bool) (w : Nat) (ws : List Nat) : List Nat :=
  let s := unpackSamples 12 (3 * w) ws
  let at_ := fun i => getAt 0 s i
  let out := fun i => (List.range w).map (fun x => matrixOut m i (at_ x) (at_ (w + x)) (at_ (2 * w + x)))
  packSamples 12 (out 0 ++ decimate filter (out 1) ++ decimate filter (out 2))

/-- Whether a line of pixel words is one of 4:4:4 with 12 bits (R130, R134): the channel is opened for the format that leaves the converter, or for
one of the two that enter it, and the words are as many as such a line has. -/
def isLine444 (p : List Byte) (ws : List Nat) : Bool :=
  (pFormat p == 3 || pFormat p == 4 || pFormat p == 5) && ws.length == lineWords 4 (pWidth p) 0

/-- The coefficient bank in force on bundle `b`. -/
def Dev.matrixInForce (d : Dev) (b : Nat) : List Int :=
  if d.flag F.BUNDLE_FRONT_CTRL_MATRIX_ACTIVE b then (d.bundle b).bank1 else (d.bundle b).bank0

/-! ### Packets (R126 to R132, R139) -/

/-- The CHECK of a line packet under the guard of a position (R129). -/
def lineCheck (channel k l : Nat) (words : List Nat) : Nat :=
  crcOf 1 (leBytes 4 (l % 2 ^ 16 + 2 ^ 16 * (channel % 256) + 2 ^ 24 * (k % 256))) (words.flatMap (leBytes 8))

/-- Whether a word is a valid header (R128). -/
def headerValid (w : Nat) : Bool := bits w 0 12 == 0xA5C && bits w 48 16 == crcWord48 w

/-- What R132 decides about a packet. -/
inductive LineCase where
  | discard (seq : Bool) (check : Bool)
  | place (pic line : Nat) (damaged seq check : Bool)
  deriving DecidableEq, Repr

/-- The classification of R132, in the order of its table: `e` the expected position, `k`, `l` the header's position,
`good` whether C_hdr is good, `expGood` whether C_exp is. With neither good, a LINE at or above HEIGHT names no position, and the packet
is discarded. DEDUCED (log entry 33). -/
def classify (e : Expect) (height k l : Nat) (good expGood : Bool) : LineCase :=
  let expPic := match e.pic with | some x => x | none => match e.last with | some x => x + 1 | none => 0
  let later := match e.pic with
    | some x => decide (x < k)
    | none => match e.last with | some x => decide (x < k) | none => true
  if good ∧ height ≤ l then .discard true false
  else if height ≤ l ∧ expGood = false then .discard false true
  else
    match e.pic with
    | none =>
      if good ∧ l = e.line ∧ later = true then .place k l false false false
      else if expGood then .place expPic e.line false false false
      else if good ∧ later = true then .place k l false true false
      else if good then .discard true false
      else .discard false true
    | some x =>
      if expGood then .place x e.line false false false
      else if good ∧ k = x ∧ e.line < l then .place k l false true false
      else if good ∧ later = true then .place k l false true false
      else if good then .discard true false
      else if x < k ∨ (k = x ∧ e.line ≤ l) then .place k l true false true
      else .discard false true

/-- Mark what a placed line skipped as missing (R132): lines before it in its picture, and the rest of the expected
picture's share; where C_hdr is good and the picture is a later one, only the latter. -/
def Chan.skipTo (c : Chan) (e : Expect) (good : Bool) (b j k l ns : Nat) : Chan :=
  match e.pic with
  | some x =>
    if x = k then c.missing b k (linesOn c.params j e.line l) ns
    else
      let c1 := c.missing b x (linesOn c.params j e.line (pHeight c.params)) ns
      let c2 := c1.shutShare b x ns
      if good then c2 else c2.missing b k (linesOn c.params j j l) ns
  | none => c.missing b k (linesOn c.params j j l) ns

/-- Whether the bundle is in an inter-picture gap (R113): the last line packet completed a picture, and no picture of any channel on the bundle is
partly received. -/
def Dev.showGap (d : Dev) (b : Nat) : Dev :=
  let s := d.bundle b
  let gap := s.completed && !d.chans.any (fun c => c.2.expect.any (fun e => e.1 = b && e.2.pic.isSome))
  d.putBundle b { s with gap := gap, gapTick := if gap && !s.gap then d.tick else s.gapTick }

/-- A line packet starts on bundle `b` (R113, R139): its words leave the bundle stream; a gap ends; the words that an overflow still discards
end with its header, and those of the stream count. -/
def Dev.packetStart (d : Dev) (b : Nat) (words : List LineWord) : Dev :=
  let s := d.bundle b
  let before := match findPacket (words.map (·.value)) s.stream with | some r => s.stream.length - r.2.length - words.length | none => 0
  let d1 := if s.overflow ∧ 0 < before then d.count C.BUNDLE_OVERFLOW b 0 before else d
  let d2 := d1.packetTaken b words
  d2.putBundle b { d2.bundle b with completed := false, gap := false, overflow := false }

/-- What R132 decides about a packet on bundle `b`, from its header, its CHECK word and the position its channel expects there. -/
def Dev.packetCase (d : Dev) (b : Nat) (words : List LineWord) : LineCase :=
  let ws := words.map (·.value)
  let h := ws.headD 0
  let n := bits h 12 7
  let l := bits h 27 14
  let k := getAt 0 ws 1
  let body := ws.dropLast
  let check := ws.getLastD 0 % 2 ^ 32
  let c := d.chan n
  let e := c.expectOn b
  let expPic := match e.pic with | some x => x | none => match e.last with | some x => x + 1 | none => 0
  classify e (pHeight c.params) k l (check == lineCheck n k l body) (check == lineCheck n expPic e.line body)

/-- A packet is received on bundle `b` while it is UP: classification, conversion, placing and the FIFO (R126 to R139). -/
def Dev.linePacket (d : Dev) (b : Nat) (words : List LineWord) : Dev :=
  let ws := words.map (·.value)
  let h := ws.headD 0
  if d.bundleState b ≠ 5 ∨ headerValid h = false ∨ d.phase ≠ .run then d
  else
    let n := bits h 12 7
    let l := bits h 27 14
    let nSide := bits h 20 7
    let body := ws.dropLast
    let poisoned := d.packetDamaged b words
    let da := d.packetStart b words
    let d0 := if l = 0 then da.setF F.BUNDLE_FRONT_CTRL_MATRIX_ACTIVE (da.getF F.BUNDLE_FRONT_CTRL_MATRIX_SEL b) b else da
    let c := d0.chan n
    match bundleIndex c.params b with
    | none => d0.count C.BUNDLE_SEQ_ERR b
    | some j =>
      if d0.chanState n = 0 then d0.count C.BUNDLE_SEQ_ERR b
      else if d0.takesLines n = false then d0
      else
        let e := c.expectOn b
        match d.packetCase b words with
        | .discard seq chk =>
          let d1 := if seq then d0.count C.BUNDLE_SEQ_ERR b else d0
          if chk then d1.count C.BUNDLE_CHECK_ERR b else d1
        | .place pk pl bad seq chk =>
          let d1 := if seq then d0.count C.BUNDLE_SEQ_ERR b else d0
          let d2 := if chk then d1.count C.BUNDLE_CHECK_ERR b else d1
          let side := (body.drop 2).take nSide
          let raw := body.drop (2 + nSide)
          let conv := d2.flag F.BUNDLE_FRONT_CTRL_CONVERT_EN b && isLine444 c.params raw
          let pix := if conv then convertLine (d2.matrixInForce b) (d2.flag F.BUNDLE_FRONT_CTRL_FILTER b) (pWidth c.params) raw else raw
          let size := 3 + side.length + pix.length
          let s := d2.bundle b
          let c1 := (d2.chan n).skipTo e (!bad) b j pk pl d2.ns
          let c2 := { c1 with expect := assocPut c1.expect b (nextExpect c.params j pk pl) }
          let d3 := ((d2.putChan n c2).putBundle b { d2.bundle b with completed := decide (lastLineOn c.params j ≤ pl) }).showGap b
          let f := d3.getF F.BUNDLE_FIFO_STATUS_FILL_BANK b
          let room := 2 * bankWords - (s.words0 + s.words1)
          if room < size then
            let frag : FifoLine := { channel := n, picture := pk, line := pl, words := room, side := [], pixels := [], fragment := true }
            let s1 := (d3.bundle b).fillIn f room
            let d4 := (d3.putBundle b { s1 with overflow := true, fifo := if room = 0 then s1.fifo else s1.fifo ++ [frag] }).swapBanks b
            let d5 := (d4.updHold b).count C.BUNDLE_OVERFLOW b 0 (size - room)
            let d6 := d5.putChan n ((d5.chan n).missing b pk [pl] d5.ns)
            d6.putChan n (if pl = lastLineOn c.params j then (d6.chan n).shutShare b pk d6.ns else d6.chan n)
          else
            let s1 := (d3.bundle b).fillIn f size
            let line : FifoLine := { channel := n, picture := pk, line := pl, words := size, side := side, pixels := pix }
            let d4 := (d3.putBundle b { s1 with fifo := s1.fifo ++ [line] }).swapBanks b
            ((d4.placeLine n b pk pl (bad || poisoned) (bit h 19) side pix).showGap b).updHold b

/-! ### The memory writer (R138, R143 to R148) -/

/-- Slots of channel `n` in use: pictures with a committed line that have not been released (R148). -/
def Chan.slotsUsed (c : Chan) : Nat := (c.pics.filter (fun p => p.committedFirst.isSome && !p.released)).length

/-- The slots a channel's lines go to: its picture store, or the capture that fills. -/
def Chan.slotsFor (c : Chan) : Nat := match c.harvest with | some h => h.slots | none => c.slots

/-- The first line of a picture is committed: a trigger moment before it names the picture (R150). -/
def Chan.firstCommitted (c : Chan) (k tick : Nat) : Chan :=
  match c.harvest with
  | some h =>
    match h.moment with
    | some m => if m ≤ tick then { c with harvest := some (Harvest.name { h with moment := none } k) } else c
    | none => c
  | none => c

/-- The first slot from `s` on, around the ring of `k`, that no picture uses. -/
def freeFrom (used : List Nat) (k : Nat) : Nat → Nat → Option Nat
  | 0, _ => none
  | n + 1, s => if used.contains s then freeFrom used k n ((s + 1) % k) else some s

/-- The slot that the next picture of a channel takes: the ring goes on from the last one, past slots in use (R143, R148, log entry 94). -/
def Chan.freeSlot (c : Chan) : Option Nat :=
  let used := (c.pics.filter (fun p => p.committedFirst.isSome && !p.released)).filterMap (·.slot)
  let k := c.slotsFor
  freeFrom used k (min k (used.length + 1)) (c.ringNext % max 1 k)

/-- The slot that lines of picture `p` go to: the one its first line took, or a free one. -/
def Chan.slotOf (c : Chan) (p : Pic) : Option Nat := if p.committedFirst.isSome then some (p.slot.getD 0) else c.freeSlot

/-- The memory writer commits the oldest line of bundle `b`'s FIFO (R145): `bad` of its words fail FIFO parity (R138). The line is written into its
slot with its record, and rows whose lines are now in memory arrive (R209). A line whose slot is not free stays (R148); words of a closed
channel are dropped (R180), and so is what an overflow left of a packet, which counts (R139). -/
def Dev.lineCommit (d : Dev) (b bad : Nat) : Dev :=
  match (d.bundle b).fifo with
  | [] => d
  | x :: rest =>
    let c := d.chan x.channel
    let take := fun (d : Dev) =>
      let f := d.getF F.BUNDLE_FIFO_STATUS_FILL_BANK b
      ((d.putBundle b { (d.bundle b).drainOut f x.words with fifo := rest }).swapBanks b).updHold b
    if x.fragment then take (d.count C.BUNDLE_OVERFLOW b 0 x.words)
    else
      match if d.chanState x.channel = 0 then none else c.pic x.picture with
      | none => take d
      | some p =>
        match c.slotOf p with
        | none => d
        | some slot =>
          let mark := fun (l : LineRec) => if l.line = x.line ∧ l.placed = true then { l with committed := true, damaged := l.damaged || decide (0 < bad) } else l
          let p1 : Pic := { p with
            lines := p.lines.map mark, committedFirst := p.committedFirst.orElse (fun _ => some d.tick), slot := some slot }
          let c1 := { c.putPic (p1.arrive (pHeight c.params) d.ns) with ringNext := if p.committedFirst.isNone then slot + 1 else c.ringNext }
          let c2 := if p.committedFirst.isNone then c1.firstCommitted x.picture d.tick else c1
          let damaged := p1.lines.any (fun l => l.line == x.line && l.damaged)
          let d1 := (d.putChan x.channel c2).storeLine c2 slot x.line x.side x.pixels damaged
          take (if 0 < bad then d1.count C.BUNDLE_PARITY_ERR b 0 bad else d1)

/-- Whether two picture periods of the channel have passed since the first line of picture `k` (R146). -/
def Dev.twoPeriods (d : Dev) (n k : Nat) : Bool :=
  let c := d.chan n
  match (c.pic k).bind (·.firstTick) with
  | some t => decide (500000000 * pRateDen c.params ≤ (d.tick - t) * pRateNum c.params)
  | none => false

/-- In Live, two picture periods have passed since the picture's first line: its shares close (R146). -/
def Dev.pictureTimeout (d : Dev) (n k : Nat) : Dev :=
  let c := d.chan n
  if d.mode ≠ 2 ∨ d.twoPeriods n k = false then d
  else
    let c1 := (pBundleList c.params).foldl (fun c b => c.shutShare b k d.ns) c
    let ex := c1.expect.map (fun e => match e.2.pic with
      | some x => if x = k then (e.1, { pic := none, last := some k, line := (bundleIndex c.params e.1).getD 0 : Expect }) else e
      | none => e)
    Dev.each (pBundleList c.params) (fun b d => d.showGap b) (d.putChan n { c1 with expect := ex })

/-- What the commit record of a picture says (R144). -/
def Pic.record (p : Pic) (n : Nat) : CommitRec :=
  { channel := n, index := p.index, present := (p.lines.filter (·.placed)).length, damaged := (p.lines.filter (fun l => l.placed && l.damaged)).length,
    missing := (p.lines.filter (fun l => !l.placed)).length, firstNs := p.firstNs, lastNs := p.lastNs }

/-- Release the slots of pictures: what the store held of them is gone. -/
def Chan.release (c : Chan) (ks : List Nat) : Chan :=
  { c with pics := c.pics.map (fun p => if ks.contains p.index then { p with released := true, lines := [] } else p) }

/-- A closed picture whose present lines are all committed gets its durable commit record: it is accepted, in index
order (R146). -/
def Dev.pictureAccept (d : Dev) (n k : Nat) : Dev :=
  let c := d.chan n
  match c.pic k with
  | none => d
  | some p =>
    if p.accepted ∨ p.closed = false ∨ p.cut = true ∨ c.waits k = true ∨ p.lines.any (fun l => !l.committed) = true ∨
        c.pics.any (fun q => q.index < k && !q.accepted && !q.cut && !q.released) = true ∨ c.stopping.isSome = true then d
    else
      let c1 := { c.putPic { p with accepted := true, commit := some (p.record n) } with lastAccepted := some k }
      let d1 := d.storeCommit c (p.slot.getD 0) (p.record n)
      match c1.harvest with
      | none => d1.putChan n c1
      | some h =>
        if h.phase = .frozen then d1.putChan n c1
        else
          let (h1, gone) := h.accept k
          let c2 := ({ c1 with harvest := some h1 }).release gone
          (d1.putChan n { c2 with pics := c2.pics.filter (fun q => !(gone.contains q.index)) }).updHolds

/-! ### Flush (R141) -/

/-- The line of a FIFO entry becomes missing. -/
def Dev.loseLine (d : Dev) (b : Nat) (x : FifoLine) : Dev :=
  let c := d.chan x.channel
  let lost := fun (l : LineRec) => if l.line = x.line ∧ l.committed = false then { l with placed := false, damaged := false, committed := true, side := [], pixels := [] } else l
  match c.pic x.picture with
  | none => d
  | some p => d.putChan x.channel (c.putPic ({ p with lines := p.lines.map lost }.arrive (pHeight c.params) d.ns))

/-- FLUSH (R141): both banks empty, their lines missing, FLUSH_DISCARD counts the words; the packet it cuts loses its later
words, and its line is missing. -/
def Dev.flush (d : Dev) (b : Nat) (cut : Option CutPacket) (count : Bool := true) : Dev :=
  let s := d.bundle b
  let words := s.words0 + s.words1
  let d1 := Dev.each s.fifo (fun x d => d.loseLine b x) d
  let d2 := d1.putBundle b { d1.bundle b with fifo := [], words0 := 0, words1 := 0 }
  let d3 := match cut with
    | none => d2
    | some x =>
      let c := d2.chan x.channel
      match bundleIndex c.params b with
      | none => d2
      | some j =>
        if d2.takesLines x.channel then
          let c1 := c.missing b x.picture [x.line] d2.ns
          let c2 := { c1 with expect := assocPut c1.expect b (nextExpect c.params j x.picture x.line) }
          d2.putChan x.channel (if x.line = lastLineOn c.params j then c2.shutShare b x.picture d2.ns else c2)
        else d2
  let n := words + (match cut with | some x => x.words | none => 0)
  let d4 := if count then d3.count C.BUNDLE_FLUSH_DISCARD b 0 n else d3
  d4.updHold b

/-! ### BUNDLE-CONFIGURE (R506) and FIFO_CTRL -/

/-- Whether a FIFO_CTRL value is taken (R137): LOW_WM below HIGH_WM, HIGH_WM at most 128. -/
def fifoCtrlOk (high low : Nat) : Bool := decide (low < high) && decide (high ≤ 128)

/-- Write the watermarks, which stay as they are where R137 says so. -/
def Dev.writeWatermarks (d : Dev) (b high low : Nat) : Dev :=
  if fifoCtrlOk high low then ((d.setF F.BUNDLE_FIFO_CTRL_HIGH_WM high b).setF F.BUNDLE_FIFO_CTRL_LOW_WM low b).updHold b else d

/-- The checks of BUNDLE-CONFIGURE (R505, R506, R480). -/
def chkBundleConfigure (b what cfg fifo : Nat) (d : Dev) : Option (Status × Nat) :=
  if 16 ≤ b then some (.badParam, 0x08)
  else if what = 0 ∨ 16 ≤ what then some (.badParam, 0x0B)
  else if bit what 0 ∧ bit cfg 8 = true ∧ bit cfg (bits cfg 9 3) = false then some (.badParam, 0x0B)
  else if bit what 3 ∧ fifoCtrlOk (bits fifo 0 8) (bits fifo 8 8) = false then some (.badParam, 0x0B)
  else if d.fenced 2 b then some (.fenced, 0x08) else none

/-- BUNDLE-CONFIGURE (R506): MATRIX into the bank not selected, then FRONT_CTRL, CFG and FIFO_CTRL. -/
def runBundleConfigure (c : Ctx) (b what cfg front fifo : Nat) (matrix : List Int) (d : Dev) : Dev :=
  let s := d.bundle b
  let d1 := if bit what 2 then
      d.putBundle b (if d.flag F.BUNDLE_FRONT_CTRL_MATRIX_SEL b then { s with bank0 := matrix } else { s with bank1 := matrix }) else d
  let d2 := if bit what 1 then
      ((d1.setF F.BUNDLE_FRONT_CTRL_CONVERT_EN (bits front 0 1) b).setF F.BUNDLE_FRONT_CTRL_MATRIX_SEL (bits front 1 1) b).setF F.BUNDLE_FRONT_CTRL_FILTER (bits front 2 1) b else d1
  let d3 := if bit what 0 then
      let e := (d2.setF F.BUNDLE_CFG_LANE_EN (bits cfg 0 8) b).setF F.BUNDLE_CFG_PAR_EN (bits cfg 8 1) b
      let e := (e.setF F.BUNDLE_CFG_PAR_LANE (bits cfg 9 3) b).setF F.BUNDLE_CFG_MAX_RATE (bits cfg 12 2) b
      (e.setF F.BUNDLE_STATE_CAP 3 b).setFlag F.BUNDLE_STATE_CAPPED false b else d2
  let d4 := if bit what 3 then
      let e := d3.writeWatermarks b (bits fifo 0 8) (bits fifo 8 8)
      if bit fifo 16 then e.flush b none else e else d3
  ((d4.showDigest).commitPoint c).finish c 0x0301 .ok

end Sys2Proof.Machine
end

