-- ==== Sys2Proof/Machine/RateControl.lean ====
section
/-! DEFINITION. Rate control and the receiver buffer (R235 to R257): the tables, the buffer model, the picture plan, row QP, caps and
the ladder. -/
namespace Sys2Proof.Machine

/-! ### The fixed tables (R246) -/

/-- 2 to the power k/6 in 16 fraction bits, rounded down, k below 6. -/
def pow6Floor (k : Nat) : Nat :=
  match k with | 0 => 65536 | 1 => 73561 | 2 => 82570 | 3 => 92681 | 4 => 104031 | _ => 116771

/-- The table's entry: how it is rounded is open (log entry 11). -/
def pow6 (k : Nat) : Nat := pow6Floor k + (if k ≠ 0 ∧ Config.tableRound 0 k = true then 1 else 0)

/-- `a` × 2^(x/6), rounded down to whole bits. -/
def mulPow (a : Nat) (x : Int) : Nat :=
  let q := x / 6
  let v := a * pow6 (x % 6).toNat
  if 0 ≤ q then v * 2 ^ q.toNat / 65536 else v / (65536 * 2 ^ (-q).toNat)

/-- 64 × log2(a / b), rounded down, for `a` and `b` above 0. -/
def log2Floor (a b : Nat) : Int :=
  if b ≤ a then (Nat.log2 (a ^ 64 / b ^ 64) : Int)
  else
    let k := Nat.log2 (b ^ 64 / a ^ 64)
    if a ^ 64 * 2 ^ k = b ^ 64 then -(k : Int) else -(k : Int) - 1

/-- log2 to 1/64 as the table gives it (log entry 11); open where either operand is 0 (log entry 75). -/
def log2Table (a b : Nat) : Int :=
  let k := log2Floor a b
  if a = 0 ∨ b = 0 then Config.logOpen a b
  else if Config.tableRound 1 (wrapInt 32 k) then k + 1 else k

/-- round(6 × log2(a / b)); the direction of an exact half is open (log entry 11). -/
def sixLog2 (a b : Nat) : Int :=
  let v := 6 * log2Table a b
  let q := v / 64
  let r := v % 64
  if r < 32 then q else if 32 < r then q + 1 else if Config.tableRound 3 (wrapInt 32 v) then q + 1 else q

/-! ### The buffer model (R239, R240) -/

/-- B_clip of R239. -/
def bClip (cbr : Bool) (bs : Nat) : Nat := if cbr then bs - 64 else bs

/-- d0 of R239 in 90 kHz ticks. -/
def initialDelay (rs bs : Nat) : Nat := 90000 * 7 * bs / (8 * rs)

/-- F(0) of R239. -/
def initialFullness (rs bs : Nat) : Nat := rs * initialDelay rs bs / 90000

/-- The pictures of a channel that are planned, in coding order. -/
def Chan.planned (c : Chan) : List (Pic × PicPlan) := c.pics.filterMap (fun p => p.plan.map (fun q => (p, q)))

/-- One step of R239: the fullness before the picture at index `k`, from the fullness `f` before the picture at index `j` which
took `b` bits. -/
def nextFullness (p : List Byte) (rate bs : Nat) (cbr : Bool) (f b j k : Nat) : Nat :=
  min (bClip cbr bs) (f - b + rate * (k - j) * pRateDen p / pRateNum p)

/-- What R239 counts for a planned picture when picture number `now` is planned at distance `dist`. -/
def countedBits (x : Pic × PicPlan) (now dist : Nat) : Nat :=
  if x.2.seq + dist ≤ now ∧ x.1.complete = true then x.1.bits else x.2.budget

/-- F(s) for the picture at index `k` about to be planned as number `now` (R239). -/
def Chan.fullness (c : Chan) (k now dist : Nat) : Nat :=
  let p := c.params
  let rs := rSig p
  let bs := bSig p
  match c.planned.filter (fun x => x.2.seq < now) with
  | [] => initialFullness rs bs
  | x0 :: rest =>
    let (f, last) := rest.foldl (fun (f, prev) x =>
      let v := if x.2.equinox then x.2.fullness
        else min (bClip x.2.cbr x.2.bs) (nextFullness p prev.2.rs prev.2.bs prev.2.cbr f (countedBits prev now dist) prev.1.index x.1.index)
      (v, x)) (x0.2.fullness, x0)
    min (bClip (pRcMode p == 0) bs) (nextFullness p last.2.rs last.2.bs last.2.cbr f (countedBits last now dist) last.1.index k)

/-- V(s) of R246 for capped VBR: BITRATE in place of R_s and no plan lag; a picture not complete counts at its budget. -/
def Chan.vmodel (c : Chan) (k : Nat) : Nat :=
  let p := c.params
  let r := pBitrate p * 1000
  let bs := bSig p
  match c.planned with
  | [] => initialFullness (max 1 r) bs
  | x0 :: rest =>
    let bits := fun (x : Pic × PicPlan) => if x.1.complete then x.1.bits else x.2.budget
    let (f, last) := rest.foldl (fun (f, prev) x =>
      (if x.2.equinox then x.2.vmodel
        else min x.2.bs (nextFullness p prev.2.vrate prev.2.bs false f (bits prev) prev.1.index x.1.index), x)) (x0.2.vmodel, x0)
    min bs (nextFullness p last.2.vrate last.2.bs false f (bits last) last.1.index k)

/-- The model with every picture's actual size (R253): F_true before the picture at index `k`. -/
def Chan.fullnessTrue (c : Chan) (k : Nat) : Nat :=
  let p := c.params
  match c.planned.filter (fun x => x.1.index ≤ k) with
  | [] => 0
  | x0 :: rest =>
    (rest.foldl (fun (f, prev) x =>
      (if x.2.equinox then x.2.fullness
        else min (bClip x.2.cbr x.2.bs) (nextFullness p prev.2.rs prev.2.bs prev.2.cbr f prev.1.bits prev.1.index x.1.index), x))
      (x0.2.fullness, x0)).1

/-- `need` bytes of filler as whole filler data NAL units (R253): 6 bytes beside a unit's payload. PRESUMED from the standard
(log entry 9). -/
def fillerUnits (need : Nat) : Nat := if need = 0 then 0 else max need (6 * ceilDiv need 65542)

/-- The filler of a CBR picture before the next one `g` periods later, in bytes (R253). -/
def fillerBytes (p : List Byte) (fTrue bits g : Nat) : Nat :=
  fillerUnits (ceilDiv (fTrue + rSig p * g * pRateDen p / pRateNum p + 64 - bits - bSig p) 8)

/-! ### The picture plan (R246) -/

/-- n(r) of a statistics picture (R246). -/
def statRow (plan : PicPlan) (x : RowSt) (r : Nat) : Nat :=
  if x.late ∨ x.replaced ∨ x.rung = 3 ∨ x.rung = 2 then getAt 0 plan.shares r
  else mulPow x.bits ((x.qp : Int) - plan.qpPlan)

/-- The statistics picture for number `now` (R246): the latest complete picture at or before now − P of the same kind and
TemporalId, since the last Equinox. -/
def Chan.statPic (c : Chan) (now dist : Nat) (intra : Bool) (tid : Nat) : Option (Pic × PicPlan) :=
  let since := c.planned.foldl (fun m x => if x.2.noStats then max m x.2.seq else m) 0
  (c.planned.filter (fun x => x.2.seq + dist ≤ now && x.1.complete && x.2.intra == intra && x.2.tid == tid && decide (since ≤ x.2.seq))).getLast?

/-- The n(r) of the statistics picture. -/
def statRows (rows : Nat) (z : Pic × PicPlan) : List Nat := (List.range rows).map (fun r => statRow z.2 (z.1.row r) r)

/-- What R246 fixes for a picture: T, O, X0, U, the n(r) the shares are taken from, and QP_plan (encoded). -/
structure PlanOut where
  budget : Nat
  overhead : Nat
  excess : Nat
  planned : Nat
  ns : Option (List Nat)
  qpPlan : Nat
  sumN : Nat
  qpz : Int
  deriving DecidableEq, Repr

/-- u and F_ref's term: the planned size before it is clamped (R246). -/
def wantedSize (p : List Byte) (intra : Bool) (f v : Nat) : Int :=
  let k := if intra ∧ pStructure p ≠ 0 then 3 else 1
  let rate := if pRcMode p = 0 then rSig p else pBitrate p * 1000
  let ref := if pRcMode p = 0 then f else v
  ((k * (rate * pRateDen p / pRateNum p) : Nat) : Int) + ((ref : Int) - (bSig p / 2 : Nat)) / 4

/-- Σ w(r) over all rows before any is issued. -/
def Dev.reserveAll (d : Dev) (p : List Byte) (intra : Bool) : Nat := pRows p * d.rowCost p intra (64 * pSideMax p)

/-- QP_plan from the statistics total and the planned size. -/
def planQp (p : List Byte) (intra : Bool) (stat : Option (Int × Nat)) (u : Nat) : Nat :=
  let off : Int := qpOffset (pFormat p)
  let lo : Int := (pQpMin p : Int) - off
  let hi : Int := (pQpMax p : Int) - off
  let q :=
    if u < pRows p * pCtus p * 16 then hi
    else
      match stat with
      | some (qpz, sumN) => clampInt lo hi (qpz + sixLog2 sumN u)
      | none => clampInt lo hi (32 - sixLog2 (u * (if intra then 4 else 20)) (pWidth p * pHeight p))
  (q + off).toNat

/-- Shares p(r); open where Σ n is 0 (log entry 75). -/
def planShares (rows u : Nat) (ns : Option (List Nat)) : List Nat :=
  match ns with
  | some l =>
    let s := l.foldl (· + ·) 0
    if s = 0 then (List.range rows).map (Config.shareOpen u rows) else l.map (fun n => u * n / s)
  | none => List.replicate rows (u / rows)

/-- The plan of a picture at index `k`, number `now` (R246), before any equalisation; `f` and `v` its model fullness. -/
def Dev.planPic (d : Dev) (c : Chan) (now dist f v : Nat) (intra rap noStats : Bool) (tid : Nat) : PlanOut :=
  let p := c.params
  let rows := pRows p
  let o := overhead p rap
  let x0 := f - o - d.reserveAll p intra
  let u := (clampInt 0 x0 (wantedSize p intra f v)).toNat
  let z := if noStats then none else c.statPic now dist intra tid
  let ns := z.map (statRows rows)
  let sumN := ((ns.getD []).foldl (· + ·) 0)
  let off : Int := qpOffset (pFormat p)
  let qpz : Int := (z.map (fun x => (x.2.qpPlan : Int) - off)).getD 0
  let stat := z.map (fun _ => (qpz, sumN))
  { budget := f, overhead := o, excess := x0, planned := u, ns := ns,
    qpPlan := planQp p intra stat u, sumN := sumN, qpz := qpz }

/-! ### Rows (R247, R248, R251) -/

/-- ρ of R247 for row `r`, as a fraction; open where the shares it divides by are all 0 (log entry 75). -/
def rhoOf (plan : PicPlan) (lag : Nat) (pic : Pic) (r : Nat) : Nat × Nat :=
  if r < lag then (1, 1)
  else
    let rows := (List.range (r + 1 - lag)).map (fun j => pic.row j)
    let counts := rows.filter (fun x => !(x.forLateness || x.rung == 3))
    let num := counts.foldl (fun a x => a + (if x.replaced then x.cap - x.w else x.bits)) 0
    let den := counts.foldl (fun a x => a + mulPow (getAt 0 plan.shares x.row) ((plan.qpPlan : Int) - x.qp)) 0
    if counts.isEmpty then (1, 1)
    else if den = 0 then ((Config.rhoOpen num).1, (Config.rhoOpen num).2 + 1) else (num, den)

/-- ρ × a × 2^(x/6): one product, rounded down to whole bits (R246). -/
def mulRhoPow (rho : Nat × Nat) (a : Nat) (x : Int) : Nat :=
  let q := x / 6
  let v := rho.1 * a * pow6 (x % 6).toNat
  if 0 ≤ q then v * 2 ^ q.toNat / (rho.2 * 65536) else v / (rho.2 * 65536 * 2 ^ (-q).toNat)

/-- QP_corr of R247, encoded. -/
def qpCorr (p : List Byte) (plan : PicPlan) (rho : Nat × Nat) : Nat :=
  let q : Int := plan.qpPlan
  let x := clampInt (q - 4) (q + 8) (q + sixLog2 rho.1 rho.2)
  (clampInt (pQpMin p) (pQpMax p) x).toNat

/-- What the controller fixes for a row at issue (R248, R251). -/
structure RowOut where
  rung : Nat
  qp : Nat
  skipBias : Bool
  floor : Bool
  cap : Nat
  w : Nat
  rho : Nat × Nat
  deriving DecidableEq, Repr

/-- x_hard and x_exp of R248 at the issue of row `r`; `w` is its rescue cost, `wMore` that of each later row. -/
def excesses (plan : PicPlan) (lag : Nat) (pic : Pic) (rho : Nat × Nat) (r rows w wMore : Nat) : Nat × Int :=
  let reserve := w + (rows - r - 1) * wMore
  let js := (List.range r).map (fun j => pic.row j)
  let known := js.foldl (fun a x => if x.row + lag ≤ r then a + x.bits else a) 0
  let held := js.foldl (fun a x => if x.row + lag ≤ r then a else a + x.cap) 0
  let e := fun (x : RowSt) =>
    if x.rung = 3 ∨ x.replaced = true ∨ x.qp = 255 then x.w else mulRhoPow rho (getAt 0 plan.shares x.row) ((plan.qpPlan : Int) - x.qp)
  let expect := js.foldl (fun a x => if x.row + lag ≤ r then a else a + e x) 0
  (plan.budget - plan.overhead - known - held - reserve,
   (plan.budget : Int) - plan.overhead - known - expect - reserve)

/-- Σ over j ≥ r of ρ × p(j) × 2^((QP_plan − qp)/6). -/
def restAt (plan : PicPlan) (rho : Nat × Nat) (r rows qp : Nat) : Nat :=
  ((List.range (rows - r)).map (fun k => mulRhoPow rho (getAt 0 plan.shares (r + k)) ((plan.qpPlan : Int) - qp))).foldl (· + ·) 0

/-- The rung, QP and cap of row `r` (R247, R248, R251). -/
def rowPlan (p : List Byte) (plan : PicPlan) (pic : Pic) (r w wMore : Nat) : RowOut :=
  let rows := pRows p
  let lag := pLag p
  let rho := rhoOf plan lag pic r
  let (xh, xe) := excesses plan lag pic rho r rows w wMore
  let corr := qpCorr p plan rho
  let qmax := pQpMax p
  let prev := if r = 0 then 0 else (pic.row (r - 1)).rung
  let test :=
    if xh < (rows - r) * pCtus p * 8 then 3
    else if xe < (restAt plan rho r rows qmax : Int) then 2
    else if xe < (restAt plan rho r rows corr : Int) then 1 else 0
  let rung := max prev test
  let qp := if rung = 3 then 255 else if rung = 0 then corr else qmax
  let top : Nat × Nat := if rho.1 < rho.2 then (1, 1) else rho
  let cap := if rung = 3 then w
    else w + min xh (mulRhoPow top (2 * getAt 0 plan.shares r) ((plan.qpPlan : Int) - qp))
  { rung := rung, qp := qp, skipBias := rung == 2, floor := decide (2 ≤ rung), cap := cap, w := w, rho := rho }

/-! ### The record of R257 -/

/-- One counter of the record: bits [47:0] and SAT in bit 63. -/
def recCounter (v : Nat) (sat : Bool) : List Byte := leBytes 8 (v + (if sat then 2 ^ 63 else 0))

/-- The six counters, in record order. -/
def RcCounters.values (r : RcCounters) : List Nat := [r.rung1, r.rung2, r.rung3, r.overrun, r.filler, r.eqMiss]

/-- Count `n` more in counter `i` of the record of channel `c` (R257, R486, R488). -/
def Dev.countRec (d : Dev) (c i : Nat) (n : Nat := 1) : Dev :=
  let r := (d.chan c).rc
  let v := getAt 0 r.values i
  let put := fun (r : RcCounters) (x : Nat) =>
    match i with
    | 0 => { r with rung1 := x } | 1 => { r with rung2 := x } | 2 => { r with rung3 := x } | 3 => { r with overrun := x }
    | 4 => { r with filler := x } | _ => { r with eqMiss := x }
  if v + n < 2 ^ 48 then d.putChan c { d.chan c with rc := put r (v + n) }
  else if bit r.sat i then d
  else
    let d1 := d.putChan c { d.chan c with rc := { put r (2 ^ 48 - 1) with sat := setBit r.sat i } }
    d1.logEvent .chan 0xF2 c (0xF0000000 + c * 256 + 64 + 8 * i)

/-- The rate-control record of R257. -/
def Dev.rcRecord (d : Dev) (n : Nat) : List Byte :=
  let c := d.chan n
  let p := c.params
  let last := c.planned.getLast?
  let plan := last.map (·.2)
  let num := fun (f : PicPlan → Nat) => (plan.map f).getD 0
  let rs := 6 + scaleOf (rHrd p) 6
  let cs := 4 + scaleOf (pCpb p * 1000) 4
  let ctrs := (c.rc.values.zipIdx.map (fun x => recCounter x.1 (bit c.rc.sat x.2))).flatten
  leBytes 8 (c.lastPlanned.getD 0) ++ leBytes 8 (num (·.fullness)) ++ leBytes 8 (num (·.budget)) ++ leBytes 8 (num (·.planned)) ++
  leBytes 4 (num (·.overhead)) ++ leBytes 4 (d.wMax p) ++ leBytes 4 (rSig p / 2 ^ rs) ++ leBytes 4 (bSig p / 2 ^ cs) ++
  leBytes 1 (rs - 6 + 16 * (cs - 4)) ++ leBytes 1 (num (·.qpPlan)) ++ leBytes 1 c.rungLast ++ leBytes 1 (planDist p (d.getF F.CHAN_DELAY_D_US n)) ++
  leBytes 4 (b2n (pMosaic p != 0) + 2 * b2n c.substituted) ++ leBytes 8 (if pRcMode p = 0 then 0 else num (·.vmodel)) ++ ctrs ++ leBytes 16 0

end Sys2Proof.Machine
end

