-- ==== Sys2Proof/Machine/Issue.lean ====
section
/-! DEFINITION. ROW_ISSUE: when a row may be issued (R210, R225, R240), what is fixed at row 0 (R165, R166, R179, R202,
R246, R254, R256) and at each row (R211 to R213, R247 to R251), and the wake of the engine it is placed on (R457). -/
namespace Sys2Proof.Machine

/-! ### Power of a domain (R452, R457) -/

/-- The state of a power domain: 0 Active, 1 Gated, 2 Retain, 3 Off. -/
def Dev.domState (d : Dev) (n : Nat) : Nat := d.getF F.PWR_DOM_STATE n

/-- PWR.STATUS counts the domains in each state. -/
def Dev.showDomains (d : Dev) : Dev :=
  let num := fun (s : Nat) => ((List.range 183).filter (fun n => d.domState n = s)).length
  ((((d.setF F.PWR_STATUS_ACTIVE (num 0)).setF F.PWR_STATUS_GATED (num 1)).setF F.PWR_STATUS_RETAIN (num 2)).setF F.PWR_STATUS_OFF (num 3)).setF
    F.PWR_ALARMS (((List.range 183).filter (fun n => d.flag F.PWR_DOM_ALARM n)).length)

/-- Put a domain into a state: an engine that leaves or enters Off has lost its tags and its affinity (R453). -/
def Dev.setDomState (d : Dev) (n s : Nat) : Dev :=
  let d1 := (d.setF F.PWR_DOM_STATE s n).setFlag F.PWR_DOM_CHANGING false n
  let d2 :=
    if n < 128 ∧ s = 3 then
      let clear := fun (c : Nat × Chan) => (c.1, { c.2 with affinity := c.2.affinity.filter (fun a => a.2 ≠ n) })
      let e := { d1 with caches := assocDel d1.caches n, chans := d1.chans.map clear }
      (e.setF F.ENG_CACHE_VALID 0 n).setF F.ENG_STATE_PHASE (if e.fenced 3 n then 6 else 0) n
    else if n < 128 ∧ d1.getF F.ENG_STATE_PHASE n = 0 then
      ({ d1 with fresh := if d1.fresh.contains n then d1.fresh else d1.fresh ++ [n] }).setF F.ENG_STATE_PHASE (if d1.fenced 3 n then 6 else 1) n
    else d1
  d2.showDomains

/-- The die of a domain, for the staggered exits of R457: 0 West, 1 East, 2 the keeper die. -/
def domDie (n : Nat) : Nat :=
  if n < 128 then n / 64 else if n < 136 then (n - 128) / 4 else if n < 152 then (n - 136) / 8 else if n < 156 then (n - 152) / 2
  else if n < 158 then n - 156 else 2

/-- Ticks in 40 µs. -/
def ticks40us : Nat := 10000

/-- When the next domain of a die may leave Off: at most 8 do within any 40 µs (R457). -/
def Dev.exitTick (d : Dev) (die : Nat) : Nat :=
  let last := ((d.power.exits.filter (fun x => x.1 = die)).map (·.2)).reverse
  match last[7]? with
  | some t => max d.tick (t + ticks40us)
  | none => d.tick

/-- A wake of a domain begins (R453, R457): from Off at its turn; an armed alarm is cancelled. -/
def Dev.beginWake (d : Dev) (n : Nat) : Dev :=
  let off := d.domState n = 3
  let t := if off then d.exitTick (domDie n) else d.tick
  let exits := if off then (d.power.exits.filter (fun x => decide (d.tick < x.2 + ticks40us))) ++ [(domDie n, t)] else d.power.exits
  let d1 := { d with power := { alarms := assocDel d.power.alarms n, wakes := assocPut d.power.wakes n t, exits := exits } }
  ((d1.setFlag F.PWR_DOM_CHANGING true n).setFlag F.PWR_DOM_ALARM false n).showDomains

/-- Work is placed on a domain that is not Active before its alarm (R457): the wake begins and the alarm is cancelled. -/
def Dev.wakeFor (d : Dev) (n : Nat) (live : Bool) : Dev :=
  if d.domState n = 0 ∨ d.flag F.PWR_DOM_FENCED n = true ∨ d.flag F.PWR_DOM_CHANGING n = true then d
  else
    let d1 := d.beginWake n
    if live then
      let d2 := d1.count C.PWR_LATE_WAKE
      ((d2.setF F.PWR_LAST_EVENT_DOMAIN n).setF F.PWR_LAST_EVENT_CAUSE 1).raise .pwr 0 0
    else d1

/-- Place a task on an engine's list and wake the engine where it is not Active (R219, R457). -/
def Dev.placeTask (d : Dev) (t : Task) (e : Nat) : Dev :=
  ((((d.placeOn t e).wakeFor e t.live).wakeFor (128 + e / 16) t.live).wakeFor (156 + e / 64) t.live).fillSlot e

/-! ### References and kinds (R165, R166) -/

/-- Δ in force. -/
def Dev.delta (d : Dev) (n : Nat) : Nat := d.getF F.CHAN_STATE_REF_DIST n

/-- TemporalId of picture number `i` after a random access picture (R165 items 2 and 3). -/
def temporalId (delta layers i : Nat) : Nat :=
  if delta = 1 then
    let g := 2 ^ (layers - 1)
    let m := i % g
    if m = 0 then 0 else layers - 1 - (((List.range layers).find? (fun k => decide (m % 2 ^ (k + 1) ≠ 0))).getD 0)
  else if i % delta = 0 then 0 else 1

/-- The first reference of a trailing picture (R165 item 4): `k` its index, `rap` the last random access picture. -/
def Chan.firstRef (c : Chan) (k rap delta tid : Nat) : Option (Pic × PicPlan) :=
  (c.planned.filter (fun x => decide (x.1.index + delta ≤ k) && decide (rap ≤ x.1.index) &&
    (decide (x.2.tid < tid) || (tid == 0 && x.2.tid == 0)))).getLast?

/-- The conceal source of R213: the first reference, else the latest coded picture at most p − Δ. -/
def Chan.concealRef (c : Chan) (k delta : Nat) (ref : Option Nat) : Option Nat :=
  match ref with
  | some r => some r
  | none => ((c.planned.filter (fun x => decide (x.1.index + delta ≤ k))).getLast?).map (·.1.index)

/-- What the kind of picture `k` comes to (R166, R238, R294): whether it is a random access picture, and IDR. -/
structure RapChoice where
  rap : Bool
  idr : Bool
  equinox : Bool
  discontinuity : Bool
  deriving DecidableEq, Repr

/-- Whether a recorded RECONFIGURE takes effect at picture `k` or later (R179, R289). -/
def Chan.nextReady (c : Chan) (k : Nat) : Bool := c.next.isSome && decide (c.nextAt ≤ k)

/-- Whether a reconfiguration changes what R256 names. -/
def rateChanged (p q : List Byte) : Bool :=
  pBitrate p != pBitrate q || pMaxBitrate p != pMaxBitrate q || pCpb p != pCpb q || pRcMode p != pRcMode q

/-- The choice of R166 for picture `k`. -/
def Chan.rapChoice (c : Chan) (k : Nat) : RapChoice :=
  let p := c.params
  let joining := c.lock == .joining && (match c.normalFrom with | some q => decide (k < q) | none => true)
  let far := match c.lastBp with | some b => decide (2 ^ 24 < k - b) | none => false
  let eq := match c.equinox with | some e => decide (e ≤ k) | none => false
  let forced := c.forceIdr && c.nextReady k
  let disc := (c.discontinuity && !c.belowFirst k) || far
  let first := c.rap.isNone
  let periodic := match c.rap with | some r => pIdrPeriod p != 0 && decide (pIdrPeriod p ≤ k - r) | none => false
  let rated := match c.next with | some q => c.nextReady k && rateChanged p q | none => false
  let idr := first || eq || disc || joining || forced || (periodic && (!bit (pFlags p) 1 || rated))
  { rap := idr || periodic, idr := idr, equinox := eq || (joining && c.shadow), discontinuity := disc }

/-- EFFORT, EFFORT_FLOOR, QP_MIN and QP_MAX of the new block over the old (R179). -/
def mergeSoon (p q : List Byte) : List Byte :=
  p.take 55 ++ (q.drop 55).take 2 ++ (p.drop 57).take 4 ++ (q.drop 61).take 2 ++ p.drop 63

/-- The new block as the channel keeps it: FORCE_IDR is not kept. -/
def cleanBlock (q : List Byte) : List Byte := q.take 6 ++ leBytes 1 (pFlags q % 128) ++ q.drop 7

/-- A recorded RECONFIGURE takes effect at picture `k` as far as R179 lets it. -/
def Chan.applyNext (c : Chan) (k : Nat) (rap : Bool) : Chan :=
  match c.next with
  | none => c
  | some q =>
    if c.nextReady k then
      if rap then { c with params := cleanBlock q, next := none, forceIdr := false }
      else { c with params := mergeSoon c.params q }
    else c

/-! ### Effort (R202, R203) -/

/-- EFFORT_FLOOR in force (R156). -/
def Dev.effortFloor (d : Dev) (p : List Byte) : Nat := if pFloor p = 255 then min 15 d.alm.floorEffort else pFloor p

/-- e_p of R202. -/
def Dev.effortNow (d : Dev) (p : List Byte) : Nat :=
  let cap := if pClass p = 1 then 15 else d.getF F.ENG_SHED_E_CAP
  max (d.effortFloor p) (min (pEffort p) (min (15 - d.getF F.ENG_SHED_S_T) cap))

/-- The level that EFFORT and EFFORT_FLOOR alone give (R203). -/
def Dev.effortAlone (d : Dev) (p : List Byte) : Nat := max (d.effortFloor p) (pEffort p)

/-! ### Equalisation (R254, R255, R320) -/

/-- F_eq of R296. -/
def fEq (p : List Byte) : Nat := min (bClip (pRcMode p == 0) (bSig p)) (rSig p * pRateDen p / pRateNum p)

/-- V(E) of R296. -/
def vEq (p : List Byte) : Nat := min (bSig p) (pBitrate p * 1000 * pRateDen p / pRateNum p)

/-- The mosaic panes open on this device. -/
def Dev.panesOf (d : Dev) (mosaic : Nat) : List (Nat × Chan) :=
  d.chans.filter (fun c => decide (1 ≤ d.chanState c.1) && pMosaic c.2.params == mosaic)

/-- The figures that have arrived for picture `k` of a mosaic: the panes of this device and those of members that are
present and not withheld. -/
def Dev.figuresFor (d : Dev) (mosaic k : Nat) : List (Nat × Figures) :=
  let own := (d.panesOf mosaic).filterMap (fun c => (c.2.figures.find? (fun f => f.picture = k)).map (fun f => (pPane c.2.params, f)))
  let there := d.ring.figs.filter (fun f => f.mosaic == mosaic && f.picture == k && d.ring.members.any (fun m => m.number = f.member ∧ m.age < 8 ∧ m.fenced = false))
  own ++ there.map (fun f => (f.pane, { picture := k, sumN := f.sumN, qpz := f.qpz, planned := f.planned }))

/-- How many panes of the mosaic ought to have figures: those open here, and those reported by present members as not withheld. -/
def Dev.figuresDue (d : Dev) (mosaic : Nat) : Nat :=
  (d.panesOf mosaic).length +
  (d.ring.panes.filter (fun r => r.mosaic == mosaic && r.state != 2 && d.ring.members.any (fun m => m.number = r.member ∧ m.age < 8))).length

/-- U' and QP_plan of R254 step 3 for one pane's own figures among all; q* is open where a total is 0 (log entry 75). -/
def splitFor (p : List Byte) (own : Figures) (all : List Figures) (x0 : Nat) : Nat × Nat :=
  let off : Int := qpOffset (pFormat p)
  let use := all.filter (fun f => f.sumN ≠ 0)
  let num := (use.map (fun f => mulPow f.sumN f.qpz)).foldl (· + ·) 0
  let den := (use.map (·.planned)).foldl (· + ·) 0
  let u := if num = 0 ∨ den = 0 then mulPow own.sumN (own.qpz - sixLog2 num den) else mulPow own.sumN own.qpz * den / num
  let q := clampInt ((pQpMin p : Int) - off) ((pQpMax p : Int) - off) (sixLog2 num den)
  (min u x0, (q + off).toNat)

/-- The figures of a pane for the picture after `k` (R254 step 1), fixed once T(k) is; the next index is taken as k + 1. -/
def Dev.figuresAfter (d : Dev) (n k dist : Nat) : Figures :=
  let c := d.chan n
  let p := c.params
  let ch := c.rapChoice (k + 1)
  let tid := match c.rap with | some r => temporalId (d.delta n) (d.getF F.CHAN_STATE_TLAYERS n) (k + 1 - r) | none => 0
  let rap := ch.rap
  let intra := rap || pStructure p == 0 || (c.firstRef (k + 1) (c.rap.getD 0) (d.delta n) tid).isNone
  let o := d.planPic c c.seq dist (c.fullness (k + 1) c.seq dist) (c.vmodel (k + 1)) intra rap ch.equinox (if rap then 0 else tid)
  { picture := k + 1, sumN := o.sumN, qpz := o.qpz, planned := o.planned }

/-- Send one STATS entry (R308, R320). -/
def Dev.sendStats (d : Dev) (p : List Byte) (f : Figures) : Dev :=
  if bit (pFlags p) 2 = false ∨ d.ring.joined = false ∨ d.flag F.RING_STATE_WITHHELD = true then d
  else
    let body := leBytes 1 (d.getF F.RING_CFG_MEMBER) ++ leBytes 1 0 ++ leBytes 1 1 ++ leBytes 5 0 ++ leBytes 2 (pMosaic p) ++
      leBytes 1 (pPane p) ++ leBytes 1 (wrapInt 8 (f.qpz + qpOffset (pFormat p))) ++ leBytes 4 0 ++ leBytes 8 f.picture ++ leBytes 8 f.sumN ++ leBytes 8 f.planned
    ({ d with ring := { d.ring with seq := (d.ring.seq + 1) % 65536 } }).emit (.ring 0x24 d.ring.seq (bodyWords body))

/-- The first `m` reconstruction buffers that no picture holds (R212, log entry 98). -/
def Dev.freeBuffers (d : Dev) (m : Nat) : List Nat :=
  let used := d.chans.flatMap (fun c => c.2.pics.filterMap (·.buf))
  ((List.range (used.length + m)).filter (fun b => !used.contains b)).take m

/-- The first of them. -/
def Dev.freeBuffer (d : Dev) : Nat := ((d.freeBuffers 1).head?).getD 0

/-! ### The plan of a picture at row 0 (R246) -/

/-- The plan of picture `k`: kind, references, effort, budget, and for a pane the split of R254. Answers the channel with the
picture planned, whether effort departs from EFFORT alone, and whether a substitution took place. -/
def Dev.planFor (d : Dev) (n k : Nat) : Dev × Bool × Bool :=
  let c0 := d.chan n
  let ch := c0.rapChoice k
  let c1 := c0.applyNext k ch.rap
  let p := c1.params
  let delta := d.delta n
  let dist := planDist p (d.getF F.CHAN_DELAY_D_US n)
  let layers := d.getF F.CHAN_STATE_TLAYERS n
  let rapAt := if ch.rap then k else c1.rap.getD k
  let tid := if ch.rap then 0 else temporalId delta layers (k - rapAt)
  let ref0 := if ch.rap ∨ pStructure p = 0 then none else c1.firstRef k rapAt delta tid
  let ref1 := if pRefs p = 2 then ref0.bind (fun (x : Pic × PicPlan) => x.2.ref0) else none
  let r0 := ref0.map (fun (x : Pic × PicPlan) => x.1.index)
  let intra := ref0.isNone
  let noStats := ch.equinox && (d.isPaired || c0.lock == .joining)
  let f := if noStats then fEq p else c1.fullness k c1.seq dist
  let v := if noStats then vEq p else c1.vmodel k
  let o := d.planPic c1 c1.seq dist f v intra ch.rap noStats tid
  let mosaic := pMosaic p
  let own := c1.figures.find? (fun g => g.picture = k)
  let all := d.figuresFor mosaic k
  let pane := decide (mosaic ≠ 0) && decide (0 < c1.seq)
  let missing := pane && decide (all.length < d.figuresDue mosaic)
  let (u, qp) := match pane, own with
    | true, some g => if g.sumN = 0 then (o.planned, o.qpPlan) else splitFor p g (all.map (·.2)) o.excess
    | _, _ => (o.planned, o.qpPlan)
  let shares := planShares (pRows p) u o.ns
  let e := d.effortNow p
  let kind : PicKind :=
    if ch.rap then (if ch.idr then .idr else .cra)
    else if pStructure p = 0 then .trailN
    else if 0 < tid ∧ tid + 1 = layers then .trailN else .trailR
  let plan : PicPlan :=
    { seq := c1.seq, kind := kind, intra := intra, tid := tid, ref0 := r0, ref1 := ref1,
      conceal := c1.concealRef k delta r0, effort := e, equinox := noStats, discontinuity := ch.discontinuity,
      rs := rSig p, bs := bSig p, cbr := pRcMode p == 0, fullness := f, vmodel := v, budget := f, overhead := o.overhead,
      planned := u, qpPlan := qp, shares := shares, noStats := noStats, wmax := d.wMax p, rap := rapAt, vrate := pBitrate p * 1000,
      lineage := if ch.discontinuity then (c1.lineage + 1) % 2 ^ 32 else c1.lineage,
      block := p, idr := if ch.idr then k else c1.idr.getD k, changed := c1.params != c0.params }
  let set := fun (x : Pic) => if x.index = k then { x with plan := some plan, buf := some (x.buf.getD d.freeBuffer) } else x
  let c2 : Chan := { c1 with
    pics := c1.pics.map set, seq := c1.seq + 1, rap := some rapAt, idr := if ch.idr then some k else c1.idr,
    lastPlanned := some k, discontinuity := c1.discontinuity && c1.belowFirst k, shadow := c1.shadow && !noStats, substituted := missing,
    lineage := if ch.discontinuity then (c1.lineage + 1) % 2 ^ 32 else c1.lineage,
    equinox := c1.equinox.filter (fun x => decide (k < x)), figures := c1.figures.filter (fun g => decide (k < g.picture)) }
  let d1 := d.putChan n c2
  let d2 := if mosaic ≠ 0 then
      let g := d1.figuresAfter n k dist
      (d1.putChan n { c2 with figures := c2.figures ++ [g] }).sendStats p g else d1
  let d3 := if missing then d2.countRec n 5 else d2
  (d3, e != d.effortAlone p, missing)

/-! ### The conditions of R210 -/

/-- The next row task of a channel: the first row in picture order that is not issued. -/
def Chan.nextRow (c : Chan) : Option (Pic × Nat) :=
  (c.pics.filter (fun p => !p.dropped && !p.tail && !p.cut && !c.waits p.index)).findSome? (fun p =>
    ((List.range (pRows c.params)).find? (fun r => decide ((p.row r).phase = .waiting))).map (fun r => (p, r)))

/-- Rows 0 to `m` of picture `q` have committed or been rescued, or were decoded from a TAIL (R298). -/
def Chan.rowsDone (c : Chan) (q m : Nat) : Bool :=
  match c.pic q with
  | some p => p.tail || (List.range (m + 1)).all (fun j => (p.row j).done)
  | none => true

/-- The pictures a row reads: both references and the conceal source. -/
def PicPlan.reads (x : PicPlan) : List Nat := x.ref0.toList ++ x.ref1.toList ++ x.conceal.toList

/-- D in ns. -/
def Dev.delayNs (d : Dev) (n : Nat) : Nat := d.getF F.CHAN_DELAY_D_US n * 1000

/-- RESCUE_AT of a row that arrived at `arrival` (R212); 0 for DEFERRED. -/
def Dev.rescueAt (d : Dev) (n arrival : Nat) : Nat :=
  if pClass (d.chan n).params = 1 then 0 else (arrival + d.delayNs n + 2 ^ 32 - (d.chan n).margin * 1000 % 2 ^ 32) % 2 ^ 32

/-- DEPART_AT of a row (R212); 0 for DEFERRED. -/
def Dev.departAt (d : Dev) (n arrival : Nat) : Nat :=
  if pClass (d.chan n).params = 1 then 0 else (arrival + d.delayNs n) % 2 ^ 32

/-- The references the picture of a row will have, before or after its plan is fixed. -/
def Dev.readsOf (d : Dev) (n : Nat) (p : Pic) : List Nat :=
  match p.plan with
  | some x => x.reads
  | none =>
    let c := d.chan n
    let k := p.index
    let ch := c.rapChoice k
    let rapAt := if ch.rap then k else c.rap.getD k
    let tid := if ch.rap then 0 else temporalId (d.delta n) (d.getF F.CHAN_STATE_TLAYERS n) (k - rapAt)
    let ref := if ch.rap ∨ pStructure c.params = 0 then none else c.firstRef k rapAt (d.delta n) tid
    let r0 := ref.map (·.1.index)
    let r1 := if pRefs c.params = 2 then ref.bind (fun x => x.2.ref0) else none
    r0.toList ++ r1.toList ++ (c.concealRef k (d.delta n) r0).toList

/-- The picture P before a picture about to be planned (R240). -/
def Chan.planBefore (c : Chan) (dist : Nat) : Option Nat :=
  ((c.planned.find? (fun x => x.2.seq + dist = c.seq))).map (·.1.index)

/-- Whether row `r` of picture `p` of channel `n` may be issued, room apart (R210, R240, R289). -/
def Dev.mayIssue (d : Dev) (n : Nat) (p : Pic) (r : Nat) : Bool :=
  let c := d.chan n
  let rows := pRows c.params
  let x := p.row r
  let reach := min (r + 10) (rows - 1)
  let lag := pLag c.params
  let dist := planDist c.params (d.getF F.CHAN_DELAY_D_US n)
  (match x.arrival with
   | none => false
   | some a =>
     (d.readsOf n p).all (fun q => c.rowsDone q reach) && (decide (r < lag) || (p.row (r - lag)).done) &&
     (p.plan.isSome || (match c.planBefore dist with | some q => c.rowsDone q (rows - 1) | none => true)) &&
     (r != 0 || !d.heldByProposal n p.index (d.rescueAt n a)))

/-! ### Issue (R211 to R214, R219) -/

/-- Whether row `r` holds a damaged or missing line (R213). -/
def Pic.rowBad (p : Pic) (h r : Nat) : Bool :=
  p.lines.any (fun l => decide (64 * r ≤ l.line) && decide (l.line ≤ min (64 * r + 63) (h - 1)) && (l.damaged || !l.placed))

/-- Side words of the lines of row `r` (R244). -/
def Pic.sideWords (p : Pic) (r : Nat) : Nat :=
  ((p.lines.filter (fun l => decide (64 * r ≤ l.line) && decide (l.line ≤ 64 * r + 63))).map (fun l => l.side.length)).foldl (· + ·) 0

/-- A task token that no outstanding instance holds (R214): the next 16-bit number that is free. -/
def Dev.freeToken (d : Dev) : Nat :=
  (((List.range (d.tasks.length + 1)).map (fun j => (d.nextToken + j) % 65536)).find? (fun k => !d.tasks.any (fun t => t.token == k))).getD 0

/-- Take a free task token. -/
def Dev.newToken (d : Dev) : Nat × Dev := (d.freeToken, { d with nextToken := (d.freeToken + 1) % 65536 })

/-- What is fixed for a row at issue (R211, R247, R248, R251), written into the row and the channel's record. -/
def Dev.fixRow (d : Dev) (n k r : Nat) (plan : PicPlan) : Dev :=
  let c := d.chan n
  let p := c.params
  let pic := (c.pic k).getD { index := k }
  let w := d.rowCost p plan.intra (pic.sideWords r)
  let o := rowPlan p plan pic r w (d.rowCost p plan.intra (64 * pSideMax p))
  let e := if o.floor then d.effortFloor p else plan.effort
  let bad := pic.rowBad (pHeight p) r || ((pic.row r).concealed)
  let d1 := d.updRow n k r (fun x => { x with
    qp := o.qp, rung := o.rung, effort := e, skipBias := o.skipBias, w := o.w, cap := o.cap,
    share := getAt 0 plan.shares r, rhoN := o.rho.1, rhoD := o.rho.2, side := pic.sideWords r, concealed := bad, fixed := true })
  let d2 := d1.setF F.CHAN_STATE_EFFORT_NOW e n
  let d3 := if o.rung = 0 then d2 else d2.countRec n (o.rung - 1)
  if bad then (d3.count C.CHAN_CONCEAL n).exceptional n k r 2 else d3

/-- The descriptor of R212 for a row whose values are fixed. -/
def Dev.taskFor (d : Dev) (n k r : Nat) (plan : PicPlan) (affinity : Option Nat) (token : Nat) : Task :=
  let c := d.chan n
  let x := d.rowOf n k r
  let a := x.arrival.getD d.ns
  let deferred := pClass c.params == 1
  let st := if deferred then d.getF F.DISPATCH_TIMERS_STEAL_DLY else c.stealDly
  let xs := if deferred then d.getF F.DISPATCH_TIMERS_XSTEAL_DLY else c.xstealDly
  { rank := (d.nextOrder : Int), order := d.nextOrder, kind := 0, chan := n, row := r, pic := k, effort := if x.replaced then d.effortFloor c.params else x.effort,
    qp := if x.replaced then 255 else x.qp, skipBias := x.skipBias && !x.replaced, intra := plan.intra, deferred := deferred, conceal := x.concealed, resumed := x.resumed, token := token,
    arrival := a, rescueAt := d.rescueAt n a, departAt := d.departAt n a, ref0 := plan.ref0, ref1 := plan.ref1,
    concealSrc := plan.conceal, gen := x.gen, affinity := affinity, slot := (((c.pic k).bind (·.slot)).getD 0), steal := st, xsteal := xs, place := .list 0, wait := d.ns }

/-- Place an instance of a row whose values are fixed on the list of engine `e`. -/
def Dev.issueOn (d : Dev) (n k r : Nat) (plan : PicPlan) (affinity : Option Nat) (e : Nat) : Dev :=
  let (tok, d1) := d.newToken
  let t := d1.described (d1.taskFor n k r plan affinity tok)
  let d2 := { d1 with nextOrder := d1.nextOrder + 1 }
  (d2.updRow n k r (fun x => { x with phase := .issued })).placeTask t e

/-- The plan of picture `k`, made at the issue of its row 0, with the notes of R291. -/
def Dev.ensurePlan (d : Dev) (n k : Nat) : Dev :=
  match ((d.chan n).pic k).bind (·.plan) with
  | some _ => d
  | none =>
    let (d1, local_, subst) := d.planFor n k
    let d2 := if local_ then d1.exceptional n k 0 3 else d1
    if subst then d2.exceptional n k 0 4 else d2

/-- Issue the channel's next row where every condition holds (R210); else nothing. -/
def Dev.rowIssue (d : Dev) (n : Nat) : Dev :=
  if d.chanState n ≠ 2 ∧ d.chanState n ≠ 3 ∨ d.phase ≠ .run then d
  else
    let c := d.chan n
    match c.nextRow with
    | none => d
    | some (p, r) =>
      if d.mayIssue n p r = false then d
      else
        let aff := if (p.row r).gen = 0 then assoc c.affinity r else none
        match d.placeFor n r aff (pClass c.params == 0) with
        | none => d
        | some e =>
          let d1 := d.ensurePlan n p.index
          match ((d1.chan n).pic p.index).bind (·.plan) with
          | none => d1
          | some plan =>
            let d2 := if (p.row r).fixed then d1 else d1.fixRow n p.index r plan
            d2.issueOn n p.index r plan aff e

end Sys2Proof.Machine
end

