-- ==== Sys2Proof/Machine/Search.lean ====
section
/-! DEFINITION. What a row's coding is decided by (R189 to R193, R197 to R201): the effort table, the pyramid, the coarse and the fine search, and
the mode decision. Every function here is of the inputs of R187 and of nothing else. What the spec leaves to the HEVC standard or to a table it
does not print is a free function of Config (log entry 98). -/
namespace Sys2Proof.Machine

/-- A motion vector, or a position. -/
abbrev Vec := Int × Int

/-! ### The effort table (R201) -/

/-- A line of the effort table: the coarse range (0 for predictors only), K, the fine box, how many references are searched, joint B, the
sub-sample phases kept (1 half, 2 quarter), the smallest inter CU, the largest and the smallest intra CU, M (0: DC and planar only), RDOQ, and the
transform split. -/
structure Effort where
  rangeX : Nat
  rangeY : Nat
  k : Nat
  boxX : Nat
  boxY : Nat
  refs : Nat
  jointB : Bool
  sub : Nat
  interMin : Nat
  intraMax : Nat
  intraMin : Nat
  m : Nat
  rdoq : Bool
  split : Bool
  deriving DecidableEq, Repr

/-- Level 15 of R201. -/
def effortTop : Effort :=
  { rangeX := 1024, rangeY := 512, k := 4, boxX := 96, boxY := 64, refs := 2, jointB := true, sub := 2, interMin := 8, intraMax := 64,
    intraMin := 8, m := 8, rdoq := true, split := true }

/-- What level `e` drops relative to the level above it (R201). -/
def effortDrop (e : Nat) (x : Effort) : Effort :=
  match e with
  | 14 => { x with k := 3 }
  | 13 => { x with rangeX := 768, rangeY := 384 }
  | 12 => { x with boxX := 64, boxY := 48 }
  | 11 => { x with rangeX := 512, rangeY := 256, k := 2 }
  | 10 => { x with refs := 1, jointB := false }
  | 9 => { x with k := 1, boxX := 48, boxY := 32 }
  | 8 => { x with interMin := 16 }
  | 7 => { x with intraMin := 16, m := 4 }
  | 6 => { x with rdoq := false, rangeX := 256, rangeY := 128 }
  | 5 => { x with interMin := 32, boxX := 32, boxY := 16 }
  | 4 => { x with rangeX := 128, rangeY := 64, m := 2 }
  | 3 => { x with sub := 1, split := false }
  | 2 => { x with rangeX := 0, rangeY := 0, intraMax := 32 }
  | 1 => { x with boxX := 8, boxY := 8 }
  | 0 => { x with k := 0, boxX := 0, boxY := 0, refs := 0, sub := 0, intraMin := 32, m := 0 }
  | _ => x

/-- The line of level `e` of the effort table (R201): what every level down to it drops. -/
def effortLine (e : Nat) : Effort := ((List.range 16).reverse.filter (fun j => decide (e ≤ j) && decide (j < 15))).foldl (fun x j => effortDrop j x) effortTop

/-! ### Numbers -/

/-- The largest number below 2 to the `bits`, above `base`, for which a test that fails from some point on holds. -/
def searchMax (p : Nat → Bool) : Nat → Nat → Nat
  | 0, base => base
  | b + 1, base => searchMax p b (if p (base + 2 ^ b) then base + 2 ^ b else base)

/-- λ_mode of R199 in units of 1/256, for pictures with I slices or without, at QpY `qp`. -/
def lambdaMode (intra : Bool) (qp : Int) : Nat :=
  let k := if intra then 57 else 68
  searchMax (fun n => decide ((2 * n - 1) ^ 3 * 10 ^ 6 * 2 ^ 112 ≤ (512 * k) ^ 3 * 2 ^ (qp + 100).toNat)) 24 0

/-- λ_motion of R199, the square root of λ_mode, in units of 1/256. -/
def lambdaMotion (intra : Bool) (qp : Int) : Nat :=
  searchMax (fun n => decide ((2 * n - 1) ^ 2 ≤ 1024 * lambdaMode intra qp)) 24 0

/-- Put a number at its place in a rising list. -/
def insertRising (x : Int) : List Int → List Int
  | [] => [x]
  | y :: rest => if x ≤ y then x :: y :: rest else y :: insertRising x rest

/-- The median of a list, for an even count the lower middle value (R192). -/
def lowerMedian (l : List Int) : Option Int := (l.foldr insertRising [])[(l.length - 1) / 2]?

/-- The motion summary of a row from its first-reference coarse best vectors (R192). No vector at all leaves it open (log entry 98). -/
def motionSummary (vs : List Vec) (inputs : List Nat) : Vec :=
  match lowerMedian (vs.map (·.1)), lowerMedian (vs.map (·.2)) with
  | some x, some y => (x, y)
  | _, _ => Config.emptyMedian inputs

/-! ### Samples and the pyramid (R189) -/

/-- Luma samples by place. -/
abbrev Plane := Int → Int → Nat

/-- The samples of a picture of `w` by `h`, with repeated edges outside it (R189, R193). -/
def withEdges (w h : Nat) (f : Nat → Nat → Nat) : Plane :=
  fun x y => f (clampInt 0 ((w : Int) - 1) x).toNat (clampInt 0 ((h : Int) - 1) y).toNat

/-- The pairs of a block of `w` by `h`, in raster order. -/
def rasterOf (w h : Nat) : List (Nat × Nat) := (List.range h).flatMap (fun j => (List.range w).map (fun i => (i, j)))

/-- The sum of a function over a block. -/
def sumOver (w h : Nat) (f : Nat → Nat → Nat) : Nat := (rasterOf w h).foldl (fun a x => a + f x.1 x.2) 0

/-- A pyramid sample (R189): 8 bits from a 4 by 4 block of luma samples. -/
def pyramidSample (depth : Nat) (g : Plane) (x y : Int) : Nat :=
  (sumOver 4 4 (fun i j => g (4 * x + i) (4 * y + j)) + 8) / 2 ^ 4 / 2 ^ (depth - 8) % 256

/-- The pyramid of a reference (R189), its own edges repeated outside it (R190). -/
def pyramidOf (w h depth : Nat) (g : Plane) : Plane :=
  fun x y => pyramidSample depth g (clampInt 0 ((ceilDiv w 4 : Nat) - 1) x) (clampInt 0 ((ceilDiv h 4 : Nat) - 1) y)

/-! ### The coarse search (R190) -/

/-- What the search of a CTU reads: the size and depth of the picture, the CTU's row and column, the source, and for one reference its samples
and WV. -/
structure SearchIn where
  width : Nat
  height : Nat
  depth : Nat
  row : Nat
  ctu : Nat
  src : Plane
  ref : Plane
  wv : Vec
  lambda : Nat

/-- The sum of absolute differences of the 16 by 16 reduced block at a position in pyramid samples (R190). -/
def coarseSad (x : SearchIn) (v : Vec) : Nat :=
  let p := pyramidOf x.width x.height x.depth x.ref
  sumOver 16 16 (fun i j =>
    let sx : Int := 16 * (x.ctu : Int) + (i : Int)
    let sy : Int := 16 * (x.row : Int) + (j : Int)
    ((pyramidSample x.depth x.src sx sy : Int) - (p (sx + v.1) (sy + v.2) : Int)).natAbs)

/-- The cost of a position (R190), in units of 1/4,096. -/
def coarseCost (x : SearchIn) (v : Vec) : Nat :=
  4096 * coarseSad x v + x.lambda * ((4 * v.1 - x.wv.1).natAbs + (4 * v.2 - x.wv.2).natAbs)

/-- Put a position behind those of its cost or a lower one. -/
def insertCost (c : Nat) (v : Vec) : List (Nat × Vec) → List (Nat × Vec)
  | [] => [(c, v)]
  | y :: rest => if c < y.1 then (c, v) :: y :: rest else y :: insertCost c v rest

/-- The `k` best distinct positions so far, with one more evaluated (R190). -/
def keepBest (k : Nat) (cost : Vec → Nat) (l : List (Nat × Vec)) (v : Vec) : List (Nat × Vec) :=
  if l.any (fun y => y.2 == v) then l else (insertCost (cost v) v l).take k

/-- The whole numbers from −n to n. -/
def symmetric (n : Nat) : List Int := (List.range (2 * n + 1)).map (fun (i : Nat) => (i : Int) - (n : Int))

/-- Positions row by row from the top left. -/
def gridOf (xs ys : List Int) : List Vec := ys.flatMap (fun y => xs.map (fun x => (x, y)))

/-- Whether the block at a position lies wholly outside the reference pyramid (R190). -/
def blockOutside (x : SearchIn) (v : Vec) : Bool :=
  let left : Int := 16 * (x.ctu : Int) + v.1
  let top : Int := 16 * (x.row : Int) + v.2
  decide (left + 15 < 0) || decide ((ceilDiv x.width 4 : Int) ≤ left) || decide (top + 15 < 0) || decide ((ceilDiv x.height 4 : Int) ≤ top)

/-- The predictors of R190: zero, WV, then the best coarse vectors of the CTUs to the left, above and above-right. All in pyramid samples. -/
def coarsePredictors (wv : Vec) (near : List Vec) : List Vec := [(0, 0), (wv.1 / 4, wv.2 / 4)] ++ near

/-- The coarse search of one reference (R190): the best positions in the order of their costs, in pyramid samples. -/
def coarseSearch (x : SearchIn) (lv : Effort) (near : List Vec) : List Vec :=
  let keep := keepBest lv.k (coarseCost x)
  let s1 := (coarsePredictors x.wv near).foldl keep []
  let s3 :=
    if lv.rangeX = 0 then s1
    else
      let grid := gridOf ((symmetric (lv.rangeX / 16)).map (4 * ·)) ((symmetric (lv.rangeY / 16)).map (4 * ·))
      let s2 := (grid.filter (fun v => !blockOutside x v)).foldl keep s1
      let around := s2.flatMap (fun y => (gridOf (symmetric 3) (symmetric 3)).map (fun o => (y.2.1 + o.1, y.2.2 + o.2)))
      around.foldl keep s2
  s3.map (·.2)

/-- A position in pyramid samples as a vector in full samples (R190). -/
def fullVec (v : Vec) : Vec := (4 * v.1, 4 * v.2)

/-! ### The reach (R193, R198) -/

/-- Whether a vector in quarter samples lies within the reach (R193). -/
def inReach (wv v : Vec) : Bool := decide ((v.1 - 4 * wv.1).natAbs ≤ 4 * 156 + 3) && decide ((v.2 - 4 * wv.2).natAbs ≤ 4 * 92 + 3)

/-- Whether what a prediction of the CTU in column `ctu` reads ends 8 samples inside column `edge` (R198); `none` sets no limit. -/
def inRefreshed (edge : Option Nat) (ctu : Nat) (v : Vec) : Bool :=
  match edge with
  | none => true
  | some e => decide (64 * (ctu : Int) + 63 + v.1 / 4 + 4 + 9 ≤ (e : Int))

/-- Whether CTU column `j` is coded intra in picture number `n` of a stream with INTRA_REFRESH `big` (R166). -/
def refreshColumn (big ctus n j : Nat) : Bool := big != 0 && decide (j * big / ctus = n % big)

/-- The right edge of the area of picture number `ref` that the current sweep of picture `n` has refreshed (R198). -/
def refreshedEdge (big ctus n ref : Nat) : Nat :=
  if ref / big = n / big then 64 * ((List.range ctus).filter (fun j => decide (j * big / ctus ≤ ref % big))).length else 0

/-- The limit that R198 sets on the CTU in column `j` of picture number `n` with a reference of number `ref`. -/
def refreshLimit (big ctus n ref j : Nat) : Option Nat :=
  if big ≠ 0 ∧ j * big / ctus < n % big then some (refreshedEdge big ctus n ref) else none

/-! ### The fine search (R197) -/

/-- A position evaluated: the reference, the vector in quarter samples, and whether its cost is the Hadamard one. -/
structure Visit where
  ref : Nat
  v : Vec
  hadamard : Bool
  deriving DecidableEq, Repr

/-- A predicted luma sample at a place moved by a vector in quarter samples: HEVC's interpolation where it has a fraction. -/
def predicted (g : Plane) (v : Vec) (x y : Int) : Nat :=
  let ix := x + v.1 / 4
  let iy := y + v.2 / 4
  if v.1 % 4 = 0 ∧ v.2 % 4 = 0 then g ix iy
  else Config.interpolated ((rasterOf 8 8).map (fun o => g (ix + (o.1 : Int) - 3) (iy + (o.2 : Int) - 3))) (v.1 % 4).toNat (v.2 % 4).toNat

/-- The difference of one luma 8 by 8 block of the CTU against a prediction: absolute, or Hadamard transformed (R197). -/
def blockCost (x : SearchIn) (hadamard : Bool) (pred : Plane) (b : Nat × Nat) : Nat :=
  let at_ := fun (i j : Nat) => ((64 * (x.ctu : Int) + 8 * (b.1 : Int) + (i : Int)), (64 * (x.row : Int) + 8 * (b.2 : Int) + (j : Int)))
  let diff := fun (i j : Nat) => let p := at_ i j; (x.src p.1 p.2 : Int) - (pred p.1 p.2 : Int)
  if hadamard then Config.hadamard8 ((rasterOf 8 8).map (fun o => diff o.1 o.2)) else sumOver 8 8 (fun i j => (diff i j).natAbs)

/-- The cost of a position over a set of 8 by 8 blocks, in units of 1/256 (R197). `mvp` are the inputs that its predictor rests on. -/
def visitCost (x : SearchIn) (mvp : List Nat) (blocks : List (Nat × Nat)) (hadamard : Bool) (v : Vec) : Nat :=
  256 * (blocks.foldl (fun a b => a + blockCost x hadamard (predicted x.ref v) b) 0) + x.lambda * Config.mvdBits mvp x.wv v

/-- All 64 blocks of a CTU. -/
def allBlocks : List (Nat × Nat) := rasterOf 8 8

/-- The 8 positions around a centre, in raster order. -/
def ring8 (c : Vec) (step : Int) : List Vec :=
  ((gridOf [-step, 0, step] [-step, 0, step]).filter (fun o => o != (0, 0))).map (fun o => (c.1 + o.1, c.2 + o.2))

/-- One move of the fine search: the centre, and the positions evaluated so far. -/
def fineStep (x : SearchIn) (mvp : List Nat) (allowed : Vec → Bool) (hadamard : Bool) (step : Int) (c : Vec × List Visit) : Vec × List Visit :=
  let near := (ring8 c.1 step).filter allowed
  let cost := visitCost x mvp allBlocks hadamard
  let best := near.foldl (fun (b : Vec) v => if cost v < cost b then v else b) c.1
  (best, c.2 ++ (c.1 :: near).map (fun v => ({ ref := 0, v := v, hadamard := hadamard } : Visit)))

/-- The integer steps of a box of half width `w`: powers of 2 from the largest that is no greater, down to 1. -/
def fineSteps (w : Nat) : List Nat := ((List.range 8).reverse.map (fun k => 2 ^ k)).filter (fun s => decide (s ≤ w))

/-- The fine search around one coarse candidate (R197): the positions evaluated, in order. -/
def fineFrom (x : SearchIn) (mvp : List Nat) (lv : Effort) (edge : Option Nat) (cand : Vec) : List Visit :=
  let c0 : Vec := (4 * clampInt (x.wv.1 - 156) (x.wv.1 + 156) cand.1, 4 * clampInt (x.wv.2 - 92) (x.wv.2 + 92) cand.2)
  let inside := fun (v : Vec) => inReach x.wv v && inRefreshed edge x.ctu v
  let boxed := fun (v : Vec) => inside v && decide ((v.1 - c0.1).natAbs ≤ 4 * lv.boxX) && decide ((v.2 - c0.2).natAbs ≤ 4 * lv.boxY)
  if inside c0 = false then []
  else
    let s1 := (fineSteps lv.boxX).foldl (fun c (s : Nat) => fineStep x mvp boxed false (4 * (s : Int)) c) (c0, [])
    let s2 := if 1 ≤ lv.sub then fineStep x mvp boxed true 2 s1 else s1
    let s3 := if 2 ≤ lv.sub then fineStep x mvp boxed true 1 s2 else s2
    s3.2

/-- The visits of a search over all coarse candidates of reference `i`, in the order of R190. -/
def fineSearch (x : SearchIn) (mvp : List Nat) (lv : Effort) (edge : Option Nat) (i : Nat) (cands : List Vec) : List Visit :=
  (cands.flatMap (fineFrom x mvp lv edge)).map (fun v => { v with ref := i })

/-- The best position found for a set of blocks, with its cost (R197, order 4). -/
def partitionBest (x : SearchIn) (mvp : List Nat) (blocks : List (Nat × Nat)) (l : List Visit) : Option (Nat × Visit) :=
  l.foldl (fun b v =>
    let c := visitCost x mvp blocks v.hadamard v.v
    match b with
    | none => some (c, v)
    | some y => if c < y.1 then some (c, v) else some y) none

/-- The cost of the average of two predictions (R197), in units of 1/256. -/
def jointCost (x y : SearchIn) (mvp : List Nat) (blocks : List (Nat × Nat)) (a b : Vec) : Nat :=
  let pred : Plane := fun i j => Config.averaged (predicted x.ref a i j) (predicted y.ref b i j)
  256 * (blocks.foldl (fun s k => s + blockCost x true pred k) 0) + x.lambda * (Config.mvdBits mvp x.wv a + Config.mvdBits mvp y.wv b)

/-- The pair of R197 for a 2N × 2N prediction unit: the best of each reference, refined by one pass around the second vector. -/
def jointBest (x y : SearchIn) (mvp : List Nat) (ok : Vec → Bool) (blocks : List (Nat × Nat)) (a b : Vec) : Nat × Vec × Vec :=
  ((ring8 b 1).filter ok).foldl (fun best v =>
    let c := jointCost x y mvp blocks a v
    if c < best.1 then (c, a, v) else best) (jointCost x y mvp blocks a b, a, b)

/-! ### Mode decision (R199, R200) -/

/-- What the decision of a CTU's coding rests on. `inputs` are the inputs of R187 as one list; `refs` what the search of each reference reads, `visits`
what it evaluated, `edges` the limits of R198. -/
structure DecideIn where
  width : Nat
  height : Nat
  depth : Nat
  row : Nat
  ctu : Nat
  chroma : Bool
  intra : Bool
  bSlices : Bool
  lv : Effort
  skipBias : Bool
  lambda : Nat
  inputs : List Nat
  refs : List SearchIn
  visits : List Visit
  edges : List (Option Nat)

/-- The smallest and the largest CU that are tried (R200, R201). -/
def DecideIn.minCu (x : DecideIn) : Nat := if x.skipBias then 32 else if x.intra then x.lv.intraMin else min x.lv.interMin x.lv.intraMin

/-- The cost J of an option (R199), D and R as the tables of the engine give them, in units of 1/256 of the scaled D. -/
def DecideIn.cost (x : DecideIn) (ctx code : List Nat) : Nat :=
  let t := Config.trial (x.inputs ++ ctx) code
  256 * t.1 + (if x.skipBias then 4 else 1) * x.lambda * t.2 * 4 ^ (x.depth - 8)

/-- The blocks of a prediction unit at (`u`, `v`) of the CTU, `w` by `h` samples. -/
def blocksOf (u v w h : Nat) : List (Nat × Nat) := (rasterOf (w / 8) (h / 8)).map (fun o => (u / 8 + o.1, v / 8 + o.2))

/-- A vector as a number in a code. -/
def vecCode (v : Vec) : List Nat := [wrapInt 16 v.1, wrapInt 16 v.2]

/-- The motion of a prediction unit: its best position, or the joint pair where that is strictly better (R197). -/
def DecideIn.motion (x : DecideIn) (ctx : List Nat) (blocks : List (Nat × Nat)) (square : Bool) : List Nat :=
  let mvp := x.inputs ++ ctx
  let best := x.refs.zipIdx.filterMap (fun r => (partitionBest r.1 mvp blocks (x.visits.filter (fun v => v.ref = r.2))).map (fun b => (b.1, r.2, b.2.v)))
  let uni := best.foldl (fun (a : Option (Nat × List Nat)) b =>
    match a with
    | none => some (b.1, [1, b.2.1] ++ vecCode b.2.2)
    | some y => if b.1 < y.1 then some (b.1, [1, b.2.1] ++ vecCode b.2.2) else some y) none
  match uni, best, x.refs with
  | some u, [a, b], [r, q] =>
    if square ∧ x.bSlices = true ∧ x.lv.jointB = true then
      let ok := fun (v : Vec) => inReach q.wv v && inRefreshed ((x.edges[1]?).getD none) x.ctu v
      let j := jointBest r q mvp ok blocks a.2.2 b.2.2
      if j.1 < u.1 then [2] ++ vecCode j.2.1 ++ vecCode j.2.2 else u.2
    else u.2
  | some u, _, _ => u.2
  | none, _, _ => []

/-- Transform trees tried (R199). -/
def DecideIn.trees (x : DecideIn) : List Nat := if x.lv.split then [0, 1] else [0]

/-- Whether every vector of a merge candidate keeps the limits of R193 and R198. -/
def DecideIn.mergeOk (x : DecideIn) (cand : List (Nat × Vec)) : Bool :=
  cand.all (fun c => match x.refs[c.1]? with
    | some r => inReach r.wv c.2 && inRefreshed ((x.edges[c.1]?).getD none) x.ctu c.2
    | none => false)

/-- The merge candidates of a CU that may be used, with their indices (R199). -/
def DecideIn.merges (x : DecideIn) (ctx : List Nat) (size u v : Nat) : List Nat :=
  ((Config.mergeCandidates (x.inputs ++ ctx) size u v).zipIdx.filter (fun c => x.mergeOk c.1)).map (·.2)

/-- The skip options of a CU, in list order (R199, order 1). `small` marks a CU that the picture's edge makes smaller than the level's range. -/
def DecideIn.skips (x : DecideIn) (small : Bool) (ctx : List Nat) (size u v : Nat) : List (List Nat) :=
  if x.intra ∨ size < x.lv.interMin ∧ small = false then [] else (x.merges ctx size u v).map (fun i => [1, size, u, v, i])

/-- The inter options of a CU: the merge candidates with a residual, then 2N × 2N, 2N × N and N × 2N (R199, orders 1 and 2). -/
def DecideIn.inters (x : DecideIn) (small : Bool) (ctx : List Nat) (size u v : Nat) : List (List Nat) :=
  if x.intra ∨ size < x.lv.interMin ∧ small = false then []
  else
    let merge := (x.merges ctx size u v).flatMap (fun i => x.trees.map (fun t => [2, size, u, v, i, t]))
    let h := size / 2
    let parts : List (List (List Nat)) :=
      if size < 16 ∨ x.visits = [] then []
      else [[x.motion ctx (blocksOf u v size size) true],
            [x.motion ctx (blocksOf u v size h) false, x.motion ctx (blocksOf u (v + h) size h) false],
            [x.motion ctx (blocksOf u v h size) false, x.motion ctx (blocksOf (u + h) v h size) false]]
    merge ++ parts.zipIdx.flatMap (fun p => x.trees.map (fun t => [3, size, u, v, p.2, t] ++ p.1.flatten))

/-- Luma modes in the order of their Hadamard costs, the first `m` (R199). -/
def rankModes (cost : Nat → Nat) (modes : List Nat) (m : Nat) : List Nat :=
  ((modes.foldl (fun (l : List (Nat × Vec)) k => insertCost (cost k) ((k : Int), 0) l) []).map (fun y => y.2.1.toNat)).take m

/-- The luma modes that are coded in full (R199, R201). -/
def DecideIn.lumaModes (x : DecideIn) (ctx : List Nat) (size u v : Nat) : List Nat :=
  let cost := fun k => Config.intraCost (x.inputs ++ ctx) size u v k
  if x.lv.m = 0 then rankModes cost [0, 1] 2
  else
    let best := rankModes cost (List.range 35) x.lv.m
    best ++ (Config.probableModes (x.inputs ++ ctx) size u v).filter (fun k => !best.contains k)

/-- The intra options of a CU (R199, order 3): chroma takes the derived mode (4) and the four fixed ones. -/
def DecideIn.intras (x : DecideIn) (small : Bool) (ctx : List Nat) (size u v : Nat) : List (List Nat) :=
  if size < x.lv.intraMin ∧ small = false ∨ x.lv.intraMax < size then []
  else
    let chroma := if x.chroma then [4, 0, 1, 2, 3] else [0]
    (x.lumaModes ctx size u v).flatMap (fun k => chroma.flatMap (fun c => x.trees.map (fun t => [4, size, u, v, k, c, t])))

/-- A coding and its cost. -/
structure Choice where
  cost : Nat
  code : List Nat
  deriving DecidableEq, Repr

/-- The best of several options in their order: a later one replaces it only where strictly lower (R187). -/
def bestOf (cost : List Nat → Nat) (l : List (List Nat)) : Option Choice :=
  l.foldl (fun b o => match b with
    | none => some { cost := cost o, code := o }
    | some y => if cost o < y.cost then some { cost := cost o, code := o } else some y) none

/-- The best whole-CU coding (R199, R200). -/
def DecideIn.wholeCu (x : DecideIn) (small : Bool) (ctx : List Nat) (size u v : Nat) : Option Choice :=
  let skip := bestOf (x.cost ctx) (x.skips small ctx size u v)
  let other := bestOf (x.cost ctx) (x.inters small ctx size u v ++ x.intras small ctx size u v)
  match skip, other with
  | some s, some o =>
    if x.skipBias then (if 4 * s.cost ≤ 5 * o.cost then some s else some o)
    else if o.cost < s.cost then some o else some s
  | some s, none => some s
  | none, o => o

/-- The coding of the CU at (`u`, `v`) of the CTU (R199): the best whole CU against the sum of its four sub-CUs, in z-order. A CU across the
picture's edge is split, one outside it is nothing. The first number is how many sizes there are from this one down, `small` as in `skips`. -/
def DecideIn.cu (x : DecideIn) : Nat → Bool → Nat → Nat → Nat → List Nat → Choice
  | 0, _, _, _, _, _ => { cost := 0, code := [] }
  | f + 1, small, size, u, v, ctx =>
    let left := 64 * x.ctu + u
    let top := 64 * x.row + v
    if x.width ≤ left ∨ x.height ≤ top then { cost := 0, code := [] }
    else
      let fits := decide (left + size ≤ ceilDiv x.width 8 * 8) && decide (top + size ≤ ceilDiv x.height 8 * 8)
      let h := size / 2
      let subs := fun (small : Bool) =>
        [(0, 0), (h, 0), (0, h), (h, h)].foldl (fun (a : Choice) (o : Nat × Nat) =>
          let c := DecideIn.cu x f small h (u + o.1) (v + o.2) (ctx ++ a.code)
          ({ cost := a.cost + c.cost, code := a.code ++ c.code } : Choice)) { cost := 0, code := [5, size, u, v] }
      if fits = false then subs true
      else
        match x.wholeCu small ctx size u v with
        | none => subs false
        | some w => if size ≤ x.minCu then w else let s := subs false; if s.cost < w.cost then s else w

/-- The coding of a CTU (R199). -/
def DecideIn.ctuCode (x : DecideIn) : List Nat := (x.cu 4 false 64 0 0 []).code

/-! ### The rescue coding (R242) -/

/-- SAO of a rescue CTU: 1 merges from the left, 2 from above, 0 is off. -/
def rescueSao (row ctu : Nat) : Nat := if ctu ≠ 0 then 1 else if row ≠ 0 then 2 else 0

/-- The coding of CTU `ctu` of a rescued row (R242): one 64 × 64 skip CU with merge_idx 0, or one intra CU of luma mode DC and chroma mode 4 with its
transform tree split to 32 × 32 and every coded block flag 0. -/
def rescueCode (intra : Bool) (row ctu : Nat) : List Nat :=
  (if intra then [4, 64, 0, 0, 1, 4, 1, 0] else [1, 64, 0, 0, 0]) ++ [rescueSao row ctu]

end Sys2Proof.Machine
end

