-- ==== Sys2Proof/Machine/StreamHeads.lean ====
section
/-! DEFINITION. What the parameter sets and the slice segment headers of a stream say (R165 to R169, R236, R237). -/
namespace Sys2Proof.Machine

/-- general_profile_idc of a profile (R167). -/
def profileIdc (k : Nat) : Nat := match k with | 0 => 1 | 1 => 2 | _ => 4

/-- chroma_format_idc of a format (R130). -/
def chromaFormat (f : Nat) : Nat := match f with | 0 | 1 => 1 | 2 | 3 => 2 | 4 | 5 => 3 | _ => 0

/-- Which sample group of a line is coded as luma, as Cb and as Cr: RGB444-12 is coded as GBR (R167). -/
def codedPlanes (f : Nat) : List Nat := match f with | 5 => [1, 2, 0] | 6 | 7 => [0] | _ => [0, 1, 2]

/-- bit_rate_scale (R236). -/
def rateScale (p : List Byte) : Nat := scaleOf (rHrd p) 6

/-- cpb_size_scale (R236). -/
def sizeScale (p : List Byte) : Nat := scaleOf (pCpb p * 1000) 4

/-- The parameter sets of a channel with parameter block `p` and `layers` temporal layers (R167, R169, R237). -/
def streamParams (p : List Byte) (layers : Nat) : StreamParams :=
  { profileIdc := profileIdc (pProfile p), tier := pTier p, levelIdc := pLevel p, subLayers := layers, chroma := chromaFormat (pFormat p),
    planes := codedPlanes (pFormat p), bitDepth := formatBits (pFormat p), width := ceilDiv (pWidth p) 8 * 8, height := ceilDiv (pHeight p) 8 * 8,
    cropRight := ceilDiv (pWidth p) 8 * 8 - pWidth p, cropBottom := ceilDiv (pHeight p) 8 * 8 - pHeight p, maxDecMinus1 := pRefs p + layers - 1,
    unitsInTick := pRateDen p, timeScale := pRateNum p, primaries := pPrimaries p, transfer := pTransfer p, matrix := pMatrix p, fullRange := pFullRange p,
    rateScale := rateScale p, sizeScale := sizeScale p, rateMinus1 := rSig p / 2 ^ (6 + rateScale p) - 1, sizeMinus1 := bSig p / 2 ^ (4 + sizeScale p) - 1,
    nalCbr := pRcMode p == 0 }

/-- The code of a picture kind in a slice segment header. -/
def PicKind.code : PicKind → Nat
  | .idr => 0
  | .cra => 1
  | .trailR => 2
  | .trailN => 3

/-- The slice type of a picture (R165): I where it has no reference, else P or B by STRUCTURE. -/
def sliceTypeOf (p : List Byte) (plan : PicPlan) : Nat := if plan.intra then 0 else if pStructure p = 2 then 2 else 1

/-- The header of row `x` of picture `k` (R169, R237): SliceQpY is QP_plan, and a row that is rescue-coded uses the predicted QP (R242). -/
def sliceHead (p : List Byte) (plan : PicPlan) (k : Nat) (x : RowSt) : SliceHead :=
  let off : Int := qpOffset (pFormat p)
  { row := x.row, dependent := decide (x.row ≠ 0), kind := plan.kind.code, temporalId := plan.tid, pocLsb := (k - plan.idr) % 65536,
    sliceType := sliceTypeOf p plan, sliceQp := plan.qpPlan - off, rowQp := if x.late || x.qp == 255 then plan.qpPlan - off else x.qp - off }

end Sys2Proof.Machine
end

