-- ==== Sys2Proof/Machine/CtuCoding.lean ====
section
/-! DEFINITION. What an engine or a rescue lane makes of a CTU of its row: the inputs of R187, the published items with their guards (R188, R215), the
coarse results (R190), the coding (R197 to R200), the rescue coding (R242), and what a complete row comes to (R187, R192, R272). -/
namespace Sys2Proof.Machine

/-! ### The window vector (R192) -/

/-- `num / den` rounded to the nearest multiple of `m`, each tie towards zero (R192). -/
def roundTie (num : Int) (den m : Nat) : Int :=
  let a := num.natAbs
  let k : Int := ceilDiv (2 * a - m * den) (2 * m * den) * m
  if num < 0 then -k else k

/-- WV of row `r` of picture `k` in reference `q` (R192). -/
def Dev.windowVector (d : Dev) (n k q r : Nat) : Int × Int :=
  match ((d.chan n).pic q).bind (·.plan) with
  | none => (0, 0)
  | some plan =>
    let x := d.rowOf n q r
    match plan.ref0 with
    | none => (0, 0)
    | some q0 =>
      if plan.intra ∨ x.phase = .rescued then (0, 0)
      else
        let num := fun (s : Int) => s * ((k : Int) - q)
        let den := max 1 (q - q0)
        (clampInt (-960) 960 (roundTie (num x.summary.1) den 64), clampInt (-484) 484 (roundTie (num x.summary.2) den 4))

/-- The references of a task's picture. -/
def Task.refs (t : Task) : List Nat := t.ref0.toList ++ t.ref1.toList

/-- The references a task searches (R201): none for I slices and for a rescue task. -/
def Task.searched (t : Task) : List Nat :=
  if t.intra ∨ t.qp = 255 ∨ t.kind ≠ 0 then [] else t.refs.take (effortLine t.effort).refs

/-! ### Stages (R184, R185) -/

/-- The CTU in a stage while CTU `c` is in stage 4 (R184). -/
def stageCtu (c : Nat) (stage : Nat) : Nat := match stage with | 1 | 2 => c + 2 | 3 => c + 1 | 4 => c | _ => c - 1

/-- The CTU in stage 3: one that has left stage 2, at most one ahead of stage 4. -/
def Task.fineCtu (t : Task) : Nat := min (stageCtu t.progress 3) (t.coarse - 1)

/-- The bound of R185 on the cycles of CTU `c` of a row in each stage. -/
def ctuBound (p : List Byte) (effort r c : Nat) : Nat :=
  ceilDiv (cycleBoundOf (pFormat p) effort * (min 64 (pWidth p - 64 * c) * min 64 (pHeight p - 64 * r))) 4096

/-! ### Reconstructions and sources -/

/-- What a row of a picture came to: the names of its CTUs; for a picture received as a TAIL, its digest stands for it. -/
def Dev.rowNames (d : Dev) (n q r : Nat) : List Nat :=
  match (d.rowOf n q r).items with
  | [] => [q, r, (((d.chan n).pic q).map (·.recon)).getD 0]
  | l => l.map (·.name)

/-- The luma of the reconstruction of a picture. -/
def Dev.lumaOf (d : Dev) (n q x y : Nat) : Nat := (Config.codedSample (d.rowNames n q (y / 64)) 0 x (y % 64)).toNat

/-- The luma that a task codes: its source lines, or where the row carries CONCEAL the conceal source or mid-grey (R213). -/
def Dev.sourceLuma (d : Dev) (t : Task) (p : List Byte) (x y : Nat) : Nat :=
  if t.conceal then
    match t.concealSrc with
    | some q => d.lumaOf t.chan q x y
    | none => 2 ^ (formatBits (pFormat p) - 1)
  else
    match ((d.chan t.chan).pic t.pic).bind (fun k => k.lines.find? (fun l => l.line = y ∧ l.placed = true)) with
    | some l => l.sample (pFormat p) (pWidth p) 0 x
    | none => 2 ^ (formatBits (pFormat p) - 1)

/-! ### The inputs of R187 -/

/-- The parameter block in force for the picture of a task. -/
def Dev.taskBlock (d : Dev) (t : Task) : List Byte :=
  ((((d.chan t.chan).pic t.pic).bind (·.plan)).map (·.block)).getD (d.chan t.chan).params

/-- A list with its length in front, so that lists joined can be told apart. -/
def framed (l : List Nat) : List Nat := l.length :: l

/-- Input 1: the source lines of the row with their marks, or what is coded in their place. -/
def Dev.sourceInput (d : Dev) (t : Task) : List Nat :=
  if t.conceal then
    match t.concealSrc with
    | some q => 1 :: framed (d.rowNames t.chan q t.row)
    | none => [2]
  else
    let lines := ((((d.chan t.chan).pic t.pic).map (·.lines)).getD []).filter (fun l => l.line / 64 = t.row)
    3 :: lines.flatMap (fun l => framed (l.line :: b2n l.placed :: b2n l.damaged :: l.pixels))

/-- Input 2: the reconstructions of the references, within the reach of R193. -/
def Dev.refInput (d : Dev) (t : Task) (rows : Nat) : List Nat :=
  t.refs.flatMap (fun q => (List.range (min (t.row + 10) (rows - 1) + 1)).flatMap (fun r => framed (d.rowNames t.chan q r)))

/-- Input 3: the window vectors, by which the motion summaries enter. -/
def Dev.summaryInput (d : Dev) (t : Task) : List Nat :=
  t.refs.flatMap (fun q => let v := d.windowVector t.chan t.pic q t.row; [wrapInt 16 v.1, wrapInt 16 v.2])

/-- Input 4, for CTU `c`: what the row above has published as far as CTU `c` + 1. -/
def Dev.aboveInput (d : Dev) (t : Task) (c : Nat) : List Nat :=
  if t.row = 0 then [] else ((d.rowOf t.chan t.pic (t.row - 1)).items.take (c + 2)).map (·.name)

/-- The coarse results of the row above, as far as CTU `c` + 1. -/
def Dev.aboveCoarse (d : Dev) (t : Task) (c : Nat) : List CoarseItem :=
  if t.row = 0 then [] else (d.rowOf t.chan t.pic (t.row - 1)).coarseItems.take (c + 2)

/-- The picture kind, its layer and place in the refresh sweep, and the parameters of the channel (input 5). -/
def Dev.paramInput (d : Dev) (t : Task) : List Nat :=
  let plan := ((d.chan t.chan).pic t.pic).bind (·.plan)
  [(plan.map (·.kind.code)).getD 0, (plan.map (·.tid)).getD 0, t.pic - (plan.map (·.rap)).getD 0] ++ (d.taskBlock t).map (·.toNat)

/-- All of R187 for CTU `c`: input 6 is the task's QP, effort level and SKIP_BIAS. -/
def Dev.ctuInputs (d : Dev) (t : Task) (c : Nat) : List Nat :=
  let p := d.taskBlock t
  let left := ((d.rowOf t.chan t.pic t.row).items.take c).map (·.name)
  [t.row, c, t.qp, t.effort, b2n t.skipBias] ++ framed (d.paramInput t) ++ framed (d.sourceInput t) ++ framed (d.refInput t (pRows p)) ++
    framed (d.summaryInput t) ++ framed (d.aboveInput t c) ++ framed left

/-! ### The guards (R188) -/

/-- The check of a published item: CRC-32C with the channel, the picture index and the row folded in first (R188). -/
def itemCheck (n k r : Nat) (bs : List Byte) : Nat := crcOf 1 (leBytes 1 n ++ leBytes 8 k ++ leBytes 1 r) bs

/-- The coarse results of a CTU as they are published. -/
def coarseItemOf (n k r : Nat) (cands : List (List Vec)) : CoarseItem :=
  { cands := cands, check := itemCheck n k r (cands.flatten.flatMap (fun v => leBytes 2 (wrapInt 16 v.1) ++ leBytes 2 (wrapInt 16 v.2))) }

/-- A coded CTU as it is published. -/
def ctuItemOf (n k r name : Nat) : CtuItem := { name := name, check := itemCheck n k r (leBytes 32 name) }

/-- An item at its place: published again, it takes the place of the earlier one (R216). -/
def putItem {α : Type} (l : List α) (c : Nat) (x : α) : List α := l.take c ++ [x] ++ l.drop (c + 1)

/-! ### A CTU of an engine's row (R190, R197 to R200) -/

/-- QpY of a task (R236). -/
def taskQp (p : List Byte) (t : Task) : Int := (t.qp : Int) - (qpOffset (pFormat p) : Nat)

/-- What the search of CTU `c` reads for reference `q`. -/
def Dev.searchIn (d : Dev) (t : Task) (c q : Nat) : SearchIn :=
  let p := d.taskBlock t
  { width := pWidth p, height := pHeight p, depth := formatBits (pFormat p), row := t.row, ctu := c,
    src := withEdges (pWidth p) (pHeight p) (d.sourceLuma t p), ref := withEdges (pWidth p) (pHeight p) (d.lumaOf t.chan q),
    wv := d.windowVector t.chan t.pic q t.row, lambda := lambdaMotion t.intra (taskQp p t) }

/-- The best coarse vector of an item for reference `i`, in pyramid samples. -/
def CoarseItem.best (x : CoarseItem) (i : Nat) : Option Vec := ((x.cands[i]?).bind (·.head?)).map (fun v => (v.1 / 4, v.2 / 4))

/-- Stage 2 of CTU `c` (R190): the coarse candidates of each reference searched. Predictors come from the left, from above and from above-right. -/
def Dev.coarseOf (d : Dev) (t : Task) (c : Nat) : CoarseItem :=
  let own := (d.rowOf t.chan t.pic t.row).coarseItems
  let above := d.aboveCoarse t c
  let near := fun (i : Nat) => ((if c = 0 then none else own[c - 1]?).toList ++ (above[c]?).toList ++ (above[c + 1]?).toList).filterMap (fun x => x.best i)
  coarseItemOf t.chan t.pic t.row (t.searched.zipIdx.map (fun q => (coarseSearch (d.searchIn t c q.1) (effortLine t.effort) (near q.2)).map fullVec))

/-- Stages 3 and 4 of CTU `c` (R166, R197 to R200). -/
def Dev.decideIn (d : Dev) (t : Task) (c : Nat) : DecideIn :=
  let p := d.taskBlock t
  let lv := effortLine t.effort
  let plan := ((d.chan t.chan).pic t.pic).bind (·.plan)
  let rap := (plan.map (·.rap)).getD 0
  let big := pIntraRefresh p
  let limit := fun (q : Nat) => refreshLimit big (pCtus p) (t.pic - rap) (q - rap) c
  let inputs := d.ctuInputs t c
  let cands := (((d.rowOf t.chan t.pic t.row).coarseItems[c]?).map (·.cands)).getD []
  { width := pWidth p, height := pHeight p, depth := formatBits (pFormat p), row := t.row, ctu := c, chroma := decide (chromaFormat (pFormat p) ≠ 0),
    intra := t.intra || refreshColumn big (pCtus p) (t.pic - rap) c, bSlices := pStructure p == 2, lv := lv, skipBias := t.skipBias,
    lambda := lambdaMode t.intra (taskQp p t), inputs := inputs, refs := t.refs.map (d.searchIn t c),
    visits := t.searched.zipIdx.flatMap (fun q => fineSearch (d.searchIn t c q.1) inputs lv (limit q.1) q.2 ((cands[q.2]?).getD [])),
    edges := t.refs.map limit }

/-- A coded CTU of an engine. -/
def Dev.codedCtu (d : Dev) (t : Task) (c : Nat) : CtuItem :=
  ctuItemOf t.chan t.pic t.row (Config.ctuCoding (d.ctuInputs t c) (d.decideIn t c).ctuCode).toNat

/-! ### The rescue coding (R242, R252) -/

/-- What the rescue coding of a row rests on: its position, the picture kind and parameters, the references, and the row above. -/
def Dev.rescueInputs (d : Dev) (t : Task) (c : Nat) : List Nat :=
  [t.row, c] ++ framed (d.paramInput t) ++ framed (d.refInput t (pRows (d.taskBlock t))) ++ framed (d.aboveInput t c)

/-- CTU `c` of the rescue coding of a row, after those to its left. -/
def Dev.rescueCtu (d : Dev) (t : Task) (left : List CtuItem) (c : Nat) : CtuItem :=
  ctuItemOf t.chan t.pic t.row (Config.ctuCoding (d.rescueInputs t c ++ framed (left.map (·.name))) (rescueCode t.intra t.row c)).toNat

/-- The rescue coding of a whole row, as a lane commits it. -/
def Dev.rescueItems (d : Dev) (t : Task) : List CtuItem :=
  (List.range (pCtus (d.taskBlock t))).foldl (fun l c => l ++ [d.rescueCtu t l c]) []

/-! ### What a row comes to -/

/-- The coded size of a row in bits (R244). -/
def rowBits (items : List CtuItem) (side : Nat) : Nat := (Config.codedBits (items.map (·.name)) side).toNat

/-- The motion summary a task's engine writes at commit (R192): of its first-reference coarse best vectors; a rescue coding's yields WV = (0, 0). -/
def Dev.summaryOf (d : Dev) (t : Task) : Int × Int :=
  if t.qp = 255 then (0, 0)
  else motionSummary ((d.rowOf t.chan t.pic t.row).coarseItems.filterMap (fun x => (x.cands.head?).bind (·.head?))) (d.ctuInputs t 0)

/-- The size of a component of a picture of `w` by `h` (R130). -/
def componentSize (f w h comp : Nat) : Nat × Nat :=
  if comp = 0 then (w, h) else (if f < 4 then ceilDiv w 2 else w, if f < 2 then ceilDiv h 2 else h)

/-- The reconstruction digest of a picture (R272). -/
def Dev.pictureDigest (d : Dev) (n k : Nat) (p : List Byte) : Nat :=
  let f := pFormat p
  let comps := if chromaFormat f = 0 then [0] else [0, 1, 2]
  let bytes := comps.flatMap (fun comp =>
    let s := componentSize f (pWidth p) (pHeight p) comp
    let lines := if comp ≠ 0 ∧ f < 2 then 32 else 64
    (rasterOf s.1 s.2).flatMap (fun o => leBytes 2 (Config.codedSample (d.rowNames n k (o.2 / lines)) comp o.1 (o.2 % lines)).toNat))
  crcOf 1 (leBytes 4 k) bytes

end Sys2Proof.Machine
end

