-- ==== Sys2Proof/Machine/Engines.lean ====
section
/-! DEFINITION. Engines at work: takes, steals, asks and pre-emption (R220 to R224, R369 to R371), the window cache (R192 to
R196), tokens (R215), commits (R188, R249), engine and dispatcher faults (R228 to R230), and rescue (R231 to R233). -/
namespace Sys2Proof.Machine

/-! ### The window cache (R192 to R195) -/

/-- The tags of engine `e`. -/
def Dev.cacheOf (d : Dev) (e : Nat) : List CacheTag := (assoc d.caches e).getD []

/-- CACHE.VALID and the tags. -/
def Dev.putCache (d : Dev) (e : Nat) (l : List CacheTag) : Dev :=
  ({ d with caches := assocPut d.caches e l }).setF F.ENG_CACHE_VALID (l.foldl (fun m (t : CacheTag) => setBit m t.slot) 0) e

/-- Whether two tags name the same strip (R195). -/
def CacheTag.same (a b : CacheTag) : Bool := a.ref == b.ref && a.chan == b.chan && a.col == b.col && a.y0 == b.y0

/-- The tag of strip `j` of the window of CTU `c` for the `i`-th reference `q` (R193). -/
def stripTag (t : Task) (i q c j : Nat) (wv : Int × Int) : CacheTag :=
  let col : Int := 64 * (c : Int) + wv.1 - 160 + 64 * (j : Int)
  { slot := 6 * i + ((col + 160) / 64 % 6).toNat, ref := q, chan := t.chan, col := col, y0 := 64 * (t.row : Int) + wv.2 - 96 }

/-- Strips `js` of the window of CTU `c`, of each reference a task searches. -/
def Dev.stripsOf (d : Dev) (t : Task) (c : Nat) (js : List Nat) : List CacheTag :=
  t.searched.zipIdx.flatMap (fun x => js.map (fun j => stripTag t x.2 x.1 c j (d.windowVector t.chan t.pic x.1 t.row)))

/-- Strips come into their slots: every one that some tag of the cache matches is used without a fetch (R194, R195). All are matched before any
slot is filled. -/
def Dev.takeStrips (d : Dev) (e : Nat) (need : List CacheTag) : Dev :=
  let old := d.cacheOf e
  let fetched := need.filter (fun g => !old.any (fun t => t.same g))
  let rest := old.filter (fun t => !need.any (fun g => g.slot == t.slot || g.same t))
  (d.putCache e (rest ++ need)).count C.ENG_FETCH e 0 fetched.length

/-- WINDOW and CACHE.LEFT_X (R208): WV of the first reference, and x0 of the window of the CTU in stage 3. -/
def Dev.showWindow (d : Dev) (e : Nat) (t : Task) : Dev :=
  let wv := match t.searched with | q :: _ => d.windowVector t.chan t.pic q t.row | [] => (0, 0)
  ((d.setF F.ENG_WINDOW_WV_X (wrapInt 16 wv.1) e).setF F.ENG_WINDOW_WV_Y (wrapInt 16 wv.2) e).setF
    F.ENG_CACHE_LEFT_X (wrapInt 16 (64 * (t.fineCtu : Int) + wv.1 - 160)) e

/-- The strips a task needs at its start, or where it resumes (R194, R205). -/
def Dev.fillWindow (d : Dev) (e : Nat) (t : Task) : Dev :=
  (d.showWindow e t).takeStrips e (d.stripsOf t t.progress (List.range 6))

/-- The window slides to CTU `c`: one strip on the right for each reference searched (R194). -/
def Dev.slideWindow (d : Dev) (e : Nat) (t : Task) (c : Nat) : Dev := d.takeStrips e (d.stripsOf t c [5])

/-- CACHE_INVAL (R195): every tag of the engine is discarded. -/
def Dev.cacheInval (d : Dev) (e : Nat) : Dev := d.putCache e []

/-! ### Context slots (R369 to R371) -/

/-- Context slots in use. -/
def Dev.ctxUsed (d : Dev) : Nat := (d.tasks.filter (fun t => t.saved.isSome)).length

/-- STATUS.CTX_USED and CTX_FULL. -/
def Dev.showCtx (d : Dev) : Dev := d.setF F.XLAT_STATUS_CTX_USED d.ctxUsed

/-- The first free context slot. -/
def Dev.freeCtx (d : Dev) : Option Nat := (List.range 1024).find? (fun k => !d.tasks.any (fun t => t.saved == some k))

/-! ### Rescue (R231 to R233) -/

/-- An instance restarts from its row start, with the same token and GEN (R232). -/
def Task.restart (t : Task) : Task := { t with coarse := 0, progress := 0, saved := none, waits := false }

/-- What a row has published is gone: its CTUs are coded again. -/
def RowSt.blank (x : RowSt) : RowSt := { x with coarse := 0, progress := 0, coarseItems := [], items := [] }

/-- Rows below that used tokens of row `r` start again, in turn (R232): an instance that used one restarts, and what such a row has published is
gone. `m` rows are still to be looked at. -/
def Dev.restartBelow (n k : Nat) : Nat → Nat → Dev → Dev
  | 0, _, d => d
  | m + 1, r, d =>
    let x := d.rowOf n k (r + 1)
    let used := d.tasks.filter (fun t => t.kind = 0 ∧ t.chan = n ∧ t.pic = k ∧ t.row = r + 1 ∧ 0 < t.coarse)
    if x.done ∨ x.lane.isSome = true ∨ (used.isEmpty ∧ x.coarse = 0) then d
    else
      let d1 := (Dev.each used (fun t d => d.putTask t.restart) d).updRow n k (r + 1) RowSt.blank
      Dev.restartBelow n k m (r + 1) d1.showCtx

/-- Give a row to a rescue coder lane (R231). The instances of the row return RESCUED and rows below restart. -/
def Dev.startRescue (d : Dev) (n k r : Nat) (late : Bool) : Dev :=
  let d0 := d.ensurePlan n k
  let x := d0.rowOf n k r
  let never := !x.fixed
  let d1 := match ((d0.chan n).pic k).bind (·.plan) with
    | some plan => if never then
        (let c := d0.chan n
         let w := d0.rowCost c.params plan.intra (((c.pic k).getD { index := k }).sideWords r)
         let prev := if r = 0 then 0 else (d0.rowOf n k (r - 1)).rung
         let bad := ((c.pic k).getD { index := k }).rowBad (pHeight c.params) r || x.concealed
         let e0 := d0.updRow n k r (fun x =>
           { x with
             qp := 255, rung := prev, effort := d0.effortFloor c.params, w := w, cap := w, share := getAt 0 plan.shares r, fixed := true, concealed := bad })
         if bad then (e0.count C.CHAN_CONCEAL n).exceptional n k r 2 else e0)
      else d0
    | none => d0
  let ts := d1.tasks.filter (fun t => t.kind = 0 ∧ t.chan = n ∧ t.pic = k ∧ t.row = r)
  let home := (n + r) % 8
  let cl := match ts.getLast? with | some t => t.engine / 16 | none => match x.holder with | some e => e / 16 | none => home
  let die := (match x.holder with | some e => e / 16 | none => home) / 4
  let lane := if d1.lanesBusy die < 128 then die else 1 - die
  let d2 := Dev.each ts (fun t d => ((((d.dropTask t.token).returnToken t .rescued).showAt t.engine).fillSlot t.engine).showCtx) d1
  let d3 := (d2.moveLane lane true).count C.DISPATCH_RESCUED cl
  let d4 := if never ∧ late = true then d3.count C.DISPATCH_UNISSUED home else d3
  let d5 := d4.updRow n k r (fun x => { x.blank with phase := .issued, late := true, forLateness := late, lane := some lane })
  let d6 := Dev.restartBelow n k (pRows (d5.chan n).params) r d5
  let d7 := if late then d6.raise .dispatch cl 1 else d6
  let d8 := { d7 with twin := { d7.twin with vigilTick := d7.tick } }
  let c := d8.chan n
  let joinBad := c.lock == .joining && (match c.normalFrom with | some q => decide (q ≤ k) | none => false)
  let d9 := if joinBad then d8.joinFails n else d8
  if late then d9.exceptional n k r 1 else d9

/-- Whether RESCUE applies to a row: LIVE, past its RESCUE_AT, no committed instance, not resumed, not in a lane (R231, R232). -/
def Dev.rescueDue (d : Dev) (n k r : Nat) : Bool :=
  let c := d.chan n
  let x := d.rowOf n k r
  pClass c.params == 0 && decide (2 ≤ d.chanState n) && (c.pic k).isSome && decide (r < pRows c.params) &&
  !x.done && x.phase != .cancelled && x.lane.isNone && !x.resumed &&
  (match x.arrival with | some a => decide (0 ≤ nsDiff d.ns (d.rescueAt n a)) | none => false) &&
  (r == 0 || (let y := d.rowOf n k (r - 1); y.done || y.lane.isSome || y.phase == .issued))

/-- RESCUE (R231). -/
def Dev.rescue (d : Dev) (n k r : Nat) : Dev := if d.rescueDue n k r then d.startRescue n k r true else d

/-! ### Pictures complete (R239, R257, R272) -/

/-- All rows of a picture are in: its size, the digest of R272, RUNG_LAST. The exact size of the other NAL units is open up to
the bound O (log entry 12). -/
def Dev.tryComplete (d : Dev) (n k : Nat) : Dev :=
  let c := d.chan n
  match c.pic k with
  | none => d
  | some p =>
    let rows := (List.range (pRows c.params)).map (fun r => p.row r)
    if p.complete = false ∧ rows.all (fun x => x.done) then
      let o := (p.plan.map (·.overhead)).getD 0
      let other := d.freeBits 32 % (o + 1)
      let bits := (rows.map (·.bits)).foldl (· + ·) 0 + other
      let top := (rows.map (·.rung)).foldl max 0
      let d1 := d.drawn
      (d1.putChan n { (d1.chan n).putPic { p with complete := true, bits := bits, recon := d1.pictureDigest n k ((p.plan.map (·.block)).getD c.params) } with rungLast := top }).updRecovery
    else d.updRecovery

/-- The row task whose rescue coding a lane commits: only what R242 names of it matters. -/
def Dev.laneTask (d : Dev) (n k r : Nat) : Task :=
  let plan := (((d.chan n).pic k).bind (·.plan))
  let z := (plan.map (fun x => (x.intra, x.ref0, x.ref1))).getD (true, none, none)
  { rank := 0, order := 0, kind := 0, chan := n, row := r, pic := k, effort := 0, qp := 255, skipBias := false, intra := z.1, deferred := false,
    conceal := false, resumed := false, token := 0, arrival := 0, rescueAt := 0, departAt := 0, ref0 := z.2.1, ref1 := z.2.2, concealSrc := none,
    gen := 0, affinity := none, slot := 0, steal := 0, xsteal := 0, place := .list 0, wait := 0 }

/-- The coded size of a row's rescue coding, within its cost w (R243, R250). -/
def rescueBits (x : RowSt) (items : List CtuItem) : Nat := min x.w (rowBits items x.side)

/-- A rescue lane commits the rescue coding of a row (R231, R242). A lane follows that of the row above. -/
def Dev.rescueCommit (d : Dev) (n k r : Nat) : Dev :=
  let x := d.rowOf n k r
  match x.lane with
  | none => d
  | some die =>
    if r ≠ 0 ∧ (d.rowOf n k (r - 1)).done = false then d
    else
      let all := pCtus (d.chan n).params
      let items := d.rescueItems (d.laneTask n k r)
      let d1 := d.moveLane die false
      let d2 := d1.updRow n k r (fun x =>
        { x with
          phase := .rescued, lane := none, bits := rescueBits x items, summary := (0, 0), begun := true, coarse := all, progress := all, coarseItems := [],
          items := items })
      d2.tryComplete n k

/-! ### Taking a task (R220, R221, R223) -/

/-- Whether engine `e` can begin a task: powered, not fenced, idle. -/
def Dev.engineIdle (d : Dev) (e : Nat) : Bool :=
  !d.fenced 3 e && !d.fenced 4 (e / 16) && decide (d.domState e = 0) && (d.runOf e).isNone && decide (d.getF F.ENG_STATE_PHASE e ≠ 0)

/-- Engine `e` begins a task: the saved context where one is good (R370), the counters, the window. -/
def Dev.beginTask (d : Dev) (t : Task) (e : Nat) (ctxGood : Bool) : Dev :=
  let wait := ((d.ns + 2 ^ 32 - t.wait % 2 ^ 32) % 2 ^ 32) / 100
  let from_ := t.engine
  let d1 := if t.saved.isSome ∧ ctxGood = false then d.count C.XLAT_CTX_BAD else d
  let t1 := if t.saved.isSome ∧ ctxGood = true then { t with saved := none, coarse := t.progress, waits := false } else t.restart
  let t2 := { t1 with place := .run e, start := d.ns, saving := false }
  let d2 := ({ d1 with fresh := d1.fresh.filter (fun x => x ≠ e), given := d1.given.filter (fun x => x ≠ e) }).putTask t2
  let d3 := d2.count C.DISPATCH_TAKEN (e / 16)
  let d4 := if t.affinity = some e then d3.count C.DISPATCH_AFFINITY (e / 16) else d3
  let d5 := if t.live then d4.maxF F.DISPATCH_MAX_WAIT wait (e / 16) else d4
  let d6 := if t.kind = 0 then d5.updRow t.chan t.pic t.row (fun x => { x with begun := true, holder := some e }) else d5
  let d7 := if t.kind = 0 then d6.fillWindow e t2 else d6
  ((d7.showAt from_).showAt e).fillSlot e |>.showCtx

/-! ### Faults and re-issue (R206, R228 to R230) -/

/-- Fencing an engine clears the affinity entries that name it (R219), its tags and its release. -/
def Dev.fenceEngine (d : Dev) (e cause : Nat) : Dev :=
  let clear := fun (c : Nat × Chan) => (c.1, { c.2 with affinity := c.2.affinity.filter (fun a => a.2 ≠ e) })
  ((({ d with chans := d.chans.map clear }).fence 3 e cause).putCache e []).showShed

/-- Place an instance again under R219, among the lists of cluster `c` first where it keeps its wait. Where no list has room the row waits for its
re-issue, and an instance that stood on a list returns CANCELLED (R214). -/
def Dev.replace (d : Dev) (t : Task) (c : Nat) (keepWait : Bool) : Dev :=
  let target := if keepWait then (d.bestList c t.live).orElse (fun _ => d.placeFor t.chan t.row none t.live) else d.placeFor t.chan t.row none t.live
  let d0 := d.dropTask t.token
  match target with
  | some e =>
    let t1 := { t with place := .list e, wait := if keepWait then t.wait else d.ns }
    let d1 := { d0 with tasks := d0.tasks ++ [t1] }
    let d2 := if keepWait then d1 else d1.count C.DISPATCH_ISSUED (e / 16)
    ((((d2.showAt e).wakeFor e t.live).wakeFor (128 + e / 16) t.live).wakeFor (156 + e / 64) t.live).fillSlot e
  | none =>
    if t.kind ≠ 0 then d0.decodeLost t
    else
      let d1 := if keepWait then (d0.returnToken t .cancelled).countCancelled t.engine else d0
      d1.updRow t.chan t.pic t.row (fun x => { x with phase := .waiting, gen := if keepWait then t.gen + 1 else t.gen })

/-- The instance that engine `e` ran is superseded by a re-issue with GEN + 1 (R228), or, with GEN 3, is not (R230): a
DEFERRED row is then rescue-coded at once. -/
def Dev.supersede (d : Dev) (t : Task) (c : Nat) : Dev :=
  let d1 := (((d.dropTask t.token).returnToken t .cancelled).countCancelled t.engine).showCtx
  if 3 ≤ t.gen then
    if t.kind = 0 ∧ t.deferred = true then d1.startRescue t.chan t.pic t.row false else d1.decodeLost t
  else
    let (tok, d2) := d1.newToken
    let t1 := d2.described { t.restart with token := tok, gen := t.gen + 1, affinity := none, rank := d2.nextOrder, order := d2.nextOrder }
    let d3 := { d2 with nextOrder := d2.nextOrder + 1, tasks := d2.tasks ++ [t1] }
    let d4 := if t.kind = 0 then d3.updRow t.chan t.pic t.row (fun x => { x with gen := t1.gen }) else d3
    (d4.count C.DISPATCH_REISSUED c).replace t1 c false

/-- The record of the last faulted instance of cluster `c`. -/
def Dev.noteFault (d : Dev) (c e cause : Nat) (t : Option Task) : Dev :=
  let d1 := ((d.setF F.DISPATCH_LAST_FAULT_CHANNEL ((t.map (·.chan)).getD 0) c).setF F.DISPATCH_LAST_FAULT_ROW ((t.map (·.row)).getD 0) c).setF
    F.DISPATCH_LAST_FAULT_GEN ((t.map (·.gen)).getD 0) c
  ((d1.setF F.DISPATCH_LAST_FAULT_ENGINE (e % 16) c).setF F.DISPATCH_LAST_FAULT_CAUSE cause c).raise .dispatch c 0

/-- What the row below has used of a row's tokens, CTUs counted (R215). -/
def Dev.usedBelow (d : Dev) (t : Task) (coarse : Bool) : Nat :=
  match d.tasks.find? (fun u => u.kind = 0 ∧ u.chan = t.chan ∧ u.pic = t.pic ∧ u.row = t.row + 1) with
  | some u => let c := if coarse then u.coarse else u.progress; if c = 0 then 0 else c + 1
  | none => if (d.rowOf t.chan t.pic (t.row + 1)).done then 256 else 0

/-- A mismatch found in a published item (R188): what the row below has not used is discarded, and waits to be published again. -/
def Dev.discardItems (d : Dev) (t : Task) : Dev :=
  if t.kind ≠ 0 then d
  else
    let m := d.usedBelow t true
    let g := d.usedBelow t false
    d.updRow t.chan t.pic t.row (fun (x : RowSt) =>
      { x with coarse := min x.coarse m, progress := min x.progress g, coarseItems := x.coarseItems.take m, items := x.items.take g })

/-- An engine fault (R206, R228): `bit_` is its bit in ENG.FAULT where it has one, `why` LAST_FAULT.CAUSE. -/
def Dev.engineFault (d : Dev) (e : Nat) (bit_ : Option Nat) (stage why : Nat) : Dev :=
  if d.fenced 3 e then d
  else
    let t := d.runOf e
    let c := e / 16
    let d1 := match bit_ with | some b => d.setF F.ENG_FAULT (setBit (d.getF F.ENG_FAULT e) b) e | none => d
    let ctx := match t with | some t => t.chan % 128 + 2 ^ 8 * (t.row % 256) + 2 ^ 16 * (t.progress % 256) | none => 0
    let d1 := match t with | some t => if bit_ = some 4 then d1.drawn.xlatOpen (2 + d1.freeBits 2) (if t.kind = 1 then 128 + t.chan else t.chan) else d1 | none => d1
    let d2 := d1.setF F.ENG_FAULT_CTX (ctx + 2 ^ 24 * (stage % 16)) e
    let d3 := if bit_ = some 2 then d2.count C.ENG_PUBLISH_ERR e else d2
    let d3 := match t with | some t => if bit_ = some 2 then d3.discardItems t else d3 | none => d3
    let waiting := d3.entriesOf e
    let d4 := d3.fenceEngine e ((bit_.map (· + 1)).getD 0)
    let d5 := match t with | some t => d4.supersede t c | none => d4
    let d6 := Dev.each waiting (fun t d => d.replace t c true) d5
    ((d6.showEngine e).showCluster c).noteFault c e why t

/-- An engine takes a task from its slot or its list (R220): `dchk` whether the descriptor is read without error, `ctxGood` whether a saved context
passes its check. -/
def Dev.taskTake (d : Dev) (e : Nat) (dchk ctxGood : Bool) : Dev :=
  if d.engineIdle e = false ∨ d.mustAsk e = true ∨ d.flag F.ENG_CTRL_HOLD e = true then d
  else
    match (d.slotOf e).orElse (fun _ => (d.listOf e).find? d.eligible) with
    | none => d
    | some t => if dchk && descGood t.desc then d.beginTask t e ctxGood else (d.beginTask t e ctxGood).engineFault e (some 3) 0 1

/-! ### Stealing and asking (R221, R223) -/

/-- Whether an entry has waited for `delay` units of 0.1 µs. -/
def Dev.waited (d : Dev) (t : Task) (delay : Nat) : Bool := decide (delay * 100 ≤ (d.ns + 2 ^ 32 - t.wait % 2 ^ 32) % 2 ^ 32)

/-- The steal delays of an entry (R221): its own, or the TIMERS values for DEFERRED and decode tasks. -/
def Dev.stealOf (d : Dev) (t : Task) : Nat := if t.live then t.steal else d.getF F.DISPATCH_TIMERS_STEAL_DLY

/-- The cross-cluster delay of an entry. -/
def Dev.xstealOf (d : Dev) (t : Task) : Nat := if t.live then t.xsteal else d.getF F.DISPATCH_TIMERS_XSTEAL_DLY

/-- The first of several entries in the order of R217, ties to the one listed first. -/
def firstEntry : List Task → Option Task
  | [] => none
  | t :: rest => match firstEntry rest with | some u => some (if u.before t then u else t) | none => some t

/-- The clusters other than `c` in the order of ties: same die first, then ascending. -/
def otherClusters (c : Nat) : List Nat := ((List.range 8).filter (fun k => k ≠ c ∧ k / 4 = c / 4)) ++ (List.range 8).filter (fun k => k / 4 ≠ c / 4)

/-- What an idle engine steals (R221), and whether it crosses clusters. -/
def Dev.stealChoice (d : Dev) (e : Nat) : Option (Task × Bool) :=
  let c := e / 16
  let near := if d.flag F.DISPATCH_CTRL_STEAL_EN c then
      firstEntry (((clusterEngines c).filter (fun x => x ≠ e)).flatMap (fun x => (d.entriesOf x).filter (fun t => d.eligible t && d.waited t (d.stealOf t)))) else none
  match near with
  | some t => some (t, false)
  | none =>
    if d.flag F.DISPATCH_CTRL_XSTEAL_EN c then
      (firstEntry ((otherClusters c).flatMap (fun k => (clusterEngines k).flatMap (fun x =>
        (d.entriesOf x).filter (fun t => d.eligible t && d.waited t (d.xstealOf t)))))).map (fun t => (t, true))
    else none

/-- STEAL (R221): an idle engine with an empty slot and no eligible entry of its own. -/
def Dev.steal (d : Dev) (e : Nat) (dchk ctxGood : Bool) : Dev :=
  if d.engineIdle e = false ∨ d.mustAsk e = true ∨ d.flag F.ENG_CTRL_HOLD e = true ∨ (d.slotOf e).isSome = true ∨
      (d.listOf e).any d.eligible = true then d
  else
    match d.stealChoice e with
    | none => d
    | some (t, cross) =>
      let d1 := (d.beginTask t e ctxGood).count (if cross then C.DISPATCH_XSTEAL else C.DISPATCH_STEAL) (e / 16)
      if dchk && descGood t.desc then d1 else d1.engineFault e (some 3) 0 1

/-- What the dispatcher answers an ask with (R223). -/
def Dev.askChoice (d : Dev) (e : Nat) : Option Task :=
  let own := (d.listOf e).find? d.eligible
  let near := firstEntry ((clusterEngines (e / 16)).flatMap (fun x => (d.entriesOf x).filter d.eligible))
  let all := firstEntry ((List.range 128).flatMap (fun x => (d.entriesOf x).filter d.eligible))
  (own.orElse (fun _ => near)).orElse (fun _ => all)

/-- Whether engine `e` may ask: in ask-and-block service, and with HOLD set only once GIVE released it (R223). -/
def Dev.mayAsk (d : Dev) (e : Nat) : Bool :=
  d.engineIdle e && (d.mustAsk e || (d.flag F.ENG_CTRL_HOLD e && decide (d.mode = 5))) &&
  (!d.flag F.ENG_CTRL_HOLD e || d.given.contains e)

/-- ASK (R223): with nothing eligible anywhere the engine blocks in IDLE, and asks again. -/
def Dev.ask (d : Dev) (e : Nat) (dchk ctxGood : Bool) : Dev :=
  if d.mayAsk e = false then d
  else
    match d.askChoice e with
    | none => d
    | some t => if dchk && descGood t.desc then d.beginTask t e ctxGood else (d.beginTask t e ctxGood).engineFault e (some 3) 0 1

/-- GIVE (R223): GO releases one ask of a held engine in Maintenance. -/
def Dev.give (d : Dev) (c k : Nat) (go : Bool) : Dev :=
  let e := 16 * c + k
  if go ∧ d.mode = 5 ∧ d.flag F.ENG_CTRL_HOLD e = true then
    ({ d with given := if d.given.contains e then d.given else d.given ++ [e] }).ask e true true
  else d

/-- HOLD (R207): written in Maintenance only. -/
def Dev.hold (d : Dev) (e : Nat) (on : Bool) : Dev := if d.mode = 5 then d.setFlag F.ENG_CTRL_HOLD on e else d

/-! ### Pre-emption (R224, R369 to R371) -/

/-- Whether some engine of the device is idle and can take work. -/
def Dev.anyIdle (d : Dev) : Bool := (List.range 128).any (fun e => d.engineIdle e && !d.flag F.ENG_CTRL_HOLD e)

/-- An engine that runs a DEFERRED or decode task and is not already saving. -/
def Dev.preemptible (d : Dev) (e : Nat) : Bool :=
  match d.runOf e with
  | some t => !t.live && decide (t.kind < 2) && !t.saving && !d.fenced 3 e
  | none => false

/-- The pre-empted task returns to the head of the non-LIVE part of list `e`, with a new wait (R224); where that list has no room (R217), to another
list under R219. -/
def Dev.returnHead (d : Dev) (t : Task) (e : Nat) : Dev :=
  if d.listRoom e false then
    let low := (d.tasks.filter (fun u => u.place = .list e ∧ u.live = false)).foldl (fun m u => min m u.rank) t.rank
    let t1 := { t with place := .list e, wait := d.ns, rank := low - 1, saving := false, waits := false }
    ((d.putTask t1).showAt e).showCtx
  else (d.replace { t with wait := d.ns, saving := false, waits := false } (e / 16) true).showCtx

/-- A task that leaves a slot unstarted goes back to list `e`, or where that has no room (R217) to another. -/
def Dev.putBack (d : Dev) (u : Task) (e : Nat) : Dev :=
  if d.listRoom e u.live then d.putTask { u with place := .list e } else d.replace u (e / 16) true

/-- PREEMPT (R224) for the LIVE entries of cluster `c`: the engine's task begins its save, or with no context slot free returns
at once to restart (R371), and the entry goes into the engine's slot. -/
def Dev.preempt (d : Dev) (c : Nat) : Dev :=
  if d.anyIdle then d
  else
    match firstEntry ((clusterEngines c).flatMap (fun x => (d.entriesOf x).filter (fun t => t.live && d.eligible t && d.waited t t.steal))) with
    | none => d
    | some t =>
      let home := t.engine
      let victim := if d.preemptible home then some home
        else ((clusterEngines c).find? d.preemptible).orElse (fun _ => (List.range 128).find? d.preemptible)
      match victim with
      | none => d
      | some e =>
        match d.runOf e with
        | none => d
        | some v =>
          let back := (d.slotOf e).toList.filter (fun u => u.token ≠ t.token)
          let d0 := Dev.each back (fun u d => d.putBack u e) d
          let d1 := (d0.putTask { t with place := .slot e }).count C.DISPATCH_PREEMPT c
          let d2 := if d1.ctxUsed < 1024 then
              (d1.putTask { v with saving := true, back := home, waits := false }).setFlag F.XLAT_STATUS_CTX_FULL false
            else
              let e1 := (d1.returnHead v.restart home).setFlag F.XLAT_STATUS_CTX_FULL true
              if d1.flag F.XLAT_STATUS_CTX_FULL then e1 else e1.raise .xlat 0 4
          (d2.showAt home).showAt e

/-- CONTEXT_SAVE (R370): CHECK is written and the task returns to its list, or the save faults and it restarts from its row
start (R224). -/
def Dev.contextSave (d : Dev) (e : Nat) (ok : Bool) : Dev :=
  match d.runOf e with
  | none => d
  | some t =>
    if t.saving = false then d
    else
      let home := if d.engineUp t.back then t.back else e
      if ok then
        match d.freeCtx with
        | none => (d.returnHead t.restart home).showAt e
        | some k => ((d.returnHead { t with saved := some k, coarse := t.progress } home).count C.XLAT_SAVES).showAt e
      else
        let d1 := ((d.returnHead t.restart home).count C.XLAT_SAVE_FAULT).raise .xlat 0 3
        (d1.raise .dispatch (e / 16) 3).showAt e

/-! ### Tokens (R215, R216) -/

/-- CTUs of row `r` − 1 whose progress tokens (or coarse tokens) are out. -/
def Dev.aboveTokens (d : Dev) (t : Task) (coarse : Bool) : Nat :=
  if t.kind ≠ 0 then
    match d.tasks.find? (fun u => u.kind = 1 ∧ u.chan = t.chan ∧ u.pic = t.pic ∧ u.row + 1 = t.row) with
    | some u => if coarse then u.coarse else u.progress
    | none => 256
  else
    let x := d.rowOf t.chan t.pic (t.row - 1)
    if x.done then 256 else if coarse then x.coarse else x.progress

/-- A stage that needs a token of the row above waits for it (R215). -/
def Dev.waitToken (d : Dev) (e : Nat) (t : Task) : Dev := (d.putTask { t with waits := true }).showEngine e

/-- A coarse token of an encode task (R190, R215): stage 2 leaves CTU `c`, whose strip stage 1 has fetched (R194). -/
def Dev.publishCoarse (d : Dev) (e : Nat) (t : Task) (c : Nat) : Dev :=
  let item := d.coarseOf t c
  let t1 := { t with coarse := c + 1, waits := false }
  let d1 := (d.putTask t1).updRow t.chan t.pic t.row (fun (x : RowSt) => { x with coarse := max x.coarse (c + 1), coarseItems := putItem x.coarseItems c item })
  let d2 := if c = 0 then d1 else d1.slideWindow e t c
  (d2.showWindow e t1).showEngine e

/-- What CTU `c` of an encode task is coded to: by the rescue coding for a rescue task (R252). -/
def Dev.itemOf (d : Dev) (t : Task) (c : Nat) : CtuItem :=
  if t.qp = 255 then d.rescueCtu t ((d.rowOf t.chan t.pic t.row).items.take c) c else d.codedCtu t c

/-- The counters of a CTU that leaves stage 6 (R208). -/
def Dev.countCtu (d : Dev) (e cycles stall : Nat) : Dev :=
  (((d.count C.ENG_CTUS e).setF F.ENG_CYC_LAST cycles e).maxF F.ENG_CYC_MAX cycles e).count C.ENG_STALL e 0 stall

/-- A progress token of an encode task (R215). A rescue task, which runs no stage 1 to 3, publishes both of its tokens here (R252). -/
def Dev.publishProgress (d : Dev) (e : Nat) (t : Task) (c : Nat) : Dev :=
  let item := d.itemOf t c
  let early := if t.qp = 255 then c + 1 else t.coarse
  let t1 := { t with progress := c + 1, coarse := early, waits := false }
  let d1 := (d.putTask t1).updRow t.chan t.pic t.row (fun (x : RowSt) =>
    { x with progress := max x.progress (c + 1), coarse := max x.coarse early, items := putItem x.items c item })
  (d1.showWindow e t1).showEngine e

/-- A token of a decode task: the unit that feeds it shows its CTU. -/
def Dev.publishDecode (d : Dev) (e : Nat) (t : Task) (coarse : Bool) (c : Nat) : Dev :=
  let t1 := if coarse then { t with coarse := c + 1, waits := false } else { t with progress := c + 1, waits := false }
  let d1 := d.putTask t1
  let unit := if coarse then none else (assoc d1.decs t.chan).bind (fun x => x.pic.bind (fun (p : DecPic) => (p.units.find? (fun y => y.1 = t.row)).map (·.2)))
  let d2 := match unit with | some u => d1.setF F.DECODE_STATE_CTU c u | none => d1
  d2.showEngine e

/-- Whether a token may come next: there is a CTU left, a coarse token stays within the pipeline (R184), a progress token follows its coarse one, and a
rescue task has no coarse tokens of its own (R252). -/
def Task.mayPublish (t : Task) (coarse : Bool) (ctus : Nat) : Bool :=
  !t.saving && decide (t.kind < 2) &&
  (if coarse then decide (t.coarse < ctus) && (decide (t.kind = 1) || (decide (t.qp ≠ 255) && decide (t.coarse ≤ stageCtu t.progress 2)))
   else decide (t.progress < ctus) && (decide (t.kind = 0 ∧ t.qp = 255) || decide (t.progress < t.coarse)))

/-- TOKEN_PUBLISH: the next coarse or progress token of the row engine `e` codes. A stage that spent more than twice the bound of R185 on the CTU is a
WATCHDOG fault instead (R206); which of the stages 3 to 6 it was is open. -/
def Dev.tokenPublish (d : Dev) (e : Nat) (coarse : Bool) (cycles stall refetch : Nat) : Dev :=
  match d.runOf e with
  | none => d
  | some t =>
    let p := d.taskBlock t
    let ctus := if t.kind = 0 then pCtus (d.chan t.chan).params else 256
    let c := if coarse then t.coarse else t.progress
    if t.mayPublish coarse ctus = false then d
    else if t.row ≠ 0 ∧ d.aboveTokens t coarse < min (c + 2) ctus then d.waitToken e t
    else if t.kind = 0 ∧ 2 * ctuBound p t.effort t.row c < cycles then
      d.drawn.engineFault e (some 1) (if coarse then 2 else 3 + d.freeBits 2) 0
    else
      let d0 := d.count C.ENG_REFETCH e 0 refetch
      let d1 := if t.kind = 1 then d0.publishDecode e t coarse c else if coarse then d0.publishCoarse e t c else d0.publishProgress e t c
      if coarse then d1 else d1.countCtu e cycles stall

/-! ### Commit (R188, R249) -/

/-- Re-issue an overrun row as a rescue task with GEN + 1 (R249, R252). -/
def Dev.overrun (d : Dev) (t : Task) : Dev :=
  let n := t.chan
  let d1 := (d.countRec n 3).updRow n t.pic t.row (fun x => { x.blank with replaced := true })
  let d2 := Dev.restartBelow n t.pic (pRows (d1.chan n).params) t.row d1
  let (tok, d3) := d2.newToken
  let t1 : Task := d3.described { t.restart with
    token := tok, gen := t.gen + 1, qp := 255, skipBias := false, effort := d3.effortFloor (d3.chan n).params, rank := d3.nextOrder, order := d3.nextOrder, affinity := none }
  let d4 := { d3 with nextOrder := d3.nextOrder + 1, tasks := d3.tasks ++ [t1] }
  (d4.updRow n t.pic t.row (fun x => { x with gen := t1.gen })).replace t1 (t.engine / 16) false

/-- The coded size of the row a task codes, in bits: a rescue task's is within the cost w (R243, R244). -/
def Dev.taskBits (d : Dev) (t : Task) : Nat :=
  let x := d.rowOf t.chan t.pic t.row
  if t.qp = 255 then rescueBits x x.items else rowBits x.items x.side

/-- ROW_COMMIT: engine `e` commits the row it codes, after `cycles` from task start. Its substream, reconstruction and motion summary are what its
CTUs came to (R187). Refused at or after RESCUE_AT (R231). -/
def Dev.rowCommit (d : Dev) (e cycles : Nat) : Dev :=
  match d.runOf e with
  | none => d
  | some t =>
    let ctus := pCtus (d.chan t.chan).params
    let lateNow := t.live && !t.resumed && decide (0 ≤ nsDiff d.ns t.rescueAt)
    if t.kind ≠ 0 ∨ t.saving = true ∨ t.progress < ctus ∨ lateNow = true then d
    else
      let n := t.chan
      let x := d.rowOf n t.pic t.row
      let size := d.taskBits t
      let sum := d.summaryOf t
      let d1 := (((d.dropTask t.token).returnToken t .committed).count C.ENG_ROWS e).setF F.ENG_ROW_CYC cycles e
      let d2 := d1.putChan n { d1.chan n with affinity := assocPut (d1.chan n).affinity t.row e }
      if x.cap < size then ((d2.overrun { t with place := .list e }).showAt e).fillSlot e
      else
        let d3 := d2.updRow n t.pic t.row (fun x => { x with phase := .committed, bits := size, summary := sum, coarse := ctus, progress := ctus, begun := true })
        (((d3.tryComplete n t.pic).showAt e).fillSlot e).showCtx

/-! ### Silence and dispatcher heartbeats (R229) -/

/-- ENGINE_SILENCE: a running engine has published nothing for 100 µs. -/
def Dev.engineSilence (d : Dev) (e : Nat) : Dev := if (d.runOf e).isSome then d.engineFault e none 0 1 else d

/-- A dispatcher is fenced with its cluster: its entries move, its running instances are re-issued. -/
def Dev.clusterFault (d : Dev) (c : Nat) : Dev :=
  let es := clusterEngines c
  let running := es.filterMap d.runOf
  let waiting := es.flatMap d.entriesOf
  let d1 := (Dev.each es (fun e d => d.putCache e []) d).fence 4 c 2
  let clear := fun (x : Nat × Chan) => (x.1, { x.2 with affinity := x.2.affinity.filter (fun a => a.2 / 16 ≠ c) })
  let d2 := { d1 with chans := d1.chans.map clear }
  let d3 := Dev.each running (fun t d => d.supersede t c) d2
  let d4 := Dev.each waiting (fun t d => d.replace t c true) d3
  let d5 := Dev.each es (fun e d => d.showEngine e) d4
  ((d5.showCluster c).showShed).noteFault c (((running.head?).map (·.engine)).getD (16 * c)) 2 running.head?

/-- DISPATCHER_HEARTBEAT: one exchange of 1 µs; `missed` names the dispatchers heard from no more. Four misses in a row fence
the cluster (R229). -/
def Dev.dispatcherHeartbeat (d : Dev) (missed : Nat) : Dev :=
  Dev.upto 8 (fun c d =>
    if d.fenced 4 c then d
    else
      let m := if bit missed c then getAt 0 d.hbMiss c + 1 else 0
      let d1 := { d with hbMiss := setAt d.hbMiss c m }
      if 4 ≤ m then ({ d1 with hbMiss := setAt d1.hbMiss c 0 }).clusterFault c else d1) d

/-! ### SELFTEST (R207, R510) -/

/-- The engines a 16-byte mask names. -/
def engineMask (m : Nat) : List Nat := (List.range 128).filter (fun e => bit m e)

/-- The checks of SELFTEST. -/
def chkSelftest (mask : Nat) : Option (Status × Nat) := if mask % 2 ^ 128 = 0 then some (.badParam, 0x90) else none

/-- SELFTEST: every named engine that is powered and not fenced leaves a signature; `wrong` names those whose signature
differs, by `delta` (R207). While a named engine runs a task the command waits. -/
def runSelftest (c : Ctx) (mask wrong delta : Nat) (d : Dev) : Dev :=
  let named := (engineMask mask).filter (fun e => !d.fenced 3 e && !d.fenced 4 (e / 16) && decide (d.domState e = 0))
  if named.any (fun e => (d.runOf e).isSome) then d
  else
    let good := Config.selftestSignature % 2 ^ 16
    let bad := (good + 1 + delta % (2 ^ 16 - 1)) % 2 ^ 16
    let d1 := Dev.each named (fun e d =>
      let w := bit wrong e
      let d0 := d.setF F.ENG_SELFTEST (1 + (if w then 0 else 2) + 2 ^ 16 * (if w then bad else good)) e
      if w then
        let entries := d0.entriesOf e
        let d2 := d0.fenceEngine e 0
        (Dev.each entries (fun t d => d.replace t (e / 16) true) d2).showAt e
      else d0) d
    let pass := named.foldl (fun m e => if bit wrong e then m else setBit m e) 0
    (d1.commitPoint c).finish c 0x0903 .ok 0 (leBytes 16 pass ++ leBytes 2 good ++ leBytes 2 0)

end Sys2Proof.Machine
end

