-- ==== Sys2Proof/Machine/Depart.lean ====
section
/-! DEFINITION. ROW_DEPART and what follows from it: the access unit's NAL units (R170 to R175, R237, R238), filler (R253),
record segments (R364 to R366), send buffers (R378 to R384), retention (R271), slots (R148), the end of a stop (R180, R152),
and NOTE_COMPARE (R291). -/
namespace Sys2Proof.Machine

/-! ### Record segments (R363 to R366) -/

/-- Record queue `q`. -/
def Dev.recq (d : Dev) (q : Nat) : RecQueue := (assoc d.recqs q).getD {}

/-- Replace record queue `q`. -/
def Dev.putRecq (d : Dev) (q : Nat) (r : RecQueue) : Dev := { d with recqs := assocPut d.recqs q r }

/-- The fields of RECORD-BIND's parameters (R360). -/
def RecQueue.segKib (r : RecQueue) : Nat := leAt r.params 4 2
def RecQueue.segPictures (r : RecQueue) : Nat := leAt r.params 6 2
def RecQueue.ringBytes (r : RecQueue) : Nat := leAt r.params 8 4
def RecQueue.priority (r : RecQueue) : Nat := leAt r.params 1 1

/-- A segment's length in the ring: 64 header bytes and the payload, padded to 64 (R361). -/
def Segment.padded (s : Segment) : Nat := 64 + ceilDiv s.len 64 * 64

/-- The stream entry of (kind, stream), where it is bound. -/
def Dev.segStream (d : Dev) (kind stream : Nat) : Option SegStream := d.segs.find? (fun s => s.kind = kind ∧ s.stream = stream)

/-- Replace a stream entry. -/
def Dev.putSegStream (d : Dev) (s : SegStream) : Dev :=
  { d with segs := d.segs.map (fun x => if x.kind = s.kind ∧ x.stream = s.stream then s else x) }

/-- A formed segment joins its queue, or is discarded where the BITSTREAM region is full (R363). -/
def Dev.queueSegment (d : Dev) (q : Nat) (s : Segment) : Dev :=
  let r := d.recq q
  let held := (r.segs.map (·.padded)).foldl (· + ·) 0
  if r.ringBytes < held + s.padded then
    let d1 := (d.putRecq q { r with discarded := r.discarded + 1 }).count C.XLAT_OVERFLOW_SEG
    let d2 := { d1 with segs := d1.segs.map (fun (x : SegStream) => if x.kind = s.kind ∧ x.stream = s.stream then { x with gap := true } else x) }
    (d2.setFlag F.XLAT_RECQ_STATE_OVERFLOW true q).raise .xlat 0 2
  else d.putRecq q { r with segs := r.segs ++ [s] }

/-- The open segment of a stream is formed (R366): it goes to its queue, or with a VIGIL unit into the hold (R293). -/
def Dev.formSegment (d : Dev) (kind stream : Nat) (last : Bool) : Dev :=
  match d.segStream kind stream with
  | none => d
  | some x =>
    match x.seg with
    | none => d
    | some s0 =>
      let s := { s0 with flags := s0.flags + (if last then 8 else 0), tick := d.tick }
      let d1 := d.putSegStream { x with seg := none, seq := x.seq + 1 }
      if d1.recordsNow kind stream then d1.queueSegment x.queue s
      else if kind = 0 ∧ d1.role = 3 ∧ ((d1.chan stream).lock == .locked || (d1.chan stream).lock == .joining) = true then
        { d1 with vigilSegs := d1.vigilSegs ++ [(x.queue, s)] }
      else d1

/-- The bytes a block takes: header and padded content (R365). -/
def SegBlock.size (b : SegBlock) : Nat := 16 + ceilDiv b.length 8 * 8

/-- Blocks enter a stream's segment together; `flags` are those of R364 for the first block. -/
def Dev.recordBlock (d : Dev) (kind stream lineage first last streamId flags : Nat) (parts : List SegBlock) : Dev :=
  match d.segStream kind stream with
  | none => d
  | some x0 =>
    let x := if x0.lineage = lineage then x0 else { x0 with lineage := lineage, seq := 0 }
    let fresh : Segment :=
      { kind := kind, stream := stream, flags := flags + (if x.seq = 0 then 2 else 0) + (if x.gap then 4 else 0), seq := x.seq, first := first,
        last := last, lineage := lineage, len := 0, blocks := 0, streamId := streamId }
    let s := x.seg.getD fresh
    let s1 := { s with last := last, len := s.len + (parts.map (·.size)).foldl (· + ·) 0, blocks := s.blocks + parts.length, aus := s.aus + 1, parts := s.parts ++ parts }
    let d1 := d.putSegStream { x with seg := some s1, gap := x.gap && x.seg.isSome }
    let r := d1.recq x.queue
    if r.segKib * 1024 ≤ s1.len ∨ r.segPictures ≤ s1.aus then d1.formSegment kind stream false else d1

/-- An access unit and its AU_META block enter the channel's segment (R365, R366). -/
def Dev.recordAu (d : Dev) (n : Nat) (a : OpenAu) (bytes crc : Nat) : Dev :=
  let d1 := if a.disc then d.formSegment 0 n false else d
  let flags := b2n a.disc + (if a.rap then 16 else 0)
  d1.recordBlock 0 n a.lineage a.picture a.picture (pStreamId (d.chan n).params) flags
    [{ type := 1, flags := b2n a.rap + 2 * b2n a.disc, length := bytes, picture := a.picture, unit := some [n, a.lineage, a.picture] },
     { type := 3, flags := 0, length := 16, picture := a.picture, content := leBytes 4 bytes ++ leBytes 4 crc ++ leBytes 4 a.recon ++ leBytes 4 0 }]

/-! ### Access units (R170 to R173, R237, R238) -/

/-- The UUID, KIND and VERSION of a Vexlen SEI message (R171). -/
def seiHeader (kind : Nat) : List Byte :=
  [0x51, 0xC7, 0x0E, 0x3A, 0x9D, 0x24, 0x4B, 0x86, 0xA0, 0xF1, 0x6C, 0x2B, 0xE8, 0x47, 0xD9, 0x35] ++ leBytes 1 kind ++ leBytes 1 1

/-- A side data message (R172). -/
def sideMessage (l : LineRec) : List Byte :=
  seiHeader 1 ++ leBytes 2 l.line ++ leBytes 1 l.side.length ++ leBytes 3 0 ++ l.side.flatMap (leBytes 8)

/-- Whether a row is flagged in RESCUE_MAP (R164, R173, R249). -/
def RowSt.rescueMarked (x : RowSt) : Bool := x.late || x.replaced || x.rung == 3

/-- One bit per row, row 0 first. -/
def rowMap (rows : List Bool) : List Byte :=
  (List.range (ceilDiv rows.length 8)).map (fun j => BitVec.ofNat 8 ((List.range 8).foldl (fun m k => if getAt false rows (8 * j + k) then setBit m k else m) 0))

/-- The picture status message (R173). -/
def statusMessage (p : Pic) (plan : PicPlan) (rows : Nat) : List Byte :=
  let l := (List.range rows).map (fun r => p.row r)
  let con := l.map (·.concealed)
  let res := l.map (·.rescueMarked)
  let num := fun (x : List Bool) => (x.filter (fun b => b)).length
  let flags := b2n plan.discontinuity + 2 * b2n (con.any (fun b => b)) + 4 * b2n (res.any (fun b => b)) + 8 * b2n p.resetCut
  seiHeader 3 ++ leBytes 2 flags ++ leBytes 8 p.index ++ leBytes 4 plan.lineage ++ leBytes 2 rows ++ leBytes 2 (num con) ++
    leBytes 2 (num res) ++ leBytes 2 0 ++ rowMap con ++ rowMap res

/-- The entry of pane `i` in a mosaic descriptor; for a pane on another member, whose geometry no message of the ring carries,
the bytes are open (log entry 14), drawn for each pane. -/
def Dev.paneEntry (d : Dev) (mosaic i : Nat) : List Byte :=
  match (d.panesOf mosaic).find? (fun c => pPane c.2.params = i) with
  | some c =>
    let p := c.2.params
    leBytes 2 (pPaneX p) ++ leBytes 2 (pPaneY p) ++ leBytes 2 (pWidth p) ++ leBytes 2 (pHeight p) ++ leBytes 8 (pStreamId p)
  | none => leBytes 16 (Config.freeValue (d.free + i))

/-- The mosaic descriptor (R175): in full in a random access access unit, else the short form. -/
def Dev.mosaicMessage (d : Dev) (p : List Byte) (k : Nat) (full : Bool) : List Byte :=
  let m := if full then pPanes p else 0
  let body := leBytes 2 (pMosaic p) ++ leBytes 2 (pFullW p) ++ leBytes 2 (pFullH p) ++ leBytes 1 m ++ leBytes 1 (pPane p) ++ leBytes 2 0 ++
    leBytes 8 k ++ (List.range m).flatMap (fun i => d.paneEntry (pMosaic p) i)
  seiHeader 2 ++ body ++ leBytes 4 (crcOf 1 (leBytes 2 (pMosaic p)) body)

/-- Lines in ascending order. -/
def sortLines (l : List LineRec) : List LineRec := l.foldr (fun x a => a.takeWhile (fun y => decide (y.line < x.line)) ++ x :: a.dropWhile (fun y => decide (y.line < x.line))) []

/-- The NAL units that depart with row `r` (R170), in order. -/
def Dev.rowNals (d : Dev) (c : Chan) (p : Pic) (plan : PicPlan) (layers r : Nat) (eos : Bool) : List Nal :=
  let b := plan.block
  let rows := pRows c.params
  let rap := plan.kind == .idr || plan.kind == .cra
  let n := p.index - plan.rap
  let pt := match c.lastBp with | some x => p.index - x - 1 | none => 0
  let sets := some (streamParams b layers)
  let head := if r ≠ 0 then [] else
    [{ kind := 1 }] ++ (if rap || plan.changed then [2, 3, 4].map (fun k => { kind := k, params := sets : Nal }) else []) ++
    (if rap then [{ kind := 5, figure := 90000 * plan.fullness / max 1 plan.rs }] else []) ++
    [{ kind := 6, figure := pt }] ++
    (if pIntraRefresh b ≠ 0 ∧ n % pIntraRefresh b = 0 then [{ kind := 7, figure := pIntraRefresh b - 1 }] else []) ++
    (if pMosaic b ≠ 0 then [{ kind := 8, bytes := d.mosaicMessage b p.index rap }] else [])
  let lines := sortLines <| p.lines.filter (fun l => decide (64 * r ≤ l.line) && decide (l.line ≤ 64 * r + 63) && l.placed && !l.side.isEmpty)
  let side := if lines.isEmpty then [] else [{ kind := 10, bytes := lines.flatMap sideMessage : Nal }]
  let tail := if r + 1 ≠ rows then [] else
    (if bit (pFlags b) 0 then [{ kind := 11 : Nal }] else []) ++ [{ kind := 12, bytes := statusMessage p plan rows }] ++ (if eos then [{ kind := 13 }] else [])
  head ++ [{ kind := 9, figure := (p.row r).bits / 8, slice := some (sliceHead b plan p.index (p.row r)) }] ++ side ++ tail

/-! ### Closing an access unit -/

/-- CONFIDENCE contexts of the channel keep the access unit (R271). -/
def Dev.retainAu (d : Dev) (n : Nat) (a : OpenAu) (bytes : Nat) : Dev :=
  let f := fun (x : Nat × DecCtx) =>
    if x.2.kind = 1 ∧ x.2.channel = n ∧ x.2.ended = false then
      (x.1, { x.2 with retained := (x.2.retained.map (fun (u : RetainedAu) => { u with left := u.left - 1 })) ++
        [{ picture := a.picture, rap := a.rap, bytes := bytes, recon := a.recon, left := x.2.window }] })
    else x
  { d with decs := d.decs.map f }

/-- The access unit that departed is closed, `filler` bytes after its last row and AU_CRC `crc` over it: PIC_DIGEST (R286), the
record segment (R366), retention. -/
def Dev.closeAu (d : Dev) (n filler crc : Nat) : Dev :=
  let c := d.chan n
  match c.au with
  | none => d
  | some a =>
    let bytes := a.bytes + filler
    let d1 := d.putChan n { c with au := none, digests := (c.digests ++ [(a.picture, crc % 2 ^ 32, a.recon, bytes)]).drop ((c.digests.length + 1) - 64) }
    let d2 := (if a.mute then d1 else d1.recordAu n a bytes crc).retainAu n a bytes
    if d2.isPaired = false ∨ pSource c.params = 1 then d2
    else Dev.compareDigests n 4 <| d2.sendTwin 0x09 (leBytes 1 n ++ leBytes 3 0 ++ leBytes 4 crc ++ leBytes 8 a.picture ++ leBytes 4 a.recon ++ leBytes 4 bytes)

/-! ### Slots and the end of a stop (R148, R152, R180) -/

/-- Whether every row of a picture has departed or will never depart. -/
def Pic.gone (p : Pic) (rows : Nat) : Bool := p.dropped || (List.range rows).all (fun r => (p.row r).departed)

/-- Release the slots of pictures that have departed and to which no picture still in flight refers; a capture keeps its
own (R148, R149; DEDUCED, log entry 45). -/
def Chan.freeSlots (c : Chan) : Chan :=
  if c.harvest.isSome then c
  else
    let rows := pRows c.params
    let flight := c.pics.filter (fun p => !p.gone rows)
    let refs := flight.flatMap (fun p => (p.plan.map (·.reads)).getD [])
    let kept := fun (k : Nat) => c.previewHold == some k || (c.preview && c.lastAccepted == some k)
    c.release ((c.pics.filter (fun p => !p.released && p.gone rows && !refs.contains p.index && !kept p.index && (p.accepted || p.dropped || p.cut))).map (·.index))

/-- The state of a channel, shown. -/
def Dev.setChanState (d : Dev) (n s : Nat) : Dev := d.setF F.CHAN_STATE_STATE s n

/-- A decode context ends (R260): it takes no further input, completes the picture begun, and its windows go once none is. -/
def Dev.endContext (d : Dev) (k : Nat) : Dev :=
  match assoc d.decs k with
  | none => d
  | some x =>
    if x.ended then d
    else
      let d1 := { d with decs := assocPut d.decs k { x with ended := true, retained := [], fill := 0, out := if x.pic.isSome then x.out else [] } }
      if x.pic.isSome then d1 else { d1 with winTabs := assocDel d1.winTabs (128 + k) }

/-- CONFIDENCE contexts of a channel that leaves STARTED end (R260). -/
def Dev.endContextsOf (d : Dev) (n : Nat) : Dev :=
  Dev.each (d.decs.filter (fun x => x.2.kind = 1 ∧ x.2.channel = n)) (fun x d => d.endContext x.1) d

/-- Free a channel (R180): store, buffers and allocation; a FROZEN capture's buffer is kept apart for ATTACH (R153). -/
def Dev.freeChannel (d : Dev) (n : Nat) : Dev :=
  let keep := match (d.chan n).harvest with
    | some h => if h.phase = .frozen then [(n, h, ((d.chan n).pics))] else []
    | none => []
  let d1 := d.putChan n {}
  let clear := fun (b : Binding) => if b.kind = 0 ∧ b.stream = n then { b with paths := b.paths.map (fun (y : PathSend) => { y with send := [], off := 0 }) } else b
  let d2 := { d1 with keptCaptures := (d1.keptCaptures.filter (fun x => x.1 ≠ n)) ++ keep, binds := d1.binds.map clear, winTabs := assocDel d1.winTabs n }
  let fs := [F.CHAN_STATE_STATE, F.CHAN_STATE_CLASS, F.CHAN_STATE_SOURCE, F.CHAN_STATE_PANE, F.CHAN_STATE_TLAYERS, F.CHAN_STATE_REF_DIST,
    F.CHAN_STATE_EFFORT_NOW, F.CHAN_DELAY_D_US, F.CHAN_DELAY_LAG, F.CHAN_DMIN_D_MIN_US, F.CHAN_DMIN_ENGINES, F.CHAN_GEOM_CTUS, F.CHAN_GEOM_ROWS]
  let d3 := Dev.each fs (fun f d => d.setF f 0 n) d2
  ((((d3.setLockState n .alone).showTx n).showShed).updHolds).showEgress

/-- Nothing more will depart on a stopping channel. -/
def Chan.drained (c : Chan) : Bool := c.pics.all (fun p => p.gone (pRows c.params))

/-- Log an event for which R483 gives no CODE: the code is open (log entry 15). -/
def Dev.logOpen (d : Dev) (b : Block) (inst : Nat) : Dev := (d.logEvent b (d.freeBits 8) inst).drawn

/-- The bytes of an end of sequence NAL unit: the header alone. PRESUMED from the HEVC standard (log entry 97). -/
def eosBytes : Nat := 2

/-- Every row had departed when the stop came (R170, R180): end of sequence leaves on its own, as the last of the last access unit. DESIGN CHOICE
(log entry 97). -/
def Dev.endSequence (d : Dev) (n : Nat) : Dev :=
  let c := d.chan n
  match c.lastSent with
  | none => d
  | some k =>
    if c.eos then d
    else
      let d1 := d.putChan n { c with eos := true, au := c.au.map (fun (a : OpenAu) => { a with bytes := a.bytes + eosBytes }) }
      (d1.emit (.coded n k (pRows c.params - 1) [{ kind := 13 }])).handOver n k c.lineage
        [{ picture := k, bytes := eosBytes, filler := false, last := true, tick := d.tick }]

/-- A stop is complete once the last row has departed (R180): the channel is OPEN or CLOSED, and the command is answered. -/
def Dev.endStop (d : Dev) (n : Nat) : Dev :=
  let c := d.chan n
  match c.stopping with
  | none => d
  | some s =>
    if c.drained = false then d
    else
      let d1 := ((d.endSequence n).closeAu n 0 0).formSegment 0 n true
      let c1 := d1.chan n
      let pics := if c1.harvest.isSome then c1.pics.map (fun p => { p with plan := none, rows := [], complete := false, bits := 0 }) else []
      let c2 := { c1 with
        stopping := none, stopAt := none, firstPic := none, awaited := none, pics := pics, expect := [], rap := none, seq := 0, lastPlanned := none,
        equinox := none, discontinuity := false, figures := [], lastBp := none, notes := [], peerNotes := [], lastClosed := none, next := none }
      let d2 := (d1.putChan n c2).setChanState n 1
      let d3 := (((d2.setLockState n .alone).showTx n).endContextsOf n).showShed
      let d4 := if s.logged then d3.logOpen .chan n else d3
      let d5 := (if s.close then d4.freeChannel n else d4.updHolds).updRecovery
      if s.reply then
        let last := match c.lastSent with | some k => k | none => 2 ^ 64 - 1
        d5.finish { client := s.client, tag := s.tag } (if s.close then 0x0202 else 0x0204) .ok 0 (if s.close then [] else leBytes 8 last)
      else d5

/-! ### ROW_DEPART (R164) -/

/-- The next row of a channel to depart. -/
def Chan.nextDepart (c : Chan) : Option (Pic × Nat) :=
  let rows := pRows c.params
  (c.pics.filter (fun p => !p.gone rows)).head?.bind (fun p => ((List.range rows).find? (fun r => decide ((p.row r).departed = false))).map (fun r => (p, r)))

/-- Whether the row's time has come: DEPART_AT for LIVE; as soon as it is coded for a DEFERRED, resumed or aborted one (R152, R164). -/
def Dev.departDue (d : Dev) (n : Nat) (x : RowSt) : Bool :=
  let c := d.chan n
  let abort := match c.stopping with | some s => !s.drain | none => false
  x.done && (pClass c.params == 1 || x.resumed || abort ||
    (match x.arrival with | some a => decide (0 ≤ nsDiff d.ns (d.departAt n a)) | none => true))

/-- Whether picture `k` of channel `n` may leave the device (R278, R291, R299). -/
def Dev.sends (d : Dev) (n k : Nat) : Bool :=
  let c := d.chan n
  d.mayTransmit n && (match c.transmitFrom with | some f => decide (f ≤ k) | none => true)

/-- A row departs: `lens` are the bytes of its NAL units in the order of R170, `crc` AU_CRC of the access unit it closes. -/
def Dev.rowDepart (d : Dev) (n : Nat) (lens : List Nat) (crc : Nat) : Dev :=
  let c := d.chan n
  match c.nextDepart with
  | none => d
  | some (p, r) =>
    let x := p.row r
    if d.departDue n x = false ∨ d.phase ≠ .run then d
    else
      let k := p.index
      let b := c.params
      let rows := pRows b
      match p.plan with
      | none => d
      | some plan =>
        let cbr := plan.cbr
        -- filler of the picture before, directly before this access unit's delimiter (R253)
        let prev := if r = 0 then c.au else none
        let fill := match prev with
          | some a => if cbr then
              (match c.pic a.picture with
               | some q => fillerBytes b (c.fullnessTrue a.picture) q.bits (k - a.picture)
               | none => 0) else 0
          | none => 0
        let d1 := if prev.isSome then
            (let e := if fill = 0 then d else d.countRec n 4 fill
             let was : Bool := match prev.bind (fun (a : OpenAu) => c.pic a.picture) with | some q => q.sending | none => false
             let e1 := if fill ≠ 0 ∧ was = true then
                 (e.emit (.coded n k 0 [{ kind := 14, figure := fill }])).handOver n (k - 1) plan.lineage [{ picture := k - 1, bytes := fill, filler := true, last := false, tick := d.tick }] else e
             e1.closeAu n fill crc) else d
        let sending := if r = 0 then d1.sends n k && !c.withheld else p.sending && d1.sends n k
        let eos := (c.stopping.isSome) && r + 1 == rows && (c.pics.filter (fun q => q.index ≠ k)).all (fun q => q.gone rows)
        let nals := d1.rowNals c p plan (d.getF F.CHAN_STATE_TLAYERS n) r eos
        let bytesOf := fun (i : Nat) => getAt 0 lens i
        let us := nals.zipIdx.map (fun y => { picture := k, bytes := bytesOf y.2, filler := false, last := (r + 1 == rows && y.2 + 1 == nals.length), tick := d.tick : SendUnit })
        let total := (us.map (·.bytes)).foldl (· + ·) 0
        let d2 := if sending then (d1.emit (.coded n k r nals)).handOver n k plan.lineage us else d1
        let d3 := if pMosaic b ≠ 0 ∧ r = 0 then { d2 with free := d2.free + pPanes b } else d2
        let late := pClass b == 0 && (match x.arrival with | some a => decide (1000 < nsDiff d.ns (d.departAt n a)) | none => false)
        let d4 := if late then d3.count C.CHAN_EXCURSION n else d3
        let au := fun (a : Option OpenAu) => match r, a with
          | 0, _ => some { picture := k, rap := plan.kind == .idr || plan.kind == .cra, disc := plan.discontinuity, lineage := plan.lineage, bytes := total, recon := p.recon, mute := c.withheld : OpenAu }
          | _, some a => some { a with bytes := a.bytes + total, recon := p.recon }
          | _, none => none
        let bp := if r = 0 ∧ (plan.kind = .idr ∨ plan.kind = .cra) then some k else c.lastBp
        let c4 := d4.chan n
        let d5 := d4.putChan n { c4 with au := au c4.au, lastBp := bp, eos := eos }
        let d6 := d5.updPic n k (fun q => { q.putRow { q.row r with departed := true } with sending := sending })
        if r + 1 ≠ rows then d6
        else
          let d7 := d6.set64 F.CHAN_DEPART_LO F.CHAN_DEPART_HI k n
          let c7 := d7.chan n
          let d8 := d7.putChan n { c7 with lastSent := if sending then some k else c7.lastSent, transmitFrom := c7.transmitFrom.filter (fun f => decide (k < f)) }
          let d9 := if cbr ∧ eos = false then d8 else d8.closeAu n 0 crc
          let d10 := (d9.putChan n (d9.chan n).freeSlots).showTx n
          ((d10.endStop n).updHolds).endBindings

/-! ### NOTE_COMPARE (R291) -/

/-- Compare the notes of a row of a LOCKED channel 5 µs before it departs. -/
def Dev.noteCompare (d : Dev) (n k r : Nat) : Dev :=
  let c := d.chan n
  let x := d.rowOf n k r
  let due := match x.arrival with | some a => decide (0 ≤ nsDiff (d.ns + 5000) (d.departAt n a)) | none => false
  if (c.lock != .locked) = true ∨ due = false ∨ x.departed = true then d
  else
    let own := (c.notes.filter (fun m => m.picture = k ∧ m.row = r)).map (·.kind)
    let peer := (c.peerNotes.filter (fun m => m.picture = k ∧ m.row = r)).map (·.kind)
    let mine := own.filter (fun m => !peer.contains m)
    let theirs := peer.filter (fun m => !own.contains m)
    let ownPic := (c.notes.filter (fun m => m.picture = k)).any (fun m => !(c.peerNotes.contains m))
    let peerPic := (c.peerNotes.filter (fun m => m.picture = k)).any (fun m => !(c.notes.contains m))
    match mine with
    | [] => if theirs ≠ [] ∧ ownPic = true ∧ d.role = 3 then d.leaveLockstep n k (theirs.headD 0) else d
    | m :: _ => if (theirs ≠ [] ∨ peerPic = true) ∧ d.role = 2 then d else d.leaveLockstep n k m

end Sys2Proof.Machine
end

