-- ==== Sys2Proof/Machine/Channels.lean ====
section
/-! DEFINITION. The channel commands (R155 to R163, R177 to R180, R503, R504) and the Harvest commands (R149 to R153, R505,
R506). -/
namespace Sys2Proof.Machine

/-! ### What a parameter block gives (R157) -/

/-- The steal delay across clusters, and the rescue margin, in force. -/
def Dev.xstealNow (d : Dev) : Nat := d.getF F.DISPATCH_TIMERS_XSTEAL_DLY
def Dev.marginNow (d : Dev) : Nat := d.getF F.DISPATCH_RESCUE_MARGIN_US

/-- D_min of a block with the values in force (R160). -/
def Dev.dMinNow (d : Dev) (p : List Byte) : Nat := dMinOf p d.xstealNow d.marginNow

/-- Engines a channel is allocated (R161): 0 for DEFERRED. -/
def enginesFor (p : List Byte) : Nat := if pClass p = 1 then 0 else if pEngines p = 0 then aMinOf p else pEngines p

/-- The 32 bytes of results of R157. -/
def Dev.openResults (d : Dev) (p : List Byte) : List Byte :=
  let dm := d.dMinNow p
  let dd := dInForce p dm
  let delta := refDist p dd
  leBytes 4 dm ++ leBytes 4 dd ++ leBytes 1 (aMinOf p) ++ leBytes 1 (enginesFor p) ++ leBytes 1 delta ++ leBytes 1 (tlayersUsed p delta) ++
    leBytes 2 (pRows p) ++ leBytes 2 (pCtus p) ++ leBytes 4 (loadMilli p) ++ leBytes 4 (grantedSlots p dd) ++ leBytes 4 (slotStripes p) ++ leBytes 4 0

/-- Bytes of a slot. -/
def slotBytesOf (p : List Byte) : Nat := slotStripes p * 4096

/-- The channels open beside `n`. -/
def Dev.others (d : Dev) (n : Nat) : List (Nat × Chan) := d.chans.filter (fun c => c.1 ≠ n && decide (1 ≤ d.chanState c.1))

/-- Fields that every pane of a mosaic shares (R177). -/
def paneShared (p : List Byte) : List Nat :=
  [pClass p, pFormat p, pProfile p, pLevel p, pTier p, pFlags p % 128, pRateNum p, pRateDen p, pActive p, pLag p, pStructure p, pRefs p,
   pTlayers p, pRcMode p, pIdrPeriod p, pFullW p, pFullH p, pDelay p]

/-- The pane rules that OPEN-CHANNEL checks (R177). That a second pane with one PANE index ends with reason 0x17 is the model's choice (DESIGN
CHOICE, log entry 96). -/
def Dev.paneOk (d : Dev) (n : Nat) (p : List Byte) : Bool :=
  if pMosaic p = 0 then true
  else
    let panes := (d.others n).filter (fun c => pMosaic c.2.params == pMosaic p)
    decide (pWidth p ≤ 8192) && decide (pHeight p ≤ 4320) && decide (pDelay p ≠ 0) && decide (panes.length < 16) &&
    panes.all (fun c => decide (paneShared c.2.params = paneShared p) && pPane c.2.params != pPane p)

/-- Where a store of `slots` slots goes in the part of its store group (R333), as its first stripe there; none where the part lacks room. -/
def Dev.storeAt (d : Dev) (n : Nat) (p : List Byte) (slots : Nat) : Option Nat :=
  let g := pStoreGroup p
  let used := ((d.others n).filter (fun c => pStoreGroup c.2.params == g)).map (fun c => (c.2.storeBase, c.2.slots * slotStripes c.2.params))
  fitStripes used (slots * slotStripes p) (d.groupBytes 1 g / 4096)

/-- Room in the store (R333). -/
def Dev.storeOk (d : Dev) (n : Nat) (p : List Byte) (slots : Nat) : Bool := (d.storeAt n p slots).isSome

/-- Room for reconstruction buffers (R159 order 10). -/
def Dev.reconOk (d : Dev) (n : Nat) (p : List Byte) : Bool :=
  let used := (d.others n).map (fun c => (Config.reconBytes c.2.params).toNat)
  decide (used.foldl (· + ·) 0 + (Config.reconBytes p).toNat ≤ d.purposeBytes 2)

/-- The checks of R159, in order; `reconf` for RECONFIGURE-CHANNEL. -/
def Dev.openChecks (d : Dev) (n : Nat) (p : List Byte) (reconf : Bool) : Option (Status × Nat) :=
  let dm := d.dMinNow p
  let dd := dInForce p dm
  let delta := refDist p dd
  let own := enginesFor p
  let held := ((d.others n).map (fun c => d.getF F.CHAN_DMIN_ENGINES c.1)).foldl (· + ·) 0
  let fencedNow := 128 - d.enginesAvail
  if p.length ≠ 128 ∨ pRangesOk p reconf = false then some (.badParam, 0x11)
  else if pProfileOk p delta = false then some (.badParam, 0x12)
  else if levelOk p = false ∨ d.bufferOk p = false then some (.badParam, 0x13)
  else if lagOk p = false then some (.badParam, 0x14)
  else if dd < dm ∨ 100000 < dd ∨ 255 < delta ∨ (pSlots p ≠ 0 ∧ pSlots p < minSlots p dd) then some (.badParam, 0x15)
  else if pBundlesOk p = false then some (.badParam, 0x16)
  else if d.paneOk n p = false then some (.badParam, 0x17)
  else if pEngines p ≠ 0 ∧ pEngines p < aMinOf p then some (.badParam, 0x18)
  else if pClass p = 0 ∧ 128 < held + own + d.alm.reserve + fencedNow then some (.noResource, 0x21)
  else if d.storeOk n p (grantedSlots p dd) = false ∨ d.reconOk n p = false then some (.noResource, 0x22)
  else if pSource p = 1 ∧ (d.others n).any (fun c => pSource c.2.params == 1) = true then some (.noResource, 0x23)
  else none

/-- Whether a refusal carries the results of R157. -/
def refusalResults (r : Option (Status × Nat)) : Bool :=
  match r with
  | some (.badParam, k) => k == 0x14 || k == 0x15 || k == 0x18
  | some (.noResource, _) => true
  | _ => false

/-- Record a block in force and show it in the CHAN registers; D_MIN_US is that of the last OPEN-CHANNEL or START-CHANNEL (R182). -/
def Dev.installBlock (d : Dev) (n : Nat) (p : List Byte) : Dev :=
  let dm := d.dMinNow p
  let dd := dInForce p dm
  let delta := refDist p dd
  let c := d.chan n
  let d1 := d.putChan n { c with
    params := p, slots := grantedSlots p dd, storeBase := (d.storeAt n p (grantedSlots p dd)).getD 0, next := none, forceIdr := false
    withheld := d.flag F.RING_STATE_WITHHELD && pMosaic p != 0 && bit (pFlags p) 2 }
  let d2 := ((d1.setF F.CHAN_STATE_CLASS (pClass p) n).setF F.CHAN_STATE_SOURCE (pSource p) n).setF F.CHAN_STATE_PANE (b2n (pMosaic p != 0)) n
  let d3 := ((d2.setF F.CHAN_STATE_TLAYERS (tlayersUsed p delta) n).setF F.CHAN_STATE_REF_DIST delta n).setF F.CHAN_DELAY_D_US dd n
  let d4 := (d3.setF F.CHAN_DELAY_LAG (pLag p) n).setF F.CHAN_DMIN_ENGINES (enginesFor p) n
  ((d4.setF F.CHAN_GEOM_CTUS (pCtus p) n).setF F.CHAN_GEOM_ROWS (pRows p) n).showEgress

/-! ### OPEN-CHANNEL -/

/-- The checks of OPEN-CHANNEL. -/
def chkOpenChannel (block : List Byte) (d : Dev) : Option (Status × Nat) :=
  let n := pChannel block
  if n < 128 ∧ d.chanState n ≠ 0 then some (.busy, 0x08) else d.openChecks n block false

/-- OPEN-CHANNEL (R159): store, buffers and allocation granted. -/
def runOpenChannel (c : Ctx) (block : List Byte) (d : Dev) : Dev :=
  let n := pChannel block
  let d1 := d.putChan n {}
  let d2 := { ((d1.installBlock n block).setF F.CHAN_DMIN_D_MIN_US (d.dMinNow block) n).setChanState n 1 with winTabs := assocPut d1.winTabs n (Config.windowTable n block) }
  ((d2.updHolds).commitPoint c).finish c 0x0201 .ok 0 (d2.openResults block)

/-! ### START-CHANNEL -/

/-- Whether START-CHANNEL is legal for the channel in the mode (R158). -/
def Dev.startMode (d : Dev) (n : Nat) : Bool :=
  let p := (d.chan n).params
  let m := d.mode
  if d.chanState n = 0 then m != 0
  else if pClass p = 0 then m == 2 || m == 5 || (m == 4 && pSource p == 1)
  else m == 3 || m == 5

/-- Whether two panes overlap. -/
def overlap (p q : List Byte) : Bool :=
  decide (pPaneX p < pPaneX q + pWidth q) && decide (pPaneX q < pPaneX p + pWidth p) &&
  decide (pPaneY p < pPaneY q + pHeight q) && decide (pPaneY q < pPaneY p + pHeight p)

/-- The geometry of R177 over the panes open here. -/
def Dev.panesTile (d : Dev) (p : List Byte) : Bool :=
  let ps := (d.panesOf (pMosaic p)).map (fun c => c.2.params)
  let inside := ps.all (fun q => decide (pPaneX q + pWidth q ≤ pFullW q) && decide (pPaneY q + pHeight q ≤ pFullH q))
  let apart := ps.zipIdx.all (fun x => ps.zipIdx.all (fun y => x.2 == y.2 || !overlap x.1 y.1))
  let area := (ps.map (fun q => pWidth q * pHeight q)).foldl (· + ·) 0
  inside && apart && (bit (pFlags p) 2 || area == pFullW p * pFullH p)

/-- The panes of a mosaic that the ring reports open on other members (R321). -/
def Dev.remotePanes (d : Dev) (p : List Byte) : List PaneReport :=
  if bit (pFlags p) 2 then d.ring.panes.filter (fun r => r.mosaic == pMosaic p && decide (r.state < 2)) else []

/-- Panes of the mosaic that are open, here or reported by the ring (R178, R321). -/
def Dev.panesOpen (d : Dev) (p : List Byte) : Nat :=
  (d.panesOf (pMosaic p)).length + (d.remotePanes p).length

/-- D_MOS of R314: over MOSAIC_ID and the shared fields, in the order of R177. -/
def dMos (p : List Byte) : Nat :=
  crcOf 3 [] (leBytes 2 (pMosaic p) ++ leBytes 1 (pClass p) ++ leBytes 1 (pFormat p) ++ leBytes 1 (pProfile p) ++ leBytes 1 (pLevel p) ++
    leBytes 1 (pTier p) ++ leBytes 1 (pFlags p % 128) ++ leBytes 4 (pRateNum p) ++ leBytes 4 (pRateDen p) ++ leBytes 4 (pActive p) ++ leBytes 1 (pLag p) ++
    leBytes 1 (pStructure p) ++ leBytes 1 (pRefs p) ++ leBytes 1 (pTlayers p) ++ leBytes 1 (pRcMode p) ++ leBytes 4 (pIdrPeriod p) ++
    leBytes 2 (pFullW p) ++ leBytes 2 (pFullH p) ++ leBytes 4 (pDelay p))

/-- What the ring reports against this pane (R321). -/
def Dev.ringDisagrees (d : Dev) (p : List Byte) : Bool :=
  bit (pFlags p) 2 && d.ring.panes.any (fun r => r.mosaic == pMosaic p && (r.dMos != dMos p || r.dUs != pDelay p))

/-- The conditions of R421 for the proxy channel: the output size and rate, the format and ACTIVE_US. -/
def Dev.proxyOk (d : Dev) (p : List Byte) : Bool :=
  let n := d.getF F.PREVIEW_RATE_NUM
  let m := d.getF F.PREVIEW_RATE_DEN
  decide (pWidth p = d.getF F.PREVIEW_OUT_SIZE_W) && decide (pHeight p = d.getF F.PREVIEW_OUT_SIZE_H) &&
  decide (pRateNum p * m = pRateDen p * n) && decide (1 ≤ pFormat p) && decide (pFormat p ≤ 3) &&
  decide (1 ≤ pActive p) && decide (pActive p * 16 * n ≤ 15 * 1000000 * m)

/-- The checks of START-CHANNEL (R155, R163, R177, R178, R321, R421). -/
def chkStartChannel (n : Nat) (d : Dev) : Option (Status × Nat) :=
  let p := (d.chan n).params
  if 128 ≤ n ∨ d.chanState n = 0 then some (.badParam, 0x08)
  else if d.chanState n ≠ 1 then some (.busy, 0x08)
  else if pClass p = 0 ∧ d.getF F.CHAN_DELAY_D_US n < d.dMinNow p then some (.badParam, 0x15)
  else if pSource p = 1 ∧ d.proxyOk p = false then some (.badParam, 0x16)
  else if pMosaic p ≠ 0 ∧ d.ringDisagrees p = true then some (.badParam, 0x17)
  else if pMosaic p ≠ 0 ∧ d.panesOpen p < pPanes p then some (.busy, 0x08)
  else if pMosaic p ≠ 0 ∧ d.panesTile p = false then some (.badParam, 0x17)
  else none

/-- The largest Δ of the panes of a mosaic, which every pane uses (R178); what those on other members add is open (log entry 96). -/
def Dev.mosaicDelta (d : Dev) (p : List Byte) (dd : Nat) : Nat :=
  let own := (d.panesOf (pMosaic p)).foldl (fun m c => max m (refDist c.2.params (d.getF F.CHAN_DELAY_D_US c.1))) (refDist p dd)
  let there := d.remotePanes p
  if there.isEmpty then own else max own (Config.remoteDelta (pMosaic p) (there.map (·.pane))).toNat

/-- Every row of a held picture has arrived (R209). -/
def Pic.arriveAll (p : Pic) (rows ns : Nat) : Pic :=
  { p with plan := none, complete := false, bits := 0, dropped := false, rows := (List.range rows).map (fun r => { row := r, arrival := some ns }) }

/-- A channel starts (R163, R174, R180, R222). -/
def Dev.startChannel (d : Dev) (n : Nat) : Dev :=
  let c := d.chan n
  let p := c.params
  let dd := d.getF F.CHAN_DELAY_D_US n
  let delta := if pMosaic p = 0 then refDist p dd else d.mosaicDelta p dd
  let frozen : Bool := match c.harvest with | some h => h.phase == .frozen | none => false
  let held := match c.harvest with | some h => h.held | none => []
  let pics := if frozen then (c.pics.filter (fun q => held.contains q.index)).map (fun q => q.arriveAll (pRows p) d.ns) else []
  let c1 := { c with
    lineage := if c.everStarted then (c.lineage + 1) % 2 ^ 32 else 1, everStarted := true, stealDly := d.getF F.DISPATCH_TIMERS_STEAL_DLY,
    xstealDly := d.xstealNow, margin := d.marginNow, startTick := d.tick, affinity := [], firstPic := if frozen then held.head? else none, awaited := if frozen then none else some 0,
    discontinuity := false, expect := [], pics := pics, seq := 0, rap := none, idr := none, eos := false, lastPlanned := none, equinox := none, lastSent := none,
    figures := [], lastBp := none, au := none, lastClosed := none, lastAccepted := none, notes := [], peerNotes := [], digests := [], peerDigests := [], lastPeer := none,
    stopping := if frozen then some { drain := true, close := false } else none }
  let d1 := (d.putChan n c1).setChanState n 2
  let d2 := d1.setF F.CHAN_DMIN_D_MIN_US (d.dMinNow p) n
  let panes := if pMosaic p = 0 then [n] else (d2.panesOf (pMosaic p)).map (·.1)
  let d3 := Dev.each panes (fun m d => (d.setF F.CHAN_STATE_REF_DIST delta m).setF F.CHAN_STATE_TLAYERS (tlayersUsed (d.chan m).params delta) m) d2
  let d4 : Dev := { d3 with twin := { d3.twin with vigilTick := d3.tick } }
  let d5 := if d4.isPaired ∧ pSource p = 0 ∧ d4.role = 3 then d4.beginJoin n else d4.setLockState n .alone
  ((d5.showTx n).showShed).updHolds

/-- START-CHANNEL (R180). On a VIGIL unit the channel is JOINING, with DETAIL 0x03 where the peer has not started it (R290). -/
def runStartChannel (c : Ctx) (n : Nat) (d : Dev) : Dev :=
  let peer := !((d.chan n).peerDigests).isEmpty
  let d1 := (d.startChannel n).commitPoint c
  let detail := if (d1.chan n).lock == .joining ∧ peer = false then 3 else 0
  let p := (d1.chan n).params
  let r := leBytes 4 (d1.chan n).lineage ++ leBytes 4 (if pClass p = 1 then 0 else d1.getF F.CHAN_DMIN_D_MIN_US n)
  (d1.finish c 0x0203 .ok detail r).endStop n

/-! ### STOP-CHANNEL and CLOSE-CHANNEL -/

/-- The stop of R180, from its commit point on. -/
def Dev.applyStop (d : Dev) (n : Nat) (s : Stopping) : Dev :=
  let rows := pRows (d.chan n).params
  let d0 := (d.putChan n { d.chan n with stopping := some s, stopAt := none }).setChanState n 3
  let pics := (d0.chan n).pics.filter (fun p => !p.gone rows)
  let drop := fun (k : Nat) (d : Dev) => (d.cancelFrom n k 0).updPic n k (fun p => { p with dropped := true })
  let d1 :=
    if s.drain then Dev.each (pics.filter (fun p => !p.accepted)) (fun p d => drop p.index d) d0
    else Dev.each pics (fun p d =>
      if (List.range rows).any (fun r => (p.row r).departed) then
        let left := (List.range rows).filter (fun r => !(p.row r).departed)
        let e := Dev.each left (fun r d => if (d.rowOf n p.index r).lane.isSome then d else d.cancelRow n p.index r) d
        Dev.each left (fun r d => if (d.rowOf n p.index r).lane.isSome then d else (d.updRow n p.index r (fun x => { x with phase := .issued })).startRescue n p.index r false) e
      else drop p.index d) d0
  ((d1.putChan n (d1.chan n).freeSlots).showShed.updHolds).endStop n

/-- The stop a mode transition makes (R15): a DEFERRED channel codes the picture whose row 0 has been issued to its end. -/
def Dev.modeStop (d : Dev) (n : Nat) : Dev :=
  let c := d.chan n
  if pClass c.params = 0 then d.applyStop n { drain := true, close := false, logged := true }
  else
    let d0 := (d.putChan n { c with stopping := some { drain := true, close := false, logged := true } }).setChanState n 3
    let later := c.pics.filter (fun p => p.plan.isNone)
    let d1 := Dev.each later (fun p d => (d.cancelFrom n p.index 0).updPic n p.index (fun q => { q with dropped := true })) d0
    let d2 := d1.putChan n { d1.chan n with pics := (d1.chan n).pics.filter (fun p => !(p.dropped && p.lines.isEmpty)) }
    (d2.showShed.updHolds).endStop n

/-- The checks of STOP-CHANNEL. -/
def chkStopChannel (n mode : Nat) (d : Dev) : Option (Status × Nat) :=
  if 128 ≤ n ∨ d.chanState n = 0 then some (.badParam, 0x08)
  else if 2 ≤ mode then some (.badParam, 0x08)
  else if d.chanState n ≠ 2 then some (.busy, 0x08) else none

/-- STOP-CHANNEL (R180): on a LOCKED channel through a proposal (R289). -/
def runStopChannel (c : Ctx) (n mode : Nat) (d : Dev) : Dev :=
  if d.proposes n then d.propose c 0x0204 [n] (leBytes 1 n ++ leBytes 1 mode ++ leBytes 2 0)
  else (d.commitPoint c).applyStop n { drain := mode == 0, close := false, client := c.client, tag := c.tag, reply := true }

/-- The checks of CLOSE-CHANNEL. -/
def chkCloseChannel (n : Nat) (d : Dev) : Option (Status × Nat) :=
  if 128 ≤ n ∨ d.chanState n = 0 then some (.badParam, 0x08) else if d.chanState n = 3 then some (.busy, 0x08) else none

/-- CLOSE-CHANNEL (R180): a STARTED channel first makes an ABORT stop. -/
def runCloseChannel (c : Ctx) (n : Nat) (d : Dev) : Dev :=
  if d.chanState n = 2 then
    if d.proposes n then d.propose c 0x0202 [n] (leBytes 1 n ++ leBytes 3 0)
    else (d.commitPoint c).applyStop n { drain := false, close := true, client := c.client, tag := c.tag, reply := true }
  else ((d.freeChannel n).commitPoint c).finish c 0x0202 .ok

/-! ### RECONFIGURE-CHANNEL (R179) -/

/-- A block with the fields that may change on a STARTED channel at 0. -/
def fixedFields (p : List Byte) : List Byte :=
  p.take 6 ++ leBytes 1 (pFlags p % 128 / 2 * 2) ++ (p.drop 7).take 48 ++ leBytes 2 0 ++ (p.drop 57).take 3 ++ leBytes 3 0 ++ (p.drop 63).take 1 ++
  leBytes 18 0 ++ leBytes 4 0 ++ (p.drop 86).take 18 ++ leBytes 8 0 ++ p.drop 112

/-- The checks of RECONFIGURE-CHANNEL. -/
def chkReconfigure (block : List Byte) (d : Dev) : Option (Status × Nat) :=
  let n := pChannel block
  if 128 ≤ n then some (.badParam, 0x11)
  else if d.chanState n = 0 then some (.badParam, 0x08)
  else if d.chanState n = 3 then some (.busy, 0x08)
  else if d.chanState n = 2 ∧ fixedFields block ≠ fixedFields (d.chan n).params then some (.busy, 0x08)
  else d.openChecks n block true

/-- New values recorded on a STARTED channel, to take effect from picture `at_` on (R179). -/
def Dev.recordNext (d : Dev) (n at_ : Nat) (block : List Byte) : Dev :=
  d.putChan n { d.chan n with next := some (cleanBlock block), nextAt := at_, forceIdr := (d.chan n).forceIdr || bit (pFlags block) 7 }

/-- RECONFIGURE-CHANNEL. -/
def runReconfigure (c : Ctx) (block : List Byte) (d : Dev) : Dev :=
  let n := pChannel block
  if d.chanState n = 2 then
    if d.proposes n then d.propose c 0x0205 [n] block
    else ((d.recordNext n 0 block).commitPoint c).finish c 0x0205 .ok 0 (d.openResults block)
  else
    let d1 := d.installBlock n (cleanBlock block)
    ((d1.updHolds).commitPoint c).finish c 0x0205 .ok 0 (d1.openResults block)

/-! ### FORCE-EQUINOX and QUERY-CHANNEL -/

/-- The checks of FORCE-EQUINOX. -/
def chkForceEquinox (n : Nat) (d : Dev) : Option (Status × Nat) :=
  if 128 ≤ n ∨ d.chanState n = 0 then some (.badParam, 0x08) else if d.chanState n ≠ 2 then some (.busy, 0x08) else none

/-- FORCE-EQUINOX (R166): the next picture is IDR, agreed with the twin where the channel is LOCKED. -/
def runForceEquinox (c : Ctx) (n : Nat) (d : Dev) : Dev :=
  if d.proposes n then d.propose c 0x0206 [n] (leBytes 1 n ++ leBytes 3 0)
  else
    let k := d.nextUnissued n
    let d1 := d.putChan n { d.chan n with equinox := some k }
    (d1.commitPoint c).finish c 0x0206 .ok 0 (leBytes 8 k)

/-- The code of a lockstep state (R504): 0xFF where the unit is not paired. -/
def Dev.lockCode (d : Dev) (n : Nat) : Nat :=
  if d.isPaired = false then 0xFF
  else match (d.chan n).lock with
    | .alone => 0 | .joining => 1 | .locked => 2 | .unverified => 3 | .left => 4

/-- The 320-byte channel record of R504. -/
def Dev.channelRecord (d : Dev) (n : Nat) : List Byte :=
  let c := d.chan n
  if d.chanState n = 0 then leBytes 164 0 ++ leBytes 1 (d.lockCode n) ++ leBytes 155 0
  else
    let h := c.harvest
    let code := match h with | none => 0 | some x => (match x.phase with | .armed => 1 | .triggered => 2 | .frozen => 3) + (if x.resetCut then 128 else 0)
    d.regBytes (F.CHAN_STATE_STATE.addr n 0) 8 ++ (c.params ++ leBytes (128 - c.params.length) 0) ++ leBytes 4 c.lineage ++ leBytes 1 (d.lockCode n) ++ leBytes 1 code ++
      leBytes 2 0 ++ leBytes 8 ((h.bind (·.picture)).getD 0) ++ leBytes 4 ((h.map (·.held.length)).getD 0) ++
      leBytes 4 ((h.map (·.preHeld)).getD 0) ++ leBytes 4 ((h.map (·.trigTime)).getD 0) ++ leBytes 4 0 ++ d.rcRecord n

/-- The check of QUERY-CHANNEL. -/
def chkQueryChannel (n : Nat) : Option (Status × Nat) := if 128 ≤ n then some (.badParam, 0x08) else none

/-- QUERY-CHANNEL. -/
def runQueryChannel (c : Ctx) (n : Nat) (d : Dev) : Dev := d.finish c 0x0207 .ok 0 (d.channelRecord n)

/-! ### Harvest -/

/-- The stripes that `slots` slots of `stripes` each take in the part of one of `m` store groups (R333). -/
def harvestStripes (m slots stripes : Nat) : Nat := ceilDiv slots (max 1 m) * stripes

/-- Where a Harvest buffer of `slots` slots goes in each part of its region, beside the buffers that exist, as its first stripe there; none where
it does not fit (R149, R333). -/
def Dev.harvestAt (d : Dev) (n slots : Nat) : Option Nat :=
  match d.regionOf 4 with
  | none => none
  | some r =>
    let m := groupCount (d.getF F.MEM_REGION_CFG_MASK 0 r)
    let bound := (d.others n).filterMap (fun c => c.2.harvest.map (fun h => (h.base, h.stripes)))
    let kept := (d.keptCaptures.filter (fun x => x.1 ≠ n)).map (fun x => (x.2.1.base, x.2.1.stripes))
    if m = 0 then none else fitStripes (bound ++ kept) (harvestStripes m slots (slotStripes (d.chan n).params)) (d.groupStripes 4)

/-- Room for a Harvest buffer (R149). -/
def Dev.harvestOk (d : Dev) (n slots : Nat) : Bool := (d.harvestAt n slots).isSome

/-- The capture kept for channel `n` (R153). -/
def Dev.kept (d : Dev) (n : Nat) : Option (Harvest × List Pic) := (d.keptCaptures.find? (fun x => x.1 = n)).map (·.2)

/-- The checks of HARVEST-ARM (R149, R158, R505, R506). -/
def chkHarvestArm (n flags triggers gen slots pre post : Nat) (d : Dev) : Option (Status × Nat) :=
  let p := (d.chan n).params
  if 128 ≤ n ∨ d.chanState n = 0 ∨ pClass p = 0 ∨ triggers = 0 ∨ 8 ≤ triggers ∨ 8 ≤ gen ∨ 2 ≤ flags then some (.badParam, 0x08)
  else if d.chanState n ≠ 1 ∨ (d.chan n).harvest.isSome = true then some (.busy, 0x08)
  else if post = 0 ∨ slots < pre + post then some (.badParam, 0x08)
  else if bit flags 0 then
    (match d.kept n with
     | some (h, _) => if h.slots = slots ∧ h.pre = pre ∧ h.post = post then none else some (.badParam, 0x19)
     | none => some (.badParam, 0x19))
  else if d.harvestOk n slots = false then some (.noResource, 0x22)
  else none

/-- HARVEST-ARM: the buffer allocated and the capture ARMED, or a FROZEN buffer bound again. -/
def runHarvestArm (c : Ctx) (n flags triggers gen slots pre post : Nat) (d : Dev) : Dev :=
  let ch := d.chan n
  let m := match d.regionOf 4 with | some r => groupCount (d.getF F.MEM_REGION_CFG_MASK 0 r) | none => 1
  let fresh : Harvest :=
    { phase := .armed, slots := slots, pre := pre, post := post, triggers := triggers, gen := gen, base := (d.harvestAt n slots).getD 0,
      stripes := harvestStripes m slots (slotStripes ch.params) }
  let d1 :=
    if bit flags 0 then
      match d.kept n with
      | some (h, ps) => ({ d with keptCaptures := d.keptCaptures.filter (fun x => x.1 ≠ n) }).putChan n { ch with harvest := some { h with triggers := triggers, gen := gen }, pics := ps }
      | none => d
    else ({ d with keptCaptures := d.keptCaptures.filter (fun x => x.1 ≠ n) }).putChan n { ch with harvest := some fresh, pics := [], expect := [], firstPic := none }
  ((d1.updHolds).commitPoint c).finish c 0x0304 .ok 0 (leBytes 8 (slots * slotBytesOf ch.params))

/-- The checks of HARVEST-TRIGGER: a replay against a capture cut by a warm reset passes (R153). -/
def chkHarvestTrigger (n : Nat) (d : Dev) : Option (Status × Nat) :=
  match (d.chan n).harvest with
  | none => some (.badParam, 0x08)
  | some h => if bit h.triggers 0 = false ∧ h.phase = .armed then some (.badParam, 0x08) else none

/-- HARVEST-TRIGGER (R150, R153): one that coincides with the trigger that fired is no later trigger, and completes with OK. DEDUCED (log entry 95). -/
def runHarvestTrigger (c : Ctx) (n : Nat) (d : Dev) : Dev :=
  match (d.chan n).harvest with
  | none => d
  | some h =>
    if h.resetCut ∧ d.replaying = true then d.finish c 0x0305 .ok 1 (leBytes 4 h.trigTime)
    else
      let h1 := h.fireMoment d.tick d.ns
      let d1 := d.putChan n { d.chan n with harvest := some h1 }
      if h.phase = .armed ∨ (h.phase = .triggered ∧ h.trigTime = d.ns) then (d1.commitPoint c).finish c 0x0305 .ok 0 (leBytes 4 h1.trigTime)
      else d1.finish c 0x0305 .busy 0

/-- The check of HARVEST-RELEASE. -/
def chkHarvestRelease (n : Nat) (d : Dev) : Option (Status × Nat) :=
  if (d.chan n).harvest.isNone then some (.badParam, 0x08) else none

/-- HARVEST-RELEASE (R151): the row tasks that have not completed are cancelled and the buffer is freed. -/
def runHarvestRelease (c : Ctx) (n : Nat) (d : Dev) : Dev :=
  let rows := pRows (d.chan n).params
  let open_ := (d.chan n).pics.filter (fun p => !p.gone rows)
  let d1 := Dev.each open_ (fun p d => (d.cancelFrom n p.index 0).updPic n p.index (fun q => { q with dropped := true })) d
  let d2 := d1.putChan n { d1.chan n with harvest := none, pics := if d1.chanState n = 1 then [] else (d1.chan n).pics }
  ((((d2.endStop n).updHolds).updRecovery).commitPoint c).finish c 0x0306 .ok

end Sys2Proof.Machine
end

