-- ==== Sys2Proof/Machine/Inject.lean ====
section
/-! DEFINITION. What an injecting perturbation changes (R491, R492): its targets, its draws, its counts, and the stalls of
back-pressure. -/
namespace Sys2Proof.Machine

/-- Whether kind `k` is injecting. -/
def Dev.injecting (d : Dev) (k : Nat) : Bool := bit (d.getF F.PERTURB_STATUS_ACTIVE) k

/-- TARGET, PARAM0 and PARAM1 of kind `k`. -/
def Dev.pertTarget (d : Dev) (k : Nat) : Nat := d.getF F.PERTURB_K_TARGET k
def Dev.pertP0 (d : Dev) (k : Nat) : Nat := d.getF F.PERTURB_K_PARAM0 k
def Dev.pertP1 (d : Dev) (k : Nat) : Nat := d.getF F.PERTURB_K_PARAM1 k

/-- The state of kind `k` beside its registers. -/
def Dev.pert (d : Dev) (k : Nat) : PertSt := getAt {} d.perts k
def Dev.putPert (d : Dev) (k : Nat) (p : PertSt) : Dev := { d with perts := setAt d.perts k p }

/-- Count `n` injections of kind `k`. -/
def Dev.inject (d : Dev) (k : Nat) (n : Nat := 1) : Dev := (d.count C.PERTURB_K_COUNT k 0 n).count C.PERTURB_INJECTED 0 0 n

/-- A draw of kind `k` with the probability of PARAM1 in 1/65,536 (R491): SEED 0 acts as 1. -/
def Dev.drawInject (d : Dev) (k : Nat) : Dev :=
  let p := d.pert k
  let seed := max 1 (d.getF F.PERTURB_K_SEED k)
  let d1 := d.putPert k { p with draws := p.draws + 1 }
  if Config.perturbDraw seed p.draws % 65536 < d.pertP1 k then d1.inject k else d1

/-- Ticks of 4 ns in a number of 0.1 µs units. -/
def tenthTicks (n : Nat) : Nat := 25 * n

/-- Whether back-pressure stalls the consumer of a FIFO now: kind 0 the ingress FIFO of bundle `i`, 1 the ready lists of cluster `i`,
2 record queue `i`. -/
def Dev.stalled (d : Dev) (fifo i : Nat) : Bool :=
  d.injecting 1 && d.pertTarget 1 / 16 % 16 == fifo && d.pertTarget 1 % 16 == i &&
    decide ((d.tick - (d.pert 1).since) % tenthTicks (d.pertP1 1) < tenthTicks (d.pertP0 1))

/-- A tick: a stall of back-pressure begins at the start of every period, and counts. -/
def Dev.tickStall (d : Dev) : Dev :=
  if d.injecting 1 && (d.tick - (d.pert 1).since) % tenthTicks (d.pertP1 1) == 0 then d.inject 1 else d

end Sys2Proof.Machine
end

