-- ==== Sys2Proof/Machine/Memory.lean ====
section
/-! DEFINITION. The in-package memory and its controllers (R327 to R353): where an address lies, sectors with their checks and parity,
requests, refresh, power-down, failures, and MEM-REGIONS. What the memory holds stands in HbmStore. -/
namespace Sys2Proof.Machine

/-! ### Pseudo-channels -/

/-- Pseudo-channel 32k + p. -/
def Dev.pc (d : Dev) (n : Nat) : PcSt := (assoc d.pcs n).getD {}
def Dev.putPc (d : Dev) (n : Nat) (x : PcSt) : Dev := { d with pcs := assocPut d.pcs n x }

/-- The byte of OWED that holds OWED_U. -/
def owedField (p : Nat) : Field :=
  match p % 4 with | 0 => F.MEM_OWED_B0 | 1 => F.MEM_OWED_B1 | 2 => F.MEM_OWED_B2 | _ => F.MEM_OWED_B3

/-- OWED_U of pseudo-channel `n`, signed. -/
def Dev.owedU (d : Dev) (n : Nat) : Int := sext 8 (d.getF (owedField n) (n / 32) (n % 32 / 4))
def Dev.putOwedU (d : Dev) (n : Nat) (v : Int) : Dev := d.setF (owedField n) (wrapInt 8 v) (n / 32) (n % 32 / 4)

/-- Refreshes owed (R342). -/
def owedOf (hot : Bool) (u : Int) : Int := if hot then u else (u + 1) / 2
def Dev.owed (d : Dev) (n : Nat) : Int := owedOf (d.pc n).hot (d.owedU n)

/-- Whether refresh pressure names pseudo-channel `n` (R491 kind 5). -/
def Dev.pressured (d : Dev) (n : Nat) : Bool := d.injecting 5 && bit (d.pertTarget 5) (n / 32) && bit (d.pertP0 5) (n % 32)

/-- Whether urgency postpones a refresh that falls due (R343). -/
def Dev.postpones (d : Dev) (n : Nat) : Bool :=
  let k := n / 32
  let press := d.pressured n
  d.flag F.MEM_REFRESH_POSTPONE_EN k && decide (d.owed n ≤ 8) &&
  (press || (d.pc n).reqs.any (fun q => decide (2 ≤ q.urg) && d.flag F.MEM_QOS_POSTPONE k q.port.val))

/-- Whether the pseudo-channel serves: not fenced, its stack not in self-refresh. -/
def Dev.pcServes (d : Dev) (n : Nat) : Bool :=
  !d.fenced 5 n && !d.fenced 6 (n / 32) && !d.flag F.MEM_STATUS_SELF_REFRESH (n / 32) && d.flag F.MEM_STATUS_READY (n / 32)

/-- Leave power-down (R347). -/
def Dev.pcWake (d : Dev) (n : Nat) : Dev := d.setF F.MEM_PC_PD (clearBit (d.getF F.MEM_PC_PD (n / 32)) (n % 32)) (n / 32)

/-- FAULT of controller `k` (R353). -/
def Dev.memFault (d : Dev) (n kind port a : Nat) : Dev :=
  let k := n / 32
  let d1 := ((d.setF F.MEM_FAULT_PC (n % 32) k).setF F.MEM_FAULT_KIND kind k).setF F.MEM_FAULT_PORT port k
  (d1.setF F.MEM_FAULT_ADDR_LO (a % 2 ^ 32) k).setF F.MEM_FAULT_ADDR_HI (a / 2 ^ 32) k

/-- A request enters: outside every region it is not performed (R334); a fenced pseudo-channel gives poison or discards, but where
a protected region's rebuild serves (R351). -/
def Dev.memArrive (d : Dev) (n : Nat) (q : MemReq) : Dev :=
  match d.regionAt q.addr with
  | none =>
    let d1 := (d.memFault n 4 q.port.val q.addr).raise .mem (n / 32) 5
    if q.data.isNone then d1.emit (.sector q.port.val q.addr [] true) else d1
  | some r =>
    let home := (d.placeIn r q.addr).pc
    if d.pcLost home then
      (match q.data with
       | some bs => if d.regProtect r && !d.fenced 6 (home / 32) then d.storeSector q.addr bs else d
       | none =>
         match (if d.regProtect r then d.rebuilt r (q.addr / 32 * 32) else none) with
         | some bs => d.emit (.sector q.port.val q.addr bs false)
         | none => d.emit (.sector q.port.val q.addr [] true))
    else
      let x := d.pc home
      (d.putPc home { x with reqs := x.reqs ++ [{ q with tick := d.tick, urg := 0 }] }).pcWake home

/-- A controller that is fenced stops every STARTED channel, as MODE ABORT does (R352). -/
def Dev.abortAll (d : Dev) : Dev :=
  Dev.each ((d.chans.filter (fun c => d.chanState c.1 == 2)).map (·.1)) (fun n d => d.applyStop n { drain := false, close := false, logged := true }) d

/-- Committed lines that can no longer be read or rebuilt are damaged (R147). -/
def Dev.storeLoses (d : Dev) : Dev :=
  let pic := fun (c : Chan) (p : Pic) =>
    match p.slot.bind (d.slotPlace c) with
    | some x =>
      if p.released then p
      else { p with lines := p.lines.map (fun (l : LineRec) => if l.placed && l.committed && d.lineUnreadable c x l.line then { l with damaged := true } else l) }
    | none => p
  { d with chans := d.chans.map (fun (c : Nat × Chan) => (c.1, { c.2 with pics := c.2.pics.map (pic c.2) })) }

/-- A pseudo-channel that has just been fenced: the reads it was making and what waits at it are served as R351 lays down, PC_FENCED. -/
def Dev.pcStops (d : Dev) (n : Nat) : Dev :=
  let x := d.pc n
  let d1 := d.putPc n { x with reqs := [], issued := [], rows := [], forced := false, catchup := false, refreshing := false }
  ((Dev.each (x.issued ++ x.reqs) (fun q d => d.memArrive n q) d1).storeLoses).raise .mem (n / 32) 0

/-- Fence controller `k` (R352). -/
def Dev.fenceController (d : Dev) (k cause : Nat) : Dev :=
  if d.fenced 6 k then d
  else
    let new := (List.range 32).filter (fun p => !d.fenced 5 (32 * k + p))
    let d1 := Dev.each new (fun p d => d.pcStops (32 * k + p)) (d.fence 6 k cause)
    ((d1.setFlag F.MEM_STATUS_READY false k).raise .mem k 1).abortAll

/-- Fence pseudo-channel `n` for `cause` (R351); with 8 fenced, its controller (R352). -/
def Dev.fencePc (d : Dev) (n cause : Nat) : Dev :=
  if d.fenced 5 n then d
  else
    let d1 := (d.fence 5 n cause).pcStops n
    if 8 ≤ d1.getF F.MEM_STATUS_FENCED_PCS (n / 32) then d1.fenceController (n / 32) cause else d1

/-! ### Requests (R334, R339 to R341) -/

/-- Whether request `a` goes before request `b` (R341 items 2 to 4). -/
def Dev.goesBefore (d : Dev) (n : Nat) (drain : Bool) (a b : MemReq) : Bool :=
  let open_ := fun (q : MemReq) => match d.regionAt q.addr with
    | some r => let p := d.placeIn r q.addr; assoc (d.pc n).rows p.bank == some p.row
    | none => false
  if a.urg ≠ b.urg then decide (b.urg < a.urg)
  else if a.urg ≤ 1 ∧ open_ a ≠ open_ b then open_ a
  else if a.urg ≤ 1 ∧ drain = false ∧ a.data.isNone ≠ b.data.isNone then a.data.isNone
  else if a.tick ≠ b.tick then decide (a.tick < b.tick) else decide (a.port.val < b.port.val)

/-- The request that goes next. -/
def Dev.bestReq (d : Dev) (n : Nat) : Option MemReq :=
  let l := (d.pc n).reqs
  let drain := decide (d.getF F.MEM_CTRL_WQ_DRAIN (n / 32) ≤ (l.filter (fun q => q.data.isSome)).length)
  match l with
  | [] => none
  | q :: rest => some (rest.foldl (fun best x => if d.goesBefore n drain x best then x else best) q)

/-- The latency of a request that completes now. -/
def Dev.noteLatency (d : Dev) (n : Nat) (q : MemReq) : Dev :=
  d.maxF F.MEM_LAT_MAX_NS (4 * (d.tick - q.tick)) (n / 32) q.port.val

/-- Issue a request: its row opens; a write is made, a read waits for its data. -/
def Dev.issueReq (d : Dev) (n : Nat) (q : MemReq) : Dev :=
  match d.regionAt q.addr with
  | none => d
  | some r =>
    let p := d.placeIn r q.addr
    let x := d.pc n
    let y := { x with reqs := x.reqs.erase q, rows := assocPut x.rows p.bank p.row, run := 0, idleTick := d.tick, issued := if q.data.isSome then x.issued else x.issued ++ [q] }
    let d1 := d.putPc n y
    match q.data with
    | some bs => (d1.storeSector q.addr bs).noteLatency n q
    | none => d1

/-- Begin one refresh. -/
def Dev.beginRefresh (d : Dev) (n : Nat) : Dev :=
  let x := d.pc n
  (d.putPc n { x with refreshing := true, rows := [], run := x.run + 1 }).pcWake n

/-- MEMORY_REQUEST (R341): `arrivals` enter, then the pseudo-channel chooses and issues its next command. -/
def Dev.memRequest (d : Dev) (n : Nat) (arrivals : List MemReq) : Dev :=
  let d0 := Dev.each arrivals (fun q d => d.memArrive n q) d
  let x := d0.pc n
  if d0.pcServes n = false ∨ x.refreshing = true then d0
  else if x.catchup ∨ x.forced then d0.beginRefresh n
  else if 1 ≤ d0.owed n ∧ d0.postpones n = false then d0.beginRefresh n
  else match d0.bestReq n with
    | some q => d0.issueReq n q
    | none => d0

/-- REQUEST_URGENCY (R340): urgency follows age; those that reach 3 count. -/
def Dev.requestUrgency (d : Dev) (n : Nat) : Dev :=
  let k := n / 32
  let urgOf := fun (q : MemReq) =>
    let age := 4 * (d.tick - q.tick)
    let t := d.getF F.MEM_QOS_TARGET k q.port.val
    if t ≤ age then 3 else if 3 * t ≤ 4 * age then 2 else if t ≤ 2 * age then 1 else 0
  let x := d.pc n
  let rise := (x.reqs.filter (fun q => decide (q.urg < 3) && decide (urgOf q = 3))).length
  let d1 := d.putPc n { x with reqs := x.reqs.map (fun (q : MemReq) => { q with urg := max q.urg (urgOf q) }) }
  if rise = 0 then d1 else d1.count C.MEM_URGENT k 0 rise

/-! ### Reads (R349 to R351) -/

/-- A sector that fails counts; the sixteenth within 1 ms fences the pseudo-channel (R351). -/
def Dev.sectorFailed (d : Dev) (n : Nat) (check : Bool) : Dev :=
  let x := d.pc n
  let recent := (x.fails.filter (fun t => decide (d.tick - t < 250000))) ++ [d.tick]
  let d1 := (d.putPc n { x with fails := recent }).raise .mem (n / 32) 2
  let d2 := if check then d1.count C.MEM_SECTOR_ERR (n / 32) else d1
  if 16 ≤ recent.length then d2.fencePc n (if check then 1 else 2) else d2

/-- MEMORY_READ (R350): the oldest issued read completes, checked, rebuilt or poisoned; while its
pseudo-channel's stripes are being rebuilt, a protected sector comes from the other 15 units (R351). -/
def Dev.memRead (d : Dev) (n : Nat) (x : SectorRead) : Dev :=
  match (d.pc n).issued with
  | [] => d
  | q :: rest =>
    let k := n / 32
    let a := q.addr / 32 * 32
    let d0 := (d.putPc n { d.pc n with issued := rest }).noteLatency n q
    let data := (d.hbmBytes a 32).zipIdx.map (fun y => y.1 ^^^ BitVec.ofNat 8 (x.flips.toNat / 2 ^ (8 * y.2)))
    let check := leNat (d.hbmBytes (checkAddr a) 2) ^^^ x.checkFlips.toNat
    let d1 := if x.corrected then d0.count C.MEM_ECC_CORR k else d0
    let d2 := if x.uncorrectable then d1.count C.MEM_ECC_UNCORR k else d1
    let bad := sectorCheck a data != check
    let others := d.flag F.MEM_REBUILD_ACTIVE k && decide (d.getF F.MEM_REBUILD_PC k = n % 32)
    let ready := match d.regionAt a with
      | some r => if others && d.regProtect r then d.rebuilt r a else none
      | none => none
    if ready.isSome then d2.emit (.sector q.port.val q.addr (ready.getD []) x.rebuildBad)
    else if bad = false ∧ x.uncorrectable = false then d2.emit (.sector q.port.val q.addr data false)
    else
      let d3 := d2.sectorFailed n bad
      match d.regionAt a with
      | none => d3
      | some r =>
        match (if d.regProtect r && !x.rebuildBad then d.rebuilt r a else none) with
        | some good => ((d3.writeSector a good).count C.MEM_REBUILT k).emit (.sector q.port.val q.addr good false)
        | none => (d3.memFault n (if bad then 1 else 2) q.port.val q.addr).emit (.sector q.port.val q.addr data true)

/-- ACCESS_TIMEOUT (R351): an access has not completed within 10 µs. -/
def Dev.accessTimeout (d : Dev) (n : Nat) : Dev :=
  match (d.pc n).issued with
  | [] => d
  | q :: _ => if 2500 ≤ d.tick - q.tick then (d.memFault n 3 q.port.val q.addr).fencePc n 3 else d

/-- PHY_UNLOCK (R352). -/
def Dev.phyUnlock (d : Dev) (k : Nat) : Dev := if d.fenced 6 k then d else (d.memFault (32 * k) 5 0 0).fenceController k 5

/-- REBUILD_DONE (R351). -/
def Dev.rebuildDone (d : Dev) (n : Nat) : Dev :=
  let k := n / 32
  if d.flag F.MEM_REBUILD_ACTIVE k ∧ d.getF F.MEM_REBUILD_PC k = n % 32 then
    ((d.setFlag F.MEM_REBUILD_ACTIVE false k).setF F.MEM_REBUILD_PROGRESS 1000 k).raise .mem k 7
  else d

/-! ### Refresh (R342 to R345) -/

/-- REFRESH_TICK (R342, R343): OWED_U grows; a ninth owed refresh is forced. -/
def Dev.refreshTick (d : Dev) (n : Nat) : Dev :=
  if d.pcServes n = false then d
  else
    let d := Dev.when (d.pressured n) (fun d => d.inject 5) d
    let k := n / 32
    let was := d.owed n
    let d1 := d.putOwedU n (d.owedU n + 1)
    let o := d1.owed n
    let d2 := d1.maxF F.MEM_OWED_MAX o.toNat k
    let d3 := if was < o ∧ 1 ≤ o then d2.pcWake n else d2
    if 9 ≤ o then
      let x := d3.pc n
      if x.forced ∨ x.catchup then d3 else d3.putPc n { x with forced := true }
    else if was < o ∧ 1 ≤ o ∧ d3.postpones n = true then d3.count C.MEM_POSTPONED k
    else d3

/-- REFRESH_DONE (R342): 2 units retired, or 1 in the hot state. -/
def Dev.refreshDone (d : Dev) (n : Nat) : Dev :=
  let x := d.pc n
  if x.refreshing = false then d
  else
    let k := n / 32
    let d1 := (d.putOwedU n (d.owedU n - (if x.hot then 1 else 2))).count C.MEM_REFRESHES k
    let d2 := if x.catchup then d1.count C.MEM_CATCHUP k else if x.forced then d1.count C.MEM_FORCED k else d1
    let late := decide (8 < d2.owed n)
    let d3 := d2.maxF F.MEM_STALL_MAX (210 * x.run) k
    d3.putPc n { x with refreshing := false, forced := false, catchup := x.catchup && late, run := if x.catchup && late then x.run else 0, idleTick := d.tick }

/-- STACK_TEMP_READ (R344): a reading in °C; the change takes effect pseudo-channel by pseudo-channel. -/
def Dev.stackTemp (d : Dev) (k : Nat) (reading : Int) : Dev := (d.setF F.MEM_TEMP_TJ (wrapInt 8 reading) k).showHot k

/-- HOT_STATE_CHANGE (R344, R345), at the midpoint between two ticks: only the owed count is read again. -/
def Dev.hotChange (d : Dev) (n : Nat) : Dev :=
  let x := d.pc n
  let h := d.flag F.MEM_STATUS_HOT (n / 32)
  if x.hot = h then d
  else
    let d1 := d.putPc n { x with hot := h, catchup := x.catchup && (h || decide (8 < owedOf h (d.owedU n))) }
    if h ∧ 8 < d1.owed n then ((d1.putPc n { d1.pc n with catchup := true, forced := false }).maxF F.MEM_OWED_MAX (d1.owed n).toNat (n / 32)).raise .mem (n / 32) 4 else d1

/-- POWER_DOWN_ENTRY (R347). -/
def Dev.powerDown (d : Dev) (n : Nat) : Dev :=
  let k := n / 32
  let x := d.pc n
  let t := d.getF F.MEM_PD_CTRL_TIMER k
  if d.pcServes n = true ∧ t ≠ 0 ∧ x.reqs = [] ∧ x.issued = [] ∧ x.refreshing = false ∧ d.owed n < 1 ∧
      bit (d.getF F.MEM_PC_PD k) (n % 32) = false ∧ 10 * t ≤ 4 * (d.tick - x.idleTick) then
    (d.setF F.MEM_PC_PD (setBit (d.getF F.MEM_PC_PD k) (n % 32)) k).count C.MEM_PD_ENTRY k
  else d

/-! ### MEM-REGIONS (R335) -/

/-- An entry's fields as MEM-REGIONS gives them: MAP and CFG. -/
def mapOff (m : Nat) : Nat := bits m 0 6
def mapLen (m : Nat) : Nat := bits m 8 6
def mapBase (m : Nat) : Nat := bits m 16 13
def cfgMask (c : Nat) : Nat := bits c 0 8
def cfgOrder (c : Nat) : Nat := bits c 8 2
def cfgProtect (c : Nat) : Bool := bit c 10
def cfgPurpose (c : Nat) : Nat := bits c 11 4
def cfgValid (c : Nat) : Bool := bit c 15

/-- The size of an entry in units of 16 MiB. -/
def entrySize (m c : Nat) : Nat := mapLen m * 16 * groupCount (cfgMask c)

/-- Whether two banks ranges of two entries share a bank of a pseudo-channel. -/
def sharesBank (x y : Nat × Nat) : Bool :=
  (cfgMask x.2 &&& cfgMask y.2) != 0 && decide (mapOff x.1 < mapOff y.1 + mapLen y.1) && decide (mapOff y.1 < mapOff x.1 + mapLen x.1)

/-- Whether two entries overlap in address. -/
def sharesAddr (x y : Nat × Nat) : Bool :=
  decide (mapBase x.1 < mapBase y.1 + entrySize y.1 y.2) && decide (mapBase y.1 < mapBase x.1 + entrySize x.1 x.2)

/-- Any two different valid entries satisfy `f`. -/
def anyPair (es : List (Nat × Nat)) (f : Nat × Nat → Nat × Nat → Bool) : Bool :=
  es.zipIdx.any (fun x => es.zipIdx.any (fun y => decide (x.2 < y.2) && cfgValid x.1.2 && cfgValid y.1.2 && f x.1 y.1))

/-- Entry `r` as the table holds it now. -/
def Dev.entryNow (d : Dev) (r : Nat) : Nat × Nat :=
  (d.getF F.MEM_REGION_MAP_PC_OFF 0 r + 2 ^ 8 * d.getF F.MEM_REGION_MAP_PC_LEN 0 r + 2 ^ 16 * d.getF F.MEM_REGION_MAP_BASE 0 r,
   d.regMask r + 2 ^ 8 * d.regOrder r + 2 ^ 10 * b2n (d.regProtect r) + 2 ^ 11 * d.getF F.MEM_REGION_CFG_PURPOSE 0 r + 2 ^ 15 * b2n (d.regionValid r))

/-- Whether what entry `r` holds is in use (R335, reason 0x35). -/
def Dev.entryInUse (d : Dev) (r : Nat) : Bool :=
  let openChan := d.chans.any (fun c => decide (1 ≤ d.chanState c.1))
  d.regionValid r &&
  (match d.getF F.MEM_REGION_CFG_PURPOSE 0 r with
   | 1 => openChan
   | 2 => openChan
   | 3 => openChan || !d.recqs.isEmpty
   | 4 => d.chans.any (fun c => match c.2.harvest with | some h => h.phase == .armed || h.phase == .frozen || h.phase == .triggered | none => false) || !d.keptCaptures.isEmpty
   | 5 => d.decs.any (fun c => !c.2.ended)
   | 7 => true
   | _ => false)

/-- The checks of MEM-REGIONS, in the order of the reasons. -/
def chkMemRegions (es : List (Nat × Nat)) (d : Dev) : Option (Status × Nat) :=
  let valid := es.filter (fun e => cfgValid e.2)
  let wants := fun (p : Nat) => p == 1 || p == 2 || p == 3 || p == 4 || p == 7
  if es.length ≠ 16 then some (.badParam, 0x08)
  else if valid.any (fun e => decide (8192 < mapBase e.1 + entrySize e.1 e.2)) = true ∨ anyPair es sharesAddr = true then some (.badParam, 0x31)
  else if valid.any (fun e => decide (mapLen e.1 = 0) || decide (48 < mapOff e.1 + mapLen e.1)) = true ∨ anyPair es sharesBank = true then some (.badParam, 0x32)
  else if valid.any (fun e => decide (cfgMask e.2 = 0) || (decide (cfgOrder e.2 = 0) && cfgMask e.2 != 0xFF) || (cfgProtect e.2 && cfgOrder e.2 != 3)) = true then some (.badParam, 0x33)
  else if anyPair es (fun x y => cfgPurpose x.2 != 0 && cfgPurpose x.2 == cfgPurpose y.2) = true ∨
      valid.any (fun e => (wants (cfgPurpose e.2) && !cfgProtect e.2) || decide (7 < cfgPurpose e.2)) = true then some (.badParam, 0x34)
  else if es.zipIdx.any (fun e => e.1 != d.entryNow e.2 && (d.entryInUse e.2 || (cfgValid e.1.2 && cfgPurpose e.1.2 == 7))) = true then some (.busy, 0x35)
  else none

/-- Write entry `r` into all four controllers; the contents of a changed region are open again. -/
def Dev.putEntry (d : Dev) (r m c : Nat) : Dev :=
  if d.entryNow r = (m, c) then d
  else
    let wipe := fun (lo hi : Nat) (d : Dev) =>
      { d with hbm := d.hbm.filter (fun x =>
          let a := if x.1 < 2 ^ 37 then x.1 else (x.1 - 2 ^ 37) / 2 * 32
          !(decide (lo ≤ a) && decide (a < hi))) }
    let d0 := if d.regionValid r then wipe (d.regionBase r) (d.regionBase r + d.regionSize r) d else d
    let d1 := if cfgValid c then wipe (mapBase m * 2 ^ 24) ((mapBase m + entrySize m c) * 2 ^ 24) d0 else d0
    Dev.upto 4 (fun k d =>
      let e := ((d.setF F.MEM_REGION_MAP_PC_OFF (mapOff m) k r).setF F.MEM_REGION_MAP_PC_LEN (mapLen m) k r).setF F.MEM_REGION_MAP_BASE (mapBase m) k r
      let e := ((e.setF F.MEM_REGION_CFG_MASK (cfgMask c) k r).setF F.MEM_REGION_CFG_ORDER (cfgOrder c) k r).setFlag F.MEM_REGION_CFG_PROTECT (cfgProtect c) k r
      (e.setF F.MEM_REGION_CFG_PURPOSE (cfgPurpose c) k r).setFlag F.MEM_REGION_CFG_VALID (cfgValid c) k r) d1

/-- MEM-REGIONS. -/
def runMemRegions (c : Ctx) (es : List (Nat × Nat)) (d : Dev) : Dev :=
  ((Dev.each es.zipIdx (fun e d => d.putEntry e.2 e.1.1 e.1.2) d).commitPoint c).finish c 0x0503 .ok

end Sys2Proof.Machine
end

