-- ==== Sys2Proof/Machine/LinkLanes.lean ====
section
/-! DEFINITION. The lanes of the twin link and of the gang ring (R284, R305, R307): markers, training straight to rate code 3,
lane faults and re-striping, and the framing of messages (R285). `ring` chooses the ring, else the twin link. -/
namespace Sys2Proof.Machine

/-- The lanes of a link. -/
def linkWidth (ring : Bool) : Nat := if ring then 2 else 4

/-- The link's state beside its registers. -/
def Dev.link (d : Dev) (ring : Bool) : LinkSt := if ring then d.ring.link else d.twin.link

/-- Replace it. -/
def Dev.putLink (d : Dev) (ring : Bool) (l : LinkSt) : Dev :=
  if ring then { d with ring := { d.ring with link := l } } else { d with twin := { d.twin with link := l } }

/-- TWIN.LINK or RING.LINK. -/
def Dev.linkReg (d : Dev) (ring : Bool) : Nat := d.getF (if ring then F.RING_LINK else F.TWIN_LINK)

/-- Lanes locked, lanes in the stripe, the state code of R108. -/
def Dev.linkLocked (d : Dev) (ring : Bool) : Nat := bits (d.linkReg ring) 0 (linkWidth ring)
def Dev.linkStripe (d : Dev) (ring : Bool) : Nat := bits (d.linkReg ring) (linkWidth ring) (linkWidth ring)
def Dev.linkState (d : Dev) (ring : Bool) : Nat := bits (d.linkReg ring) (2 * linkWidth ring) 4

/-- The body of HELLO (R286). -/
def Dev.helloBody (d : Dev) : List Byte :=
  let live := d.chans.any (fun c => d.chanState c.1 == 2 && pClass c.2.params == 0)
  leBytes 4 (d.getF F.TWIN_PAIR_ID) ++ leBytes 8 d.alm.serial ++ leBytes 1 (bits (d.getF F.TWIN_VERSION) 0 8) ++ leBytes 1 (bits (d.getF F.TWIN_VERSION) 8 8) ++
    leBytes 1 (b2n d.twin.prefOwn) ++ leBytes 1 d.role ++ leBytes 1 (d.getF F.TWIN_STATE_EPOCH) ++ leBytes 1 (b2n live) ++ leBytes 6 0 ++
    leBytes 8 (d.get64 F.TWIN_DIGEST_LO F.TWIN_DIGEST_HI)

/-- Send HELLO. -/
def Dev.sendHello (d : Dev) : Dev := d.sendTwin 0x01 d.helloBody

/-- Show locked lanes, stripe and state, and what follows from them: TWIN.STATE.LINK_UP, with HELLO as the link comes up (R286);
RING.STATE.INPUT_UP, with LINK_LOSS and INPUT_DOWN as it falls (R326). -/
def Dev.showLink (d : Dev) (ring : Bool) (locked stripe state : Nat) : Dev :=
  let w := linkWidth ring
  let v := locked % 2 ^ w + 2 ^ w * (stripe % 2 ^ w) + 2 ^ (2 * w) * state
  if ring then
    let was := d.flag F.RING_STATE_INPUT_UP
    let d1 := (d.setF F.RING_LINK v).setFlag F.RING_STATE_INPUT_UP (locked != 0)
    if was ∧ locked = 0 then (d1.count C.RING_LINK_LOSS).raise .ring 0 5 else d1
  else
    let was := d.flag F.TWIN_STATE_LINK_UP
    let d1 := (d.setF F.TWIN_LINK v).setFlag F.TWIN_STATE_LINK_UP (stripe != 0)
    if was = false ∧ stripe ≠ 0 ∧ d1.isPaired = false then d1.sendHello else d1

def Dev.setLinkLocked (d : Dev) (ring : Bool) (m : Nat) : Dev := d.showLink ring m (d.linkStripe ring) (d.linkState ring)
def Dev.setLinkStripe (d : Dev) (ring : Bool) (m : Nat) : Dev := d.showLink ring (d.linkLocked ring) m (d.linkState ring)

/-- The link enters state `s` now. -/
def Dev.setLinkState (d : Dev) (ring : Bool) (s : Nat) : Dev :=
  (d.putLink ring { d.link ring with stateTick := d.tick }).showLink ring (d.linkLocked ring) (d.linkStripe ring) s

/-- Lane `n` of the link. -/
def LinkSt.lane (l : LinkSt) (n : Nat) : LaneSt := getAt {} l.lanes n
def LinkSt.putLane (l : LinkSt) (n : Nat) (x : LaneSt) : LinkSt := { l with lanes := setAt l.lanes n x }

/-- The positions of the link in a mask. -/
def linkPositions (ring : Bool) (m : Nat) : List Nat := (List.range (linkWidth ring)).filter (fun p => bit m p)

/-- Every position of the link. -/
def linkFull (ring : Bool) : Nat := 2 ^ linkWidth ring - 1

/-- The link starts to train: SEEK at rate code 3 (R284, R305). -/
def Dev.linkSeek (d : Dev) (ring : Bool) : Dev :=
  let l := d.link ring
  (d.putLink ring { fails := l.fails, mcount := l.mcount, stateTick := d.tick }).showLink ring 0 0 1

/-- The link is off. -/
def Dev.linkDown (d : Dev) (ring : Bool) : Dev := (d.putLink ring {}).showLink ring 0 0 0

/-- A failure of training (R109): WAITING. -/
def Dev.linkFail (d : Dev) (ring : Bool) : Dev :=
  let l := d.link ring
  (d.putLink ring { fails := min 15 (l.fails + 1), mcount := l.mcount, waitTick := d.tick }).showLink ring 0 0 6

/-- A lane is lost (R98, R114): it leaves the stripe at the marker two on, with the exchange of R118; with no lane left the link
is down and seeks again. -/
def Dev.linkLose (d : Dev) (ring : Bool) (n : Nat) : Dev :=
  let st := d.linkState ring
  let l := d.link ring
  let locked := clearBit (d.linkLocked ring) n
  let trying := (l.lane n).attempt && bit l.lost n
  let cleared := l.putLane n { lostTick := d.tick, attempt := trying, attemptTick := (l.lane n).attemptTick, stage := b2n trying }
  if st = 5 then
    if locked = 0 then d.linkSeek ring
    else
      let stripe := d.linkStripe ring
      let l1 := { cleared with
        lost := setBit l.lost n, aligned := clearBit l.aligned n
        pend := if bit stripe n then clearBit stripe n else l.pend, pendMc := if bit stripe n then (l.mcount + 2) % 65536 else l.pendMc }
      (d.putLink ring l1).setLinkLocked ring locked
  else (d.putLink ring { cleared with verify := 0, aligned := clearBit l.aligned n }).setLinkLocked ring locked

/-- Lanes whose MCOUNT differs from every other locked lane's in two consecutive periods are lost (R98). -/
def Dev.linkDiffer (d : Dev) (ring : Bool) : Dev :=
  let cs := ((d.link ring).counts).filter (fun c => bit (d.linkLocked ring) c.1)
  cs.foldl (fun d c =>
    let others := cs.filter (fun e => e.1 ≠ c.1)
    let odd := !others.isEmpty && others.all (fun e => e.2 ≠ c.2)
    let l := d.link ring
    let x := l.lane c.1
    let k := if odd then x.differ + 1 else 0
    let d1 := d.putLink ring (l.putLane c.1 { x with differ := k })
    if 2 ≤ k then d1.linkLose ring c.1 else d1) d

/-- Retrain attempts move on at a period's end (R117): the fourth good period readmits the lane, and the stripe takes it in by
the exchange of R118. -/
def Dev.linkAttempts (d : Dev) (ring : Bool) : Dev :=
  (linkPositions ring (d.link ring).lost).foldl (fun d p =>
    let l := d.link ring
    let x := l.lane p
    if x.attempt = false ∨ bit (d.linkLocked ring) p = false then d
    else if x.stage ≤ 1 then d.putLink ring (l.putLane p { x with stage := 2, good := 0 })
    else if x.stage = 2 then d.putLink ring (l.putLane p { x with stage := if bit l.goods p && !bit l.skewBad p then 3 else 2, good := 0 })
    else if bit l.goods p = false ∨ 0 < x.violations ∨ bit l.skewBad p = true then d.putLink ring (l.putLane p { x with good := 0 })
    else if x.good + 1 < 4 then d.putLink ring (l.putLane p { x with good := x.good + 1 })
    else
      let base := if l.pend = 0 then d.linkStripe ring else l.pend
      d.putLink ring { (l.putLane p { x with attempt := false, stage := 0, good := 0 }) with
        lost := clearBit l.lost p, attempts := setAt l.attempts p 0, pend := setBit base p, pendMc := (l.mcount + 2) % 65536 }) d

/-- RESTRIPE read in the markers of one period (R118). -/
def Dev.linkRestripe (d : Dev) (ring : Bool) (mask mc : Nat) : Dev :=
  let l := d.link ring
  let m := mask &&& linkFull ring
  let repeated : Bool := match l.striped with | some (x, k) => x == m && (k + 1) % 65536 == mc | none => false
  let l1 := { l with striped := some (m, mc) }
  if repeated ∨ m = 0 ∨ m &&& d.linkLocked ring ≠ m then d.putLink ring l1
  else d.putLink ring { l1 with pend := m, pendMc := (mc + 2) % 65536 }

/-- What a period's end does in the present state (R108). -/
def Dev.linkPeriodState (d : Dev) (ring : Bool) (mc : Nat) : Dev :=
  let l := d.link ring
  let wanted := linkFull ring &&& (l.miswired ^^^ linkFull ring)
  let locked := d.linkLocked ring
  match d.linkState ring with
  | 1 => if wanted ≠ 0 ∧ locked &&& wanted = wanted then d.setLinkState ring 2 else d
  | 2 =>
    if l.skewBad &&& (locked &&& (l.lost ^^^ linkFull ring)) = 0 ∧ locked ≠ 0 then (d.putLink ring { l with aligned := locked, verify := 0, blemish := false }).setLinkState ring 3 else d
  | 3 =>
    if l.blemish ∨ locked &&& l.goods ≠ locked then d.putLink ring { l with verify := 0, blemish := false }
    else if l.verify + 1 < 4 then d.putLink ring { l with verify := l.verify + 1 }
    else (d.putLink ring { l with verify := 0, fails := 0 }).showLink ring locked locked 5
  | 5 =>
    let msg := match l.messages with | m :: rest => if rest.all (fun x => x == m) then some m else none | [] => none
    let d1 := match msg with | some (4, a) => d.linkRestripe ring a mc | _ => d
    let l1 := d1.link ring
    if l1.pend ≠ 0 ∧ l1.pendMc = mc then (d1.putLink ring { l1 with pend := 0 }).setLinkStripe ring (l1.pend &&& d1.linkLocked ring) else d1
  | _ => d

/-- The end of a marker period of the link. -/
def Dev.linkPeriodEnd (d : Dev) (ring : Bool) : Dev :=
  let l := d.link ring
  let mc := match l.counts.filter (fun c => !bit l.lost c.1), l.counts with | c :: _, _ => c.2 | [], c :: _ => c.2 | [], [] => l.mcount
  let d1 := ((d.putLink ring { l with mcount := mc }).linkDiffer ring).linkAttempts ring
  let d2 := if l.goods = 0 then d1 else d1.linkPeriodState ring mc
  let l2 := d2.link ring
  d2.putLink ring { l2 with slots := 0, goods := 0, counts := [], messages := [], lanes := l2.lanes.map (fun (x : LaneSt) => { x with violations := 0 }) }

/-- A slot of lane `n` opens a new period where the lane had one already. -/
def Dev.linkSlotBefore (d : Dev) (ring : Bool) (n : Nat) : Dev := if bit (d.link ring).slots n then d.linkPeriodEnd ring else d

/-- Lane `n` has had its slot. -/
def Dev.linkSlotAfter (d : Dev) (ring : Bool) (n : Nat) : Dev :=
  let l := { d.link ring with slots := setBit (d.link ring).slots n }
  let t := d.linkLocked ring
  if t ≠ 0 ∧ l.slots &&& t = t then (d.putLink ring l).linkPeriodEnd ring else d.putLink ring l

/-- Whether lane `n` of the link is receiving. -/
def Dev.linkListens (d : Dev) (ring : Bool) (n : Nat) : Bool :=
  let st := d.linkState ring
  decide (n < linkWidth ring) && (st == 1 || st == 2 || st == 3 || st == 5)

/-- The slot of lane `n` holds no good marker; the fourth in a row loses the lane. -/
def Dev.linkMissed (d : Dev) (ring : Bool) (n : Nat) : Dev :=
  if d.linkListens ring n = false then d
  else
    let d0 := d.linkSlotBefore ring n
    let l := d0.link ring
    let x := l.lane n
    if bit (d0.linkLocked ring) n then
      let d1 := d0.putLink ring { (l.putLane n { x with miss := x.miss + 1, away := x.away + 1 }) with blemish := true }
      (if 4 ≤ x.miss + 1 then d1.linkLose ring n else d1).linkSlotAfter ring n
    else d0.putLink ring (l.putLane n { x with last := none, away := 0 })

/-- A retrain attempt has failed (R117). -/
def Dev.linkAttemptFail (d : Dev) (ring : Bool) (n : Nat) : Dev :=
  let l := d.link ring
  let l1 := { (l.putLane n { lostTick := d.tick }) with attempts := setAt l.attempts n (min 3 (getAt 0 l.attempts n + 1)) }
  (d.putLink ring l1).setLinkLocked ring (clearBit (d.linkLocked ring) n)

/-- A lane that cannot be locked or aligned counts one failed attempt and is lost (R100, R111). -/
def Dev.linkOut (d : Dev) (ring : Bool) (n : Nat) : Dev :=
  let d1 := d.linkLose ring n
  let l := d1.link ring
  d1.putLink ring { l with lost := setBit l.lost n, attempts := setAt l.attempts n (min 3 (getAt 0 l.attempts n + 1)) }

/-- A marker of lane `n` of a link at rate code 3 (R96, R284, R305); PAR, SMSG and SARG are 0. -/
def linkMarkerWord (n mc : Nat) : Nat := checkedWord (0x2D3 + 2 ^ 10 * n + 2 ^ 18 * 3 + 2 ^ 32 * (mc % 65536))

/-- A member that does not lead sends each marker on with the MCOUNT of the one received (R307). -/
def Dev.passMarker (d : Dev) (n mc : Nat) : Dev :=
  if d.phase = .run ∧ d.ring.joined = true ∧ d.fenced 9 0 = false ∧ d.getF F.RING_STATE_ROLE ≠ 3 then d.emit (.ringMarker n (linkMarkerWord n mc)) else d

/-- A marker slot of lane `n` with word `w` (R98, R99, R307): a ring receiver keeps lock across a shift of up to 512 words. -/
def Dev.linkMarker (d : Dev) (ring : Bool) (n w gap skew : Nat) : Dev :=
  let slack := if ring then 512 else 0
  let lockedNow := bit (d.linkLocked ring) n
  let due := 8192 * (((d.link ring).lane n).miss + 1)
  let inSlot := !lockedNow || (decide (due ≤ gap + slack) && decide (gap ≤ due + slack))
  if d.linkListens ring n = false then d
  else if markerGood w = false ∨ inSlot = false then d.linkMissed ring n
  else
    let mc := bits w 32 16
    let d0 := d.linkSlotBefore ring n
    let l := d0.link ring
    let x := l.lane n
    let locked := bit (d0.linkLocked ring) n
    let follows := match x.last with | none => false | some k => mc == (k + 1 + x.miss) % 65536
    if bits w 10 7 ≠ n then
      (d0.putLink ring { l with miswired := setBit l.miswired n }).setLinkLocked ring (clearBit (d0.linkLocked ring) n)
    else if locked ∧ follows = false then
      let d1 := d0.linkLose ring n
      (d1.putLink ring ((d1.link ring).putLane n { (d1.link ring).lane n with last := some mc })).linkSlotAfter ring n
    else
      let gains := !locked && gap == 8192 && (match x.last with | none => false | some k => mc == (k + 1) % 65536) && !bit l.miswired n
      let d1 := if gains then d0.setLinkLocked ring (setBit (d0.linkLocked ring) n) else d0
      let l1 := (d1.link ring).putLane n { (d1.link ring).lane n with last := some mc, miss := 0, away := 0 }
      let d2 := d1.putLink ring { l1 with
        goods := setBit l1.goods n, counts := l1.counts ++ [(n, mc)], messages := l1.messages ++ [(bits w 20 4, bits w 24 8)]
        skewBad := putBit l1.skewBad n (decide (32 < skew)) }
      let tooLate := locked && decide (32 < skew)
      let st := d2.linkState ring
      let d3 :=
        if tooLate ∧ x.attempt then d2.linkAttemptFail ring n
        else if tooLate ∧ bit l1.lost n = false ∧ 2 ≤ st then d2.linkOut ring n
        else d2
      (if ring then d3.passMarker n mc else d3).linkSlotAfter ring n

/-- A stuffing violation on lane `n`: more than 16 in a period lose the lane (R95, R98). -/
def Dev.linkStuffing (d : Dev) (ring : Bool) (n : Nat) : Dev :=
  if d.linkListens ring n = false then d
  else
    let l := d.link ring
    let x := l.lane n
    let d1 := d.putLink ring { (l.putLane n { x with violations := x.violations + 1 }) with blemish := true }
    if 16 < x.violations + 1 ∧ bit (d1.linkLocked ring) n = true then d1.linkLose ring n else d1

/-- Loss of signal on lane `n`. -/
def Dev.linkLos (d : Dev) (ring : Bool) (n : Nat) : Dev :=
  if d.linkListens ring n ∧ (bit (d.linkLocked ring) n = true) then d.linkLose ring n else d

/-- A retrain attempt begins 100 ms after the loss or the last failure: the link has no inter-picture gap (R117). No attempt
follows the third failure. -/
def Dev.linkRetrain (d : Dev) (ring : Bool) (n : Nat) : Dev :=
  let l := d.link ring
  let x := l.lane n
  if d.linkState ring = 5 ∧ bit l.lost n = true ∧ x.attempt = false ∧ getAt 0 l.attempts n < 3 ∧ 25000000 ≤ d.tick - x.lostTick then
    d.putLink ring (l.putLane n { lostTick := x.lostTick, attempt := true, attemptTick := d.tick, stage := 1 })
  else d

/-- A retrain attempt has lasted 10 ms without success (R117). -/
def Dev.linkAttemptTimeout (d : Dev) (ring : Bool) (n : Nat) : Dev :=
  let x := (d.link ring).lane n
  if x.attempt ∧ x.attemptTick + ticks10ms ≤ d.tick then d.linkAttemptFail ring n else d

/-- A training state has lasted 10 ms (R109, R111). -/
def Dev.linkTimeout (d : Dev) (ring : Bool) : Dev :=
  let l := d.link ring
  let locked := d.linkLocked ring
  if d.tick < l.stateTick + ticks10ms then d
  else match d.linkState ring with
  | 1 =>
    if locked = 0 then d.linkFail ring
    else
      let out := (linkPositions ring (linkFull ring)).filter (fun p => !bit locked p && !bit l.miswired p)
      let l1 := out.foldl (fun (l : LinkSt) p => { (l.putLane p { lostTick := d.tick }) with
        lost := setBit l.lost p, attempts := setAt l.attempts p (min 3 (getAt 0 l.attempts p + 1)) }) l
      (d.putLink ring l1).setLinkState ring 2
  | 2 => d.linkFail ring
  | 3 => d.linkFail ring
  | _ => d

/-- The backoff of a WAITING link expires. -/
def Dev.linkBackoffEnd (d : Dev) (ring : Bool) : Dev :=
  if d.linkState ring = 6 ∧ (d.link ring).waitTick + 250000 * backoffMs (d.link ring).fails ≤ d.tick then d.linkSeek ring else d

/-! ### Messages (R285) -/

/-- The header of a message: SOM, TYPE, BODY_WORDS and SEQ, bits 47 to 0. -/
def msgHeader (type words seq : Nat) : Nat := 0x7E3 + 2 ^ 12 * type + 2 ^ 20 * words + 2 ^ 32 * (seq % 65536)

/-- The CRC of the trailer: SEQ folded in first as the guard, then header and body. -/
def msgCrc (type seq : Nat) (body : List Byte) : Nat :=
  let h := msgHeader type (ceilDiv body.length 8) seq
  crcOf 1 (leBytes 2 seq) (leBytes 8 (h + 2 ^ 48 * crcWord48 h) ++ body)

/-- Whether a received message of `type` passes both checks; its body is whole words, at most 1,024. -/
def LinkMsg.good (m : LinkMsg) (type : Nat) : Bool :=
  decide (m.body.length % 8 = 0) && decide (m.body.length ≤ 8192) && decide (m.seq < 65536) &&
  m.hchk == crcWord48 (msgHeader type (ceilDiv m.body.length 8) m.seq) && m.crc == msgCrc type m.seq m.body

/-- A message with the checks its sender gives it. -/
def sealMsg (type seq : Nat) (body : List Byte) : LinkMsg :=
  let b := (body ++ leBytes (ceilDiv body.length 8 * 8 - body.length) 0)
  { seq := seq, hchk := crcWord48 (msgHeader type (ceilDiv b.length 8) seq), crc := msgCrc type seq b, body := b }

end Sys2Proof.Machine
end

