-- ==== Sys2Proof/Machine/Twin.lean ====
section
/-! DEFINITION. The twin pair (R277 to R304): pairing, heartbeats, proposals, divergence, joins, take-over, demotion, hand-over and
path beacons. -/
namespace Sys2Proof.Machine

/-! ### Roles and paths (R277 to R281, R287) -/

/-- Show TWIN.TX of every channel held. -/
def Dev.showAllTx (d : Dev) : Dev := Dev.each (d.chans.map (·.1)) (fun n d => d.showTx n) d

/-- Show which paths a unit of a pair transmits, in TWIN.STATE and ETH.STATUS. -/
def Dev.showPaths (d : Dev) : Dev :=
  let a := d.pathOn 0
  let b := d.pathOn 1
  let on := d.flag F.TWIN_CFG_ENABLE
  let d1 := (d.setFlag F.TWIN_STATE_PATH_A_TX (on && a)).setFlag F.TWIN_STATE_PATH_B_TX (on && b)
  let eth := fun (k : Nat) (x : Bool) (d : Dev) =>
    let d0 := if on ∧ x = true ∧ d.flag F.ETH_STATUS_PATH_TX k = false then d.gratuitous k 2 else d
    (d0.setFlag F.ETH_STATUS_PATH_TX x k).setFlag F.ETH_STATUS_PATH (x && k == 1) k
  ((eth 1 b (eth 0 a d1)).showOwnPath).showEgress

/-- Take a role; what follows from it is shown. -/
def Dev.setRole (d : Dev) (r : Nat) : Dev := ((d.setF F.TWIN_STATE_ROLE r).showPaths).showAllTx

/-- This unit's own claim of preference (R277). -/
def Dev.claimPref (d : Dev) : Dev :=
  let p : Bool := d.alm.prefOverride == 1 || (d.alm.prefOverride == 0 && d.flag F.KEEPER_STRAPS_TWIN_PREF)
  ({ d with twin := { d.twin with prefOwn := p } }).setFlag F.TWIN_CFG_PREF p

/-- The started channels that may be in lockstep: SOURCE 0 (R278). -/
def Dev.lockChans (d : Dev) : List Nat := (d.chans.filter (fun c => d.chanState c.1 == 2 && pSource c.2.params == 0)).map (·.1)

/-! ### Commands whose agreement ends early (R66, R290) -/

/-- The command of a proposal answered unconfirmed goes on without a reply: its stops, its unbinding and its exchange of roles (R66). -/
def Dev.muteProposal (d : Dev) (p : Proposal) : Dev :=
  let hush := fun (x : Stopping) => if x.client = p.client ∧ x.tag = p.tag then { x with reply := false } else x
  let mute := fun (e : Nat × Nat) (d : Dev) => d.putChan e.1 { d.chan e.1 with
    stopAt := (d.chan e.1).stopAt.map (fun (x : Nat × Stopping) => (x.1, hush x.2)), stopping := (d.chan e.1).stopping.map hush }
  let quiet := fun (b : Binding) => { b with ending := b.ending.map (fun (x : Nat × Option Ctx) =>
    (x.1, x.2.filter (fun c => !(c.client == p.client && c.tag == p.tag)))) }
  let d1 := Dev.each p.entries mute d
  { d1 with
    binds := d1.binds.map quiet
    twin := { d1.twin with handover := d1.twin.handover.map (fun (h : Handover) => if h.client = p.client ∧ h.tag = p.tag then { h with reply := false } else h) } }

/-- End the command of a proposal that is applied on neither unit. -/
def Dev.proposalFails (d : Dev) (p : Proposal) (busy : Bool) : Dev :=
  let c : Ctx := { client := p.client, tag := p.tag }
  if p.reply = false then d else if busy then d.finish c p.opcode .busy else d.unconfirmed c p.opcode 1

/-- End the command of a proposal that this unit has committed and that is not acknowledged. -/
def Dev.proposalInDoubt (d : Dev) (p : Proposal) : Dev :=
  if p.reply then (d.muteProposal p).unconfirmed { client := p.client, tag := p.tag } p.opcode 2 else d

/-- End the command of this unit's own proposal where the pair is left (R290): applied on this unit once it is committed, else on neither. -/
def Dev.endOwn (d : Dev) : Dev :=
  match d.twin.own with
  | none => d
  | some p => if (p.phase == .committed) = true then d.proposalInDoubt p else d.proposalFails p false

/-- The proposals of a unit that leaves the pair end: its own, and those that wait for it (R290). -/
def Dev.endProposals (d : Dev) : Dev :=
  let d1 := Dev.each d.twin.waiting (fun p d => d.proposalFails p false) d.endOwn
  { d1 with twin := { d1.twin with own := none, peer := none, waiting := [] } }

/-- No channel's record DMA has changed hands any more, and no exchange of roles is under way. -/
def Dev.dropHandover (d : Dev) : Dev :=
  Dev.each (d.chans.map (·.1)) (fun n d => d.putChan n { d.chan n with handed := false }) { d with twin := { d.twin with handover := none } }

/-- An agreed exchange of roles ends with a role taken otherwise (R300, R301). Its command, which COMMIT_ACK has made OK (R290), gets its one DONE
reply (R66); one still unacknowledged is answered with its proposal. -/
def Dev.endExchange (d : Dev) : Dev :=
  let d1 := d.dropHandover
  match d.twin.handover with
  | none => d1
  | some h =>
    let open_ : Bool := match d.twin.own with | some p => p.opcode == 0x0403 && p.client == h.client && p.tag == h.tag | none => false
    if h.reply = false ∨ open_ = true then d1 else (d1.commitPoint { client := h.client, tag := h.tag }).finish { client := h.client, tag := h.tag } 0x0403 .ok

/-- OFFERING (R287): solo at once where the unit is preferred. -/
def Dev.enterOffering (d : Dev) : Dev :=
  let d1 := (d.endProposals).endExchange.claimPref
  let d2 := { d1 with twin := { d1.twin with
    paired := false, solo := d1.twin.prefOwn, aloneTick := d1.tick, hbSeen := false, lost := false, holdsOther := false } }
  (Dev.each d2.lockChans (fun n d => d.setLockState n .alone) d2).setRole 1

/-- The twin link stops, and ROLE is OFF. -/
def Dev.twinQuit (d : Dev) : Dev :=
  let d1 := ((d.linkDown false).setFlag F.TWIN_STATE_HB_OK false).dropHandover
  let d2 := { d1 with twin := { d1.twin with paired := false, solo := false, own := none, peer := none, waiting := [], holdsOther := false, copyIn := none, copyOut := none, copyLast := none } }
  (Dev.each d2.lockChans (fun n d => d.setLockState n .alone) d2).setRole 0

/-- Pairing off (R277, R278): the commands that wait on the peer end first. -/
def Dev.twinOff (d : Dev) : Dev := ((d.endProposals).endExchange).twinQuit

/-- Whether twin messages reach the unit. -/
def Dev.twinLive (d : Dev) : Bool := d.phase == .run && d.flag F.TWIN_CFG_ENABLE && d.twinUp && !d.fenced 8 0

/-- A received message of `type` (R285): discarded and counted where a check fails, else `f`. -/
def Dev.twinMsg (d : Dev) (type : Nat) (m : LinkMsg) (f : List Byte → Dev → Dev) : Dev :=
  if d.twinLive = false then d
  else if m.good type then f m.body d else d.count C.TWIN_MSG_ERR

/-! ### Commands -/

/-- The checks of TWIN-CONFIGURE (R507). -/
def chkTwinConfigure (enable : Nat) (d : Dev) : Option (Status × Nat) :=
  if 2 ≤ enable then some (.badParam, 0x08) else if d.fenced 8 0 then some (.fenced, 0x08) else none

/-- TWIN-CONFIGURE (R277): ENABLE written; an enabled unit is OFFERING and trains its link. -/
def runTwinConfigure (c : Ctx) (enable : Nat) (d : Dev) : Dev :=
  let was := d.getF F.TWIN_CFG_ENABLE
  let d1 := d.setF F.TWIN_CFG_ENABLE enable
  let d2 := if enable = was then d1
    else if enable = 1 then (d1.enterOffering).linkSeek false else d1.twinOff
  (d2.commitPoint c).finish c 0x0401 .ok

/-- What TWIN-STATUS returns (R507): the TWIN registers, then the lockstep code of every channel. -/
def Dev.twinRecord (d : Dev) : List Byte :=
  d.regBytes (F.TWIN_CFG_ENABLE.addr 0 0) 40 ++ (List.range 128).flatMap (fun n => leBytes 1 (d.lockCode n))

/-- TWIN-STATUS. -/
def runTwinStatus (c : Ctx) (d : Dev) : Dev := d.finish c 0x0402 .ok 0 d.twinRecord

/-- The channels a hand-over names: every STARTED one but the proxy channel (R303). -/
def Dev.handChans (d : Dev) : List Nat := d.lockChans

/-- The checks of TWIN-HANDOVER (R303, R507). -/
def chkTwinHandover (d : Dev) : Option (Status × Nat) :=
  if d.role ≠ 2 ∧ d.role ≠ 3 then some (.badParam, 0x0A)
  else if d.handChans.any (fun n => (d.chan n).lock != .locked) then some (.busy, 0x08) else none

/-- TWIN-HANDOVER. -/
def runTwinHandover (c : Ctx) (d : Dev) : Dev := d.propose c 0x0403 d.handChans []

/-! ### Applying an agreed change (R289) -/

/-- The bytes of parameters that an opcode of R289 carries; a body is padded to whole words. -/
def proposalPlen (op : Nat) : Nat :=
  match op with
  | 0x0208 => 64 | 0x0209 => 4 | 0x0204 => 4 | 0x0202 => 4 | 0x0203 => 4 | 0x0205 => 128 | 0x0206 => 4 | 0x0403 => 0 | 0x0A02 => 8 | 0x0A03 => 12 | _ => 0

/-- Write fields of FRONT_CTRL of the bundle at `addr`, under a mask (R280). -/
def Dev.writeFront (d : Dev) (addr mask value : Nat) : Dev :=
  let b := (addr - F.BUNDLE_FRONT_CTRL_CONVERT_EN.base) / 0x400
  let put := fun (f : Field) (k : Nat) (d : Dev) => if bit mask k then d.setFlag f (bit value k) b else d
  (put F.BUNDLE_FRONT_CTRL_FILTER 2 (put F.BUNDLE_FRONT_CTRL_MATRIX_SEL 1 (put F.BUNDLE_FRONT_CTRL_CONVERT_EN 0 d))).showDigest

/-- The exchange of roles is complete once the last target has passed (R303). -/
def Dev.endHandover (d : Dev) (h : Handover) : Dev :=
  let d2 := { d with twin := { d.twin with vigilTick := d.tick } }.dropHandover
  let d3 := d2.setRole (if d2.role = 2 then 3 else 2)
  if h.reply then (d3.commitPoint { client := h.client, tag := h.tag }).finish { client := h.client, tag := h.tag } 0x0403 .ok else d3

/-- Apply a proposal at its targets; `mine` on the unit that accepted the command. -/
def Dev.applyProposal (d : Dev) (p : Proposal) (mine : Bool) : Dev :=
  let each := fun (f : Nat → Nat → Dev → Dev) => Dev.each p.entries (fun e d => f e.1 e.2 d) d
  let reply : Bool := mine && p.reply
  match p.opcode with
  | 0x0204 => each (fun n k d => d.putChan n { d.chan n with
      stopAt := some (k, { drain := leAt p.params 1 1 == 0, close := false, client := p.client, tag := p.tag, reply := reply, logged := mine && p.logged }) })
  | 0x0202 => each (fun n k d => d.putChan n { d.chan n with
      stopAt := some (k, { drain := false, close := true, client := p.client, tag := p.tag, reply := reply }) })
  | 0x0205 => each (fun n k d => d.recordNext n k p.params)
  | 0x0206 => each (fun n k d =>
      let c := d.chan n
      let e := { d with twin := { d.twin with eqJoin := d.twin.eqJoin.map (fun (x : Nat × Nat × Option Nat) => if x.1 = n ∧ x.2.2 = none then (x.1, x.2.1, some k) else x) } }
      e.putChan n { c with equinox := some k, normalFrom := if c.lock = .joining then some k else c.normalFrom })
  | 0x0208 => each (fun _ k d => d.addBinding p.params k)
  | 0x0209 => each (fun n k d => d.unbindAt 0 n (k - 1) (if reply then some { client := p.client, tag := p.tag } else none))
  | 0x0403 =>
    if p.entries = [] then d.endHandover { entries := [] } else { d with twin := { d.twin with handover := some { entries := p.entries, client := p.client, tag := p.tag, reply := reply } } }
  | 0x0A02 => { d with twin := { d.twin with regAt := d.twin.regAt ++ [{ entries := p.entries, addr := leAt p.params 0 4, mask := 7, value := leAt p.params 4 4 }] } }
  | 0x0A03 => { d with twin := { d.twin with regAt := d.twin.regAt ++ [{ entries := p.entries, addr := leAt p.params 0 4, mask := leAt p.params 4 4, value := leAt p.params 8 4 }] } }
  | _ => d

/-- What must happen before row 0 of picture `k` of channel `n` is issued: a stop or a register write whose target it is. -/
def Dev.reachTarget (d : Dev) (n k : Nat) : Dev :=
  let due := d.twin.regAt.filter (fun r => r.entries.any (fun e => e.1 = n ∧ e.2 ≤ k))
  let d1 := Dev.each due (fun r d => d.writeFront r.addr r.mask r.value)
    { d with twin := { d.twin with regAt := d.twin.regAt.filter (fun r => !r.entries.any (fun e => e.1 = n ∧ e.2 ≤ k)) } }
  match (d1.chan n).stopAt with
  | some (t, s) => if t ≤ k then d1.applyStop n s else d1
  | none => d1

/-- ROW_ISSUE with the targets of R289 reached first. -/
def Dev.rowIssueAt (d : Dev) (n : Nat) : Dev :=
  match (d.chan n).nextRow with
  | some (p, 0) => if d.mayIssue n p 0 then (d.reachTarget n p.index).rowIssue n else d
  | _ => d.rowIssue n

/-- A picture of a channel has begun to depart: record DMA of a channel that a hand-over names changes hands at its target. -/
def Dev.passTarget (d : Dev) (n k : Nat) : Dev :=
  match d.twin.handover with
  | none => d
  | some h =>
    let left := h.entries.filter (fun e => !(e.1 = n ∧ e.2 ≤ k))
    let d1 := if left.length = h.entries.length then d else d.putChan n { d.chan n with handed := true }
    if left.isEmpty then d1.endHandover h
    else { d1 with twin := { d1.twin with handover := some { h with entries := left } } }

/-- The other path is released once every channel has released it (R299). -/
def Dev.releasePath (d : Dev) : Dev :=
  let free := fun (n : Nat) => match (d.chan n).pathFree with | some f => decide (f ≤ d.nextToDepart n) | none => false
  if d.twin.holdsOther ∧ d.lockChans ≠ [] ∧ d.lockChans.all free = true then ({ d with twin := { d.twin with holdsOther := false } }).showPaths else d

/-- Bytes padded with zero bytes to whole chunks of COPY_CHUNK. -/
def toChunks (b : List Byte) : List Byte := b ++ leBytes (4096 * ceilDiv b.length 4096 - b.length) 0

/-- Send `b`, whole chunks, in COPY_CHUNK messages with CSEQ from `first` on (R297). -/
def Dev.sendChunks (d : Dev) (n gen first : Nat) (b : List Byte) : Dev :=
  let count := b.length / 4096
  let d1 := Dev.upto count (fun i d =>
    d.sendTwin 0x0D (leBytes 1 n ++ leBytes 1 0 ++ leBytes 2 gen ++ leBytes 4 (first + i) ++ (b.drop (4096 * i)).take 4096)) d
  d1.setF F.TWIN_COPY_CHUNKS (first + count)

/-- COPY_DONE (R297): the chunks sent, the snapshot picture, and DONE_CRC over the payloads. -/
def Dev.sendCopyDone (d : Dev) (n gen s : Nat) (payload : List Byte) : Dev :=
  d.sendTwin 0x0E (leBytes 1 n ++ leBytes 1 0 ++ leBytes 2 gen ++ leBytes 4 (payload.length / 4096) ++ leBytes 8 s ++
    leBytes 8 (crcOf 3 (leBytes 2 gen) payload))

/-- The egress record of an Equinox join, in one COPY_CHUNK of the join's GEN once picture E − 1 is packetised, then COPY_DONE (R386). -/
def Dev.sendEqRecord (d : Dev) (n : Nat) : Dev :=
  match d.twin.eqJoin.find? (fun x => x.1 = n) with
  | some (_, gen, some e) =>
    if d.packetisedBelow n e = false then d
    else
      let d1 := { d with twin := { d.twin with eqJoin := d.twin.eqJoin.filter (fun x => x.1 ≠ n) } }
      match d1.egressRecord n e with
      | none => d1
      | some r => (d1.sendChunks n gen 0 (toChunks r)).sendCopyDone n gen (e - 1) (toChunks r)
  | _ => d

/-- The end of a copy (R297, R386): the egress record for picture S + 1 as the last chunk once it is known, then COPY_DONE; a channel that is not
bound has no record. -/
def Dev.sendCopyEnd (d : Dev) (n : Nat) : Dev :=
  match d.twin.copyLast with
  | none => d
  | some (m, gen, s, payload) =>
    let done := { d with twin := { d.twin with copyLast := none } }
    if m ≠ n then d
    else if (d.binds.any (fun x => x.kind = 0 ∧ x.stream = n)) = false then done.sendCopyDone n gen s payload
    else match d.egressRecord n (s + 1) with
      | none => d
      | some r => (done.sendChunks n gen (payload.length / 4096) (toChunks r)).sendCopyDone n gen s (payload ++ toChunks r)

/-- A channel that leaves lockstep from a picture on (R290, R292) stops before row 0 of it departs. -/
def Dev.reachLeave (d : Dev) (n : Nat) : Dev :=
  let c := d.chan n
  match c.leaveAt, c.nextDepart with
  | some (t, cause), some (p, 0) =>
    if t ≤ p.index ∧ d.departDue n (p.row 0) = true ∧ d.phase = .run then
      (if (c.lock == .locked || c.lock == .unverified) = true then d.leaveLockstep n p.index cause else d.putChan n { c with leaveAt := none })
    else d
  | _, _ => d

/-- ROW_DEPART with the hand-over and the release of a path. -/
def Dev.rowDepartAt (d : Dev) (n : Nat) (lens : List Nat) (crc : Nat) : Dev :=
  let d := d.reachLeave n
  let next := (d.chan n).nextDepart
  let d1 := ((d.rowDepart n lens crc).sendEqRecord n).sendCopyEnd n
  match next with
  | some (p, 0) => if (d1.rowOf n p.index 0).departed then (d1.passTarget n p.index).releasePath else d1
  | _ => d1

/-! ### Proposals (R289, R290) -/

/-- The next proposal of this unit that waits is sent; with the link lost, all that wait end, applied on neither unit (R290). -/
def Dev.nextProposal (d : Dev) : Dev :=
  if d.twin.lost ∨ d.twinUp = false then
    Dev.each d.twin.waiting (fun p d => d.proposalFails p false) { d with twin := { d.twin with waiting := [] } }
  else match d.twin.own, d.twin.waiting with
  | none, p :: rest =>
    let q := { p with id := d.twin.nextProp, entries := p.entries.map (fun e => (e.1, max e.2 (d.nextUnissued e.1 + 2))) }
    ({ d with twin := { d.twin with waiting := rest, nextProp := (d.twin.nextProp + 1) % 2 ^ 32 } }).sendPropose q
  | _, _ => d

/-- This unit's proposal is over. -/
def Dev.dropOwn (d : Dev) : Dev := ({ d with twin := { d.twin with own := none } }).nextProposal

/-- Whether an entry stands against a proposal: the channel is not in the state the command needs (R289). -/
def Dev.proposalState (d : Dev) (p : Proposal) : Bool :=
  p.entries.all (fun e => d.chanState e.1 == 2 && ((d.chan e.1).lock == .locked || (p.opcode == 0x0206 && (d.chan e.1).lock == .joining)))

/-- PROPOSE received. -/
def Dev.gotPropose (b : List Byte) (d : Dev) : Dev :=
  let count := leAt b 6 1
  let op := leAt b 4 2
  let entries := (List.range count).map (fun i => (leAt b (20 + 9 * i) 1 % 128, leAt b (21 + 9 * i) 8))
  let p : Proposal := { id := leAt b 0 4, opcode := op, entries := entries, params := (b.drop (20 + 9 * count)).take (proposalPlen op), phase := .agreed, tick := d.tick }
  let refuse := fun (r : Nat) (d : Dev) => d.sendTwin 0x05 (leBytes 4 p.id ++ leBytes 1 r)
  let crossed : Bool := match d.twin.own with | some q => q.phase == .proposed | none => false
  let digest : Bool := match entries with | e :: _ => d.chanDigest e.1 == leAt b 12 8 | [] => true
  let late := entries.any (fun e => match (d.chan e.1).lastPlanned with | some k => decide (e.2 ≤ k) | none => false)
  if crossed ∧ d.role = 2 then refuse 3 d
  else if d.proposalState p = false then refuse 4 d
  else if digest = false then refuse 2 d
  else if late then refuse 1 d
  else ({ d with twin := { d.twin with peer := some p } }).sendTwin 0x04 (leBytes 4 p.id)

/-- AGREE received: COMMIT journaled and sent, the change applied at the targets. -/
def Dev.gotAgree (b : List Byte) (d : Dev) : Dev :=
  match d.twin.own with
  | none => d
  | some p =>
    if p.id ≠ leAt b 0 4 ∨ (p.phase != .proposed) = true then d
    else
      let d1 := if p.reply then d.commitPoint { client := p.client, tag := p.tag } else d
      let d2 := { d1 with twin := { d1.twin with own := some { p with phase := .committed, tick := d1.tick } } }
      (d2.sendTwin 0x06 (leBytes 4 p.id)).applyProposal p true

/-- REFUSE received: LATE proposes again up to 8 times, COLLIDE after the peer's proposal, any other ends the command. -/
def Dev.gotRefuse (b : List Byte) (d : Dev) : Dev :=
  match d.twin.own with
  | none => d
  | some p =>
    if p.id ≠ leAt b 0 4 ∨ (p.phase != .proposed) = true then d
    else
      let gone := { d with twin := { d.twin with own := none } }
      match leAt b 4 1 with
      | 1 =>
        if 8 ≤ p.tries + 1 then (d.proposalFails p true).dropOwn
        else
          let q := { p with id := d.twin.nextProp, tries := p.tries + 1, entries := p.entries.map (fun e => (e.1, e.2 + 1)) }
          ({ gone with twin := { gone.twin with nextProp := (d.twin.nextProp + 1) % 2 ^ 32 } }).sendPropose q
      | 3 =>
        let e := { gone with twin := { gone.twin with waiting := p :: d.twin.waiting } }
        if e.twin.peer.isSome then e else e.nextProposal
      | _ => ((d.proposalFails p false).sendTwin 0x08 (leBytes 4 p.id)).dropOwn

/-- COMMIT received: applied, COMMIT_ACK sent, and a proposal of this unit that collided goes now. -/
def Dev.gotCommit (b : List Byte) (d : Dev) : Dev :=
  match d.twin.peer with
  | none => d
  | some p =>
    if p.id ≠ leAt b 0 4 then d
    else
      let d1 := ({ d with twin := { d.twin with peer := none } }).applyProposal p false
      (d1.sendTwin 0x07 (leBytes 4 p.id)).nextProposal

/-- COMMIT_ACK received: the command completes OK; a stop or a hand-over answers when it is made. -/
def Dev.gotCommitAck (b : List Byte) (d : Dev) : Dev :=
  match d.twin.own with
  | none => d
  | some p =>
    if p.id ≠ leAt b 0 4 ∨ (p.phase != .committed) = true then d
    else
      let c : Ctx := { client := p.client, tag := p.tag }
      let first := (p.entries.head?).getD (0, 0)
      let d1 :=
        if p.reply = false then d
        else match p.opcode with
          | 0x0205 => d.finish c 0x0205 .ok 0 (d.openResults p.params)
          | 0x0206 => d.finish c 0x0206 .ok 0 (leBytes 8 first.2)
          | 0x0208 => d.finish c 0x0208 .ok
          | 0x0403 => if p.entries = [] then d.finish c 0x0403 .ok else d
          | 0x0A02 => d.finish c 0x0A02 .ok
          | 0x0A03 =>
            let a := leAt p.params 0 4
            let old := d.regWord a
            let m := leAt p.params 4 4 % 8
            d.finish c 0x0A03 .ok 0 (leBytes 4 old ++ leBytes 4 ((old &&& (m ^^^ (2 ^ 32 - 1))) ||| (leAt p.params 8 4 &&& m)))
          | _ => d
      d1.dropOwn

/-- ABORT received: the peer's proposal falls. -/
def Dev.gotAbort (b : List Byte) (d : Dev) : Dev :=
  match d.twin.peer with
  | none => d
  | some p => if p.id = leAt b 0 4 then ({ d with twin := { d.twin with peer := none } }).nextProposal else d

/-- Whether the hold limit of R289 has passed for a proposal: 20 µs before RESCUE_AT of row 0 of a target picture. -/
def Dev.holdPassed (d : Dev) (p : Proposal) : Bool :=
  p.entries.any (fun e => match (d.rowOf e.1 e.2 0).arrival with
    | some a => decide (0 ≤ nsDiff (d.ns + 20000) (d.rescueAt e.1 a))
    | none => false)

/-- A unit in doubt (R290): a VIGIL unit stops transmitting the channels from their targets, as for LEAVE. -/
def Dev.inDoubt (d : Dev) (p : Proposal) : Dev :=
  let d1 := d.setFlag F.TWIN_STATE_IN_DOUBT true
  if d1.role = 3 then Dev.each p.entries (fun e d => d.leaveFrom e.1 e.2 7) d1 else d1

/-- PROPOSAL_TIMEOUT (R290). -/
def Dev.proposalTimeout (d : Dev) : Dev :=
  let d1 :=
    match d.twin.own with
    | none => d
    | some p =>
      if (p.phase == PropPhase.proposed) = true then
        if 25000 ≤ d.tick - p.tick then ((d.proposalFails p false).sendTwin 0x08 (leBytes 4 p.id)).dropOwn else d
      else if d.holdPassed p then
        ((d.proposalInDoubt p).inDoubt p).dropOwn
      else d
  match d1.twin.peer with
  | none => d1
  | some p => if d1.holdPassed p then (({ d1 with twin := { d1.twin with peer := none } }).inDoubt p).nextProposal else d1

/-! ### Pairing (R279, R286 to R288) -/

/-- The unit that is preferred: of two equal claims, the lower serial number (R277). -/
def Dev.preferred (d : Dev) (peerPref : Bool) (peerSerial : Nat) : Bool :=
  if d.twin.prefOwn = peerPref then decide (d.alm.serial < peerSerial) else d.twin.prefOwn

/-- The units pair (R279); a unit that was reset meets an ACTIVE peer as VIGIL (R302). -/
def Dev.pair (d : Dev) (peerPref : Bool) (peerSerial peerRole peerEpoch : Nat) (peerLive : Bool) : Dev :=
  let pref := d.preferred peerPref peerSerial
  let live := d.chans.any (fun c => d.chanState c.1 == 2 && pClass c.2.params == 0)
  let active : Bool :=
    if peerRole = 2 ∧ d.role ≠ 2 then false
    else if d.role = 2 ∧ peerRole ≠ 2 then true
    else if live ∧ peerLive = false then true
    else if peerLive ∧ live = false then false else pref
  let d0 := (d.endProposals).endExchange
  let d1 := if d.twin.prefOwn = peerPref then d0.logOpen .twin 0 else d0
  let d2 := { d1 with twin := { d1.twin with
    paired := true, solo := false, peerSerial := peerSerial, peerRole := peerRole, peerEpoch := peerEpoch, hbTick := d1.tick, hbSeen := false
    lost := false, peerTick := d1.tick, vigilTick := d1.tick } }
  let d3 := ((d2.setFlag F.TWIN_CFG_PREF pref).setF F.TWIN_STATE_REFUSE_WHY 0).setFlag F.TWIN_STATE_IN_DOUBT false
  let d4 := (d3.setRole (if active then 2 else 3)).raise .twin 0 0
  if active then
    let d5 := Dev.each d4.lockChans (fun n d => (d.putChan n { d.chan n with matches2 := 0 }).setLockState n .alone) d4
    -- R386: a unit that has run solo begins a new lineage on every STARTED channel
    if d.twin.solo then Dev.each (d5.chans.map (·.1)) (fun n d => if d.chanState n = 2 then d.putChan n { d.chan n with discontinuity := true } else d) d5 else d5
  else Dev.each d4.lockChans (fun n d => d.beginJoin n) d4

/-- HELLO received. -/
def Dev.gotHello (b : List Byte) (d : Dev) : Dev :=
  let dd := leAt b 24 8
  let v := d.getF F.TWIN_VERSION
  let d1 := (d.set64 F.TWIN_PEER_DIGEST_LO F.TWIN_PEER_DIGEST_HI dd).setF F.TWIN_VERSION (v % 65536 + 65536 * leAt b 12 2)
  let why := if leAt b 0 4 ≠ d.getF F.TWIN_PAIR_ID then 3 else if leAt b 12 1 ≠ v % 256 then 2
    else if dd ≠ d.get64 F.TWIN_DIGEST_LO F.TWIN_DIGEST_HI then 1 else 0
  let again : Bool := d.twin.paired && !(d.twin.hbSeen && leAt b 15 1 == 1)
  if why ≠ 0 then
    let d0 := (d1.endProposals).endExchange
    let d2 := { d0 with twin := { d0.twin with paired := false, solo := false } }
    let d3 := (d2.setRole 5).setF F.TWIN_STATE_REFUSE_WHY why
    if d.role = 5 then d3 else d3.raise .twin 0 7
  else if again then d1
  else d1.pair (leAt b 14 1 != 0) (leAt b 4 8) (leAt b 15 1) (leAt b 16 1) (leAt b 17 1 != 0)

/-- HELLO_SEND: every 1 ms until paired. -/
def Dev.helloSend (d : Dev) : Dev := if d.twinLive ∧ d.isPaired = false ∧ d.role = 1 then d.sendHello else d

/-- PAIRING_RETRY: a REFUSED unit tries again. -/
def Dev.pairingRetry (d : Dev) : Dev := if d.twinLive ∧ d.role = 5 then d.sendHello else d

/-- HEARTBEAT received (R288, R301): the link is back, and a DEMOTED unit becomes VIGIL and joins. -/
def Dev.gotHeartbeat (b : List Byte) (d : Dev) : Dev :=
  if d.injecting 4 ∧ bit (d.pertTarget 4) 1 then d.inject 4 else
  let gap := (d.tick - d.twin.hbTick) * 4 / 1000
  let d1 := if d.twin.hbSeen then d.maxF F.TWIN_HB_GAP_MAX gap else d
  let d2 := { d1 with twin := { d1.twin with
    hbTick := d1.tick, hbSeen := true, lost := false, peerRole := leAt b 0 1, peerEpoch := leAt b 1 1, peerCount := leAt b 8 4, aloneTick := d1.tick } }
  let d3 := (d2.setF F.TWIN_LAST_HB d2.ns).setFlag F.TWIN_STATE_HB_OK true
  if d3.role = 4 then Dev.each d3.lockChans (fun n d => d.beginJoin n) (d3.setRole 3) else d3

/-- HEARTBEAT_SEND. -/
def Dev.heartbeatSend (d : Dev) : Dev :=
  if d.twinLive = false then d
  else if d.injecting 4 ∧ bit (d.pertTarget 4) 0 then d.inject 4
  else
    let flags := d.getF F.TWIN_STATE_OWN_PATH_UP + 2 * d.getF F.TWIN_STATE_PEER_SEEN + 4 * d.getF F.TWIN_STATE_IN_DOUBT
    let body := leBytes 1 d.role ++ leBytes 1 (d.getF F.TWIN_STATE_EPOCH) ++ leBytes 1 flags ++ leBytes 1 0 ++ leBytes 4 d.ns ++ leBytes 4 d.twin.hbCount
    ({ d with twin := { d.twin with hbCount := (d.twin.hbCount + 1) % 2 ^ 32 } }).sendTwin 0x02 body

/-- Ticks in 300 µs. -/
def ticks300us : Nat := 75000

/-- LINK_LOST (R288): LOCKED channels become UNVERIFIED. -/
def Dev.linkLost (d : Dev) : Dev :=
  if d.isPaired = false ∨ d.twin.lost = true ∨ d.tick - d.twin.hbTick < ticks300us then d
  else
    let d1 := ({ d with twin := { d.twin with lost := true, vigilTick := d.tick } }).setFlag F.TWIN_STATE_HB_OK false
    let d2 := (d1.count C.TWIN_LINK_LOSS).raise .twin 0 1
    Dev.each ((d2.lockChans).filter (fun n => (d2.chan n).lock == .locked)) (fun n d => d.setLockState n .unverified) d2

/-! ### Divergence (R291, R292) -/

/-- PIC_DIGEST received. -/
def Dev.gotPicDigest (b : List Byte) (d : Dev) : Dev :=
  let n := leAt b 0 1 % 128
  let k := leAt b 8 8
  let c := d.chan n
  if d.chanState n < 2 ∨ d.isPaired = false then d
  else
    let x := (k, leAt b 4 4, leAt b 16 4, leAt b 20 4)
    Dev.compareDigests n 4 (d.putChan n { c with peerDigests := (c.peerDigests ++ [x]).drop ((c.peerDigests.length + 1) - 64), lastPeer := some k })

/-- ROW_NOTE received. -/
def Dev.gotRowNote (b : List Byte) (d : Dev) : Dev :=
  let n := leAt b 0 1 % 128
  let c := d.chan n
  let d := if leAt b 2 1 = 1 then { d with twin := { d.twin with vigilTick := d.tick } } else d
  if (c.lock == .locked) then d.putChan n { c with peerNotes := c.peerNotes ++ [⟨leAt b 8 8, leAt b 1 1, leAt b 2 1⟩] } else d

/-- LEAVE received: the peer has left lockstep, and this unit transmits with no lockstep peer. -/
def Dev.gotLeave (b : List Byte) (d : Dev) : Dev :=
  let n := leAt b 0 1 % 128
  let c := d.chan n
  let d0 := { d with twin := { d.twin with vigilTick := d.tick } }
  if (c.lock == .locked || c.lock == .unverified) = true then
    ((d0.putChan n { c with matches2 := 0, notes := [], peerNotes := [] }).setLockState n .alone).showTx n
  else d0

/-! ### Joins (R294 to R299) -/

/-- The last picture of which every row has committed or been rescued. -/
def Chan.lastWhole (c : Chan) : Option Nat := ((c.pics.filter (fun p => p.complete || p.tail)).getLast?).map (·.index)

/-- What TAIL carries of a picture (R298): the access unit's bytes, then for each row its motion summary, QP, rung and cap (log entry 99). -/
def Pic.tailBytes (p : Pic) (n : Nat) : List Byte :=
  (List.range (p.bits / 8)).map (Config.accessUnitByte [n, (p.plan.map (·.lineage)).getD 0, p.index]) ++
  p.rows.flatMap (fun (r : RowSt) => Config.tailRow [r.summary.1, r.summary.2, r.qp, r.rung, r.cap])

/-- Send the TAIL of each picture from S + 1 to Q − 1 whose rows have committed (R298), one message per 4,096 bytes. -/
def Dev.sendTails (d : Dev) : Dev :=
  match d.twin.copyOut with
  | none => d
  | some x =>
    match x.q with
    | none => d
    | some q =>
      let c := d.chan x.channel
      let ps := (c.pics.filter (fun p => decide (x.sent < p.index) && decide (p.index < q) && p.complete))
      let send := fun (p : Pic) (d : Dev) =>
        let b := p.tailBytes x.channel
        Dev.upto (max 1 (ceilDiv b.length 4096)) (fun i d => d.sendTwin 0x10
          (leBytes 1 x.channel ++ leBytes 1 0 ++ leBytes 2 x.gen ++ leBytes 4 i ++ leBytes 8 p.index ++ (b.drop (4096 * i)).take 4096)) d
      let d1 := Dev.each ps send d
      let last := match ps.getLast? with | some p => p.index | none => x.sent
      let d2 := { d1 with twin := { d1.twin with copyOut := some { x with sent := last } } }
      if q ≤ last + 1 then d2.setF F.TWIN_COPY_PHASE 3 else d2

/-- What a copy carries of channel `n` at snapshot picture `s` (R297): the rate-control record of R257; then, in a layout that is open (log entry 99), the
model and the coded sizes, the statistics, LINEAGE, the last random access index, and every picture to S whose reconstruction is held. -/
def Dev.copyPayload (d : Dev) (n s : Nat) : List Byte :=
  let c := d.chan n
  let word := fun (x : Option Nat) => match x with | some k => (k : Int) + 1 | none => 0
  let upTo := c.pics.filter (fun p => decide (p.index ≤ s))
  let picture := fun (p : Pic) => [(p.index : Int), p.bits, p.recon, if p.buf.isSome then 1 else 0] ++
    p.rows.flatMap (fun (r : RowSt) => [r.summary.1, r.summary.2, (r.digest : Int), r.bits])
  toChunks (d.rcRecord n ++ Config.copyRest [(s : Int), c.lineage, word c.rap, word c.idr, word c.lastBp, c.seq] (upTo.map picture))

/-- JOIN_REQ received (R296, R297): an Equinox join proposes FORCE-EQUINOX; a copy takes its snapshot and sends it. -/
def Dev.gotJoinReq (b : List Byte) (d : Dev) : Dev :=
  let n := leAt b 0 1 % 128
  let gen := leAt b 2 2
  let c := d.chan n
  if d.chanState n ≠ 2 ∨ d.mayTransmit n = false then d
  else if leAt b 1 1 = 1 then
    let e := { d with twin := { d.twin with eqJoin := (d.twin.eqJoin.filter (fun (x : Nat × Nat × Option Nat) => x.1 ≠ n)) ++ [(n, gen, none)] } }
    e.propose {} 0x0206 [n] (leBytes 1 n ++ leBytes 3 0) false
  else
    match c.lastWhole with
    | none => d
    | some s =>
      let d1 := (((d.setF F.TWIN_COPY_CHANNEL n).setF F.TWIN_COPY_PHASE 1).setFlag F.TWIN_COPY_SENDER true).setF F.TWIN_COPY_GEN gen
      let payload := d.copyPayload n s
      let d2 := d1.sendChunks n gen 0 payload
      let d3 := { d2 with twin := { d2.twin with copyOut := some { channel := n, gen := gen, snapshot := s, sent := s }, copyLast := some (n, gen, s, payload) } }
      d3.sendCopyEnd n

/-- JOIN_RETRY (R294): 10 ms after a failed attempt. -/
def Dev.joinRetry (d : Dev) (n : Nat) : Dev :=
  let since := d.tick - (assoc d.twin.joinTick n).getD 0
  let busy : Bool := (match d.twin.copyIn with | some x => x.channel == n | none => false) || (d.chan n).normalFrom.isSome
  if (d.chan n).lock = .joining ∧ d.chanState n = 2 ∧ busy = false ∧ d.mayRejoin n = true ∧ 2500000 ≤ since then d.sendJoinReq n else d

/-- COPY_CHUNK received: kept when it belongs to the current GEN, else discarded. -/
def Dev.gotCopyChunk (b : List Byte) (d : Dev) : Dev :=
  let n := leAt b 0 1 % 128
  let gen := leAt b 2 2
  let now := (assoc d.twin.joinGen n).getD 0
  if (d.chan n).lock ≠ .joining ∨ gen ≠ now then d
  else
    let x : CopyIn := match d.twin.copyIn with
      | some x => if x.channel = n ∧ x.gen = gen then x else { channel := n, gen := gen }
      | none => { channel := n, gen := gen }
    let y := { x with chunks := assocPut x.chunks (leAt b 4 4) ((b.drop 8).take 4096) }
    let d1 := (((d.setF F.TWIN_COPY_CHANNEL n).setF F.TWIN_COPY_PHASE 1).setFlag F.TWIN_COPY_SENDER false).setF F.TWIN_COPY_GEN gen
    { d1.setF F.TWIN_COPY_CHUNKS y.chunks.length with twin := { d1.twin with copyIn := some y } }

/-- Apply a snapshot (R297): the joining unit's own pictures below Q give way to it. -/
def Dev.applySnapshot (d : Dev) (n q : Nat) (s : Snapshot) : Dev :=
  let mine := ((d.chan n).pics.filter (fun p => decide (p.index < q) && p.plan.isSome)).map (·.index)
  let d1 := Dev.each mine (fun k d => d.cancelFrom n k 0) d
  let c := d1.chan n
  let old := c.pics.filter (fun p => decide (q ≤ p.index) || !s.pics.any (fun x => x.index == p.index))
  let hide := fun (p : Pic) => if p.index < q then { p with plan := none, rows := [], complete := false, dropped := true } else p
  let bufs := d1.freeBuffers s.pics.length
  let pics := s.pics.zipIdx.foldl (fun l p => insertPic { p.1 with tail := true, dropped := true, buf := bufs[p.2]? } l) (old.map hide)
  d1.putChan n { c with
    pics := pics, lineage := s.lineage, rap := some s.rap, idr := some s.rap, seq := s.seq, lastBp := s.lastBp, rc := s.rc, shadow := false, matches2 := 0, normalFrom := some q }

/-- COPY_DONE received (R297, R298): the snapshot `snap` that the chunks carry is applied when every chunk has arrived and DONE_CRC
matches, and SWITCH names Q; otherwise the attempt fails. -/
def Dev.gotCopyDone (snap : Snapshot) (b : List Byte) (d : Dev) : Dev :=
  let n := leAt b 0 1 % 128
  let gen := leAt b 2 2
  let count := leAt b 4 4
  match d.twin.copyIn with
  | none => d
  | some x =>
    if x.channel ≠ n ∨ x.gen ≠ gen ∨ x.applied = true then d
    else
      let all := (List.range count).all (fun i => (assoc x.chunks i).isSome)
      let data := (List.range count).flatMap (fun i => (assoc x.chunks i).getD [])
      let crcOk := crcOf 3 (leBytes 2 gen) data == leAt b 16 8
      if all = false ∨ crcOk = false then d.joinFails n
      else if (d.chan n).normalFrom.isSome ∨ d.getF F.TWIN_CFG_JOIN_METHOD = 1 then
        { d.takeEgress n (data.take 24) with twin := { d.twin with copyIn := none } }
      else
        let q := d.nextUnissued n
        let d1 := ((d.applySnapshot n q snap).takeEgress n snap.egress).setF F.TWIN_COPY_PHASE 2
        let d2 := { d1 with twin := { d1.twin with copyIn := some { x with applied := true, snapshot := leAt b 8 8, q := some q, chunks := [] } } }
        d2.sendTwin 0x0F (leBytes 1 n ++ leBytes 1 0 ++ leBytes 2 gen ++ leBytes 4 0 ++ leBytes 8 q)

/-- SWITCH received. -/
def Dev.gotSwitch (b : List Byte) (d : Dev) : Dev :=
  match d.twin.copyOut with
  | none => d
  | some x =>
    if x.channel ≠ leAt b 0 1 % 128 ∨ x.gen ≠ leAt b 2 2 then d
    else
      let q := leAt b 8 8
      let d1 := ({ d with twin := { d.twin with copyOut := some { x with q := some q } } }).setF F.TWIN_COPY_PHASE (if q ≤ x.snapshot + 1 then 3 else 2)
      d1.sendTails

/-- TAIL received (R298): `pic` is the picture that this part completes, as decoded, with its row records, `lens` the
bytes of its NAL units. -/
def Dev.gotTail (pic : Option Pic) (lens : List Nat) (b : List Byte) (d : Dev) : Dev :=
  match d.twin.copyIn, pic with
  | some x, some p =>
    let n := leAt b 0 1 % 128
    let k := leAt b 8 8
    if x.channel ≠ n ∨ x.gen ≠ leAt b 2 2 ∨ x.applied = false then d
    else
      let c := d.chan n
      let pics := insertPic { p with index := k, tail := true, dropped := true, complete := true, buf := some d.freeBuffer } (c.pics.filter (fun y => y.index ≠ k))
      let rap := match p.plan with | some z => some z.rap | none => c.rap
      let idr := match p.plan with | some z => some z.idr | none => c.idr
      let d1 := (d.putChan n { c with pics := pics, seq := c.seq + 1, rap := rap, idr := idr }).countTail n k lens
      if x.q = some (k + 1) then d1.setF F.TWIN_COPY_PHASE 3 else d1
  | _, _ => d

/-! ### Beacons, take-over, demotion (R282, R300, R301) -/

/-- An ACTIVE unit demotes itself (R301). -/
def Dev.goDemoted (d : Dev) : Dev :=
  let d0 := d.endExchange
  let d1 := { d0 with twin := { d0.twin with holdsOther := false } }
  ((d1.setRole 4).count C.TWIN_DEMOTE).raise .twin 0 3

/-- A path beacon (`beacon`, its 20 bytes of payload) or another frame with the peer path's source MAC arrives on a port. -/
def Dev.pathBeacon (d : Dev) (port : Nat) (beacon : Bool) (b : List Byte) : Dev :=
  let good := !beacon || (crc32c (b.take 16) == leAt b 16 4 && leAt b 0 4 == d.getF F.TWIN_PAIR_ID)
  if d.phase ≠ .run ∨ d.flag F.TWIN_CFG_ENABLE = false ∨ port ≠ d.watchPort ∨ good = false ∨ d.fenced 7 port = true then d
  else
    let d1 := (({ d with twin := { d.twin with peerTick := d.tick, aloneTick := d.tick } }).setFlag F.TWIN_STATE_PEER_SEEN true).count C.ETH_PEER_SEEN port
    if beacon = false then d1
    else
      let epoch := leAt b 5 1
      let d2 := d1.setF F.TWIN_LAST_BEACON d1.ns
      let d3 := { d2 with twin := { d2.twin with peerEpoch := epoch } }
      let ahead := (epoch + 256 - d.getF F.TWIN_STATE_EPOCH) % 256
      if d.role = 2 ∧ d.twin.lost = true ∧ leAt b 4 1 = 2 ∧ 0 < ahead ∧ ahead < 128 then d3.goDemoted else d3

/-- BEACON_SEND (R282): on each path this unit of a pair transmits, where its port can send. -/
def Dev.beaconSend (d : Dev) : Dev :=
  if d.injecting 4 ∧ bit (d.pertTarget 4) 2 ∧ d.flag F.TWIN_CFG_ENABLE = true then d.inject 4 else
  Dev.upto 2 (fun k d =>
    if d.phase = .run ∧ d.flag F.TWIN_CFG_ENABLE = true ∧ d.pathOn k = true ∧ d.portUp k = true then
      let seq := getAt 0 d.twin.beacons k
      let b := leBytes 4 (d.getF F.TWIN_PAIR_ID) ++ leBytes 1 d.role ++ leBytes 1 (d.getF F.TWIN_STATE_EPOCH) ++ leBytes 1 k ++ leBytes 1 0 ++
        leBytes 4 d.ns ++ leBytes 4 seq
      let d1 := ({ d with twin := { d.twin with beacons := setAt d.twin.beacons k ((seq + 1) % 2 ^ 32) } }).emit (.beacon k k (bodyWords (b ++ leBytes 4 (crc32c b))))
      ((d1.count C.ETH_TX_FRAMES k).count C.ETH_TX_BYTES k 0 64).count C.ETH_BEACON_TX k
    else d) d

/-- A JOINING channel is transmitted from picture `f` on at a take-over (R300): those pictures are sent again whole, the first with
DISCONTINUITY, in a raised LINEAGE. -/
def Dev.carryShadow (d : Dev) (n : Nat) : Dev :=
  let c := d.chan n
  let f := match c.lastPeer with | some k => k + 1 | none => d.nextToDepart n
  let lin := (c.lineage + 1) % 2 ^ 32
  let redo := fun (p : Pic) =>
    if p.index < f then p
    else { p with
      rows := p.rows.map (fun (x : RowSt) => { x with departed := false })
      plan := p.plan.map (fun (x : PicPlan) => { x with lineage := lin, discontinuity := x.discontinuity || p.index == f }) }
  let planned := c.pics.any (fun p => p.index == f && p.plan.isSome)
  let d1 := d.putChan n { c with
    pics := c.pics.map redo, lineage := if planned then lin else c.lineage, discontinuity := c.discontinuity || !planned
    shadow := false, normalFrom := none, transmitFrom := some f, au := none }
  d1.setLockState n .alone

/-- TAKEOVER (R300). -/
def Dev.takeover (d : Dev) : Dev :=
  if d.role ≠ 3 ∨ d.tick - d.twin.hbTick < ticks300us ∨ d.tick - d.twin.peerTick < ticks300us ∨ d.phase ≠ .run then d
  else
    let d0 := d.linkLost
    let d1 := (d0.setFlag F.TWIN_STATE_PEER_SEEN false).setF F.TWIN_STATE_EPOCH ((d0.twin.peerEpoch + 1) % 256)
    let d1b := d1.endExchange
    let d2 := { d1b with twin := { d1b.twin with holdsOther := true } }
    let d3 := ((d2.setRole 2).count C.TWIN_TAKEOVER).raise .twin 0 2
    let d4 := Dev.each d3.lockChans (fun n d =>
      match (d.chan n).lock with
      | .joining => d.carryShadow n
      | .left => d.carryShadow n
      | _ => d.setLockState n .alone) d3
    let d5 := Dev.each d4.vigilSegs (fun s d => d.queueSegment s.1 s.2) { d4 with vigilSegs := [] }
    let proxies := (d5.chans.filter (fun c => d5.chanState c.1 == 2 && pSource c.2.params == 1)).map (·.1)
    (Dev.each proxies (fun n d => d.putChan n { d.chan n with transmitFrom := some (d.nextToDepart n) }) d5).showAllTx

/-- DEMOTE (R301): the own path is lost while 1,200 µs have passed with no heartbeat. A later EPOCH demotes as its beacon
arrives. -/
def Dev.demote (d : Dev) : Dev :=
  let out := d.flag F.TWIN_STATE_OWN_PATH_UP = false ∨ d.fenced 7 d.ownPath = true
  if d.role = 2 ∧ d.isPaired = true ∧ out ∧ 300000 ≤ d.tick - d.twin.hbTick then d.goDemoted else d

/-- SOLO (R287): 5 s with neither a heartbeat nor a peer beacon. -/
def Dev.goSolo (d : Dev) : Dev :=
  if d.role = 1 ∧ d.twin.solo = false ∧ 1250000000 ≤ d.tick - d.twin.aloneTick then
    (({ d with twin := { d.twin with solo := true } }).showPaths).showAllTx
  else d

/-- REVERT (R303). -/
def Dev.revert (d : Dev) : Dev :=
  let held := d.getF F.TWIN_TIMERS_REVERT_S * 250000000
  if d.flag F.TWIN_CFG_REVERT_EN = true ∧ d.flag F.TWIN_CFG_PREF = true ∧ d.role = 3 ∧ d.lockChans ≠ [] ∧
      d.lockChans.all (fun n => (d.chan n).lock == .locked) = true ∧ held ≤ d.tick - d.twin.vigilTick ∧ d.twin.own.isNone = true then
    ({ d with twin := { d.twin with vigilTick := d.tick } }).raise .twin 0 8 |>.propose {} 0x0403 d.handChans [] false
  else d

/-- SEGMENT_HOLD_EXPIRY (R293): held segments older than HOLD_US are dropped. -/
def Dev.holdExpiry (d : Dev) : Dev :=
  let hold := d.getF F.TWIN_TIMERS_HOLD * 25000
  if d.role = 3 then { d with vigilSegs := d.vigilSegs.filter (fun s => decide (d.tick - s.2.tick < hold)) } else d

/-- PEER_SEEN and HB_OK fall 300 µs after the last beacon and heartbeat (R282, R304). -/
def Dev.tickTwin (d : Dev) : Dev :=
  let d1 := if d.flag F.TWIN_STATE_PEER_SEEN ∧ ticks300us ≤ d.tick - d.twin.peerTick then d.setFlag F.TWIN_STATE_PEER_SEEN false else d
  if d1.flag F.TWIN_STATE_HB_OK ∧ ticks300us ≤ d1.tick - d1.twin.hbTick then d1.setFlag F.TWIN_STATE_HB_OK false else d1

end Sys2Proof.Machine
end

