-- ==== Sys2Proof/Machine/Records.lean ====
section
/-! DEFINITION. Record DMA (R360 to R368): RECORD-BIND, RECORD-UNBIND, SEGMENT_WRITE,
SEGMENT_COMMIT, and the writes of RECQ.HEAD and STATE.RESUME. -/
namespace Sys2Proof.Machine

/-! ### RECORD-BIND (R360) -/

def rbQueue (p : List Byte) : Nat := leAt p 0 1
def rbAppend (p : List Byte) : Bool := bit (leAt p 3 1) 0
def rbNotify (p : List Byte) : Nat := leAt p 2 1
def rbRing (p : List Byte) : Nat := leAt p 8 4
def rbScatter (p : List Byte) : Nat := leAt p 16 8
def rbProgress (p : List Byte) : Nat := leAt p 24 8

/-- The streams that the CHANNELS and AUDIO bits name, as (KIND, STREAM). -/
def rbStreams (p : List Byte) : List (Nat × Nat) :=
  (((List.range 128).filter (fun n => bit (leAt p 32 16) n)).map (fun n => (0, n))) ++
  (((List.range 16).filter (fun k => bit (leAt p 48 2) k)).map (fun k => (1, k)))

/-- The entries that a scatter chain's pages describe, as the device reads them (R356): none where a page header is malformed. -/
def chainEntries : Nat → List Byte → Option Nat
  | 0, _ => none
  | f + 1, b =>
    let n := leAt b 0 4
    if n = 0 ∨ 510 < n ∨ leAt b 4 4 ≠ 0 ∨ leAt b 8 8 % 4096 ≠ 0 ∨ b.length < 16 then none
    else if leAt b 8 8 = 0 then some n
    else (chainEntries f (b.drop 4096)).map (fun m => m + n)

/-- Whether queue `q` is bound. -/
def Dev.recqBound (d : Dev) (q : Nat) : Bool := d.flag F.XLAT_RECQ_STATE_BOUND q

/-- A field of RECORD-BIND out of its range. -/
def rbFieldsBad (p : List Byte) : Bool :=
  decide (p.length ≠ 64) || decide (16 ≤ rbQueue p) || decide (8 ≤ leAt p 1 1) || (decide (64 ≤ rbNotify p) && rbNotify p != 0xFF) ||
  decide (2 ≤ leAt p 3 1) || decide (leAt p 4 2 < 4) || decide (16384 < leAt p 4 2) || decide (leAt p 6 2 < 1) || decide (1024 < leAt p 6 2) ||
  rbRing p % 4096 != 0 || decide (rbRing p < 65536) || decide (2 ^ 31 < rbRing p) || leAt p 12 4 != 0 || rbProgress p % 64 != 0 || rbScatter p % 4096 != 0 ||
  (p.drop 50).any (fun b => b != 0)

/-- The checks of RECORD-BIND (R360). -/
def chkRecordBind (c : Ctx) (p : List Byte) (d : Dev) : Option (Status × Nat) :=
  let q := rbQueue p
  let app := rbAppend p
  let names := rbStreams p
  let ring := if app then (d.recq q).ringBytes else rbRing p
  let seg := if app then (d.recq q).segKib else leAt p 4 2
  let mine := ((d.segs.filter (fun s => app && s.queue == q)).map (fun s => (s.kind, s.stream))) ++ names
  let largest := (mine.map (fun s => if s.1 = 0 then bSig (d.chan s.2).params / 8 else 0)).foldl max 0
  let held := ((d.recqs.filter (fun x => x.1 ≠ q)).map (fun x => x.2.ringBytes)).foldl (· + ·) 0
  if rbFieldsBad p then some (.badParam, 0x08)
  else if d.segs.any (fun s => s.queue != q && names.contains (s.kind, s.stream)) = true ∨ app ≠ d.recqBound q ∨
      d.flag F.XLAT_RECQ_STATE_DRAINING q = true then some (.busy, 0x40)
  else if ring < 2 * (seg * 1024 + largest) then some (.badParam, 0x41)
  else if app = false ∧ c.rd.fault.isSome then some (.fault, 0x08)
  else if app = false ∧ (match chainEntries 1100 c.rd.bytes with | some n => decide (n < rbRing p / 4096) | none => true) = true then some (.badParam, 0x42)
  else if app = false ∧ d.purposeBytes 3 < held + rbRing p then some (.noResource, 0x22)
  else none

/-- STREAM.RECORD_BOUND shows which audio streams are bound. -/
def Dev.showRecBound (d : Dev) : Dev :=
  Dev.upto 16 (fun k d => d.setFlag F.AUDIO_STREAM_RECORD_BOUND (d.segStream 1 k).isSome k) d

/-- RECORD-BIND. -/
def runRecordBind (c : Ctx) (p : List Byte) (d : Dev) : Dev :=
  let q := rbQueue p
  let fresh := (rbStreams p).filter (fun (s : Nat × Nat) => (d.segStream s.1 s.2).isNone)
  let d1 := { d with segs := d.segs ++ fresh.map (fun (s : Nat × Nat) => { kind := s.1, stream := s.2, queue := q : SegStream }) }
  let d2 := if rbAppend p then d1
    else
      let e := d1.putRecq q { params := p }
      let e1 := (e.setFlag F.XLAT_RECQ_STATE_BOUND true q).setF F.XLAT_RECQ_STATE_PRIORITY (leAt p 1 1) q
      let e2 := ((e1.setFlag F.XLAT_RECQ_STATE_FAULTED false q).setFlag F.XLAT_RECQ_STATE_OVERFLOW false q).setF F.XLAT_RECQ_STATE_RESUME_GRANULES 0 q
      (e2.setF F.XLAT_RECQ_HEAD 0 q).setF F.XLAT_RECQ_TAIL 0 q
  (d2.showRecBound.commitPoint c).finish c 0x0501 .ok

/-! ### Writing segments (R361, R362) -/

/-- The priority in force of queue `q`. -/
def Dev.recqPrio (d : Dev) (q : Nat) : Nat := d.getF F.XLAT_RECQ_STATE_PRIORITY q

/-- Whether queue `q` has a segment that can be written now: bound, not stopped, not begun, and with room in the ring. -/
def Dev.recqReady (d : Dev) (q : Nat) : Bool :=
  let r := d.recq q
  let used := (d.getF F.XLAT_RECQ_TAIL q + 2 ^ 32 - d.getF F.XLAT_RECQ_HEAD q) % 2 ^ 32
  d.recqBound q && !d.flag F.XLAT_RECQ_STATE_FAULTED q && !r.written &&
  (match r.segs with | s :: _ => decide (s.padded + used ≤ r.ringBytes) | [] => false)

/-- Queues of equal priority take whole segments in turn, in ascending number: how far `q` is from having its turn. -/
def Dev.recqTurn (d : Dev) (q : Nat) : Nat := (q + 15 - d.dmaLast) % 16

/-- Whether queue `q` is the one that the record DMA engine serves next (R362). -/
def Dev.recqNext (d : Dev) (q : Nat) : Bool :=
  (List.range 16).all (fun k => k == q || !d.recqReady k || decide (d.recqPrio k < d.recqPrio q) ||
    (d.recqPrio k == d.recqPrio q && decide (d.recqTurn q < d.recqTurn k)))

/-- The queues whose segment is being written. -/
def Dev.recqBusy (d : Dev) : List Nat := (List.range 16).filter (fun k => (d.recq k).written)

/-- A block as it is written (R365): its header, its content, padding to a multiple of 8. -/
def SegBlock.bytes (b : SegBlock) : List Byte :=
  let content := match b.unit with | some u => (List.range b.length).map (Config.accessUnitByte u) | none => b.content
  leBytes 1 b.type ++ leBytes 1 b.flags ++ leBytes 2 0 ++ leBytes 4 b.length ++ leBytes 8 b.picture ++ content ++ leBytes (b.size - 16 - b.length) 0

/-- Bytes 0 to 59 of the header of a segment (R364). -/
def Segment.header (s : Segment) : List Byte :=
  leBytes 4 0x53525856 ++ leBytes 1 1 ++ leBytes 1 s.kind ++ leBytes 1 s.stream ++ leBytes 1 s.flags ++ leBytes 8 s.seq ++ leBytes 8 s.first ++
  leBytes 8 s.last ++ leBytes 4 s.lineage ++ leBytes 4 s.len ++ leBytes 2 s.blocks ++ leBytes 6 0 ++ leBytes 8 s.streamId ++ leBytes 4 0

/-- A segment as it is written (R361, R364): header with its CRC, blocks, padding to a multiple of 64 bytes. -/
def Segment.bytes (s : Segment) : List Byte :=
  let payload := s.parts.flatMap SegBlock.bytes
  s.header ++ leBytes 4 (crcOf 1 (leBytes 8 s.seq) (s.header ++ payload)) ++ payload ++ leBytes (s.padded - 64 - s.len) 0

/-- Bytes written into a host ring at an offset, wrapping at its end (R361). -/
def Dev.ringWrite (d : Dev) (scatter ring off : Nat) (bs : List Byte) : Dev :=
  let room := ring - off
  if bs = [] then d
  else if bs.length ≤ room then d.emit (.bufWrite scatter off bs)
  else (d.emit (.bufWrite scatter off (bs.take room))).emit (.bufWrite scatter 0 (bs.drop room))

/-- Held segments of a queue are discarded, each counted (R360). -/
def Dev.discardHeld (d : Dev) (q : Nat) : Dev :=
  let r := d.recq q
  let d1 := d.count C.XLAT_OVERFLOW_SEG 0 0 r.segs.length
  d1.putRecq q { r with segs := [], written := false, discarded := r.discarded + r.segs.length }

/-- The queue is unbound: its streams go, its state clears, RECORD-UNBIND completes. -/
def Dev.endUnbind (d : Dev) (q : Nat) (c : Ctx) (st : Status) : Dev :=
  let tail := (d.recq q).tail
  let d1 := { d with recqs := assocDel d.recqs q, segs := d.segs.filter (fun s => s.queue ≠ q), vigilSegs := d.vigilSegs.filter (fun s => s.1 ≠ q) }
  let d2 := ((d1.setFlag F.XLAT_RECQ_STATE_BOUND false q).setF F.XLAT_RECQ_STATE_PRIORITY 0 q).setFlag F.XLAT_RECQ_STATE_DRAINING false q
  let d3 := (d2.setFlag F.XLAT_RECQ_STATE_FAULTED false q).setF F.XLAT_RECQ_STATE_RESUME_GRANULES 0 q
  (d3.showRecBound.commitPoint c).finish c 0x0502 st 0 (if st = .ok then leBytes 8 tail else [])

/-- A stopped queue ends its RECORD-UNBIND with FAULT (R360). -/
def Dev.faultUnbind (d : Dev) (q : Nat) : Dev :=
  match (d.recq q).drain with
  | some c => (d.discardHeld q).endUnbind q c .fault
  | none => d

/-- SEGMENT_WRITE: the segment in front of queue `q` is written from its granule RESUME_GRANULES on; `stop` is the translation fault
that stops it, with the granules of the segment complete then (R358, R363). -/
def Dev.segmentWrite (d : Dev) (q : Nat) (stop : Option (Nat × Nat)) : Dev :=
  let r := d.recq q
  let above := d.recqBusy.filter (fun k => decide (d.recqPrio q ≤ d.recqPrio k))
  let pre := d.flag F.XLAT_CTRL_PREEMPT_EN
  if d.phase ≠ .run ∨ d.recqReady q = false ∨ d.recqNext q = false ∨ above ≠ [] ∨ (d.recqBusy ≠ [] ∧ pre = false) then d
  else match r.segs with
    | [] => d
    | s :: _ =>
      let d1 := if d.recqBusy = [] then d else d.count C.XLAT_DMA_PREEMPT
      let off := r.tail % max 1 r.ringBytes
      let upTo := match stop with | some (_, g) => max r.lastGranule (min g (s.padded / 64 - 1)) | none => s.padded / 64
      let d2 := d1.ringWrite (rbScatter r.params) r.ringBytes ((off + 64 * r.lastGranule) % max 1 r.ringBytes)
        ((s.bytes.take (64 * upTo)).drop (64 * r.lastGranule))
      match stop with
      | none => { d2.putRecq q { r with written := true } with dmaLast := q }
      | some (kind, _) =>
        let g1 := upTo
        let d3 := (d2.putRecq q { r with written := false, lastGranule := g1 }).setF F.XLAT_RECQ_STATE_RESUME_GRANULES g1 q
        let d4 := (d3.setFlag F.XLAT_RECQ_STATE_FAULTED true q).xlatFault kind 7 0xFF 0 true ((off + 64 * g1) % max 1 r.ringBytes)
        ({ d4 with dmaLast := q }.raise .xlat 0 1).faultUnbind q

/-- SEGMENT_COMMIT: data writes complete, TAIL advances, the progress record and the NOTIFY vector follow (R361). -/
def Dev.segmentCommit (d : Dev) (q : Nat) : Dev :=
  let r := d.recq q
  match r.segs with
  | [] => d
  | s :: rest =>
    if d.phase ≠ .run ∨ r.written = false ∨ d.recqBusy.any (fun k => decide (d.recqPrio q < d.recqPrio k)) = true then d
    else
      let tail := r.tail + s.padded
      let r1 := { r with segs := rest, written := false, segments := r.segments + 1, updates := r.updates + 1, lastGranule := 0, tail := tail }
      let d1 := ((d.putRecq q r1).setF F.XLAT_RECQ_TAIL tail q).setF F.XLAT_RECQ_STATE_RESUME_GRANULES 0 q
      let st := d1.regWord (F.XLAT_RECQ_STATE_BOUND.addr q 0)
      let rec_ := leBytes 8 tail ++ leBytes 8 r1.segments ++ leBytes 8 r1.discarded ++ leBytes 4 st ++ leBytes 4 0 ++ leBytes 8 r1.updates ++ leBytes 24 0
      let d2 := d1.emit (.hostWrite (rbProgress r.params) rec_)
      let d3 := if rbNotify r.params = 0xFF then d2 else d2.emit (.msix (rbNotify r.params))
      match rest, r.drain with
      | [], some c => d3.endUnbind q c .ok
      | _, _ => d3

/-! ### RECORD-UNBIND -/

/-- The checks of RECORD-UNBIND. -/
def chkRecordUnbind (q : Nat) (d : Dev) : Option (Status × Nat) :=
  if 16 ≤ q ∨ d.recqBound q = false then some (.badParam, 0x08) else none

/-- Set LAST in the last segment of a stream that waits (R360). -/
def markLast (kind stream : Nat) : List Segment → List Segment
  | [] => []
  | s :: rest =>
    if s.kind = kind ∧ s.stream = stream ∧ rest.all (fun x => !(x.kind == kind && x.stream == stream)) = true ∧ bit s.flags 3 = false then
      { s with flags := s.flags + 8 } :: rest
    else s :: markLast kind stream rest

/-- RECORD-UNBIND: every stream's open segment is formed with LAST, then the queue drains. -/
def runRecordUnbind (c : Ctx) (q : Nat) (d : Dev) : Dev :=
  let last := fun (s : SegStream) (d : Dev) =>
    if s.seg.isSome then d.formSegment s.kind s.stream true
    else
      let l := (d.recq q).segs
      let k := if (d.recq q).written then 1 else 0
      d.putRecq q { d.recq q with segs := l.take k ++ markLast s.kind s.stream (l.drop k) }
  let d1 := Dev.each (d.segs.filter (fun s => s.queue = q)) last d
  let d2 := (d1.putRecq q { d1.recq q with drain := some c }).setFlag F.XLAT_RECQ_STATE_DRAINING true q
  if d2.flag F.XLAT_RECQ_STATE_FAULTED q then d2.faultUnbind q
  else if (d2.recq q).segs = [] then d2.endUnbind q c .ok
  else d2

/-! ### Register writes -/

/-- STATE.RESUME written 1 (R363): the interrupted segment goes on at RESUME_GRANULES. -/
def Dev.recqResume (d : Dev) (q : Nat) : Dev :=
  if d.flag F.XLAT_RECQ_STATE_FAULTED q then d.setFlag F.XLAT_RECQ_STATE_FAULTED false q else d

/-- HEAD written (R361). -/
def Dev.recqHead (d : Dev) (q v : Nat) : Dev := d.setF F.XLAT_RECQ_HEAD v q

end Sys2Proof.Machine
end

