-- ==== Sys2Proof/Machine/Decoding.lean ====
section
/-! DEFINITION. Decode contexts (R258 to R276): DECODE-OPEN, DECODE-FEED, DECODE-CLOSE, entropy parsing, decode rows, bounds and
retention. -/
namespace Sys2Proof.Machine

/-- Replace decode context `k`. -/
def Dev.putDec (d : Dev) (k : Nat) (x : DecCtx) : Dev := { d with decs := assocPut d.decs k x }

/-- Count `n` more in counter `i` of the decode record of context `k` (R275, R486, R488). -/
def Dev.countDec (d : Dev) (k i : Nat) (n : Nat := 1) : Dev :=
  match assoc d.decs k with
  | none => d
  | some x =>
    let v := getAt 0 x.counts i
    if v + n < 2 ^ 48 then d.putDec k { x with counts := setAt x.counts i (v + n) }
    else if bit x.sats i then d
    else (d.putDec k { x with counts := setAt x.counts i (2 ^ 48 - 1), sats := setBit x.sats i }).logEvent .decode 0xF2 k (0xF1000000 + k * 256 + 8 * i)

/-- The decode record (R275). -/
def DecCtx.record (x : DecCtx) : List Byte := (x.counts.zipIdx.map (fun y => recCounter y.1 (bit x.sats y.2))).flatten

/-! ### DECODE-OPEN (R258, R259) -/

def doContext (p : List Byte) : Nat := leAt p 0 1
def doKind (p : List Byte) : Nat := leAt p 1 1
def doChannel (p : List Byte) : Nat := leAt p 2 1
def doFlags (p : List Byte) : Nat := leAt p 3 1

/-- The modes in which DECODE-OPEN is legal for a kind. -/
def decodeOpenModes (p : List Byte) : List Nat := if doKind p = 1 then [2, 5] else [4, 5]

/-- A field of DECODE-OPEN out of its range. -/
def doFieldsBad (p : List Byte) : Bool :=
  let review := doKind p == 0
  let side := fun (v : Nat) => decide (v < 128) || decide (16384 < v)
  decide (p.length ≠ 24) || decide (16 ≤ doContext p) || decide (2 ≤ doKind p) || decide (4 ≤ doFlags p) || leAt p 13 3 != 0 || leAt p 20 4 != 0 ||
  (if review then
    side (leAt p 4 2) || side (leAt p 6 2) || decide (10 ≤ leAt p 8 1) || decide (leAt p 9 1 < 2) || decide (7 < leAt p 9 1) ||
    decide (leAt p 10 1 < 1) || decide (8 < leAt p 10 1) || leAt p 2 1 != 0 || decide (leAt p 16 4 < 64) || decide (65536 < leAt p 16 4)
   else leAt p 10 1 != 0 || leAt p 11 1 == 0 || leAt p 12 1 == 0 || decide (16 < leAt p 12 1))

/-- The bytes a context takes in the decode region: its buffers, and its input ring or its retention (R271). -/
def Dev.decodeNeed (d : Dev) (p : List Byte) : Nat :=
  if doKind p = 1 then
    let b := (d.chan (doChannel p)).params
    (Config.decodeBytes p b).toNat + (leAt p 12 1 + 1) * (bSig b / 8)
  else (Config.decodeBytes p []).toNat + leAt p 16 4 * 1024

/-- The checks of DECODE-OPEN. -/
def chkDecodeOpen (p : List Byte) (d : Dev) : Option (Status × Nat) :=
  let n := doChannel p
  let used := ((d.decs.filter (fun x => !x.2.ended)).map (fun x => d.decodeNeed x.2.params)).foldl (· + ·) 0
  if doFieldsBad p then some (.badParam, 0x08)
  else if (assoc d.decs (doContext p)).isSome then some (.busy, 0x08)
  else if doKind p = 1 ∧ ¬ (n < 128 ∧ d.chanState n = 2 ∧ pClass (d.chan n).params = 0) then some (.badParam, 0x08)
  else if d.purposeBytes 5 < used + d.decodeNeed p then some (.noResource, 0x22)
  else none

/-- DECODE-OPEN: the context is open and its windows written. -/
def runDecodeOpen (c : Ctx) (p : List Byte) (d : Dev) : Dev :=
  let k := doContext p
  let b := (d.chan (doChannel p)).params
  let x : DecCtx :=
    if doKind p = 1 then
      { kind := 1, channel := doChannel p, flags := doFlags p, maxW := pWidth b, maxH := pHeight b, profile := pProfile b, slots := 7
        sample := leAt p 11 1, window := leAt p 12 1, params := p }
    else
      { kind := 0, flags := doFlags p, maxW := leAt p 4 2, maxH := leAt p 6 2, profile := leAt p 8 1, slots := leAt p 9 1, outSlots := leAt p 10 1
        ringKib := leAt p 16 4, waitIrap := false, params := p }
  let d1 := { d.putDec k x with winTabs := assocPut d.winTabs (128 + k) (Config.windowTable (128 + k) p) }
  (d1.commitPoint c).finish c 0x0B01 .ok

/-! ### Pictures -/

/-- The digest of a confidence picture against the channel's own (R272). The event's CODE is open (log entry 15). -/
def Dev.compareConfidence (d : Dev) (k : Nat) (p : DecPic) (digest : Nat) : Dev :=
  match assoc d.decs k, p.expect with
  | some x, some own =>
    if own = digest then d.countDec k 9
    else
      let d1 := d.countDec k 10
      ((d1.logEvent .decode (d1.freeBits 8) x.channel own digest).drawn).emit (.msix 70)
  | _, _ => d

/-- The picture that a context decodes is whole once every row has committed or is concealed: it is output or compared (R264, R272); `digest` is that of a confidence picture, open where the last row was concealed. -/
def Dev.endPicture (d0 : Dev) (k : Nat) (digest : Option Nat := none) : Dev :=
  match assoc d0.decs k with
  | none => d0
  | some x0 =>
    match x0.pic with
    | none => d0
    | some p =>
      if (List.range p.rows).all (fun r => p.done.contains r) = false then d0
      else
        let d := match digest with
          | some g => d0.compareConfidence k p g
          | none => if p.expect.isSome then (d0.drawn).compareConfidence k p (d0.freeBits 32) else d0
        let x := (assoc d.decs k).getD x0
        let d1 := d.putDec k { x with pic := none, out := if x.kind = 0 ∧ x.ended = false ∧ bit x.flags 1 = true then (x.out.filter (fun n => x.shown ≠ some n)) ++ [p.number] else x.out }
        let d2 := (if p.concealed = [] ∧ p.xlat = false then d1 else d1.countDec k 1).countDec k 0
        if x.ended then { d2 with winTabs := assocDel d2.winTabs (128 + k) } else d2

/-- The decoding state of a context is discarded (R273): its picture and what it refers to. -/
def Dev.discardDecoding (d : Dev) (k : Nat) : Dev :=
  let ts := d.tasks.filter (fun t => t.kind = 1 ∧ t.chan = k)
  let d1 := Dev.each ts (fun t d => d.cancelDecode t) d
  match assoc d1.decs k with
  | some x => d1.putDec k { x with pic := none, refused := false, waitIrap := false, discAt := none }
  | none => d1

/-- A DECODE-FEED with END completes once every byte in the ring is parsed (R267). -/
def Dev.endFeed (d : Dev) (k : Nat) : Dev :=
  match assoc d.decs k with
  | none => d
  | some x =>
    match x.feedEnd with
    | none => d
    | some c =>
      if x.fill = 0 ∧ x.pic = none then
        (d.putDec k { x with feedEnd := none }).finish c 0x0B02 .ok 0 (if x.promised = 0 then x.record else leBytes 4 x.promised ++ leBytes 4 (x.ringKib * 1024))
      else d

/-! ### ENTROPY_PARSE (R261, R263) -/

/-- Rows that a unit has parsed and that are still being decoded. -/
def Dev.unitLoad (d : Dev) (u : Nat) : Nat :=
  (d.decs.map (fun x => match x.2.pic with
    | some p => (p.units.filter (fun y => y.2 == u && !p.done.contains y.1)).length
    | none => 0)).foldl (· + ·) 0

/-- STATE.BUSY of the units that have a row in hand (R276): from its parsing to the end of its decode task. -/
def Dev.showUnits (d : Dev) : Dev := Dev.upto 16 (fun u d => d.setFlag F.DECODE_STATE_BUSY (decide (0 < d.unitLoad u)) u) d

/-- The units of a picture that have a row in hand. -/
def DecPic.unitsAtWork (p : DecPic) : List Nat := (List.range 16).filter (fun u => p.units.any (fun y => y.2 == u && !p.done.contains y.1))

/-- The units that may parse `item` (R263): up to 8 for the rows of one picture, or, without entropy synchronisation, the one unit of
the slice segment; a fenced unit parses nothing. -/
def Dev.unitPool (d : Dev) (x : DecCtx) (item : ParseItem) : List Nat :=
  let pool := (List.range 16).filter (fun u => !d.fenced 10 u)
  match item, x.pic with
  | .row _ segment, some p =>
    (match p.sync || segment, p.units.getLast? with
     | false, some y => if pool.contains y.2 then [y.2] else pool
     | _, _ => if 8 ≤ p.unitsAtWork.length then pool.filter (fun u => p.unitsAtWork.contains u) else pool)
  | _, _ => pool

/-- The unit that parses next: the least loaded, ties to the lower number. -/
def Dev.freeUnit (d : Dev) (x : DecCtx) (item : ParseItem) : Option Nat :=
  (d.unitPool x item).foldl (fun (a : Option Nat) u =>
    match a with | some b => if d.unitLoad u < d.unitLoad b then some u else some b | none => some u) none

/-- The engine of unit `u` whose list takes the next decode task. -/
def Dev.unitEngine (d : Dev) (u : Nat) : Option Nat :=
  (((List.range 8).map (fun i => 8 * u + i)).filter (fun e => d.engineOpen e && d.listRoom e false)).foldl (fun (a : Option Nat) e =>
    match a with | some b => if (d.listOf e).length < (d.listOf b).length then some e else some b | none => some e) none

/-- Whether the SPS is acceptable to the context (R264, R265). -/
def DecCtx.accepts (x : DecCtx) (f : SpsFacts) : Bool :=
  decide (f.profile ≤ x.profile) && (decide (f.level ≤ 62) || f.level == 85) && (f.ctb == 16 || f.ctb == 32 || f.ctb == 64) && !f.tools && !f.extension &&
  decide (f.dpb ≤ x.slots - 1) && decide (f.reorder ≤ 4) && decide (f.w ≤ x.maxW) && decide (f.h ≤ x.maxH)

/-- The rows an error conceals: those without a decode task are finished. -/
def DecPic.conceal (p : DecPic) (rows : List Nat) : DecPic :=
  { p with
    concealed := p.concealed ++ rows.filter (fun r => !p.concealed.contains r)
    done := p.done ++ rows.filter (fun r => !p.done.contains r && !p.parsed.contains r) }

/-- A confidence context takes its next access unit, or passes it over (R271). -/
def Dev.confidenceNext (d : Dev) (k : Nat) (x : DecCtx) : Dev :=
  match x.retained with
  | [] => d
  | u :: rest =>
    let rows := pRows (d.chan x.channel).params
    let start := { x with retained := rest, waitIrap := false, passOver := 0, counting := false,
                          pic := some { number := u.picture, rows := rows, expect := some u.recon } }
    if u.rap then
      if 1 < x.passOver then d.putDec k { x with retained := rest, passOver := x.passOver - 1 }
      else if x.passOver = 1 ∨ x.waitIrap = true ∨ x.sample ≤ 1 then d.putDec k start
      else d.putDec k { x with retained := rest, passOver := x.sample - 1 }
    else if 0 < x.passOver then d.putDec k { x with retained := rest }
    else if x.waitIrap then
      let d1 := d.putDec k { x with retained := rest }
      if x.counting then d1.countDec k 11 else d1
    else d.putDec k start

/-- A review context begins a picture. -/
def Dev.reviewPicture (d : Dev) (k : Nat) (x : DecCtx) (rows : Nat) (irap : Bool) (missing : Nat) (sync : Bool) : Dev :=
  if x.refused then d.countDec k 6
  else if x.waitIrap ∧ irap = false then d.countDec k 6
  else
    let d1 := d.putDec k { x with waitIrap := false, nextNumber := x.nextNumber + 1, pic := some { number := x.nextNumber, rows := rows, sync := sync } }
    if missing = 0 then d1 else d1.countDec k 5 missing

/-- A row's syntax goes to a decode task on an engine of the unit (R261, R262). -/
def Dev.parseRow (d : Dev) (k u r : Nat) (x : DecCtx) (p : DecPic) : Dev :=
  match d.unitEngine u with
  | none => d
  | some e =>
    let (tok, d1) := d.newToken
    let t : Task :=
      { rank := (d1.nextOrder : Int), order := d1.nextOrder, kind := 1, chan := k, row := r, pic := p.number, effort := 0, qp := 0, skipBias := false
        intra := false, deferred := false, conceal := false, resumed := false, token := tok, arrival := 0, rescueAt := 0, departAt := 0, ref0 := none
        ref1 := none, concealSrc := none, gen := 0, affinity := none, slot := 0, steal := d1.getF F.DISPATCH_TIMERS_STEAL_DLY
        xsteal := d1.getF F.DISPATCH_TIMERS_XSTEAL_DLY, place := .list e, wait := d1.ns }
    let d2 := { d1 with nextOrder := d1.nextOrder + 1 }
    let d3 := d2.putDec k { x with pic := some { p with parsed := p.parsed ++ [r], units := p.units ++ [(r, u)] } }
    (((d3.setF F.DECODE_STATE_ROW r u).setF F.DECODE_STATE_CTU 0 u).showUnits).placeTask (d1.described t) e

/-- The item parsed takes effect. -/
def Dev.parseItem (d : Dev) (k u : Nat) (x : DecCtx) (item : ParseItem) : Dev :=
  match item, x.pic with
  | .nal t, _ => d.setF F.DECODE_NAL_TYPE t u
  | .sps f, none =>
    if x.accepts f then d.putDec k { x with refused := false, waitIrap := x.waitIrap || x.refused } else d.putDec k { x with refused := true }
  | .picture rows irap missing sync, none =>
    if x.kind = 1 then d.confidenceNext k x
    else if x.outSlots ≤ (x.out.filter (fun n => x.shown ≠ some n)).length then d
    else d.reviewPicture k x rows irap missing sync
  | .row r _, some p =>
    if r < p.rows ∧ p.parsed.contains r = false ∧ p.done.contains r = false ∧ (r = 0 ∨ p.parsed.contains (r - 1) = true ∨ p.done.contains (r - 1) = true) then
      d.parseRow k u r x p
    else d
  | .error cls rows, some p =>
    ((d.putDec k { x with pic := some (p.conceal (rows.filter (fun r => decide (r < p.rows)))) }).countDec k (match cls with | .syntaxError => 2 | .truncated => 3)).endPicture k
  | .error cls _, none => d.countDec k (match cls with | .syntaxError => 2 | .truncated => 3)
  | .hash bad, _ => if bad ∧ bit x.flags 0 = true then d.countDec k 8 else d
  | _, _ => d

/-- ENTROPY_PARSE: a unit parses `item` for context `k`, `used` bytes of its ring, at most `cycles` cycles on one CTU. A unit that is not
Active is woken first (R457). -/
def Dev.entropyParse (d : Dev) (k : Nat) (item : ParseItem) (used cycles : Nat) : Dev :=
  let d0 := (d.endPicture k).endFeed k
  match assoc d0.decs k, (assoc d0.decs k).bind (fun x => d0.freeUnit x item) with
  | some x0, some u =>
    if d0.domState (136 + u) ≠ 0 then d0.wakeFor (136 + u) false
    else if d0.phase ≠ .run ∨ (x0.ended = true ∧ x0.pic.isNone = true) ∨ (x0.kind = 0 ∧ x0.fill < used) then d0
    else
      let da := match x0.discAt with | some 0 => d0.discardDecoding k | _ => d0
      let x1 := (assoc da.decs k).getD x0
      let x2 := { x1 with fill := x1.fill - used, discAt := x1.discAt.map (· - used) }
      let d1 := (da.putDec k x2).setF F.DECODE_STATE_CONTEXT k u
      let d2 := d1.maxF F.DECODE_CYC_MAX cycles u
      ((d2.parseItem k u x2 item).endFeed k).showUnits
  | _, _ => d0

/-! ### Decode rows, bounds, retention -/

/-- DECODE_ROW_COMMIT: the decode task that engine `e` runs writes its row; `xlat` where a write would have left its windows (R268),
`digest` that of a confidence picture it completes. -/
def Dev.decodeRowCommit (d : Dev) (e : Nat) (xlat : Bool) (digest cycles : Nat) : Dev :=
  match d.runOf e with
  | none => d
  | some t =>
    if t.kind ≠ 1 ∨ t.saving = true then d
    else
      let k := t.chan
      let d1 := ((((d.dropTask t.token).count C.ENG_ROWS e).setF F.ENG_ROW_CYC cycles e).showAt e).fillSlot e |>.showCtx
      match assoc d1.decs k with
      | none => d1
      | some x =>
        match x.pic with
        | none => d1
        | some p =>
          if p.number ≠ t.pic ∨ p.done.contains t.row = true then d1
          else
            let p1 := { p with done := t.row :: p.done, xlat := p.xlat || xlat }
            let d2 := d1.putDec k { x with pic := some p1 }
            let d3 := if xlat then (let e := d2.xlatOpen 8 (128 + k); if p.xlat then e else e.countDec k 7) else d2
            ((d3.endPicture k (some digest)).endFeed k).showUnits

/-- BUDGET_EXPIRY (R266): work of unit `u` for context `k` reaches its bound. -/
def Dev.budgetExpiry (d : Dev) (u k : Nat) (w : DecodeWork) : Dev :=
  match assoc d.decs k with
  | none => d
  | some x =>
    match w with
    | .task e =>
      (match d.runOf e.val with
       | some t => if t.kind = 1 ∧ t.chan = k then ((d.countDec k 4).engineFault e.val (some 1) 4 0).showUnits else d
       | none => d)
    | .header => (d.countDec k 4).count C.DECODE_BUDGET_ERR u
    | .ctu rows =>
      let d1 := (d.countDec k 4).count C.DECODE_BUDGET_ERR u
      match x.pic, assoc d1.decs k with
      | some p, some y => (((d1.putDec k { y with pic := some (p.conceal (rows.filter (fun r => decide (r < p.rows)))) }).endPicture k).endFeed k).showUnits
      | _, _ => d1

/-- RETENTION_EXPIRY (R271): the oldest access unit kept has reached the end of its retention and is not yet decoded. -/
def Dev.retentionExpiry (d : Dev) (k : Nat) : Dev :=
  match assoc d.decs k with
  | none => d
  | some x =>
    if x.kind ≠ 1 then d
    else
      let late := match x.pic, x.retained.getLast? with
        | some p, some u => decide (p.number + x.window ≤ u.picture)
        | _, _ => false
      match late, x.retained with
      | true, _ =>
        let d1 := (d.discardDecoding k).showUnits
        match assoc d1.decs k with
        | some y => (d1.putDec k { y with waitIrap := true, counting := true, passOver := 0 }).countDec k 11
        | none => d1
      | false, u :: rest =>
        if u.left ≠ 0 then d
        else
          let d1 := d.putDec k { x with retained := rest, waitIrap := true, counting := true }
          if 0 < x.passOver ∨ (x.waitIrap = true ∧ x.counting = false) then d.putDec k { x with retained := rest } else d1.countDec k 11
      | false, [] => d

/-! ### DECODE-FEED (R273, R274) -/

/-- The modes in which DECODE-FEED is legal: by the kind of the context it names. -/
def Dev.decodeFeedModes (d : Dev) (p : List Byte) : List Nat :=
  match assoc d.decs (leAt p 0 1) with | some x => if x.kind = 1 then notStandby else [4, 5] | none => [4, 5]

/-- The bytes of feeds of context `k` already accepted, this one's command apart. -/
def Dev.feedsAccepted (d : Dev) (c : Ctx) (k : Nat) : Nat :=
  ((d.journal.filter (fun e => e.opcode = 0x0B02 ∧ e.committed = false ∧ ¬ (e.client = c.client ∧ e.tag = c.tag) ∧ leAt e.params 0 1 = k)).map (fun e => leAt e.params 4 4)).foldl (· + ·) 0

/-- The checks of DECODE-FEED. -/
def chkDecodeFeed (c : Ctx) (p : List Byte) (d : Dev) : Option (Status × Nat) :=
  let n := leAt p 4 4
  match assoc d.decs (leAt p 0 1) with
  | none => some (.badParam, 0x08)
  | some x =>
    if p.length ≠ 24 ∨ 4 ≤ leAt p 1 1 ∨ leAt p 2 2 ≠ 0 ∨ leAt p 12 4 ≠ 0 then some (.badParam, 0x08)
    else if (x.ended ∨ x.kind = 1) ∧ n ≠ 0 then some (.badParam, 0x08)
    else if x.ringKib * 1024 < n then some (.badParam, 0x08)
    else if n ≠ 0 ∧ x.ringKib * 1024 < x.fill + d.feedsAccepted c (leAt p 0 1) + n then some (.busy, 0x08)
    else none

/-- DECODE-FEED: the copy, up to the translation fault that stops it; with END, DONE follows the parsing. -/
def runDecodeFeed (c : Ctx) (p : List Byte) (d : Dev) : Dev :=
  let k := leAt p 0 1
  let n := leAt p 4 4
  match assoc d.decs k with
  | none => d
  | some x =>
    if n = 0 ∧ (bit (leAt p 1 1) 0 = false ∨ x.ended = true ∨ x.kind = 1) then d.finish c 0x0B02 .ok 0 x.record
    else
      let got := if c.rd.fault.isSome then min n (c.rd.bytes.length / 64 * 64) else n
      let x1 := { x with
        fill := x.fill + got, atEnd := x.atEnd || (bit (leAt p 1 1) 0 && c.rd.fault.isNone)
        discAt := if bit (leAt p 1 1) 1 then some x.fill else x.discAt }
      let d1 := (d.putDec k x1).commitPoint c
      let free := x.ringKib * 1024 - x1.fill
      match c.rd.fault with
      | some kind => (d1.xlatFault kind 11 0xFF 0 false (leAt p 8 4 + got)).finish c 0x0B02 .fault 0 (leBytes 4 got ++ leBytes 4 free)
      | none =>
        if bit (leAt p 1 1) 0 then (d1.putDec k { x1 with feedEnd := some c, promised := got }).endFeed k
        else d1.finish c 0x0B02 .ok 0 (leBytes 4 got ++ leBytes 4 free)

/-! ### DECODE-CLOSE (R258, R260, R262) -/

/-- The checks of DECODE-CLOSE. -/
def chkDecodeClose (k : Nat) (d : Dev) : Option (Status × Nat) := if (assoc d.decs k).isNone then some (.badParam, 0x08) else none

/-- DECODE-CLOSE: tasks withdrawn, windows removed, the record returned, the context number free. -/
def runDecodeClose (c : Ctx) (k : Nat) (d : Dev) : Dev :=
  match assoc d.decs k with
  | none => d
  | some x =>
    let ts := d.tasks.filter (fun t => t.kind = 1 ∧ t.chan = k)
    let d1 := Dev.each ts (fun t d => d.cancelDecode t) d
    let d2 := { d1 with decs := assocDel d1.decs k, winTabs := assocDel d1.winTabs (128 + k) }
    let d3 := match x.feedEnd with
      | some f => d2.finish f 0x0B02 .ok 0 (if x.promised = 0 then x.record else leBytes 4 x.promised ++ leBytes 4 (x.ringKib * 1024 - x.fill))
      | none => d2
    (((d3.showCtx).showUnits).commitPoint c).finish c 0x0B03 .ok 0 x.record

end Sys2Proof.Machine
end

