-- ==== Sys2Proof/Machine/Timebase.lean ====
section
/-! DEFINITION. The timebase: tick, steps, steering, snapshots, references, transmit timestamps and pulse generators
(R394 to R411). -/
namespace Sys2Proof.Machine

/-- The timebase's own state replaced. -/
def Dev.putTime (d : Dev) (t : TimeState) : Dev := { d with time := t }

/-- TB.INC nominal (R394). -/
def incNominal : Nat := 0x04000000

/-- The signed 32-bit difference a − b (R407). -/
def diff32 (a b : Nat) : Int := sext 32 (a + 2 ^ 32 - b % 2 ^ 32)

/-- Quotient of a signed division whose rounding the spec does not give: the floor, plus a free bit where the
division is inexact (log entry 7). -/
def Dev.openDiv (d : Dev) (a : Int) (b : Nat) : Int :=
  let q := a / (b : Int)
  if a % (b : Int) = 0 then q else q + (d.freeBits 1 : Int)

/-- Whether any LIVE channel is STARTED (R398). -/
def Dev.anyLiveStarted (d : Dev) : Bool :=
  (List.range 128).any (fun n => d.getF F.CHAN_STATE_STATE n == 2 && d.getF F.CHAN_STATE_CLASS n == 0)

/-- The 48-bit value WRAPS:TB.NS (R398). -/
def Dev.ns48 (d : Dev) : Nat := d.getF F.TB_WRAP_WRAPS * 2 ^ 32 + d.getF F.TB_NS

/-- WRAPS, STEPS and the top 8 fraction bits, in the layout of SNAP_TAG (R399). -/
def Dev.snapTag (d : Dev) : Nat :=
  d.getF F.TB_WRAP_WRAPS + 2 ^ 16 * d.getF F.TB_WRAP_STEPS + 2 ^ 24 * (d.time.frac / 2 ^ 16)

/-- The first source of R396 that applies. -/
def Dev.steerNow (d : Dev) : Nat :=
  if d.getF F.TB_DISC_SRC ≠ 0 then 3 else if d.flag F.RING_CFG_TIME_SRC then 2
  else if d.flag F.TB_CTRL_PTP_STEER && d.time.ptpMeasured then 1 else 0

/-- STATUS.STEER names it. -/
def Dev.showSteer (d : Dev) : Dev := d.setF F.TB_STATUS_STEER d.steerNow

/-- The largest distance of TB.INC from nominal (R396). -/
def Dev.incLimit (d : Dev) : Nat := incNominal * d.getF F.TB_INC_LIMIT_PPM / 1000000

/-- Whether a value of TB.INC lies within the limit of R396. -/
def Dev.incAllowed (d : Dev) (v : Nat) : Bool :=
  decide (incNominal - d.incLimit ≤ v) && decide (v ≤ incNominal + d.incLimit)

/-- TB.INC written by its steering source, clamped (R396); in holdover it stays. -/
def Dev.steerInc (d : Dev) (v : Int) : Dev :=
  let lo : Int := ((incNominal - d.incLimit : Nat) : Int)
  let hi : Int := ((incNominal + d.incLimit : Nat) : Int)
  let w := if v < lo then lo else if hi < v then hi else v
  d.setF F.TB_INC w.toNat

/-- Enter holdover for a cause of R403; the first cause stays recorded. -/
def Dev.holdover (d : Dev) (why : Nat) : Dev :=
  if d.flag F.TB_STATUS_HOLDOVER then d
  else
    let d1 := (d.setFlag F.TB_STATUS_HOLDOVER true).setF F.TB_STATUS_HOLD_WHY why
    let d2 := d1.setF F.TB_HOLD_INC (d1.getF F.TB_INC)
    (d2.count C.TB_HOLDOVER).raise .tb 0 2

/-- Leave holdover, when `why` is its cause (R403). -/
def Dev.endHoldover (d : Dev) (why : Nat) : Dev :=
  if d.flag F.TB_STATUS_HOLDOVER ∧ d.getF F.TB_STATUS_HOLD_WHY = why then
    (d.setFlag F.TB_STATUS_HOLDOVER false).setF F.TB_STATUS_HOLD_WHY 0
  else d

/-- One tick of 4 ns nominal (R394, R395 step 1): the accumulator takes TB.INC, WRAPS the carry. -/
def Dev.tickTime (d : Dev) : Dev :=
  let acc := d.getF F.TB_NS * 2 ^ 24 + d.time.frac + d.getF F.TB_INC
  let ns := acc / 2 ^ 24
  let d1 := (d.putTime { d.time with frac := acc % 2 ^ 24 }).setF F.TB_NS (ns % 2 ^ 32)
  let d2 := { d1 with tick := d1.tick + 1 }
  if ns < 2 ^ 32 then d2
  else (d2.setF F.TB_WRAP_WRAPS ((d2.getF F.TB_WRAP_WRAPS + 1) % 2 ^ 16)).raise .tb 0 0

/-- Whether generator `k` is armed. -/
def Dev.genArmed (d : Dev) (k : Nat) : Bool := bit (d.getF F.TB_PG_STATUS_ARMED) k

/-- Generator `k`. -/
def Dev.gen (d : Dev) (k : Nat) : Gen := getAt {} d.time.gens k

/-- Replace generator `k`. -/
def Dev.putGen (d : Dev) (k : Nat) (g : Gen) : Dev := d.putTime { d.time with gens := setAt d.time.gens k g }

/-- Set or clear the ARMED bit of generator `k`. -/
def Dev.armGen (d : Dev) (k : Nat) (on : Bool) : Dev :=
  d.setF F.TB_PG_STATUS_ARMED (putBit (d.getF F.TB_PG_STATUS_ARMED) k on)

/-- Mark the generators whose target a step has passed (R408): the difference was negative before, and is not now. One whose target
lies ahead again waits for it unmarked. -/
def Dev.markPassed (d : Dev) (before : Nat) : Dev :=
  Dev.upto 8 (fun k d =>
    let g := d.gen k
    let now := decide (0 ≤ diff32 d.ns g.target)
    if d.genArmed k then d.putGen k { g with passed := now && (g.passed || decide (diff32 before g.target < 0)) } else d) d

/-- Apply a step (R395 step 2, R398): WRAPS:TB.NS takes the offset, STEPS advances, LAST_STEP records it. -/
def Dev.applyStep (d : Dev) (off : Int) : Dev :=
  let before := d.ns
  let w0 := d.getF F.TB_WRAP_WRAPS
  let v := wrapInt 48 ((d.ns48 : Int) + off)
  let u := wrapInt 48 off
  let d1 := (d.setF F.TB_NS (v % 2 ^ 32)).setF F.TB_WRAP_WRAPS (v / 2 ^ 32)
  let d2 := d1.setF F.TB_WRAP_STEPS ((d1.getF F.TB_WRAP_STEPS + 1) % 256)
  let d3 := (d2.setF F.TB_LAST_STEP_LO (u % 2 ^ 32)).setF F.TB_LAST_STEP_HI (u / 2 ^ 32)
  let d4 := if v / 2 ^ 32 = w0 then d3 else d3.raise .tb 0 0
  (d4.raise .tb 0 1).markPassed before

/-- Whether a step may be applied now (R398). -/
def Dev.stepAllowed (d : Dev) (off : Int) : Bool :=
  decide (-(2 ^ 46 : Int) < off) && decide (off < 2 ^ 46) && !d.anyLiveStarted

/-- STEP_HI.GO (R398): the step, or one refusal counted with cause 3. -/
def Dev.stepGo (d : Dev) (spi : Bool) : Dev :=
  let off := sext 48 (d.getF F.TB_STEP_LO + 2 ^ 32 * d.getF F.TB_STEP_HI_OFFSET)
  if d.stepAllowed off then d.applyStep off
  else d.refuseDirect (F.TB_STEP_HI_OFFSET.addr 0 0) spi 3

/-- TAKE (R399). -/
def Dev.snapTake (d : Dev) : Dev := (d.setF F.TB_SNAP_NS d.ns).setF F.TB_SNAP_TAG d.snapTag

/-- The firmware's snapshot for its era (R401). -/
def Dev.eraUpdate (d : Dev) : Dev :=
  let w := d.getF F.TB_WRAP_WRAPS
  let e := wrapInt 32 ((d.era : Int) + sext 16 (w + 2 ^ 16 - d.time.eraWraps))
  { d.putTime { d.time with eraWraps := w } with era := e }

/-! ### Commands -/

/-- What TIME-GET returns (R398, R401): the era with the snapshot it is computed from. -/
def Dev.timeRecord (d : Dev) : List Byte :=
  let e := d.eraUpdate.era
  leBytes 4 e ++ leBytes 4 d.ns ++ leBytes 2 (d.getF F.TB_WRAP_WRAPS) ++ leBytes 1 (d.getF F.TB_WRAP_STEPS) ++
    leBytes 1 (d.time.frac / 2 ^ 16) ++
    leBytes 4 (d.getF F.TB_STATUS_HOLDOVER + 2 * d.getF F.TB_STATUS_HOLD_WHY + 16 * d.getF F.TB_STATUS_STEER +
      64 * d.getF F.TB_STATUS_SAT + 4096 * d.getF F.TB_STATUS_ERA_ALIGNED) ++
    leBytes 4 (d.getF F.TB_INC) ++ leBytes 4 (d.getF F.ETH_PTP_OFFSET)

/-- TIME-GET. -/
def runTimeGet (c : Ctx) (d : Dev) : Dev := d.finish c 0x0601 .ok 0 d.timeRecord

/-- The checks of TIME-SET-INCREMENT (R397). -/
def chkTimeSetIncrement (inc : Nat) (d : Dev) : Option (Status × Nat) :=
  if d.getF F.TB_STATUS_STEER ≠ 0 then some (.busy, 0x08)
  else if d.incAllowed inc then none else some (.badParam, 0x08)

/-- TIME-SET-INCREMENT (R397). -/
def runTimeSetIncrement (c : Ctx) (inc : Nat) (d : Dev) : Dev :=
  ((d.setF F.TB_INC inc).commitPoint c).finish c 0x0602 .ok

/-- The checks of TIME-STEP (R398). -/
def chkTimeStep (off : Int) (d : Dev) : Option (Status × Nat) :=
  if ¬ (-(2 ^ 46 : Int) < off ∧ off < 2 ^ 46) then some (.badParam, 0x08)
  else if d.anyLiveStarted then some (.busy, 0x08) else none

/-- TIME-STEP (R398), at the tick of the step. -/
def runTimeStep (c : Ctx) (off : Int) (d : Dev) : Dev :=
  ((d.applyStep off).commitPoint c).finish c 0x0603 .ok

/-- A PERIODIC target advanced by one period, its fraction kept exactly (R407). -/
def Gen.advance (g : Gen) : Gen :=
  let f := g.tfrac + g.frac
  { g with target := (g.target + g.period + f / 2 ^ 16) % 2 ^ 32, tfrac := f % 2 ^ 16 }

/-- Whether START falls within half a period after the generator's last firing (R410). -/
def Gen.tooSoon (g : Gen) : Bool :=
  match g.last with
  | none => false
  | some l => decide (0 ≤ diff32 g.start l) && decide (2 * diff32 g.start l < (g.period : Int))

/-- The target of a LOAD (R410): START, advanced by one period when it falls too soon after the last firing. -/
def Gen.loaded (g : Gen) : Gen :=
  let g1 := { g with target := g.start, tfrac := 0 }
  if g.mode = 2 ∧ g.tooSoon = true then g1.advance else g1

/-- LOAD (R409): the window copied into generator GEN; a START already passed fires late. -/
def Dev.pgLoad (d : Dev) : Dev :=
  let k := d.getF F.TB_PG_SEL_GEN
  let g := d.gen k
  let mode := d.getF F.TB_PG_CTRL_MODE
  let g1 : Gen :=
    { g with mode := mode, pin := d.flag F.TB_PG_CTRL_PIN, internal := d.flag F.TB_PG_CTRL_INTERNAL,
             invert := d.flag F.TB_PG_CTRL_INVERT, width := d.getF F.TB_PG_CTRL_WIDTH, frac := d.getF F.TB_PG_CTRL_FRAC,
             period := d.getF F.TB_PG_PERIOD, start := d.getF F.TB_PG_START }
  let g2 := { g1.loaded with passed := decide (0 ≤ diff32 d.ns g1.loaded.target) }
  (d.putGen k g2).armGen k (mode != 0)

/-- FETCH (R409): the generator's active settings copied into the window. -/
def Dev.pgFetch (d : Dev) : Dev :=
  let g := d.gen (d.getF F.TB_PG_SEL_GEN)
  let d1 := ((d.setF F.TB_PG_START g.start).setF F.TB_PG_PERIOD g.period).setF F.TB_PG_CTRL_MODE g.mode
  let d2 := ((d1.setFlag F.TB_PG_CTRL_PIN g.pin).setFlag F.TB_PG_CTRL_INTERNAL g.internal).setFlag F.TB_PG_CTRL_INVERT g.invert
  (d2.setF F.TB_PG_CTRL_WIDTH g.width).setF F.TB_PG_CTRL_FRAC g.frac

/-- The checks of PULSE-PROGRAM (R409). -/
def chkPulseProgram (gen mode width start period : Nat) (d : Dev) : Option (Status × Nat) :=
  let off := diff32 start d.ns
  if 8 ≤ gen ∨ 2 < mode then some (.badParam, 0x08)
  else if mode = 0 then none
  else if off < -1000000 ∨ 1073741823 < off ∨ width = 0 then some (.badParam, 0x08)
  else if mode = 2 ∧ (period < 1000 ∨ period ≤ width * 100) then some (.badParam, 0x08)
  else none

/-- PULSE-PROGRAM (R409): the window registers, then LOAD. -/
def runPulseProgram (c : Ctx) (gen mode flags width start period frac : Nat) (d : Dev) : Dev :=
  let d1 := d.setF F.TB_PG_CTRL_MODE mode
  let d2 := if mode = 0 then d1
    else
      let e := (d1.setF F.TB_PG_START start).setFlag F.TB_PG_CTRL_PIN (bit flags 0)
      let e := (e.setFlag F.TB_PG_CTRL_INTERNAL (bit flags 1)).setFlag F.TB_PG_CTRL_INVERT (bit flags 2)
      let e := e.setF F.TB_PG_CTRL_WIDTH width
      if mode = 2 then (e.setF F.TB_PG_PERIOD period).setF F.TB_PG_CTRL_FRAC frac else e
  (((d2.setF F.TB_PG_SEL_GEN gen).pgLoad).commitPoint c).finish c 0x0604 .ok

/-! ### Firing -/

/-- The periods a late PERIODIC target must advance by, beyond its first, until it lies after TB.NS (R408). -/
def Gen.behind (g : Gen) (ns : Nat) : Nat :=
  let x := diff32 ns g.target
  if x < 0 then 0
  else
    let p := g.period * 2 ^ 16 + g.frac
    if p = 0 then 0 else (x.toNat * 2 ^ 16 + (2 ^ 16 - 1 - g.tfrac)) / p + 1

/-- A target advanced by `n` periods. -/
def Gen.advanceBy (g : Gen) (n : Nat) : Gen :=
  let f := g.tfrac + n * g.frac
  { g with target := (g.target + n * g.period + f / 2 ^ 16) % 2 ^ 32, tfrac := f % 2 ^ 16 }

/-- Whether generator `k` fires now (R407). -/
def Dev.genDue (d : Dev) (k : Nat) : Bool := d.genArmed k && decide (0 ≤ diff32 d.ns (d.gen k).target)

/-- A firing's effect on the generator and its pin (R407, R408). -/
def Dev.genFire (d : Dev) (k : Nat) : Dev :=
  let g := d.gen k
  let d1 := d.setF F.TB_PG_STATUS_FIRED (setBit (d.getF F.TB_PG_STATUS_FIRED) k)
  let d2 := if g.passed then
      ((d1.setF F.TB_PG_STATUS_LATE (setBit (d1.getF F.TB_PG_STATUS_LATE) k)).count C.TB_PULSE_LATE).raise .tb 0 8 else d1
  let d3 := if g.pin then d2.emit (.pulse k g.width g.invert) else d2
  let g1 := { g with last := some g.target, passed := false }
  if g.mode = 2 then
    let g2 := g1.advance
    let n := if g.passed then g2.behind d.ns else 0
    let d4 := d3.putGen k (g2.advanceBy n)
    if n = 0 then d4 else d4.count C.TB_PULSE_SKIP 0 0 n
  else (d3.putGen k { g1 with mode := 0 }).armGen k false

/-! ### References -/

/-- The window of R402 in millionths of a ns: REF_NOM × (1 ± WINDOW_PPM × 10^−6), widened by 8 ns. -/
def Dev.refWindow (d : Dev) : Int × Int :=
  let nom : Int := d.getF F.TB_REF_NOM
  let w : Int := d.getF F.TB_DISC_WINDOW_PPM
  (nom * (1000000 - w) - 8000000, nom * (1000000 + w) + 8000000)

/-- Whether an interval in ns lies within the window. -/
def Dev.inWindow (d : Dev) (x : Nat) : Bool :=
  decide (d.refWindow.1 ≤ (x : Int) * 1000000) && decide ((x : Int) * 1000000 ≤ d.refWindow.2)

/-- Whether an interval is below the window. -/
def Dev.belowWindow (d : Dev) (x : Nat) : Bool := decide ((x : Int) * 1000000 < d.refWindow.1)

/-- Whether an interval lies within WINDOW_PPM of the previous one (R402). -/
def Dev.nearPrev (d : Dev) (x p : Nat) : Bool :=
  let w := d.getF F.TB_DISC_WINDOW_PPM
  decide (p * (1000000 - w) ≤ x * 1000000) && decide (x * 1000000 ≤ p * (1000000 + w))

/-- A capture into FREF_NS and FREF_TAG (R404). -/
def Dev.frefCapture (d : Dev) : Dev :=
  let d1 := (d.setF F.TB_FREF_NS d.ns).setF F.TB_FREF_TAG d.snapTag
  (d1.count C.TB_FREF_CNT).raise .tb 0 6

/-- The correction of a good edge in LOCKED (R402). -/
def Dev.refCorrect (d : Dev) (dg : Nat) : Dev :=
  let nom := d.getF F.TB_REF_NOM
  let inc := d.getF F.TB_INC
  let q := d.openDiv ((inc : Int) * ((dg : Int) - (nom : Int))) (8 * nom)
  d.drawn.steerInc ((inc : Int) - q)

/-- The loop locks (R402), which ends a holdover of causes 1 and 2 (R403). -/
def Dev.relock (d : Dev) : Dev :=
  let d1 := (d.endHoldover 1).endHoldover 2
  (d1.setF F.TB_DISC_STATE 2).raise .tb 0 3

/-- A counted edge of reference `r` (0 CLKREF_IN divided, 1 FREF_IN), judged by R402; the source in use steers. -/
def Dev.refEdge (d : Dev) (r : Nat) : Dev :=
  let st := getAt {} d.time.refs r
  let now := d.ns
  let dg := st.good.map (fun g => (now + 2 ^ 32 - g) % 2 ^ 32)
  let dr := st.last.map (fun g => (now + 2 ^ 32 - g) % 2 ^ 32)
  let good : Bool := match dg with | none => st.last.isNone | some x => d.inWindow x
  let early : Bool := match dg with | none => false | some x => d.belowWindow x
  let consistent : Bool := match dr, st.prev with
    | some x, some p => !d.inWindow x && d.nearPrev x p
    | _, _ => false
  let drIn : Bool := match dr with | none => false | some x => d.inWindow x
  let inUse := d.getF F.TB_DISC_SRC == r + 1
  let state := d.getF F.TB_DISC_STATE
  let n := if consistent then st.consist + 1 else 0
  let sum := if consistent then st.sum + dr.getD 0 else 0
  let relock := if inUse && state == 3 && drIn then st.relock + 1 else 0
  let relocked := decide (4 ≤ relock)
  let st2 : RefState :=
    { good := if good || relocked then some now else st.good, last := some now, prev := dr,
      consist := if 16 ≤ n then 0 else n, sum := if 16 ≤ n then 0 else sum, relock := if relocked then 0 else relock }
  let d1 := d.putTime { d.time with refs := setAt d.time.refs r st2 }
  let d2 := if r = 1 ∧ (good ∨ consistent) then d1.frefCapture else d1
  if inUse = false ∨ state = 0 ∨ state = 1 then d2
  else
    let d3 := if early then (d2.count C.TB_GLITCH).raise .tb 0 5 else d2
    let d4 := if good ∧ state = 2 then (match dg with | some x => d3.refCorrect x | none => d3) else d3
    let d5 := if relocked then d4.relock else d4
    if 16 ≤ n ∧ (state = 2 ∨ state = 3) then
      let nom := d5.getF F.TB_REF_NOM
      let dev := d5.openDiv (((sum : Int) - (16 * nom : Nat)) * 1000000000) (16 * nom)
      let d6 := (d5.holdover 2).setF F.TB_DISC_STATE 4
      let d7 := (d6.putTime { d6.time with rateSum := sum }).setF F.TB_REF_DEV (wrapInt 32 dev)
      d7.drawn.raise .tb 0 4
    else d5

/-- No good edge by the upper end of the window (R403 cause 1). -/
def Dev.refStopped (d : Dev) : Dev :=
  let src := d.getF F.TB_DISC_SRC
  let st := getAt {} d.time.refs (src - 1)
  match st.good with
  | none => d
  | some g =>
    let x : Nat := (d.ns + 2 ^ 32 - g) % 2 ^ 32
    if src = 0 ∨ d.getF F.TB_DISC_STATE ≠ 2 ∨ (x : Int) * 1000000 ≤ d.refWindow.2 then d
    else
      let d1 := d.putTime { d.time with refs := setAt d.time.refs (src - 1) { st with relock := 0 } }
      (d1.holdover 1).setF F.TB_DISC_STATE 3

/-- The mean of the 16 intervals rounded to whole ns (R403 cause 2); the direction of a tie is a free bit (log entry 7). -/
def Dev.rateMean (d : Dev) : Nat :=
  let s := d.time.rateSum
  if s % 16 = 8 then s / 16 + d.freeBits 1 else (s + 8) / 16

/-- DISC.ACCEPT (R403): REF_NOM becomes the mean and the loop relocks as for cause 1. -/
def Dev.discAccept (d : Dev) : Dev :=
  if d.getF F.TB_DISC_STATE = 4 then
    let src := d.getF F.TB_DISC_SRC
    let st := getAt {} d.time.refs (src - 1)
    let d1 := ((d.setF F.TB_REF_NOM d.rateMean).drawn).setF F.TB_DISC_STATE 3
    d1.putTime { d1.time with refs := setAt d1.time.refs (src - 1) { st with relock := 0, consist := 0, sum := 0 } }
  else d

/-- A write of DISC.SRC (R396, R402, R403): OFF and the end of reference holdover at 0; otherwise the reference must
be qualified first (R462). -/
def Dev.discSource (d : Dev) (src : Nat) : Dev :=
  let d0 := d.setF F.TB_DISC_SRC src
  let d1 := if src = 0 ∨ src = 3 then
      ((d0.endHoldover 1).endHoldover 2).setF F.TB_DISC_STATE 0
    else
      let e := d0.putTime { d0.time with refs := setAt d0.time.refs (src - 1) {} }
      e.setF F.TB_DISC_STATE (if e.getF F.CLK_QSTATE_STATE (src - 1) = 2 then 2 else 1)
  d1.showSteer

/-! ### Transmit timestamps (R405, R406) -/

/-- The queue of port `p` replaced; HEAD, NS and TAG show its head. -/
def Dev.putTsq (d : Dev) (p : Nat) (q : List TsEntry) : Dev :=
  let d1 := d.putTime { d.time with tsq := setAt d.time.tsq p q }
  let h : TsEntry := q.headD ⟨0, 0, 0, 0⟩
  let d2 := ((d1.setFlag F.TB_TSQ_HEAD_VALID (!q.isEmpty) p).setF F.TB_TSQ_HEAD_MSG_TYPE h.msgType p).setF F.TB_TSQ_HEAD_SEQ_ID h.seqId p
  ((d2.setF F.TB_TSQ_HEAD_LEVEL q.length p).setF F.TB_TSQ_NS h.ns p).setF F.TB_TSQ_TAG_STAMP h.stamp p

/-- An entry for a PTP event message that port `p` sends (R405, R406). -/
def Dev.tsqPush (d : Dev) (p msgType seqId : Nat) : Dev :=
  let q := getAt [] d.time.tsq p
  if 16 ≤ q.length then (d.count C.TB_TSQ_OVF p).raise .tb 0 7
  else
    let e : TsEntry := ⟨msgType, seqId, d.ns, d.getF F.TB_WRAP_WRAPS + 2 ^ 16 * (d.time.frac / 2 ^ 16)⟩
    let d1 := d.putTsq p (q ++ [e])
    if d1.flag F.TB_CTRL_TSQ_OWNER then d1.raise .tb 0 10 else d1

/-- TAG.POP (R405): ignored unless the writer owns the queue. -/
def Dev.tsqPop (d : Dev) (p : Nat) (byHost : Bool) : Dev :=
  if d.flag F.TB_CTRL_TSQ_OWNER = byHost then d.putTsq p ((getAt [] d.time.tsq p).drop 1) else d

end Sys2Proof.Machine
end

