-- ==== Sys2Proof/Machine/Perturb.lean ====
section
/-! DEFINITION. Test perturbation (R491 to R495): PERTURB-SET with its key, PERTURB-CLEAR, KILL, CFG.EN, the start and the end of an
injection. -/
namespace Sys2Proof.Machine

/-- The parameters of PERTURB-SET (R493), 40 bytes. -/
def psKind (p : List Byte) : Nat := leAt p 0 1
def psEnable (p : List Byte) : Bool := bit (leAt p 1 1) 0
def psKeyId (p : List Byte) : Nat := leAt p 2 2
def psKeyValue (p : List Byte) : Nat := leAt p 4 12
def psTarget (p : List Byte) : Nat := leAt p 16 4
def psParam0 (p : List Byte) : Nat := leAt p 20 4
def psParam1 (p : List Byte) : Nat := leAt p 24 4
def psSeed (p : List Byte) : Nat := leAt p 28 4
def psStart (p : List Byte) : Nat := leAt p 32 4
def psDuration (p : List Byte) : Nat := leAt p 36 4

/-- Whether TARGET, PARAM0 and PARAM1 of kind `k` lie within the ranges of R491. -/
def pertRangesOk (k t p0 p1 : Nat) : Bool :=
  match k with
  | 0 => decide (1 ≤ t) && decide (t < 256) && decide (1 ≤ p0) && decide (p0 ≤ 1000) && decide (p1 ≤ 65536)
  | 1 => decide (t < 256) && (t / 16 == 0 || (t / 16 == 1 && decide (t % 16 < 8)) || t / 16 == 2) && decide (p0 ≤ p1)
  | 2 => decide (t < 2 ^ 15) && decide (1 ≤ t % 16) && decide (1 ≤ t / 16) && decide (1 ≤ p0) && decide (p0 ≤ 65535) && decide (p1 ≤ 65536)
  | 3 => (t / 128 == 0 || (t / 256 == 1 && decide (t % 256 < 4)) || (t / 256 == 2 && decide (t % 256 < 2))) && decide (1000 ≤ p0) &&
      decide (1 ≤ p1) && decide (p1 ≤ 64)
  | 4 => decide (t < 8) && p0 == 0 && p1 == 0
  | 5 => decide (1 ≤ t) && decide (t < 16) && p1 == 0
  | 6 => decide (t < 38) && decide (p1 ≤ 1)
  | _ => false

/-- CFG.ACTIVE of kind `k` and STATUS.ACTIVE. -/
def Dev.pertActive (d : Dev) (k : Nat) (on : Bool) : Dev :=
  (d.setFlag F.PERTURB_K_CFG_ACTIVE on k).setF F.PERTURB_STATUS_ACTIVE (putBit (d.getF F.PERTURB_STATUS_ACTIVE) k on)

/-- Kind `k` begins to inject: its periods count and its draws start from here (R491). -/
def Dev.pertBegin (d : Dev) (k : Nat) : Dev := (d.putPert k { since := d.tick, draws := 0 }).pertActive k true

/-- Kind `k` is armed (R495): PERTURB_ON, and at once injecting where START is 0. -/
def Dev.pertArm (d : Dev) (k keyId : Nat) : Dev :=
  let d1 := (((d.setFlag F.PERTURB_K_CFG_EN true k).pertActive k false).putPert k {}).logEvent .perturb 0xF3 0 k keyId
  if d1.getF F.PERTURB_K_START k = 0 then d1.pertBegin k else d1

/-- Kind `k` is disarmed: CFG.EN clears, and PERTURB_OFF carries its COUNT (R483, R495). -/
def Dev.pertClear (d : Dev) (k : Nat) : Dev :=
  if d.flag F.PERTURB_K_CFG_EN k = false then d
  else ((d.setFlag F.PERTURB_K_CFG_EN false k).pertActive k false).logEvent .perturb 0xF4 0 k (d.getF F.PERTURB_K_COUNT k)

/-- Each kind of a mask is disarmed. -/
def Dev.pertClearMask (d : Dev) (m : Nat) : Dev := Dev.upto 7 (fun k d => if bit m k then d.pertClear k else d) d

/-- The KEYS record of the user Almanac in force that a quoted key matches (R494): its PERMIT. -/
def Dev.keyPermit (d : Dev) (id value : Nat) : Option Nat :=
  (d.alm.keys.find? (fun r => r.1 = id ∧ r.2.2 = value)).map (·.2.1)

/-- Whether the key of a PERTURB-SET in Live passes (R494). -/
def Dev.keyPasses (d : Dev) (p : List Byte) : Bool :=
  !d.flag F.PERTURB_STATUS_LOCKED && d.alm.keys.any (fun r => decide (r.1 = psKeyId p) && decide (r.2.2 = psKeyValue p) && bit r.2.1 (psKind p))

/-- A key is refused (R494): logged and counted; the fourth in a row locks. -/
def Dev.keyRefused (d : Dev) (id : Nat) : Dev :=
  let n := min 4 (d.getF F.PERTURB_STATUS_REFUSALS + 1)
  let d1 := (d.setF F.PERTURB_STATUS_REFUSALS n).setFlag F.PERTURB_STATUS_LOCKED (d.flag F.PERTURB_STATUS_LOCKED || decide (4 ≤ n))
  (d1.count C.PERTURB_KEY_FAIL).logEvent .perturb 0xF5 0 id n

/-- The checks of PERTURB-SET (R493, R494): in Live the key comes first, since a lock-out refuses whatever the command carries. -/
def chkPerturbSet (p : List Byte) (d : Dev) : Option (Status × Nat) :=
  if d.mode = 2 ∧ d.keyPasses p = false then some (.badCheck, 0x08)
  else if 6 < psKind p then some (.badParam, 0x08)
  else if psEnable p = true ∧ pertRangesOk (psKind p) (psTarget p) (psParam0 p) (psParam1 p) = false then some (.badParam, 0x91)
  else none

/-- The key a PERTURB-SET quotes in Live is recorded: KEY_ID, LIVE_PERMIT and LIVE_OK. -/
def Dev.noteKey (d : Dev) (p : List Byte) : Dev :=
  if d.mode ≠ 2 then d
  else
    let permit := (d.keyPermit (psKeyId p) (psKeyValue p)).getD 0 % 128
    let d1 := ((d.setF F.PERTURB_KEY_ID (psKeyId p)).setF F.PERTURB_LIVE_PERMIT permit).setF F.PERTURB_STATUS_REFUSALS 0
    Dev.upto 7 (fun k d => d.setFlag F.PERTURB_K_CFG_LIVE_OK (bit permit k) k) d1

/-- PERTURB-SET (R493): the kind's registers are written, and it is armed or disarmed. -/
def runPerturbSet (c : Ctx) (p : List Byte) (d : Dev) : Dev :=
  let k := psKind p
  let d0 := (d.noteKey p).count C.PERTURB_SET_CNT
  let d1 := if psEnable p then d0 else d0.pertClear k
  let d2 := ((d1.setF F.PERTURB_K_TARGET (psTarget p) k).setF F.PERTURB_K_PARAM0 (psParam0 p) k).setF F.PERTURB_K_PARAM1 (psParam1 p) k
  let d3 := ((d2.setF F.PERTURB_K_SEED (psSeed p) k).setF F.PERTURB_K_START (psStart p) k).setF F.PERTURB_K_DURATION (psDuration p) k
  let d4 := if psEnable p then d3.pertArm k (if d.mode = 2 then psKeyId p else 0xFFFF) else d3
  (d4.commitPoint c).finish c 0x0901 .ok

/-- PERTURB-CLEAR (R493). -/
def runPerturbClear (c : Ctx) (kinds : Nat) (d : Dev) : Dev := ((d.pertClearMask kinds).commitPoint c).finish c 0x0902 .ok

/-- A write of CTRL.KILL (R494): in Maintenance only. -/
def Dev.kill (d : Dev) (mask : Nat) : Dev := d.pertClearMask mask

/-- A direct write of CFG.EN (R493): values out of range leave it at 0. -/
def Dev.cfgEn (d : Dev) (k : Nat) (on : Bool) : Dev :=
  if on = false then d.pertClear k
  else if d.flag F.PERTURB_K_CFG_EN k = true ∨ pertRangesOk k (d.pertTarget k) (d.pertP0 k) (d.pertP1 k) = false then d
  else d.pertArm k 0xFFFF

/-- INJECTION_START (R495): TB.NS has reached START. -/
def Dev.injectionStart (d : Dev) (k : Nat) : Dev :=
  if d.flag F.PERTURB_K_CFG_EN k = false ∨ d.injecting k = true ∨ diff32 d.ns (d.getF F.PERTURB_K_START k) < 0 then d
  else d.pertBegin k

/-- PERTURB_EXPIRY (R495): DURATION has passed. -/
def Dev.pertExpiry (d : Dev) (k : Nat) : Dev :=
  let n := d.getF F.PERTURB_K_DURATION k
  if d.injecting k = false ∨ n = 0 ∨ d.tick - (d.pert k).since < 250 * n then d else d.pertClear k

/-- A kind's registers, or the lock of R494, at their hardware values, with what they kept (R555). -/
def Dev.pertReset (d : Dev) : Dev := { d.pertClearMask 127 with perts := List.replicate 7 {} }

end Sys2Proof.Machine
end

