-- ==== Sys2Proof/Machine/Packets.lean ====
section
/-! DEFINITION. The bytes of a media frame (R379 to R383): Ethernet, IP, UDP and RTP headers, and the RFC 7798 payload of one packet. -/
namespace Sys2Proof.Machine

/-- The `n` bytes of a number in network order. -/
def beBytes (n v : Nat) : List Byte := (leBytes n v).reverse

/-- The sum of the 16-bit words of bytes in network order; an odd last byte is padded with 0. -/
def words16 : List Byte → Nat
  | a :: b :: r => a.toNat * 256 + b.toNat + words16 r
  | [a] => a.toNat * 256
  | [] => 0

/-- The internet checksum of bytes: the complement of their one's complement sum. -/
def inetSum (l : List Byte) : Nat :=
  let s := words16 l
  65535 - (if s = 0 then 0 else (s - 1) % 65535 + 1)

/-- The MAC address of a destination (R379): a group's by the standard mapping, else the resolved one (log entry 101). -/
def destMac (v6 : Bool) (a : List Byte) : List Byte :=
  if isMulticast v6 a = false then (List.range 6).map (Config.resolvedMac (leNat a))
  else if v6 then leBytes 2 0x3333 ++ (a.drop 12).take 4
  else [0x01, 0x00, 0x5E] ++ leBytes 1 (leAt a 1 1 % 128) ++ (a.drop 2).take 2

/-- The RTP header of packet `j` of a unit (R380, R383). -/
def rtpHeader (x : Binding) (u : SendUnit) (j : Nat) (marker : Bool) : List Byte :=
  leBytes 1 0x80 ++ leBytes 1 (leAt x.params 4 1 + 128 * b2n marker) ++ beBytes 2 ((u.seq + j) % 65536) ++ beBytes 4 u.ts ++ beBytes 4 x.ssrc

/-- Byte `i` of the NAL unit that waits as `u` (log entry 101): its content is the coded stream's. -/
def nalByte (x : Binding) (u : SendUnit) (i : Nat) : Byte := Config.nalByte [x.stream, x.lineage, u.picture, u.seq, b2n u.filler] i

/-- The RTP payload of packet `j` of a unit (R381, R383): a whole NAL unit, or a fragmentation unit of type 49; audio samples as they are. -/
def rtpPayload (x : Binding) (u : SendUnit) (j : Nat) : List Byte :=
  let n := packetBytes x.params u j
  let count := packetsOf x.params u
  if x.kind = 1 then u.data
  else if count = 1 then (List.range n).map (nalByte x u)
  else
    let h0 := (nalByte x u 0).toNat
    let start := 2 + j * (ebUdp x.params - 15)
    leBytes 1 (h0 / 128 * 128 + 49 * 2 + h0 % 2) ++ [nalByte x u 1] ++
      leBytes 1 (128 * b2n (j == 0) + 64 * b2n (j + 1 == count) + h0 / 2 % 64) ++ (List.range n).map (fun i => nalByte x u (start + i))

/-- The UDP header and payload of a packet (R379): over IPv4 a checksum of 0, over IPv6 the computed one. -/
def udpBytes (p src dst payload : List Byte) : List Byte :=
  let len := payload.length + 8
  let ports := beBytes 2 (leAt p 10 2) ++ beBytes 2 (leAt p 8 2) ++ beBytes 2 len
  let sum := inetSum (src ++ dst ++ beBytes 4 len ++ beBytes 4 17 ++ ports ++ payload)
  ports ++ beBytes 2 (if ebV6 p then (if sum = 0 then 65535 else sum) else 0) ++ payload

/-- The IPv4 or IPv6 packet around it (R379). -/
def ipBytes (p src dst udp : List Byte) : List Byte :=
  let tos := leAt p 5 1 * 4
  let ttl := leAt p 6 1
  if ebV6 p then beBytes 4 (0x60000000 + tos * 2 ^ 20) ++ beBytes 2 udp.length ++ leBytes 1 17 ++ leBytes 1 ttl ++ src ++ dst ++ udp
  else
    let head := leBytes 1 0x45 ++ leBytes 1 tos ++ beBytes 2 (20 + udp.length) ++ leBytes 2 0 ++ beBytes 2 0x4000 ++ leBytes 1 ttl ++ leBytes 1 17
    head ++ beBytes 2 (inetSum (head ++ src ++ dst)) ++ src ++ dst ++ udp

/-- The source addresses of a path: its identity, from the NETID section in force (R375). -/
def Dev.pathMac (d : Dev) (k : Nat) : List Byte := leBytes 6 (getAt 0 d.alm.macs k)
def Dev.pathIp (d : Dev) (k : Nat) (v6 : Bool) : List Byte := if v6 then leBytes 16 (getAt 0 d.alm.ip6s k) else leBytes 4 (getAt 0 d.alm.ip4s k)

/-- The frame of packet `j` of a unit on path `k`, without its FCS: the same whichever unit sends it (R379). -/
def Dev.mediaFrame (d : Dev) (k : Nat) (x : Binding) (u : SendUnit) (j : Nat) (marker : Bool) : List Byte :=
  let p := x.params
  let v6 := ebV6 p
  let a := ebDest p k
  let dst := a.take (if v6 then 16 else 4)
  let udp := udpBytes p (d.pathIp k v6) dst (rtpHeader x u j marker ++ rtpPayload x u j)
  destMac v6 dst ++ d.pathMac k ++ beBytes 2 (if v6 then 0x86DD else 0x0800) ++ ipBytes p (d.pathIp k v6) dst udp

end Sys2Proof.Machine
end

