-- ==== Sys2Proof/Machine/Ring.lean ====
section
/-! DEFINITION. The gang ring (R305 to R326): Calends, STATUS, STATS and HOLE, time across the ring, leadership, fencing from
mosaics, and the bypass. -/
namespace Sys2Proof.Machine

/-- The ring's state replaced. -/
def Dev.putRing (d : Dev) (r : RingSt) : Dev := { d with ring := r }

/-- This member's number. -/
def Dev.member (d : Dev) : Nat := d.getF F.RING_CFG_MEMBER

/-- The RESCUE section as applied, as the digests cover it (R280, R314). -/
def Dev.rescueBytes (d : Dev) : List Byte :=
  (List.range 8).flatMap (fun f => [0, 1].flatMap (fun k => leBytes 1 f ++ leBytes 1 k ++ leBytes 2 0 ++ leBytes 4 (d.maxBitsPerCtu f (k == 1))))

/-- D_RING (R314), recomputed. -/
def Dev.showRingDigest (d : Dev) : Dev :=
  let hops := (List.range 8).flatMap (fun k => leBytes 2 (d.getF F.RING_HOP_DELAY_NS k))
  d.set64 F.RING_D_RING_LO F.RING_D_RING_HI
    (crcOf 3 [] (leBytes 4 (d.getF F.RING_RING_ID) ++ leBytes 1 (d.getF F.RING_CFG_MEMBERS) ++ hops ++ leBytes 1 (d.getF F.RING_VERSION % 256) ++ d.rescueBytes))

/-- Send a ring message (R308). -/
def Dev.sendRing (d : Dev) (type : Nat) (body : List Byte) : Dev :=
  ({ d with ring := { d.ring with seq := (d.ring.seq + 1) % 65536 } }).emit (.ring type d.ring.seq (bodyWords body))

/-- Whether the member takes part: joined, running, its bypass open. -/
def Dev.ringLive (d : Dev) : Bool := d.phase == .run && d.ring.joined && !d.fenced 9 0

/-- Forward a message received (R308): HOPS and 1; discarded where ORIGIN is this member or HOPS is 7. -/
def Dev.forward (d : Dev) (type : Nat) (body : List Byte) : Dev :=
  if leAt body 0 1 = d.member ∨ leAt body 1 1 = 7 then d
  else (d.count C.RING_FORWARDED).sendRing type (body.take 1 ++ leBytes 1 (leAt body 1 1 + 1) ++ body.drop 2)

/-- Present members (R313), this one among them. -/
def Dev.presentMask (d : Dev) : Nat :=
  d.ring.members.foldl (fun m x => if x.age < 8 then setBit m x.number else m) (2 ^ d.member)

/-- Members reporting synchronised, and members fenced from mosaics. -/
def Dev.syncedMask (d : Dev) : Nat :=
  d.ring.members.foldl (fun m x => if x.age < 8 ∧ x.synced = true then setBit m x.number else m) (if d.flag F.RING_STATE_SYNCED then 2 ^ d.member else 0)
def Dev.withheldMask (d : Dev) : Nat :=
  d.ring.members.foldl (fun m x => if x.age < 8 ∧ x.fenced = true then setBit m x.number else m) (if d.flag F.RING_STATE_WITHHELD then 2 ^ d.member else 0)

/-- A slot passes: every member's STATUS is one slot older. -/
def Dev.ageMembers (d : Dev) : Dev :=
  let r := d.ring
  let dup := match r.dupAge with | some k => if 8 ≤ k + 1 then none else some (k + 1) | none => none
  d.putRing { r with members := r.members.map (fun (m : MemberSt) => { m with age := m.age + 1 }), dupAge := dup, memberSlots := r.memberSlots + 1 }

/-! ### Fencing from mosaics (R318, R319) -/

/-- The gang mosaic panes of this member. -/
def Dev.gangPanes (d : Dev) : List Nat :=
  (d.chans.filter (fun c => decide (1 ≤ d.chanState c.1) && pMosaic c.2.params != 0 && bit (pFlags c.2.params) 2)).map (·.1)

/-- Show the causes that stand: WITHHELD and WHY; panes stop at their next picture, or resume from their next one with an IDR
picture, DISCONTINUITY and a raised LINEAGE (R319). A leader is never fenced. -/
def Dev.showCauses (d : Dev) (causes : Nat) : Dev :=
  let c := if d.getF F.RING_STATE_ROLE = 3 then 0 else causes
  let was := d.flag F.RING_STATE_WITHHELD
  let why := ((List.range 6).find? (fun w => w ≠ 0 && bit c w)).getD 0
  let d1 := ((d.putRing { d.ring with causes := c }).setFlag F.RING_STATE_WITHHELD (c != 0)).setF F.RING_STATE_WHY why
  if was = false ∧ c ≠ 0 then
    let d2 := (d1.count C.RING_WITHHOLD).raise .ring 0 3
    Dev.each d2.gangPanes (fun n d => d.putChan n { d.chan n with withheld := true }) d2
  else if was ∧ c = 0 then
    Dev.each d1.gangPanes (fun n d =>
      let x := d.chan n
      d.putChan n { x with withheld := false, discontinuity := x.discontinuity || d.chanState n == 2, transmitFrom := if d.chanState n = 2 then some (d.nextUnissued n) else x.transmitFrom }) d1
  else d1

/-- Cause `w` stands or not. -/
def Dev.setCause (d : Dev) (w : Nat) (on : Bool) : Dev := d.showCauses (putBit d.ring.causes w on)

/-- Become unsynchronised, or stay so: the third in a row fences (R318). -/
def Dev.unsync (d : Dev) : Dev :=
  let d1 := if d.flag F.RING_STATE_SYNCED then ((d.setFlag F.RING_STATE_SYNCED false).count C.RING_UNSYNC).raise .ring 0 2 else d
  let k := d1.ring.unsyncRun + 1
  let d2 := d1.putRing { d1.ring with unsyncRun := k, agreeOff := 0, syncRun := 0 }
  if 3 ≤ k then d2.setCause 3 true else d2

/-- Compare a Calends with this member's own state (R318). -/
def Dev.compareCalends (d : Dev) (b : List Byte) (offset : Int) : Dev :=
  let digest := leAt b 24 8 != d.get64 F.RING_D_RING_LO F.RING_D_RING_HI
  let version := leAt b 32 1 != d.getF F.RING_VERSION % 256
  let d1 :=
    if digest then
      let e := d.putRing { d.ring with agreeD := 0 }
      (if bit e.ring.causes 1 then e else e.raise .ring 0 6).setCause 1 true
    else
      let e := d.putRing { d.ring with agreeD := d.ring.agreeD + 1 }
      if 16 ≤ e.ring.agreeD then e.setCause 1 false else e
  let d2 :=
    if version then
      let e := d1.putRing { d1.ring with agreeP := 0 }
      (if bit e.ring.causes 2 then e else e.raise .ring 0 7).setCause 2 true
    else
      let e := d1.putRing { d1.ring with agreeP := d1.ring.agreeP + 1 }
      if 16 ≤ e.ring.agreeP then e.setCause 2 false else e
  let d3 :=
    if 1000 < offset.natAbs then d2.unsync
    else
      let k := d2.ring.agreeOff + 1
      let e := d2.putRing { d2.ring with agreeOff := k, unsyncRun := 0 }
      if 16 ≤ k then
        ((e.putRing { e.ring with syncRun := e.ring.syncRun + 1 }).setFlag F.RING_STATE_SYNCED true).setCause 3 false
      else e
  let d4 :=
    if leAt b 3 1 = d3.mode then (d3.putRing { d3.ring with modeRun := 0 }).setCause 4 false
    else
      let k := d3.ring.modeRun + 1
      let e := d3.putRing { d3.ring with modeRun := k }
      if 8 ≤ k then e.setCause 4 true else e
  d4.setCause 5 (d4.ring.dupAge.isSome)

/-! ### Messages a member sends -/

/-- STATUS of this member (R308). -/
def Dev.sendStatus (d : Dev) : Dev :=
  let panes := d.gangPanes
  let flags := d.getF F.RING_STATE_SYNCED + 2 * d.getF F.RING_STATE_WITHHELD + (if d.ring.claimAt.isSome then 4 else 0)
  let v := d.getF F.RING_VERSION
  let entry := fun (n : Nat) =>
    let c := d.chan n
    let st := if c.withheld then 2 else if d.chanState n = 1 then 0 else 1
    leBytes 2 (pMosaic c.params) ++ leBytes 1 (pPane c.params) ++ leBytes 1 st ++ leBytes 4 (pDelay c.params) ++ leBytes 8 (dMos c.params)
  d.sendRing 0x23 (leBytes 1 d.member ++ leBytes 1 0 ++ leBytes 1 d.mode ++ leBytes 1 flags ++ leBytes 1 (bits v 0 8) ++ leBytes 1 (bits v 8 8) ++
    leBytes 8 (d.get64 F.RING_D_RING_LO F.RING_D_RING_HI) ++ leBytes 4 (d.getF F.RING_OFFSET) ++ leBytes 4 (d.ring.claimAt.getD 0) ++
    leBytes 8 d.alm.serial ++ leBytes 1 panes.length ++ leBytes 7 0 ++ panes.flatMap entry)

/-- Take the lead (R315, R316). -/
def Dev.lead (d : Dev) : Dev :=
  let d1 := (d.setF F.RING_STATE_ROLE 3).setF F.RING_STATE_LEADER d.member
  let d2 := d1.putRing { d1.ring with newLeader := 16, claimAt := none, loopLost := 0, missRun := 0, slots := 0 }
  let d3 := (d2.count C.RING_LEADER_CHANGE).raise .ring 0 0
  ((d3.raise .ring 0 1).setFlag F.RING_STATE_SYNCED true).showCauses 0

/-- Another member leads. -/
def Dev.follow (d : Dev) (leader : Nat) : Dev :=
  let changed := d.getF F.RING_STATE_ROLE ≠ 1 ∧ d.getF F.RING_STATE_LEADER ≠ leader
  let d1 := (d.setF F.RING_STATE_ROLE 2).setF F.RING_STATE_LEADER leader
  if changed then (d1.count C.RING_LEADER_CHANGE).raise .ring 0 0 else d1

/-- The ring is open or whole. -/
def Dev.showOpen (d : Dev) (o : Bool) : Dev :=
  let was := d.flag F.RING_STATE_RING_OPEN
  let d1 := d.setFlag F.RING_STATE_RING_OPEN o
  if o ∧ was = false then d1.raise .ring 0 4 else d1

/-- A member that hears no leader and no lower-numbered member leads (R315). -/
def Dev.leadsAlone (d : Dev) : Bool :=
  d.getF F.RING_STATE_ROLE == 1 && d.ring.lastBody.isEmpty && (List.range d.member).all (fun k => !bit d.presentMask k)

/-- CALENDS_SEND (R309, R310, R312, R315): the leader's Calends; the one whose CSEQ a member has claimed is not sent. -/
def Dev.calendsSend (d : Dev) (sched : List SchedEntry) : Dev :=
  let d0 := if d.ringLive ∧ d.leadsAlone = true then d.lead else d
  if d0.ringLive = false ∨ d0.getF F.RING_STATE_ROLE ≠ 3 then d0
  else
    let next := (d0.getF F.RING_CSEQ + 1) % 2 ^ 32
    match d0.ring.members.find? (fun m => m.number < d0.member ∧ m.age < 8 ∧ m.claim = some next) with
    | some m => (d0.follow m.number).putRing { (d0.follow m.number).ring with syncRun := 0 }
    | none =>
      let d1 := d0.ageMembers
      let d2 := (d1.showOpen (decide (2 ≤ d1.ring.loopLost))).setF F.RING_CSEQ next
      let masks := d2.presentMask + 2 ^ 8 * d2.syncedMask + 2 ^ 16 * d2.withheldMask
      let flags := d2.getF F.RING_STATE_RING_OPEN + (if d2.ring.newLeader = 0 then 0 else 2)
      let v := d2.getF F.RING_VERSION
      let dr := d2.get64 F.RING_D_RING_LO F.RING_D_RING_HI
      let es := (sched.take 8).flatMap (fun e => leBytes 2 e.mosaic ++ leBytes 1 e.gen.val ++ leBytes 1 0 ++ leBytes 4 (d2.gen e.gen.val).target ++ leBytes 8 e.picture)
      let body := leBytes 1 d2.member ++ leBytes 1 0 ++ leBytes 1 flags ++ leBytes 1 d2.mode ++ leBytes 4 next ++ leBytes 4 d2.ns ++ leBytes 4 d2.era ++ leBytes 8 0 ++
        leBytes 8 dr ++ leBytes 1 (bits v 0 8) ++ leBytes 1 (bits v 8 8) ++ leBytes 3 masks ++ leBytes 1 0 ++ leBytes 4 (wrapInt 32 d2.ring.loopErr) ++
        leBytes 1 (sched.take 8).length ++ leBytes 5 0 ++ es
      let d3 := (d2.setF F.RING_MASKS masks).set64 F.RING_LEADER_D_LO F.RING_LEADER_D_HI dr
      let d4 := (d3.setF F.RING_LOOP_ERR (wrapInt 32 d3.ring.loopErr)).setF F.RING_VERSION (v % 65536 * 65537)
      let d5 := d4.putRing { d4.ring with lastBody := body, newLeader := d4.ring.newLeader - 1, loopLost := d4.ring.loopLost + 1 }
      ((d5.count C.RING_CALENDS).sendRing 0x21 body).sendStatus

/-! ### CALENDS received (R309 to R312, R315) -/

/-- The input hop delay in ns (R311): the hop into this member, and for each member bypassed immediately upstream its hop and 1 ns. -/
def Dev.hopDelay (d : Dev) (present : Nat) : Nat :=
  let m := d.member
  let members := d.getF F.RING_CFG_MEMBERS
  let up := (List.range 7).map (fun k => (m + 7 - k) % 8)
  let gone := (up.filter (fun k => bit members k)).takeWhile (fun k => !bit present k)
  gone.foldl (fun a k => a + d.getF F.RING_HOP_DELAY_NS k + 1) (d.getF F.RING_HOP_DELAY_NS m)

/-- The offset of a Calends (R311) in ns, as a signed 32-bit difference; CORRECTION with the hop delay, in 2^−16 ns. -/
def Dev.calendsOffset (d : Dev) (b : List Byte) : Int × Int :=
  let corr := sext 64 (leAt b 16 8) + (d.hopDelay (leAt b 34 1) : Int) * 65536
  let x := d.openDiv ((d.ns : Int) * 65536 - ((leAt b 8 4 : Int) * 65536 + corr)) 65536
  (sext 32 (wrapInt 32 x), corr)

/-- A pulse generator follows a schedule entry (R310). -/
def Dev.followGen (d : Dev) (k next : Nat) : Dev :=
  let g := d.gen k
  let g1 := { g with start := next }.loaded
  (d.putGen k { g1 with passed := decide (0 ≤ diff32 d.ns g1.target) }).armGen k (g.mode != 0)

/-- The steering law is the firmware's own: TB.INC takes a value within the limit (R396, R311, R392; log entry 16). -/
def Dev.steerOpen (d : Dev) (ppm : Nat) : Dev :=
  let lim := min (d.incLimit) (incNominal * ppm / 1000000)
  (d.setF F.TB_INC (incNominal - lim + d.freeBits 32 % (2 * lim + 1))).drawn

/-- What a member takes from a good Calends of its leader. -/
def Dev.takeCalends (d : Dev) (b : List Byte) (residence : Nat) : Dev :=
  let (offset, corr) := d.calendsOffset b
  let cseq := leAt b 4 4
  let v := d.getF F.RING_VERSION
  let d1 := ((d.follow (leAt b 0 1 % 8)).setF F.RING_CSEQ cseq).setF F.RING_MASKS (leAt b 34 3)
  let d2 := (d1.set64 F.RING_LEADER_D_LO F.RING_LEADER_D_HI (leAt b 24 8)).setF F.RING_VERSION (v % 65536 + 65536 * leAt b 32 2)
  let d3 := ((d2.setF F.RING_LOOP_ERR (leAt b 38 4)).showOpen (bit (leAt b 2 1) 0)).setF F.RING_LAST_CALENDS d.ns
  let d4 := (((d3.setF F.RING_OFFSET (wrapInt 32 offset)).maxF F.RING_OFFSET_MAX offset.natAbs).maxF F.RING_RESIDENCE_MAX (ceilDiv residence 65536)).drawn
  let d5 := (d4.count C.RING_CALENDS).endHoldover 4
  let d6 := d5.putRing { d5.ring with lastBody := b, slots := 0, missRun := 0, holeSeen := false }
  let steers := d6.flag F.RING_CFG_TIME_SRC && d6.getF F.TB_STATUS_STEER == 2
  let d7 := ((if steers then d6.steerOpen 1000 else d6).ageMembers).compareCalends b offset
  let sched := (List.range (min 8 (leAt b 42 1))).map (fun i => (leAt b (48 + 16 * i + 2) 1, leAt b (48 + 16 * i + 4) 4))
  let d8 := Dev.each sched (fun e d => if e.1 < 8 ∧ bit (d.getF F.RING_CFG_FOLLOW) e.1 = true then d.followGen e.1 e.2 else d) d7
  let claims := d8.member < leAt b 0 1 ∧ 16 ≤ d8.ring.syncRun ∧ d8.ring.claimAt.isNone = true ∧ d8.flag F.RING_STATE_WITHHELD = false
  let d9 := if claims then d8.putRing { d8.ring with claimAt := some ((cseq + 4) % 2 ^ 32) } else d8
  let fwd := b.take 16 ++ leBytes 8 (wrapInt 64 (corr + residence)) ++ b.drop 24
  let d10 := (d9.forward 0x21 fwd).sendStatus
  if d10.ring.claimAt = some ((cseq + 1) % 2 ^ 32) then d10.lead else d10

/-- A ring message of `type`: discarded and counted where a check fails (R285). -/
def Dev.ringMsg (d : Dev) (type : Nat) (m : LinkMsg) (f : List Byte → Dev → Dev) : Dev :=
  if d.ringLive = false then d
  else if m.good type then f m.body d else d.count C.RING_MSG_ERR

/-- CALENDS: the leader's own returns (R312); a leader discards one of a lower ORIGIN that has not claimed (R315). -/
def Dev.gotCalends (residence : Nat) (b : List Byte) (d : Dev) : Dev :=
  let origin := leAt b 0 1
  let leader := d.getF F.RING_STATE_ROLE = 3
  if origin = d.member then
    if leader then
      let o := (d.calendsOffset b).1
      (d.putRing { d.ring with loopErr := o, loopLost := 0 }).drawn
    else d
  else if leader then
    let claimed := d.ring.members.any (fun m => m.number = origin ∧ m.claim.isSome = true)
    if origin < d.member then
      if claimed then d.takeCalends b residence else d.count C.RING_MSG_ERR
    else d.forward 0x21 b
  else d.takeCalends b residence

/-! ### Missed slots and HOLE (R316, R317) -/

/-- The successor: the lowest-numbered member above the leader in the last PRESENT mask. -/
def Dev.successor (d : Dev) : Option Nat :=
  (List.range 8).find? (fun k => decide (d.getF F.RING_STATE_LEADER < k) && bit (d.getF F.RING_MASKS) k)

/-- SLOT_MISSED. -/
def Dev.slotMissed (d : Dev) : Dev :=
  if d.ringLive = false ∨ d.getF F.RING_STATE_ROLE ≠ 2 then d
  else
    let d1 := d.ageMembers
    let r := d1.ring
    let k := r.slots + 1
    let up := d1.flag F.RING_STATE_INPUT_UP
    let d2 := d1.putRing { r with slots := k, holeSeen := false, missRun := if up ∧ r.holeSeen = false then r.missRun + 1 else 0, agreeOff := 0, syncRun := 0 }
    let d3 :=
      if up = false then d2.sendRing 0x22 (leBytes 1 d2.member ++ leBytes 1 0 ++ leBytes 2 0 ++ leBytes 4 (d2.getF F.RING_CSEQ))
      else if r.holeSeen then d2 else d2.count C.RING_MISSED
    let d4 := if d3.getF F.TB_STATUS_STEER = 2 then d3.holdover 4 else d3
    let d5 := if 40 < k then d4.unsync else d4
    if d5.ring.claimAt = some ((d5.getF F.RING_CSEQ + k + 1) % 2 ^ 32) then
      -- the slot before the claimed one was missed: the claimant still sends its first Calends in its slot (R315)
      (d5.setF F.RING_CSEQ ((d5.getF F.RING_CSEQ + k) % 2 ^ 32)).lead
    else if d5.ring.missRun = 3 ∧ d5.successor = some d5.member ∧ d5.ring.dupAge.isNone = true then
      let cseq := (d5.getF F.RING_CSEQ + k) % 2 ^ 32
      (d5.setF F.RING_CSEQ cseq).lead
    else d5

/-- HOLE: forwarded; the slot it stands in is not counted. -/
def Dev.gotHole (b : List Byte) (d : Dev) : Dev := (d.putRing { d.ring with holeSeen := true }).forward 0x22 b

/-! ### STATUS and STATS (R313, R320, R321) -/

/-- STATUS: presence, duplicates, offsets and panes. -/
def Dev.gotStatus (b : List Byte) (d : Dev) : Dev :=
  let n := leAt b 0 1 % 8
  let serial := leAt b 22 8
  let flags := leAt b 3 1
  let claim := if bit flags 2 then some (leAt b 18 4) else none
  if n = d.member then
    if serial = d.alm.serial then d
    else
      let d1 := if d.ring.dupAge.isNone then d.count C.RING_DUPLICATE else d
      if d1.ring.memberSlots < 8 ∨ d1.ring.dupAge.isSome = true then
        (d1.putRing { d1.ring with dupAge := some 0, claimAt := none }).setCause 5 true
      else d1
  else
    let other := d.ring.members.find? (fun m => m.number = n ∧ m.age < 8)
    let foreign : Bool := match other with | some m => m.serial != serial | none => false
    if foreign then (d.count C.RING_DUPLICATE).forward 0x23 b
    else
      let me : MemberSt := { number := n, serial := serial, synced := bit flags 0, fenced := bit flags 1, claim := claim }
      let entry := fun (i : Nat) =>
        let o := 38 + 16 * i
        { member := n, mosaic := leAt b o 2, pane := leAt b (o + 2) 1, state := leAt b (o + 3) 1, dUs := leAt b (o + 4) 4, dMos := leAt b (o + 8) 8 : PaneReport }
      let panes := (List.range (leAt b 30 1)).map entry
      let r := d.ring
      let d1 := d.putRing { r with members := r.members.filter (fun m => m.number ≠ n) ++ [me], panes := r.panes.filter (fun p => p.member ≠ n) ++ panes }
      (d1.setF F.RING_MEMBER_OFFSET_NS (leAt b 14 4) n).forward 0x23 b

/-- STATS: the figures of panes on another member. -/
def Dev.gotStats (b : List Byte) (d : Dev) : Dev :=
  let n := leAt b 0 1 % 8
  let count := leAt b 2 1
  if n = d.member then d
  else
    let entry := fun (i : Nat) =>
      let o := 8 + 32 * i
      let mosaic := leAt b o 2
      let off := match d.panesOf mosaic with | c :: _ => qpOffset (pFormat c.2.params) | [] => 0
      { member := n, mosaic := mosaic, pane := leAt b (o + 2) 1, picture := leAt b (o + 8) 8, sumN := leAt b (o + 16) 8,
        qpz := sext 8 (leAt b (o + 3) 1) - off, planned := leAt b (o + 24) 8 : PaneFigures }
    let es := (List.range count).map entry
    let old := d.ring.figs.filter (fun f => es.all (fun e => !(e.member == f.member && e.mosaic == f.mosaic && e.pane == f.pane && decide (f.picture + 2 ≤ e.picture))))
    ((d.putRing { d.ring with figs := old ++ es }).count C.RING_STATS_RX 0 0 count).forward 0x24 b

/-! ### Joining, leaving and the bypass (R38, R39, R325) -/

/-- The ring comes into use on this member: it trains its hop and joins, its bypass to be opened (R325). -/
def Dev.ringJoin (d : Dev) (job : Option Ctx) : Dev :=
  let d1 := (((d.setFlag F.RING_CFG_ENABLE true).setF F.RING_STATE_ROLE 1).showRingDigest).linkSeek true
  d1.putRing { link := d1.ring.link, seq := d1.ring.seq, bypassWanted := some false, job := job.map (fun c => (c, true)) }

/-- The checks of GANG-JOIN (R507). -/
def chkGangJoin (member members ringId : Nat) (d : Dev) : Option (Status × Nat) :=
  if d.ring.joined ∨ d.ring.bypassWanted = some false then some (.busy, 0x08)
  else if members = 0 ∧ (member ≠ 0 ∨ ringId ≠ 0) then some (.badParam, 0x08)
  else if members ≠ 0 ∧ (8 ≤ member ∨ bit members member = false) then some (.badParam, 0x0A)
  else if d.fenced 9 0 then some (.fenced, 0x08) else none

/-- GANG-JOIN (R325): the command ends as the bypass opens. -/
def runGangJoin (c : Ctx) (member members ringId : Nat) (d : Dev) : Dev :=
  let d1 := if members = 0 then d else ((d.setF F.RING_CFG_MEMBER member).setF F.RING_CFG_MEMBERS members).setF F.RING_RING_ID ringId
  d1.ringJoin (some c)

/-- The checks of GANG-LEAVE (R325, R507). -/
def chkGangLeave (d : Dev) : Option (Status × Nat) :=
  if d.ring.joined = false then some (.badParam, 0x0A)
  else if d.gangPanes.any (fun n => decide (2 ≤ d.chanState n)) then some (.busy, 0x08) else none

/-- GANG-LEAVE: STATUS stops, and the bypass is closed under R39. -/
def runGangLeave (c : Ctx) (d : Dev) : Dev := d.putRing { d.ring with joined := false, bypassWanted := some true, job := some (c, false) }

/-- What GANG-STATUS returns (R507): the RING registers, then the body of the last Calends. -/
def Dev.gangRecord (d : Dev) : List Byte :=
  d.regBytes (F.RING_CFG_ENABLE.addr 0 0) 48 ++ d.ring.lastBody.take 192 ++ leBytes (192 - d.ring.lastBody.length) 0

/-- GANG-STATUS. -/
def runGangStatus (c : Ctx) (d : Dev) : Dev := d.finish c 0x0413 .ok 0 d.gangRecord

/-- BYPASS_CHANGE (R39): a planned opening or closing is made, and the command that asked for it ends. -/
def Dev.bypassChange (d : Dev) : Dev :=
  match d.ring.bypassWanted with
  | none => d
  | some closed =>
    let d1 := (d.setFlag F.RING_STATE_BYPASS closed).putRing { d.ring with bypassWanted := none, job := none, joined := !closed }
    let d2 := if closed then ((d1.setFlag F.RING_CFG_ENABLE false).setF F.RING_STATE_ROLE 0).linkDown true else d1
    match d.ring.job with
    | none => d2
    | some (c, join) => (d2.commitPoint c).finish c (if join then 0x0411 else 0x0412) .ok

end Sys2Proof.Machine
end

