-- ==== Sys2Proof/Machine/Egress.lean ====
section
/-! DEFINITION. Network egress (R373 to R393): EGRESS-BIND, EGRESS-UNBIND, packets, port links, received frames, addresses, groups
and PTP. -/
namespace Sys2Proof.Machine

/-! ### EGRESS-BIND (R376, R377) -/

/-- The leading `n` bits of two addresses agree; addresses in network order. -/
def samePrefix (n : Nat) (a b : List Byte) : Bool :=
  let top := fun (l : List Byte) => (l.foldl (fun m x => m * 256 + x.toNat) 0)
  let w := 8 * a.length
  top a / 2 ^ (w - min n w) == top b / 2 ^ (w - min n w)

/-- The port's own address, byte 0 in the lowest byte of the register. -/
def Dev.portAddr (d : Dev) (k : Nat) (v6 : Bool) : List Byte :=
  if v6 then leBytes 4 (d.getF F.ETH_PORT_IPV6_0 k) ++ leBytes 4 (d.getF F.ETH_PORT_IPV6_1 k) ++ leBytes 4 (d.getF F.ETH_PORT_IPV6_2 k) ++ leBytes 4 (d.getF F.ETH_PORT_IPV6_3 k)
  else leBytes 4 (d.getF F.ETH_PORT_IPV4 k)

/-- Whether a destination is multicast or inside the port's prefix. -/
def Dev.destOk (d : Dev) (p : List Byte) (k : Nat) : Bool :=
  let v6 := ebV6 p
  let a := ebDest p k
  let n := if v6 then 16 else 4
  (v6 || (a.drop 4).all (fun b => b == 0)) &&
  (isMulticast v6 a || samePrefix (d.getF (if v6 then F.ETH_NET_PREFIX6 else F.ETH_NET_PREFIX4) k) (a.take n) (d.portAddr k v6))

/-- A field of EGRESS-BIND out of its range. -/
def ebFieldsBad (p : List Byte) : Bool :=
  let video := ebKind p == 0
  decide (p.length ≠ 64) || decide (2 ≤ ebKind p) || decide ((if video then 128 else 16) ≤ ebStream p) || decide (leAt p 2 1 = 0) || decide (4 ≤ leAt p 2 1) ||
  decide (2 ≤ leAt p 3 1) || decide (leAt p 4 1 < 96) || decide (127 < leAt p 4 1) || decide (63 < leAt p 5 1) || decide (leAt p 6 1 = 0) ||
  decide ((if video then 1 else 2) ≤ ebLevel p) || decide (ebUdp p < 512) || decide (8960 < ebUdp p) || leAt p 14 2 != 0 || (!video && ebOrigin p != 0) || leAt p 56 8 != 0

/-- Whether an audio stream suits the level (R383). -/
def Dev.levelOk (d : Dev) (p : List Byte) : Bool :=
  let k := ebStream p
  let n := d.getF F.AUDIO_STREAM_COUNT k
  ebKind p == 0 || (d.getF F.AUDIO_STREAM_RATE k == 0 && (if ebLevel p = 0 then decide (n ≤ 8) else decide (n ≤ 64)))

/-- The checks of EGRESS-BIND, in the order of R377. -/
def chkEgressBind (p : List Byte) (d : Dev) : Option (Status × Nat) :=
  let full := fun (k : Nat) => d.bindsPort p k && (let r := d.portRate k [p]; decide (96000000000 * r.2 < r.1))
  if ebFieldsBad p ∨ (ebPath p 0 && !d.destOk p 0) = true ∨ (ebPath p 1 && !d.destOk p 1) = true ∨ d.levelOk p = false then some (.badParam, 0x50)
  else if d.binds.any (fun b => b.kind == ebKind p && b.stream == ebStream p) then some (.busy, 0x51)
  else if full 0 || full 1 then some (.noResource, 0x52)
  else none

/-- EGRESS-BIND: on a LOCKED channel through a proposal (R378). -/
def runEgressBind (c : Ctx) (p : List Byte) (d : Dev) : Dev :=
  let n := ebStream p
  if ebKind p = 0 ∧ d.proposes n = true then d.propose c 0x0208 [n] p
  else
    let from_ := if ebKind p = 0 ∧ 2 ≤ d.chanState n then d.nextToDepart n else 0
    ((d.addBinding p from_).commitPoint c).finish c 0x0208 .ok

/-- The check of EGRESS-UNBIND (R503). One that follows another of the same stream waits for it (R83). -/
def chkEgressUnbind (kind stream : Nat) (d : Dev) : Option (Status × Nat) :=
  if d.binds.any (fun b => b.kind == kind && b.stream == stream) then none else some (.badParam, 0x50)

/-- The picture of the current access unit of a channel: the last whose first row has departed. -/
def Dev.currentAu (d : Dev) (n : Nat) : Nat := d.nextToDepart n - 1

/-- EGRESS-UNBIND. -/
def runEgressUnbind (c : Ctx) (kind stream : Nat) (d : Dev) : Dev :=
  if kind = 0 ∧ d.proposes stream = true then d.propose c 0x0209 [stream] (leBytes 1 kind ++ leBytes 1 stream ++ leBytes 2 0)
  else d.unbindAt kind stream (d.currentAu stream) (some c)

/-! ### PACKET_SEND (R384, R385, R388) -/

/-- The fill of a video stream's bucket now, in units of 1/2,000,000,000 byte. -/
def Dev.bucketNow (d : Dev) (x : Binding) (y : PathSend) : Nat :=
  min (ebUdp x.params * 2000000000) (y.level + rSig (d.chan x.stream).params * (d.tick - y.levelTick))

/-- Whether the binding has a packet that path `k` may send now. -/
def Dev.pathReady (d : Dev) (k : Nat) (x : Binding) : Bool :=
  let y := getAt {} x.paths k
  match y.send with
  | [] => false
  | u :: _ => x.kind == 1 || decide (packetBytes x.params u y.off * 2000000000 ≤ d.bucketNow x y)

/-- The binding that port `k` serves next: audio first, then video, channels in turn in ascending number. -/
def Dev.nextBinding (d : Dev) (k : Nat) : Option Binding :=
  let ready := d.binds.filter (fun x => ebPath x.params k && d.pathReady k x)
  let turn := (d.ethSt k).turn
  let first := fun (l : List Binding) (key : Binding → Nat) =>
    l.foldl (fun (a : Option Binding) x => match a with | some y => if key x < key y then some x else a | none => some x) none
  match first (ready.filter (fun x => x.kind == 1)) (·.stream) with
  | some x => some x
  | none => first ready (fun x => (x.stream + 127 - turn) % 128)

/-- A packet that is not sent (R385, R388, R359), by LAST_DROP.CAUSE. -/
def Dev.dropPacket (d : Dev) (k : Nat) (x : Binding) (cause : Nat) : Dev :=
  let d1 := ((d.setF F.ETH_LAST_DROP_STREAM x.stream k).setFlag F.ETH_LAST_DROP_AUDIO (x.kind == 1) k).setF F.ETH_LAST_DROP_CAUSE cause k
  let d2 := if cause = 3 then d1.count C.ETH_UNRESOLVED k else d1
  d2.count C.ETH_TX_DROP k

/-- Whether the packet leaves later than B_s / R_s + 100 µs after its bytes were handed over. -/
def Dev.paceLate (d : Dev) (x : Binding) (u : SendUnit) : Bool :=
  let b := (d.chan x.stream).params
  x.kind == 0 && decide (bSig b * 1000000000 < (4 * (d.tick - u.tick) - 100000) * rSig b)

/-- PACKET_SEND on port `k`: the next media packet leaves, or is discarded; `fault` is a translation fault of its read. -/
def Dev.packetSend (d : Dev) (k : Nat) (fault : Option Nat) : Dev :=
  if d.phase ≠ .run ∨ d.mode < 2 then d
  else match d.nextBinding k with
    | none => d
    | some x =>
      let y := getAt {} x.paths k
      match y.send with
      | [] => d
      | u :: rest =>
        let n := packetBytes x.params u y.off
        let final := decide (packetsOf x.params u ≤ y.off + 1)
        let level := d.bucketNow x y
        let y1 := { y with
          send := if final then rest else u :: rest, off := if final then 0 else y.off + 1
          level := if x.kind = 0 then level - n * 2000000000 else 0, levelTick := d.tick }
        let put := fun (b : Binding) => if b.kind = x.kind ∧ b.stream = x.stream then { b with paths := setAt b.paths k y1 } else b
        let d1 := { d with binds := d.binds.map put }
        let d2 := d1.putEth k { d1.ethSt k with turn := if x.kind = 0 then x.stream else (d1.ethSt k).turn }
        let udp := packetUdp x.params u y.off
        let d3 :=
          if d2.fenced 7 k then d2.dropPacket k x 2
          else if d2.portUp k = false then d2.dropPacket k x 1
          else if y.ok = false then d2.dropPacket k x 3
          else match fault with
            | some kind => (d2.drawn.xlatFault kind 6 (if x.kind = 0 then x.stream else 144) (d2.freeBits 6) false (d2.freeBits 54 / 64)).dropPacket k x 4
            | none =>
              let marker := u.last && final && !u.filler && x.kind == 0
              let e := d2.sendFrame k 3 (udp + (if ebV6 x.params then 66 else 46))
                ([x.ssrc, (u.seq + y.off) % 65536, u.ts] ++ (d2.mediaFrame k x u y.off marker).map (·.toNat))
              let e1 := e.count C.ETH_MEDIA_PKTS k
              if d.paceLate x u then (e1.count C.ETH_PACE_LATE k).raise .eth k 2 else e1
        d3.endBindings

/-! ### Links (R373, R385, R391) -/

/-- Whether Announce `a` is better than `b`: the order of IEEE 1588 over the fields carried. -/
def Announce.key (a : Announce) : List Nat := [a.prio1, a.clockClass, a.accuracy, a.variance, a.prio2, a.gm, a.steps]

/-- Lexicographic order: `some true` where the first list comes first. -/
def listLess : List Nat → List Nat → Option Bool
  | a :: r, b :: s => if a < b then some true else if b < a then some false else listLess r s
  | _, _ => none

/-- The port that the best master clock comparison chooses now (R391). -/
def Dev.ptpChoice (d : Dev) : Option Nat :=
  match (d.ethSt 0).best, (d.ethSt 1).best with
  | none, none => none
  | some _, none => some 0
  | none, some _ => some 1
  | some a, some b =>
    match listLess a.key b.key with
    | some true => some 0
    | some false => some 1
    | none => some (d.getF F.ETH_PTP_CFG_PREF_PORT 0)

/-- Both instances of a device-wide field (R393). -/
def Dev.setBoth (d : Dev) (f : Field) (v : Nat) : Dev := (d.setF f v 0).setF f v 1

/-- PTP runs on port `p` from now on; `log` where it ran on another before. -/
def Dev.runPtpOn (d : Dev) (p : Option Nat) (log : Bool) : Dev :=
  let d1 := { d with ptp := { d.ptp with port := p, want := none, good := 0 } }
  let d2 := (d1.setFlag F.ETH_STATUS_PTP_PORT (p == some 0) 0).setFlag F.ETH_STATUS_PTP_PORT (p == some 1) 1
  let d3 := match p with
    | some k =>
      let gm := (((d.ethSt k).best).map (fun (a : Announce) => a.gm)).getD 0
      ((d2.setBoth F.ETH_GM_ID_LO (gm % 2 ^ 32)).setBoth F.ETH_GM_ID_HI (gm / 2 ^ 32)).setBoth F.ETH_PTP_STATE_PORT_STATE 8
    | none => d2.setBoth F.ETH_PTP_STATE_PORT_STATE 4
  let d4 := if log then d3.raise .eth (p.getD 0) 4 else d3
  d4.showEgress

/-- Choose again: a first choice, and one that leaves a port that hears nothing any more, at once; another once it has held for 4 s. -/
def Dev.rechoose (d : Dev) (now : Bool) : Dev :=
  let c := d.ptpChoice
  if c = d.ptp.port then { d with ptp := { d.ptp with want := none } }
  else match d.ptp.port, c with
    | none, _ => d.runPtpOn c false
    | some _, some k =>
      if now then d.runPtpOn c true
      else match d.ptp.want with
        | some (w, _) => if w = k then d else { d with ptp := { d.ptp with want := some (k, d.tick) } }
        | none => { d with ptp := { d.ptp with want := some (k, d.tick) } }
    | some _, none => { d with ptp := { d.ptp with want := none } }

/-- The timebase holds over because no Announce arrives on either port (R392, R403). -/
def Dev.ptpHoldover (d : Dev) (p : Nat) : Dev :=
  let d1 := (d.count C.ETH_HOLDOVER p).raise .eth p 6
  let d2 := d1.setBoth F.ETH_PTP_STATE_PORT_STATE 4
  if d2.getF F.TB_STATUS_STEER = 1 then d2.holdover 3 else d2

/-- The Announce of port `p` is gone. -/
def Dev.announceGone (d : Dev) (p : Nat) : Dev :=
  let had := (d.ethSt p).best.isSome
  let d1 := d.putEth p { d.ethSt p with best := none }
  if d.ptp.port ≠ some p then d1.rechoose false
  else if d1.ptpChoice.isSome then d1.rechoose true
  else if had then d1.ptpHoldover p
  else d1

/-- PORT_LINK_DOWN (R385); `fec` where RS-FEC alignment was lost first. -/
def Dev.portLinkDown (d : Dev) (p : Nat) (fec : Bool) : Dev :=
  if d.flag F.ETH_STATUS_LINK p = false then d
  else
    let d1 := ((d.setFlag F.ETH_STATUS_LINK false p).setFlag F.ETH_STATUS_FEC_LOCK false p).setFlag F.ETH_STATUS_AN_DONE false p
    let d2 := Dev.upto 4 (fun i d => d.setFlag F.ETH_LANE_LOCK false p i) d1
    let d3 := if fec then d2.raise .eth p 1 else d2
    (((d3.count C.ETH_LINK_LOSS p).raise .eth p 0).showOwnPath).announceGone p

/-- LINK_UP (R373): auto-negotiation and RS-FEC lock complete, with the skews of the four lanes. -/
def Dev.linkUp (d : Dev) (p : Nat) (skew : List Nat) : Dev :=
  let idle := d.phase ≠ .run ∨ d.mode = 0
  if d.flag F.ETH_CTRL_EN p = false ∨ d.fenced 7 p = true ∨ idle then d
  else
    let d1 := ((d.setFlag F.ETH_STATUS_LINK true p).setFlag F.ETH_STATUS_FEC_LOCK true p).setFlag F.ETH_STATUS_AN_DONE true p
    let d2 := Dev.upto 4 (fun i d => (d.setFlag F.ETH_LANE_LOCK true p i).setF F.ETH_LANE_SKEW (getAt 0 skew i) p i) d1
    let d3 := d2.putEth p { d2.ethSt p with media := d2.flag F.ETH_CTRL_MEDIA p }
    let d4 := (d3.showOwnPath).reportGroups p true (d3.ethSt p).groups
    if d4.getF F.ETH_PTP_STATE_PORT_STATE 0 = 1 then d4.setBoth F.ETH_PTP_STATE_PORT_STATE 4 else d4

/-! ### Received frames (R374) -/

/-- Count what RS-FEC reports. -/
def Dev.fecReport (d : Dev) (p : Nat) (r : FecReport) : Dev :=
  let d1 := if r.corrected = 0 then d else d.count C.ETH_FEC_CORR p 0 r.corrected
  let d2 := if r.uncorrectable = 0 then d1 else d1.count C.ETH_FEC_UNCORR p 0 r.uncorrectable
  Dev.upto 4 (fun i d => let n := getAt 0 r.symbols i; if n = 0 then d else d.count C.ETH_FEC_SYM p i n) d2

/-- FRAME_RECEIVE: a frame of `bytes` bytes arrives on port `p`. -/
def Dev.frameReceive (d : Dev) (p : Nat) (f : RxFrame) (bytes : Nat) (r : FecReport) : Dev :=
  if d.phase ≠ .run ∨ d.portUp p = false then d
  else
    let d0 := ((d.fecReport p r).count C.ETH_RX_FRAMES p).count C.ETH_RX_BYTES p 0 bytes
    let discard := d0.count C.ETH_RX_DISCARD p
    if f = .badFcs then d0.count C.ETH_FCS_ERR p
    else if 9038 < bytes then discard
    else match f with
      | .ptp | .groupQuery => d0
      | .addressQuery path =>
        (match path with
         | none => d0.sendFrame p 9 64 []
         | some k => if k.val = p ∧ d0.flag F.ETH_STATUS_PATH_TX p = true then d0.sendFrame p 9 64 [k.val] else d0)
      | .echo =>
        let recent := (d0.ethSt p).echoes.filter (fun t => decide (d.tick - t < 250000000))
        if 100 ≤ recent.length then d0 else (d0.putEth p { d0.ethSt p with echoes := d.tick :: recent }).sendFrame p 8 bytes []
      | .beacon b => if d.flag F.TWIN_CFG_ENABLE then d0.pathBeacon p true b else d0
      | .peerPath => if d.flag F.ETH_STATUS_WATCH p then d0.pathBeacon p false [] else discard
      | .pause => d0.count C.ETH_PAUSE_RX p
      | .other => discard
      | .badFcs => d0

/-! ### PTP (R390 to R392) -/

/-- Steer from an offset, or step where R392 and R401 say so: the alignment step is the offset modulo 2^32, taken as signed; in
holdover TB.INC stays (R396). -/
def Dev.ptpSteer (d : Dev) (off : Int) (era : Nat) : Dev :=
  let align := sext 32 (wrapInt 32 (-off))
  if d.flag F.RING_CFG_TIME_SRC then d
  else if d.flag F.TB_STATUS_ERA_ALIGNED = false ∧ d.stepAllowed align = true then
    let d1 := (d.applyStep align).setFlag F.TB_STATUS_ERA_ALIGNED true
    { d1.putTime { d1.time with eraWraps := d1.getF F.TB_WRAP_WRAPS } with era := era % 2 ^ 32 }
  else
    let source := (d.showSteer).getF F.TB_STATUS_STEER == 1
    if source = false then d
    else if 1000000 < off.natAbs ∧ d.stepAllowed (-off) = true then (d.applyStep (-off)).count C.ETH_PTP_STEPS (d.ptp.port.getD 0)
    else if d.flag F.TB_STATUS_HOLDOVER then d
    else d.steerOpen 100

/-- A Sync on the PTP port gives an offset. -/
def Dev.gotOffset (d : Dev) (off : Int) (era : Nat) : Dev :=
  let p := d.ptp.port.getD 0
  let mag := min off.natAbs (2 ^ 32 - 1)
  let d1 := (d.setBoth F.ETH_PTP_OFFSET (wrapInt 32 off)).setBoth F.ETH_PTP_STATE_PORT_STATE 9
  let d2 := (d1.maxF F.ETH_OFFSET_MAX mag 0).maxF F.ETH_OFFSET_MAX mag 1
  let small := decide (off.natAbs ≤ 1000)
  let good := if small then d.ptp.good + 1 else 0
  let d3 := { d2.putTime { d2.time with ptpMeasured := true } with ptp := { d2.ptp with good := good } }
  let d4 :=
    if !small && d3.flag F.ETH_PTP_STATE_SYNCED then (d3.setBoth F.ETH_PTP_STATE_SYNCED 0).raise .eth p 5
    else if 16 ≤ good then (d3.setBoth F.ETH_PTP_STATE_SYNCED 1).endHoldover 3
    else d3
  d4.ptpSteer off era

/-- PTP_MESSAGE: a message of `domain` over IPv6 or IPv4 reaches the firmware from port `p`. -/
def Dev.ptpMessage (d : Dev) (p domain : Nat) (v6 : Bool) (m : PtpMsg) : Dev :=
  if d.phase ≠ .run ∨ d.portUp p = false ∨ domain ≠ d.getF F.ETH_PTP_CFG_DOMAIN 0 ∨ v6 ≠ d.flag F.ETH_PTP_CFG_IPV6 0 then d
  else
    let d0 := d.count C.ETH_PTP_RX p
    match m with
    | .announce a =>
      if a.logInterval < -3 ∨ 1 < a.logInterval then d
      else
        let e := d0.ethSt p
        let take := match e.best with
          | some b => a.gm == b.gm || listLess a.key b.key == some true
          | none => true
        if take = false then d0
        else
          let d1 := d0.putEth p { e with best := some a, annTick := d0.tick }
          let d2 := d1.rechoose (match d1.ptp.port with | some q => (d1.ethSt q).best.isNone | none => true)
          if d2.ptp.port = some p then (d2.setBoth F.ETH_GM_ID_LO (a.gm % 2 ^ 32)).setBoth F.ETH_GM_ID_HI (a.gm / 2 ^ 32) else d2
    | .sync li off era => if li < -7 ∨ 0 < li then d else if d0.ptp.port = some p then d0.gotOffset off era else d0
    | .delayResp delay =>
      if d0.ptp.port ≠ some p ∨ d0.flag F.TB_CTRL_TSQ_OWNER = true then d0
      else (d0.tsqPop p false).setBoth F.ETH_PTP_DELAY delay

/-- DELAY_REQ (R390, R405): on the PTP port. -/
def Dev.delayReq (d : Dev) : Dev :=
  match d.ptp.port with
  | none => d
  | some p =>
    if d.phase ≠ .run ∨ d.portUp p = false ∨ (d.ethSt p).best = none then d
    else
      let q := (d.ethSt p).delaySeq
      let d1 := (d.putEth p { d.ethSt p with delaySeq := (q + 1) % 65536 }).sendFrame p 4 (if d.flag F.ETH_PTP_CFG_IPV6 0 then 110 else 90) [q]
      (d1.count C.ETH_PTP_TX p).tsqPush p 1 q

/-- ANNOUNCE_TIMEOUT (R390, R392): 3 Announce intervals without one on port `p`. -/
def Dev.announceTimeout (d : Dev) (p : Nat) : Dev :=
  match (d.ethSt p).best with
  | none => d
  | some a =>
    if d.tick - (d.ethSt p).annTick < 93750000 * 2 ^ (a.logInterval + 3).toNat then d
    else (d.count C.ETH_ANNOUNCE_TO p).announceGone p

/-- PTP_PORT_CHANGE (R391): a change of choice that has held for 4 s. -/
def Dev.ptpPortChange (d : Dev) : Dev :=
  match d.ptp.want with
  | some (k, t) => if 1000000000 ≤ d.tick - t ∧ d.ptpChoice = some k then d.runPtpOn (some k) true else d
  | none => d

/-! ### Addresses and groups (R387 to R389) -/

/-- ADDRESS_RESOLVE (R388): a bound stream's unicast destination on path `k`, and whether it answers. -/
def Dev.addressResolve (d : Dev) (kind stream k : Nat) (answered : Bool) : Dev :=
  match d.binds.find? (fun x => x.kind = kind ∧ x.stream = stream) with
  | none => d
  | some x =>
    let y := getAt {} x.paths k
    let due := !y.asked || decide ((if y.ok then 7500000000 else 250000000) ≤ d.tick - y.tryTick)
    if d.phase ≠ .run ∨ ebPath x.params k = false ∨ isMulticast (ebV6 x.params) (ebDest x.params k) = true ∨ due = false then d
    else
      let d1 := if d.portUp k then d.sendFrame k 5 64 [leNat (ebDest x.params k)] else d
      let y1 := { y with ok := answered && d.portUp k, asked := true, tryTick := d.tick }
      let put := fun (b : Binding) => if b.kind = kind ∧ b.stream = stream then { b with paths := setAt b.paths k y1 } else b
      ({ d1 with binds := d1.binds.map put }).showEgress

/-- GRATUITOUS_ARP (R387): a repeat, 1 ms after the one before. -/
def Dev.gratuitousRepeat (d : Dev) (k : Nat) : Dev :=
  let e := d.ethSt k
  if d.phase ≠ .run ∨ e.garp = 0 ∨ d.tick - e.garpTick < 250000 then d else d.gratuitous k (e.garp - 1)

/-- GROUP_QUERY (R389): an IGMP or MLD query on port `p` is answered. -/
def Dev.groupQuery (d : Dev) (p : Nat) (v6 : Bool) : Dev :=
  let gs := (d.netGroups p).filter (fun g => g.1 == v6)
  if d.phase ≠ .run ∨ d.portUp p = false ∨ gs = [] then d
  else d.sendFrame p (if v6 then 7 else 6) 64 (gs.map (fun g => leNat g.2))

end Sys2Proof.Machine
end

