-- ==== Sys2Proof/Machine/Audio.lean ====
section
/-! DEFINITION. The audio block (R423 to R442): AUDIO-CONFIGURE, AUDIO-ROUTE, AUDIO-MUTE, sample frames, TDM frames, clocks and fades. -/
namespace Sys2Proof.Machine

/-- The audio block's state replaced. -/
def Dev.putAudio (d : Dev) (a : AudioSt) : Dev := { d with audio := a }

/-- Port `p`. -/
def Dev.aport (d : Dev) (p : Nat) : AudioPort := getAt {} d.audio.ports p

/-- Replace port `p`. -/
def Dev.putAport (d : Dev) (p : Nat) (x : AudioPort) : Dev := d.putAudio { d.audio with ports := setAt d.audio.ports p x }

/-- Stream `k`. -/
def Dev.astream (d : Dev) (k : Nat) : AudioStream := getAt {} d.audio.streams k

/-- Replace stream `k`. -/
def Dev.putAstream (d : Dev) (k : Nat) (x : AudioStream) : Dev := d.putAudio { d.audio with streams := setAt d.audio.streams k x }

/-- An audio event: LAST_EVENT, then the bit of INT_STATUS. -/
def Dev.audioEvent (d : Dev) (cause port mic k : Nat) : Dev :=
  (((d.setF F.AUDIO_LAST_EVENT_CAUSE cause).setF F.AUDIO_LAST_EVENT_PORT port).setF F.AUDIO_LAST_EVENT_MIC mic).raise .audio 0 k

/-! ### Fades (R435 to R437) -/

/-- N of R436, and the gain step in 1/96 that one sample of a ramp makes. -/
def rampStep (rate : Nat) : Nat := if rate = 0 then 2 else 1

/-- A new target (R436, R437): a ramp turns at once, a wait restarts its 20 ms. -/
def Fade.target (f : Fade) (on : Bool) (tick : Nat) : Fade :=
  if f.phase = 2 then { f with on := on }
  else if f.gain = (if on then 96 else 0) then { f with on := on, phase := 0 }
  else { f with on := on, phase := 1, since := tick }

/-- A zero crossing: the sample is 0, or its sign differs from that of the one before. -/
def crosses (s prev : Int) : Bool := s == 0 || decide (s < 0) != decide (prev < 0)

/-- One sample passes the point: the fade moves, and whether it switched at a crossing. -/
def Fade.sample (f : Fade) (s : Int) (step : Nat) : Fade × Bool :=
  let goal := if f.on then 96 else 0
  let g := { f with prev := s }
  if f.phase = 1 ∧ crosses s f.prev = true then ({ g with gain := goal, phase := 0 }, true)
  else if f.phase = 2 then
    let v := if f.on then min 96 (f.gain + step) else f.gain - step
    ({ g with gain := v, phase := if v = goal then 0 else 2 }, false)
  else (g, false)

/-- The signal after the point; the rounding of a product is open (log entry 11). -/
def Fade.out (f : Fade) (s : Int) : Int :=
  if f.gain = 96 then s else if f.gain = 0 then 0
  else let v := s * f.gain; if v % 96 = 0 then v / 96 else v / 96 + (if Config.tableRound 5 (wrapInt 32 v) then 1 else 0)

/-- The points at gain 0, as bits. -/
def mutedBits (l : List Fade) : Nat := l.zipIdx.foldl (fun m x => if x.1.gain = 0 then setBit m x.2 else m) 0

/-- MIC, STATUS.RX_MUTED and STREAM show where the fades stand. -/
def Dev.showFades (d : Dev) : Dev :=
  let d1 := Dev.upto 32 (fun m d => d.setF F.AUDIO_MIC_FADE (getAt {} d.audio.mics m : Fade).phase m) d
  let d2 := Dev.upto 4 (fun p d => d.setF F.AUDIO_P_STATUS_RX_MUTED (mutedBits (d.aport p).din) p) d1
  Dev.upto 16 (fun k d => d.setF F.AUDIO_STREAM_FADE ((d.astream k).chans.foldl (fun m f => max m f.phase) 0) k) d2

/-- The points that a command concerns. -/
def Dev.jobPoints (d : Dev) (j : FadeJob) : List Fade :=
  match j.kind with
  | 0 => [getAt {} d.audio.mics j.index]
  | 1 => [getAt {} (d.aport j.index).din j.slot]
  | _ => (d.astream j.index).chans

/-- A stream has ended (R438): its last segment carries LAST. -/
def Dev.endStream (d : Dev) (k : Nat) : Dev :=
  let x := d.astream k
  let d1 := d.formSegment 1 k true
  let d2 := d1.putAstream k { x with chans := [], stopping := false, inBlock := 0, pcm := [], inPacket := 0, packet := [] }
  (d2.setFlag F.AUDIO_STREAM_STARTED false k).setFlag F.AUDIO_STREAM_MUTED false k

/-- Commands whose fade is complete are answered, FADE_DONE raised (R436 step 5); a STOP ends its stream. -/
def Dev.endFades (d : Dev) : Dev :=
  let done := d.audio.jobs.filter (fun j => (d.jobPoints j).all (fun f => f.phase == 0))
  if done = [] then d
  else
    let d1 := d.putAudio { d.audio with jobs := d.audio.jobs.filter (fun j => !done.contains j) }
    let one := fun (j : FadeJob) (d : Dev) =>
      let stop := j.op == 0x0702 && (d.astream j.index).stopping
      let d1 := if stop then d.endStream j.index else d
      (d1.raise .audio 0 8).finish { client := j.client, tag := j.tag } j.op .ok 0 (if j.op = 0x0702 then leBytes 4 (d1.astream j.index).lineage else [])
    Dev.each done one d1

/-- Add a command that waits for a fade, and answer at once what is already complete. -/
def Dev.addJob (d : Dev) (j : FadeJob) : Dev := ((d.putAudio { d.audio with jobs := d.audio.jobs ++ [j] }).endFades).showFades

/-! ### AUDIO-CONFIGURE (R441) -/

/-- The DIN slots and microphones that a started stream takes. -/
def Dev.taken (d : Dev) (f : Nat → Bool) : Bool :=
  (List.range 16).any (fun k => d.flag F.AUDIO_STREAM_STARTED k && (d.astream k).sources.any f)

def apRole (p : List Byte) : Nat := leAt p 1 1
def apSlots (p : List Byte) : Nat := leAt p 3 1

/-- The checks of AUDIO-CONFIGURE. -/
def chkAudioConfigure (p : List Byte) (d : Dev) : Option (Status × Nat) :=
  let n := leAt p 0 1
  if p.length ≠ 16 ∨ 4 < n then some (.badParam, 0x08)
  else if n = 4 then
    if 2 ≤ leAt p 1 1 ∨ 4 ≤ leAt p 2 1 ∨ leAt p 3 1 ≠ 0 ∨ leAt p 6 10 ≠ 0 then some (.badParam, 0x08)
    else if leAt p 1 1 ≠ d.getF F.AUDIO_PDM_CTRL_RATE ∧ d.taken (fun s => decide (s < 32)) = true then some (.busy, 0x08)
    else none
  else if 3 ≤ apRole p ∨ 2 ≤ leAt p 2 1 ∨ 2 ≤ leAt p 4 1 ∨ 2 ≤ leAt p 5 1 ∨ 2 ≤ leAt p 6 1 ∨ 2 ≤ leAt p 7 1 ∨ leAt p 12 4 ≠ 0 ∨
      (apRole p = 2 ∧ (apSlots p = 0 ∨ 16 < apSlots p)) then some (.badParam, 0x08)
  else if (apRole p = 1 ∧ [1, 2, 4, 8, 16].contains (apSlots p) = false) ∨ (leAt p 7 1 = 1 ∧ d.flag F.AUDIO_CTRL_AMCLK_EN = false) then some (.badParam, 0x72)
  else if (apRole p ≠ d.getF F.AUDIO_P_CFG_ROLE n ∨ leAt p 2 1 ≠ d.getF F.AUDIO_P_CFG_RATE n ∨ apSlots p ≠ d.getF F.AUDIO_P_CFG_SLOTS n) ∧
      d.taken (fun s => decide (0x40 + 16 * n ≤ s) && decide (s < 0x50 + 16 * n)) = true then some (.busy, 0x08)
  else none

/-- Whether a rate in mHz is more than `ppm` from another. -/
def rateFar (a b ppm : Nat) : Bool := decide (ppm * b < (if a < b then b - a else a - b) * 1000000)

/-- The configured rate of port `n`, in mHz. -/
def Dev.portMilliHz (d : Dev) (n : Nat) : Nat := if d.getF F.AUDIO_P_CFG_RATE n = 0 then 48000000 else 96000000

/-- A port begins anew: no frame seen, buffers centred; OFF_RATE follows the rate reported before, where one has been (R433). -/
def Dev.restartPort (d : Dev) (n : Nat) : Dev :=
  let rep := d.getF F.AUDIO_P_RATE_REP n
  let off := d.getF F.AUDIO_P_CFG_ROLE n != 0 && rep != 0 && rateFar rep (d.portMilliHz n) 1000
  let d0 := if off && !d.flag F.AUDIO_P_STATUS_OFF_RATE n then d.audioEvent 4 n 0 3 else d
  let d1 := d0.putAport n { d0.aport n with good := 0, glitchRun := 0, rxFill := 4, txFill := 4, meas := [], lastFrame := d.tick, silent := false }
  let d2 := ((d1.setFlag F.AUDIO_P_STATUS_CLK_GOOD false n).setFlag F.AUDIO_P_STATUS_LOST false n).setFlag F.AUDIO_P_STATUS_OFF_RATE off n
  (d2.setFlag F.AUDIO_P_STATUS_ON_AMCLK false n).setF F.AUDIO_P_STATUS_SLIP_FILL 4 n

/-- A write of RX_MASK.PENDING or TX_MASK.PENDING (R432). -/
def Dev.writeMask (d : Dev) (n : Nat) (tx : Bool) (v : Nat) : Dev :=
  if tx then (d.setF F.AUDIO_P_TX_MASK_PENDING v n).putAport n { d.aport n with txTick := d.tick }
  else (d.setF F.AUDIO_P_RX_MASK_PENDING v n).putAport n { d.aport n with rxTick := d.tick }

/-- AUDIO-CONFIGURE. -/
def runAudioConfigure (c : Ctx) (p : List Byte) (d : Dev) : Dev :=
  let n := leAt p 0 1
  let d1 :=
    if n = 4 then ((d.setF F.AUDIO_PDM_CTRL_RATE (leAt p 1 1)).setF F.AUDIO_PDM_CTRL_CLK_EN (leAt p 2 1)).setF F.AUDIO_PDM_CTRL_IN_EN (leAt p 4 2)
    else
      let changed := apRole p != d.getF F.AUDIO_P_CFG_ROLE n || leAt p 2 1 != d.getF F.AUDIO_P_CFG_RATE n || apSlots p != d.getF F.AUDIO_P_CFG_SLOTS n ||
        leAt p 7 1 != d.getF F.AUDIO_P_CFG_CLK_SRC n
      let e := ((d.setF F.AUDIO_P_CFG_ROLE (apRole p) n).setF F.AUDIO_P_CFG_RATE (leAt p 2 1) n).setF F.AUDIO_P_CFG_SLOTS (apSlots p) n
      let e := ((e.setF F.AUDIO_P_CFG_FS_FORM (leAt p 4 1) n).setF F.AUDIO_P_CFG_DELAY (leAt p 5 1) n).setF F.AUDIO_P_CFG_INVERT (leAt p 6 1) n
      let e := e.setF F.AUDIO_P_CFG_CLK_SRC (leAt p 7 1) n
      let e := if changed then e.restartPort n else e
      (e.writeMask n false (leAt p 8 2)).writeMask n true (leAt p 10 2)
  (d1.commitPoint c).finish c 0x0701 .ok

/-! ### AUDIO-ROUTE (R438) -/

def arStream (p : List Byte) : Nat := leAt p 0 1
def arRate (p : List Byte) : Nat := leAt p 2 1
def arSources (p : List Byte) : List Nat := (List.range (leAt p 3 1)).map (fun i => leAt p (8 + i) 1)

/-- Whether a source code is one of R438. -/
def sourceKnown (s : Nat) : Bool := decide (s < 0x20) || (decide (0x40 ≤ s) && decide (s < 0x80)) || s == 0xFE

/-- Whether a source runs at a rate. -/
def Dev.sourceRuns (d : Dev) (s rate : Nat) : Bool :=
  if s = 0xFE then true
  else if s < 0x20 then d.getF F.AUDIO_PDM_CTRL_RATE == rate
  else d.getF F.AUDIO_P_CFG_RATE ((s - 0x40) / 16) == rate

/-- The checks of AUDIO-ROUTE. -/
def chkAudioRoute (p : List Byte) (d : Dev) : Option (Status × Nat) :=
  let k := arStream p
  let n := leAt p 3 1
  if 16 ≤ k ∨ 2 ≤ leAt p 1 1 ∨ 2 ≤ arRate p ∨ leAt p 4 4 ≠ 0 then some (.badParam, 0x08)
  else if n = 0 ∨ 64 < n ∨ p.length ≠ 8 + n ∨ (arSources p).all sourceKnown = false then some (.badParam, 0x70)
  else if leAt p 1 1 = 0 then
    if d.flag F.AUDIO_STREAM_STARTED k then some (.busy, 0x08)
    else if (arSources p).all (fun s => d.sourceRuns s (arRate p)) = false then some (.badParam, 0x71) else none
  else if d.flag F.AUDIO_STREAM_STARTED k = false then some (.badParam, 0x08)
  else if (d.astream k).stopping then some (.busy, 0x08) else none

/-- A stream starts with a new LINEAGE, every channel at gain 0 and fading in. -/
def Dev.startStream (d : Dev) (k rate : Nat) (sources : List Nat) (disc : Bool) : Dev :=
  let x := d.astream k
  let lineage := (x.lineage + 1) % 2 ^ 32
  let f : Fade := { gain := 0, on := true, phase := 1, since := d.tick }
  let d1 := d.putAstream k { sources := sources, lineage := lineage, chans := sources.map (fun _ => f), disc := disc }
  let d2 := ((d1.setFlag F.AUDIO_STREAM_STARTED true k).setF F.AUDIO_STREAM_RATE rate k).setF F.AUDIO_STREAM_COUNT sources.length k
  (d2.setFlag F.AUDIO_STREAM_MUTED false k).setF F.AUDIO_STREAM_LINEAGE (lineage % 65536) k

/-- AUDIO-ROUTE: START, or STOP, whose DONE follows the fade. -/
def runAudioRoute (c : Ctx) (p : List Byte) (d : Dev) : Dev :=
  let k := arStream p
  let d1 :=
    if leAt p 1 1 = 0 then d.startStream k (arRate p) (arSources p) false
    else
      let x := d.astream k
      (d.putAstream k { x with stopping := true, chans := x.chans.map (fun (f : Fade) => f.target false d.tick) }).setFlag F.AUDIO_STREAM_MUTED true k
  (d1.commitPoint c).addJob { client := c.client, tag := c.tag, op := 0x0702, kind := 2, index := k }

/-! ### AUDIO-MUTE (R436, R441) -/

/-- The checks of AUDIO-MUTE. -/
def chkAudioMute (kind index slot action : Nat) : Option (Status × Nat) :=
  if 3 ≤ kind ∨ 2 ≤ action then some (.badParam, 0x08)
  else if (kind = 0 ∧ 32 ≤ index) ∨ (kind = 1 ∧ (4 ≤ index ∨ 16 ≤ slot)) ∨ (kind = 2 ∧ 16 ≤ index) then some (.badParam, 0x70)
  else none

/-- AUDIO-MUTE: the target is latched; DONE follows the fade. -/
def runAudioMute (c : Ctx) (kind index slot action : Nat) (d : Dev) : Dev :=
  let on := action == 1
  let d1 := match kind with
    | 0 =>
      let f : Fade := getAt {} d.audio.mics index
      (d.putAudio { d.audio with mics := setAt d.audio.mics index (f.target (on && !d.flag F.AUDIO_MIC_STUCK index) d.tick) }).setFlag F.AUDIO_MIC_MUTED (!on) index
    | 1 =>
      let x := d.aport index
      d.putAport index { x with din := setAt x.din slot ((getAt {} x.din slot : Fade).target on d.tick) }
    | _ =>
      let x := d.astream index
      (d.putAstream index { x with chans := x.chans.map (fun (f : Fade) => f.target (on && !x.stopping) d.tick) }).setFlag F.AUDIO_STREAM_MUTED (!on) index
  (d1.commitPoint c).addJob { client := c.client, tag := c.tag, op := 0x0703, kind := kind, index := index, slot := slot }

/-! ### Sample frames (R424, R427, R438, R439, R383) -/

/-- Whether the audio block runs: not in a reset, not in Standby (R440). -/
def Dev.audioRuns (d : Dev) : Bool := d.phase == .run && d.mode != 0 && d.flag F.AUDIO_CTRL_PLL_EN && !d.fenced 11 2

/-- Saturate at 24 bits. -/
def sat24 (s : Int) : Int := if s < -(2 ^ 23) then -(2 ^ 23) else if 2 ^ 23 - 1 < s then 2 ^ 23 - 1 else s

/-- A microphone's sample after GAIN (R427); silent where its input or its clock is off. -/
def Dev.micSample (d : Dev) (m : Nat) (s : Int) : Int :=
  let g := sext 8 (d.getF F.AUDIO_MIC_GAIN m)
  if bit (d.getF F.AUDIO_PDM_CTRL_IN_EN) (m / 2) = false ∨ bit (d.getF F.AUDIO_PDM_CTRL_CLK_EN) (m / 16) = false then 0
  else sat24 (if g = 0 then s else Config.gainScale g s)

/-- Whether DIN slots of a port read as silence (R430, R433, R434). -/
def Dev.portSilent (d : Dev) (p : Nat) : Bool :=
  d.getF F.AUDIO_P_CFG_ROLE p == 0 || d.flag F.AUDIO_P_STATUS_LOST p || d.flag F.AUDIO_P_STATUS_OFF_RATE p || !d.flag F.AUDIO_P_STATUS_CLK_GOOD p || (d.aport p).silent

/-- The sample of slot `s` of port `p`. -/
def Dev.dinSample (d : Dev) (p s : Nat) (v : Int) : Int :=
  if d.portSilent p ∨ bit (d.getF F.AUDIO_P_RX_MASK_ACTIVE p) s = false then 0 else v

/-- The signal of a source code in the latest frame. -/
def Dev.sourceSignal (d : Dev) (s : Nat) : Int :=
  if s < 0x20 then getAt 0 d.audio.sig s else if s < 0x40 then 0 else if s < 0x80 then getAt 0 d.audio.sig (32 + (s - 0x40)) else 0

/-- Points advanced by a frame: the new fades, and how many switched at a crossing. -/
def fadeAll (fs : List Fade) (ss : List Int) (step : Nat) : List Fade × Nat :=
  let l := (fs.zip ss).map (fun x => x.1.sample x.2 step)
  (l.map (·.1), (l.filter (·.2)).length)

/-- The microphones of a frame: signals, fades, and the return of a stuck one after 64 periods of changing bits (R428). -/
def Dev.micFrame (d : Dev) (mics : List Int) (changed step : Nat) : Dev :=
  let ss := (List.range 32).map (fun m => d.micSample m (getAt 0 mics m))
  let (fs, n) := fadeAll d.audio.mics ss step
  let outs := (fs.zip ss).map (fun x => x.1.out x.2)
  let d1 := d.putAudio { d.audio with mics := fs, sig := outs ++ d.audio.sig.drop 32 }
  let d2 := if n = 0 then d1 else d1.count C.AUDIO_CROSSES 0 0 n
  Dev.upto 32 (fun m d =>
    if d.flag F.AUDIO_MIC_STUCK m = false then d
    else
      let r := if bit changed m then getAt 0 d.audio.stuckRun m + 1 else 0
      let e := d.putAudio { d.audio with stuckRun := setAt d.audio.stuckRun m r }
      if r < 64 then e
      else
        let f := (getAt {} e.audio.mics m : Fade).target (!e.flag F.AUDIO_MIC_MUTED m) e.tick
        (e.putAudio { e.audio with mics := setAt e.audio.mics m f, stuckRun := setAt e.audio.stuckRun m 0 }).setFlag F.AUDIO_MIC_STUCK false m) d2

/-- Whether a port's samples cross through its slip buffers (R431). -/
def Dev.portSlips (d : Dev) (p : Nat) : Bool := d.getF F.AUDIO_P_CFG_ROLE p == 2 || (d.getF F.AUDIO_P_CFG_ROLE p == 1 && d.flag F.AUDIO_P_STATUS_ON_AMCLK p)

/-- A frame leaves a slip buffer of fill `f`: at 6 one is dropped, at 2 one repeated; the fill after, and whether it slipped. -/
def slipOut (f : Nat) : Nat × Bool := if 6 ≤ f then (f - 2, true) else if f ≤ 2 then (f, true) else (f - 1, false)

/-- Count a slip. -/
def Dev.slipped (d : Dev) (p : Nat) (b : Bool) : Dev := if b then (d.count C.AUDIO_P_SLIP p).audioEvent 7 p 0 5 else d

/-- The DIN slots of port `p` in a frame: of a repeat, the last frame out of the buffer (R431). -/
def Dev.dinFrame (d : Dev) (p : Nat) (din : List Int) (step : Nat) : Dev :=
  let x := d.aport p
  let slips := d.portSlips p && d.flag F.AUDIO_P_STATUS_CLK_GOOD p
  let raw := if slips && decide (x.rxFill ≤ 2) then x.rxLast else (din.drop (16 * p)).take 16
  let ss := (List.range 16).map (fun s => d.dinSample p s (getAt 0 raw s))
  let (fs, n) := fadeAll x.din ss step
  let outs := (fs.zip ss).map (fun y => y.1.out y.2)
  let sig := d.audio.sig.take (32 + 16 * p) ++ outs ++ d.audio.sig.drop (48 + 16 * p)
  let (rx, slip) := if slips then slipOut x.rxFill else (x.rxFill, false)
  let d1 := (d.putAudio { d.audio with sig := sig }).putAport p { x with din := fs, rxFill := rx, rxLast := raw }
  let d2 := ((if n = 0 then d1 else d1.count C.AUDIO_CROSSES 0 0 n).setF F.AUDIO_P_STATUS_SLIP_FILL rx p)
  d2.slipped p slip

/-- The source code of DOUT slot `s` of a port. -/
def Dev.txSource (d : Dev) (p s : Nat) : Nat :=
  let f := match s / 4 with | 0 => F.AUDIO_P_TX_SRC_0 | 1 => F.AUDIO_P_TX_SRC_1 | 2 => F.AUDIO_P_TX_SRC_2 | _ => F.AUDIO_P_TX_SRC_3
  bits (d.getF f p) (8 * (s % 4)) 8

/-- The signals of the 16 DOUT slots of port `p` in the latest frame. -/
def Dev.doutFrame (d : Dev) (p : Nat) : List Int := (List.range 16).map (fun s => d.sourceSignal (d.txSource p s))

/-- A frame enters the transmit slip buffer of port `p` (R431). -/
def Dev.txPush (d : Dev) (p : Nat) : Dev :=
  let x := d.aport p
  let tx := if d.portSlips p && d.flag F.AUDIO_P_STATUS_CLK_GOOD p then min 8 (x.txFill + 1) else x.txFill
  d.putAport p { x with txFill := tx, txFrames := (d.doutFrame p :: x.txFrames).take 9 }

/-- The frame that leaves a transmit slip buffer of fill `f`: the oldest, the one after it where that is dropped, the last one again where it repeats. -/
def AudioPort.txOut (x : AudioPort) (f : Nat) : List Int := getAt [] x.txFrames (if 6 ≤ f then f - 2 else if f ≤ 2 then f else f - 1)

/-- Whether this unit records and sends audio: unpaired, or ACTIVE (R366, R383, R439). -/
def Dev.audioActive (d : Dev) : Bool := d.role == 0 || d.role == 2 || (d.role == 1 && d.twin.solo)

/-- A PCM block of a stream is complete (R365, R439). -/
def Dev.pcmBlock (d : Dev) (k frames last : Nat) : Dev :=
  let x := d.astream k
  let content := leBytes 1 x.sources.length ++ leBytes 1 (d.getF F.AUDIO_STREAM_RATE k) ++ leBytes 2 0 ++ leBytes 4 frames ++
    x.pcm.flatMap (fun v => leBytes 4 (wrapInt 24 v * 256))
  let block : SegBlock := { type := 2, flags := 0, length := 8 + frames * x.sources.length * 4, picture := x.blockFirst, content := content }
  let d1 := if d.audioActive ∧ x.whole = true then d.recordBlock 1 k x.lineage x.blockFirst last 0 (b2n x.disc) [block] else d
  d1.putAstream k { d1.astream k with inBlock := 0, pcm := [], disc := x.disc && !(d.audioActive && x.whole), whole := d.audioActive }

/-- A network packet of a stream is complete (R383): a unit that has become ACTIVE sends from its first whole block (R439). -/
def Dev.audioPacket (d : Dev) (k samples : Nat) : Dev :=
  let x := d.astream k
  let s := d.alm.serial
  let u : SendUnit := { picture := x.packetFirst, bytes := samples * x.sources.length * 3, filler := false, last := false, tick := d.tick, data := x.packet.flatMap (fun v => (leBytes 3 (wrapInt 24 v)).reverse) }
  let f := fun (b : Binding) =>
    if b.kind = 1 ∧ b.stream = k ∧ b.ending.isNone = true then d.bindTake (b.newLineage x.lineage 0 (ssrcOf s k x.lineage)) (x.packetFirst % 2 ^ 32) (x.packetFirst + samples) [u]
    else b
  let d1 := if d.audioActive ∧ x.whole = true ∧ 2 ≤ d.mode then { d with binds := d.binds.map f } else d
  d1.putAstream k { d1.astream k with inPacket := 0, packet := [] }

/-- A started stream takes frame `n`. -/
def Dev.streamFrame (d : Dev) (k rate n : Nat) : Dev :=
  if d.flag F.AUDIO_STREAM_STARTED k = false ∨ d.getF F.AUDIO_STREAM_RATE k ≠ rate then d
  else
    let x := d.astream k
    let ss := x.sources.map d.sourceSignal
    let (fs, c) := fadeAll x.chans ss (rampStep rate)
    let bf := if x.inBlock = 0 then n else x.blockFirst
    let pf := if x.inPacket = 0 then n else x.packetFirst
    let outs := (fs.zip ss).map (fun y => y.1.out y.2)
    let d1 := d.putAstream k { x with chans := fs, inBlock := x.inBlock + 1, pcm := x.pcm ++ outs, packet := x.packet ++ outs, blockFirst := bf, inPacket := x.inPacket + 1, packetFirst := pf }
    let d2 := if c = 0 then d1 else d1.count C.AUDIO_CROSSES 0 0 c
    let per := if rate = 0 then 48 else 96
    let d3 := match (if rate = 0 then d2.binds.find? (fun b => b.kind = 1 ∧ b.stream = k) else none) with
      | some b => if (if ebLevel b.params = 1 then 6 else 48) ≤ x.inPacket + 1 then d2.audioPacket k (x.inPacket + 1) else d2
      | none => d2.putAstream k { d2.astream k with inPacket := 0, packet := [] }
    if x.inBlock + 1 = per then d3.pcmBlock k per n else d3

/-- The extended time of R424, in ns. -/
def Dev.extTime (d : Dev) : Nat := d.era * 2 ^ 32 + d.ns

/-- SAMPLE_FRAME: a sample frame of a rate is captured: the 32 microphones' decimated samples, the 64 DIN samples, and the microphones
whose bits have changed in the period. Its index is the one whose nominal time is nearest to now (R424). -/
def Dev.sampleFrame (d : Dev) (rate : Nat) (mics din : List Int) (changed : Nat) : Dev :=
  if d.audioRuns = false then d
  else
    let n := (d.extTime * (if rate = 0 then 48000 else 96000) + 500000000) / 1000000000
    let d1 := if d.getF F.AUDIO_PDM_CTRL_RATE = rate then d.micFrame mics changed (rampStep rate) else d
    let runs := fun (p : Nat) (d : Dev) => d.getF F.AUDIO_P_CFG_RATE p == rate && d.getF F.AUDIO_P_CFG_ROLE p != 0
    let d2 := Dev.upto 4 (fun p d => if runs p d then d.dinFrame p din (rampStep rate) else d) d1
    let d2 := Dev.upto 4 (fun p d => if runs p d then d.txPush p else d) d2
    ((Dev.upto 16 (fun k d => d.streamFrame k rate n) d2).endFades).showFades

/-! ### TDM frames (R429 to R432) -/

/-- Whether a mask written at `t` takes effect at a frame start now: not within the last 2 bit clocks (R432). -/
def Dev.maskDue (d : Dev) (p t : Nat) : Bool :=
  let fs := if d.getF F.AUDIO_P_CFG_RATE p = 0 then 48000 else 96000
  decide (2 * 1000000000 < 4 * (d.tick - t) * (32 * d.getF F.AUDIO_P_CFG_SLOTS p * fs))

/-- Every DIN slot of a port starts at gain 0 and fades in to its target. -/
def fadeIn (tick : Nat) (l : List Fade) : List Fade := l.map (fun (f : Fade) => if f.on then { f with gain := 0, phase := 1, since := tick } else f)

/-- A frame begins on a port. -/
def Dev.beginFrame (d : Dev) (p : Nat) : Dev :=
  let x := d.aport p
  let role := d.getF F.AUDIO_P_CFG_ROLE p
  let d1 := if d.maskDue p x.rxTick then d.setF F.AUDIO_P_RX_MASK_ACTIVE (d.getF F.AUDIO_P_RX_MASK_PENDING p) p else d
  let d2 := if d.maskDue p x.txTick then d1.setF F.AUDIO_P_TX_MASK_ACTIVE (d1.getF F.AUDIO_P_TX_MASK_PENDING p) p else d1
  let good := min 64 (x.good + 1)
  let was := d2.flag F.AUDIO_P_STATUS_CLK_GOOD p
  let lost := d2.flag F.AUDIO_P_STATUS_LOST p
  let back := !was && (good == 64 || role == 1)
  -- master ports on AMCLK change over at a frame start (R434)
  let src := d2.flag F.AUDIO_P_CFG_CLK_SRC p && role == 1
  let ok := d2.getF F.AUDIO_STATUS_AMCLK_STATE == 2
  let on := d2.flag F.AUDIO_P_STATUS_ON_AMCLK p
  let leave := src && on && !ok
  let return_ := src && !on && ok
  let fresh := back || (return_ && x.silent)
  let x1 := { d2.aport p with
    lastFrame := d.tick, good := good, glitchRun := 0, silent := (x.silent || leave) && !return_
    din := if fresh then fadeIn d.tick x.din else x.din }
  let x2 := if back then { x1 with rxFill := 4, txFill := 4 } else x1
  let slips := d2.portSlips p && was
  let (tx, slip) := if slips then slipOut x2.txFill else (x2.txFill, false)
  let x3 := { x2 with txFill := tx, rxFill := if slips then min 8 (x2.rxFill + 1) else x2.rxFill }
  let d3 := ((d2.putAport p x3).setFlag F.AUDIO_P_STATUS_CLK_GOOD (was || back) p).setFlag F.AUDIO_P_STATUS_LOST (lost && !back) p
  let d4 := (d3.setFlag F.AUDIO_P_STATUS_ON_AMCLK ((on && !leave) || return_) p).setF F.AUDIO_P_STATUS_SLIP_FILL x3.rxFill p
  let d5 := if back && lost then d4.audioEvent 2 p 0 1 else d4
  let d6 := (d5.slipped p slip).count C.AUDIO_P_FRAMES p
  let outs := if slips then x2.txOut x2.txFill else d6.doutFrame p
  let slot := fun (s : Nat) => if bit (d6.getF F.AUDIO_P_TX_MASK_ACTIVE p) s && d6.flag F.AUDIO_P_STATUS_CLK_GOOD p then some (getAt 0 outs s) else none
  (d6.emit (.tdm p ((List.range (d6.getF F.AUDIO_P_CFG_SLOTS p)).map slot))).showFades

/-- FRAME_START: an FS edge `clocks` bit clocks after the last frame start (R429, R434). -/
def Dev.frameStart (d : Dev) (p clocks : Nat) : Dev :=
  let x := d.aport p
  let role := d.getF F.AUDIO_P_CFG_ROLE p
  if d.audioRuns = false ∨ role = 0 then d
  else if role = 1 ∨ clocks = 32 * d.getF F.AUDIO_P_CFG_SLOTS p ∨ x.good = 0 then d.beginFrame p
  else
    let run := if x.glitchPos = clocks ∧ x.glitchRun ≠ 0 then x.glitchRun + 1 else 1
    let d1 := ((d.putAport p { x with glitchPos := clocks, glitchRun := run }).count C.AUDIO_P_GLITCH p).audioEvent (d.getF F.AUDIO_LAST_EVENT_CAUSE) p 0 4
    if 3 ≤ run then d1.beginFrame p else d1

/-! ### Microphones, clocks, rates, timeouts -/

/-- MIC_STUCK (R428): a ramp to silence at once. -/
def Dev.micStuck (d : Dev) (m : Nat) : Dev :=
  if d.audioRuns = false ∨ d.flag F.AUDIO_MIC_STUCK m = true then d
  else
    let f : Fade := getAt {} d.audio.mics m
    let f1 := if f.gain = 0 then { f with on := false, phase := 0 } else { f with on := false, phase := 2 }
    let d1 := d.putAudio { d.audio with mics := setAt d.audio.mics m f1, stuckRun := setAt d.audio.stuckRun m 0 }
    let d2 := (d1.setFlag F.AUDIO_MIC_STUCK true m).count C.AUDIO_PDM_STUCK
    let d3 := if f.gain = 0 then d2 else d2.count C.AUDIO_RAMPS
    (d3.audioEvent 5 0 m 6).showFades

/-- CLOCK_LOSS (R434): no frame start within two sample periods of the last good one. -/
def Dev.clockLoss (d : Dev) (p : Nat) : Dev :=
  let x := d.aport p
  let fs := if d.getF F.AUDIO_P_CFG_RATE p = 0 then 48000 else 96000
  if d.audioRuns = false ∨ d.getF F.AUDIO_P_CFG_ROLE p ≠ 2 ∨ d.flag F.AUDIO_P_STATUS_LOST p = true ∨ x.good = 0 ∨ 4 * (d.tick - x.lastFrame) * fs < 2 * 1000000000 then d
  else
    let d1 := (d.putAport p { x with good := 0, glitchRun := 0 }).setFlag F.AUDIO_P_STATUS_LOST true p
    (((d1.setFlag F.AUDIO_P_STATUS_CLK_GOOD false p).count C.AUDIO_P_CLK_LOSS p).audioEvent 1 p 0 0)

/-- AMCLK_LOSS (R425): a sample period out by more than 1 %; with `back` the next one is in range again. -/
def Dev.amclkLoss (d : Dev) (back : Bool) : Dev :=
  if d.getF F.AUDIO_STATUS_AMCLK_STATE ≠ 2 then d
  else if back then d.count C.AUDIO_AMCLK_GLITCH
  else ((d.setF F.AUDIO_STATUS_AMCLK_STATE 3).count C.AUDIO_AMCLK_LOSS).audioEvent 6 0 0 7

/-- RATE_MEASUREMENT (R433): a measurement in mHz. -/
def Dev.rateMeasurement (d : Dev) (p mhz : Nat) : Dev :=
  if d.audioRuns = false ∨ d.getF F.AUDIO_P_CFG_ROLE p = 0 then d
  else
    let x := d.aport p
    let ms := (x.meas ++ [mhz]).drop (x.meas.length + 1 - 4)
    let d1 := (d.putAport p { x with meas := ms }).setF F.AUDIO_P_RATE_MEAS mhz p
    let lo := ms.foldl min mhz
    let hi := ms.foldl max mhz
    let rep := d1.getF F.AUDIO_P_RATE_REP p
    if ms.length < 4 ∨ 50 * lo < (hi - lo) * 1000000 ∨ rateFar mhz rep 200 = false then d1
    else
      let d2 := ((d1.setF F.AUDIO_P_RATE_REP mhz p).count C.AUDIO_P_RATE_CHANGE p).audioEvent 3 p 0 2
      let off := rateFar mhz (d2.portMilliHz p) 1000
      let d3 := d2.setFlag F.AUDIO_P_STATUS_OFF_RATE off p
      if off ∧ d2.flag F.AUDIO_P_STATUS_OFF_RATE p = false then d3.audioEvent 4 p 0 3 else d3

/-- A fade that has waited 20 ms ramps (R436). -/
def Fade.expire (f : Fade) (tick : Nat) : Fade × Bool := if f.phase = 1 ∧ 5000000 ≤ tick - f.since then ({ f with phase := 2 }, true) else (f, false)

/-- FADE_TIMEOUT at a point. -/
def Dev.fadeTimeout (d : Dev) (pt : AudioPoint) : Dev :=
  let ramp := fun (x : Bool) (d : Dev) => (if x then d.count C.AUDIO_RAMPS else d).showFades
  match pt with
  | .mic m =>
    let (f, b) := (getAt {} d.audio.mics m.val : Fade).expire d.tick
    ramp b (d.putAudio { d.audio with mics := setAt d.audio.mics m.val f })
  | .din p s =>
    let x := d.aport p.val
    let (f, b) := (getAt {} x.din s.val : Fade).expire d.tick
    ramp b (d.putAport p.val { x with din := setAt x.din s.val f })
  | .stream k c =>
    let x := d.astream k.val
    let (f, b) := (getAt {} x.chans c.val : Fade).expire d.tick
    ramp b (d.putAstream k.val { x with chans := setAt x.chans c.val f })

end Sys2Proof.Machine
end

