-- ==== Sys2Proof/Machine/Compose.lean ====
section
/-! DEFINITION. The compositor's datapath (R412 to R415): base read, scaler, LUTs, graphics plane, Lantern, and the outputs of R420
and R421. -/
namespace Sys2Proof.Machine

/-! ### PREVIEW-CONFIGURE's block (R419) -/

def vFlags (b : List Byte) : Nat := leAt b 0 1
def vKind (b : List Byte) : Nat := leAt b 1 1
def vId (b : List Byte) : Nat := leAt b 2 1
def vGen (b : List Byte) : Nat := leAt b 3 1
def vOutW (b : List Byte) : Nat := leAt b 4 2
def vOutH (b : List Byte) : Nat := leAt b 6 2
def vNum (b : List Byte) : Nat := leAt b 8 4
def vDen (b : List Byte) : Nat := leAt b 12 4
def vSrcX (b : List Byte) : Nat := leAt b 16 2
def vSrcY (b : List Byte) : Nat := leAt b 18 2
def vSrcW (b : List Byte) : Nat := leAt b 20 2
def vSrcH (b : List Byte) : Nat := leAt b 22 2
def vDstX (b : List Byte) : Nat := leAt b 24 2
def vDstY (b : List Byte) : Nat := leAt b 26 2
def vDstW (b : List Byte) : Nat := leAt b 28 2
def vDstH (b : List Byte) : Nat := leAt b 30 2
def vGfxX (b : List Byte) : Nat := leAt b 32 2
def vGfxY (b : List Byte) : Nat := leAt b 34 2
def vGfxW (b : List Byte) : Nat := leAt b 36 2
def vGfxH (b : List Byte) : Nat := leAt b 38 2
def vScale (b : List Byte) : Nat := leAt b 40 1
def vAlpha (b : List Byte) : Nat := leAt b 41 1
def vRate (b : List Byte) : Nat := leAt b 42 1
def vLane (b : List Byte) : Nat := leAt b 43 1

/-- Clip to 12 bits. -/
def clip12 (x : Int) : Nat := if x < 0 then 0 else if 4095 < x then 4095 else x.toNat

/-- n / m to the nearest whole number; the direction of an exact half is open (log entry 11). -/
def roundOpen (n : Int) (m : Nat) : Int :=
  let q := n / (m : Int)
  let r := n % (m : Int)
  if 2 * r < (m : Int) then q else if (m : Int) < 2 * r then q + 1 else if Config.tableRound 3 (wrapInt 48 n) then q + 1 else q

/-! ### Base read (R412 order 1) -/

/-- Whether the chroma of a format is halved horizontally; and vertically. -/
def halfH (f : Nat) : Bool := decide (f < 4)
def halfV (f : Nat) : Bool := decide (f < 2)

/-- A sample brought to 12 bits. -/
def to12 (depth s : Nat) : Nat := if depth ≤ 12 then s * 2 ^ (12 - depth) else (s + 8) / 16

/-- The base picture that an output picture reads: its source, index and format, and its size. -/
structure BaseSrc where
  kind : Nat
  id : Nat
  pic : Nat
  format : Nat
  width : Nat
  deriving DecidableEq, Repr

/-- The sample of a component at a place of its own grid. -/
def Dev.baseSample (d : Dev) (b : BaseSrc) (comp x y : Nat) : Nat :=
  if b.kind = 1 then
    if 6 ≤ b.format ∧ comp ≠ 0 then 2048
    else
      let l := if comp ≠ 0 ∧ halfV b.format = true then 2 * y else y
      let depth := formatBits b.format
      let open_ := Config.openSample [1, b.id, b.pic, comp, x, y] % 2 ^ depth
      let s := match ((d.chan b.id).pic b.pic).bind (fun p => p.lines.find? (fun r => r.line = l ∧ r.placed = true)) with
        | some r => r.sample b.format b.width comp x
        | none => open_
      to12 depth s
  else Config.openSample [2, b.id, b.pic, comp, x, y] % 4096

/-! ### Scaler (R413) -/

/-- The columns or rows first averaged: 4 above a ratio of 8, 2 above 4. -/
def preGroup (src dst : Nat) : Nat := if 8 * dst < src then 4 else if 4 * dst < src then 2 else 1

/-- A position on one axis of a component's grid, relative to the first sample of the crop there: n, f. `half` where the grid is
halved, `centred` where its samples lie between lines. -/
def scalePos (start src dst : Nat) (half centred : Bool) (i : Nat) : Int × Nat :=
  let g := preGroup src dst
  let a : Int := (2 * (i : Int) + 1) * src - dst + 2 * dst * start
  let (num, den) : Int × Nat :=
    if half then ((if centred then a - dst else a) - 4 * dst * ((start / 2 : Nat) : Int), 4 * dst)
    else (a - 2 * dst * (start : Int), 2 * dst)
  let (num2, den2) : Int × Nat := if g = 1 then (num, den) else (2 * num + den - (g : Int) * den, 2 * g * den)
  let n := num2 / (den2 : Int)
  let f := (roundOpen (64 * (num2 % (den2 : Int))) den2).toNat
  if f = 64 then (n + 1, 0) else (n, f)

/-- The mean of a group of samples; its rounding is open (log entry 11). -/
def meanOf (l : List Nat) : Nat := if l.length ≤ 1 then l.headD 0 else (l.foldl (· + ·) 0 + (if Config.tableRound 4 l.length then l.length / 2 else 0)) / l.length

/-- A place clamped to a range of `n` samples. -/
def clampTo (n : Nat) (i : Int) : Nat := if i < 0 then 0 else min i.toNat (n - 1)

/-- A filter of the given taps over signed coefficients: (Σ c s + 512) >> 10, clipped. -/
def filterOut (cs : List Int) (ss : List Nat) : Nat :=
  clip12 (((cs.zip ss).foldl (fun (a : Int) x => a + x.1 * x.2) 0 + 512) / 1024)

/-- Coefficient `t` of phase `f` of a filter: chroma or luma, horizontal or vertical (R418, R419). -/
def Dev.scalerCoef (d : Dev) (chroma vertical : Bool) (f t : Nat) : Int :=
  let i := (if chroma then 896 else 0) + (if vertical then 512 + 6 * f + t else 8 * f + t)
  sext 16 (Cells.get (arrayReset 6) (getAt {} d.prev.arrays 6).active i)

/-- The scaler's output for a component at destination place (i, j). -/
def Dev.scaled (d : Dev) (b : BaseSrc) (s : List Byte) (comp i j : Nat) : Nat :=
  let hh := comp != 0 && b.kind == 1 && halfH b.format
  let hv := comp != 0 && b.kind == 1 && halfV b.format
  let gx := preGroup (vSrcW s) (vDstW s)
  let gy := preGroup (vSrcH s) (vDstH s)
  let (n, f) := scalePos (vSrcX s) (vSrcW s) (vDstW s) hh false i
  let (m, g) := scalePos (vSrcY s) (vSrcH s) (vDstH s) hv hv j
  let sub := fun (h : Bool) (v : Nat) => if h then v / 2 else v
  let x0 := sub hh (vSrcX s)
  let y0 := sub hv (vSrcY s)
  let w := sub hh (vSrcX s + vSrcW s - 1) - x0 + 1
  let h := sub hv (vSrcY s + vSrcH s - 1) - y0 + 1
  let raw := fun (x y : Int) => d.baseSample b comp (x0 + clampTo w x) (y0 + clampTo h y)
  let col := fun (x y : Int) => meanOf ((List.range gx).map (fun (k : Nat) => raw (x * gx + k) y))
  let cell := fun (x y : Int) => meanOf ((List.range gy).map (fun (k : Nat) => col x (y * gy + k)))
  let row := fun (y : Int) => filterOut ((List.range 8).map (fun t => d.scalerCoef (comp != 0) false f t)) ((List.range 8).map (fun (t : Nat) => cell (n - 3 + t) y))
  filterOut ((List.range 6).map (fun t => d.scalerCoef (comp != 0) true g t)) ((List.range 6).map (fun (t : Nat) => row (m - 2 + t)))

/-! ### Layers (R414, R415) -/

/-- Component `i` of an ARGB word converted by GFX_CSC. -/
def cscOut (csc : List Int) (word i : Nat) : Nat :=
  let k := fun j => getAt 0 csc j
  clip12 (roundOpen (k (3 * i) * (bits word 16 8 : Nat) + k (3 * i + 1) * (bits word 8 8 : Nat) + k (3 * i + 2) * (bits word 0 8 : Nat)) 1024 + k (9 + i))

/-- A layer of alpha `a` over a value. -/
def blend (fg bg a : Nat) : Nat :=
  let a1 := a + a / 128
  clip12 ((bg : Int) + (((fg : Int) - bg) * a1 + 128) / 256)

/-- The plane's word for output place (x, y) with its alpha; `none` outside its area. -/
def Dev.planeAt (d : Dev) (s : List Byte) (x y : Nat) : Option (Nat × Nat) :=
  let k := max 1 (vScale s)
  if bit (vFlags s) 2 = false ∨ x < vGfxX s ∨ y < vGfxY s then none
  else
    let px := (x - vGfxX s) / k
    let py := (y - vGfxY s) / k
    if vGfxW s ≤ px ∨ vGfxH s ≤ py then none
    else
      let w := Cells.get (arrayReset 8) (getAt {} d.prev.arrays 8).active (py * 3840 + px)
      some (w, bits w 24 8 * (vAlpha s + 1) / 256)

/-- The Lantern's word for output place (x, y); `none` outside its image. -/
def Dev.lanternAt (d : Dev) (x y : Nat) : Option (Nat × Nat) :=
  let p := d.prev.act
  let u := (x : Int) - (p.x - p.hx)
  let v := (y : Int) - (p.y - p.hy)
  if p.visible = false ∨ u < 0 ∨ v < 0 ∨ 128 ≤ u ∨ 128 ≤ v then none
  else
    let w := Cells.get (arrayReset 7) (getAt {} d.prev.arrays 7).active (v.toNat * 128 + u.toNat)
    some (w, bits w 24 8)

/-- LUT `k` at an index. -/
def Dev.lutAt (d : Dev) (k i : Nat) : Nat := Cells.get (arrayReset k) (getAt {} d.prev.arrays k).active i % 4096

/-- The component of an output pixel, in the order of R412; `poisoned` where its base sample was. -/
def Dev.pixelOut (d : Dev) (base : Option BaseSrc) (x y comp : Nat) (poisoned : Bool) : Nat :=
  let s := d.prev.act.block
  let back := 4 * bits d.prev.act.background (10 * comp) 10
  let inside := decide (vDstX s ≤ x) && decide (x < vDstX s + vDstW s) && decide (vDstY s ≤ y) && decide (y < vDstY s + vDstH s)
  let v0 := match base with
    | some b => if inside && !poisoned then d.scaled b s comp (x - vDstX s) (y - vDstY s) else back
    | none => back
  let v1 := d.lutAt comp v0
  let v2 := match d.planeAt s x y with | some (w, a) => blend (cscOut d.prev.act.csc w comp) v1 a | none => v1
  let v3 := match d.lanternAt x y with | some (w, a) => blend (cscOut d.prev.act.csc w comp) v2 a | none => v2
  d.lutAt (3 + comp) v3

/-- A line of the output: its three components. -/
def Dev.composeLine (d : Dev) (base : Option BaseSrc) (y : Nat) (poison : List Nat) : List (List Nat) :=
  (List.range 3).map (fun comp => (List.range (vOutW d.prev.act.block)).map (fun x => d.pixelOut base x y comp (poison.contains x)))

/-! ### Outputs (R420, R421) -/

/-- A 12-bit sample as 10 bits. -/
def to10 (v : Nat) : Nat := min 1023 ((v + 2) / 4)

/-- A composite line as pixel samples of format 2 or 3. -/
def line422 (f : Nat) (c : List (List Nat)) : List Nat :=
  let g := fun (l : List Nat) => if f = 2 then l.map to10 else l
  g (getAt [] c 0) ++ g (decimate false (getAt [] c 1)) ++ g (decimate false (getAt [] c 2))

/-- A composite line as samples of format 1: the chroma of an even line is the average of the line pair. -/
def line420 (y : Nat) (c next : List (List Nat)) : List Nat :=
  let chroma : Nat → List Nat := fun k =>
    let a : List Nat := (decimate false (getAt [] c k)).map to10
    let b : List Nat := (decimate false (getAt [] next k)).map to10
    (a.zip b).map (fun x => (x.1 + x.2 + 1) / 2)
  ((getAt [] c 0 : List Nat).map to10) ++ (if y % 2 = 0 then chroma 1 ++ chroma 2 else ([] : List Nat))

/-- The marker of a preview lane (R420): LANE, PAR 0, SMSG READY with SARG and RATE the rate code. -/
def previewMarkerWord (lane rate mc : Nat) : Nat := checkedWord (0x2D3 + 2 ^ 10 * (lane % 128) + 2 ^ 18 * rate + 2 ^ 20 * 1 + 2 ^ 24 * rate + 2 ^ 32 * (mc % 2 ^ 16))

/-- The words of the line packet of R420. -/
def previewPacket (id pic y : Nat) (samples : List Nat) : List Nat :=
  let h : Nat := 0xA5C + 2 ^ 12 * (id % 128) + 2 ^ 27 * (y % 2 ^ 14)
  let body : List Nat := [h + 2 ^ 48 * crcWord48 h, pic] ++ packSamples 10 samples
  body ++ [lineCheck (id % 128) pic y body]

end Sys2Proof.Machine
end

