-- ==== Sys2Proof/Machine/Preview.lean ====
section
/-! DEFINITION. The preview compositor (R416 to R422): its commands, START_TICK and PREVIEW_LINE. -/
namespace Sys2Proof.Machine

/-- The compositor's state replaced. -/
def Dev.putPrev (d : Dev) (p : PrevSt) : Dev := { d with prev := p }

/-- Array `k`. -/
def Dev.array (d : Dev) (k : Nat) : ArrayBank := getAt {} d.prev.arrays k

/-- SWAP_PENDING follows the arrays: bit 0 LUTs, 1 scaler, 2 Lantern, 3 plane. -/
def Dev.showSwaps (d : Dev) : Dev :=
  let on := fun (k : Nat) => b2n (d.array k).swap
  let luts := b2n ((List.range 6).any (fun k => (d.array k).swap))
  d.setF F.PREVIEW_STATE_SWAP_PENDING (luts + 2 * on 6 + 4 * on 7 + 8 * on 8)

/-! ### PREVIEW-CONFIGURE (R419) -/

/-- The size of the base source the block names, where it is known: an open channel's, or the largest a context accepts. -/
def Dev.sourceSize (d : Dev) (s : List Byte) : Option (Nat × Nat) :=
  match vKind s with
  | 1 => let p := (d.chan (vId s)).params; if p = [] then none else some (pWidth p, pHeight p)
  | 2 => (assoc d.decs (vId s)).map (fun x => (x.maxW, x.maxH))
  | _ => none

/-- Check 0x62 of PREVIEW-CONFIGURE: sizes, crop, ratios and the plane's area. -/
def Dev.previewSizesBad (d : Dev) (s : List Byte) : Bool :=
  decide (vOutW s % 2 = 1) || decide (vOutW s < 128) || decide (7680 < vOutW s) || decide (vOutH s < 128) || decide (4320 < vOutH s) ||
  (vKind s != 0 && (decide (vSrcW s = 0) || decide (vSrcH s = 0) || decide (vDstW s = 0) || decide (vDstH s = 0) ||
    decide (16 * vDstW s < vSrcW s) || decide (16 * vDstH s < vSrcH s))) ||
  (match d.sourceSize s with | some (w, h) => decide (w < vSrcX s + vSrcW s) || decide (h < vSrcY s + vSrcH s) | none => false) ||
  decide (vOutW s < vGfxX s + vGfxW s * vScale s) || decide (vOutH s < vGfxY s + vGfxH s * vScale s) || decide (3840 < vGfxW s) || decide (2160 < vGfxH s)

/-- A field out of its range. -/
def previewFieldsBad (s : List Byte) : Bool :=
  decide (s.length ≠ 48) || decide (16 ≤ vFlags s) || decide (3 ≤ vKind s) || (vKind s == 1 && decide (128 ≤ vId s)) || (vKind s == 2 && decide (16 ≤ vId s)) ||
  decide (8 ≤ vGen s) || decide (vNum s = 0) || decide (vDen s = 0) || decide (vScale s < 1) || decide (2 < vScale s) || decide (4 ≤ vRate s) ||
  decide (124 < vLane s) || leAt s 44 4 != 0

/-- The words of a preview line (R420). -/
def previewWords (w : Nat) : Nat := ceilDiv (20 * w) 64 + 3

/-- Whether the lanes cannot carry the output (R420), the payload of R91 exact: 1,562,500,000 × 2^c × 8,191 / 8,192 × 24 / 25. -/
def previewTooFast (s : List Byte) : Bool :=
  decide (4 * 1562500000 * 2 ^ vRate s * 8191 * 24 * 15 * vDen s < 64 * previewWords (vOutW s) * vOutH s * 16 * vNum s * 8192 * 25)

/-- The STARTED channel that takes the proxy, if any. -/
def Dev.proxyChan (d : Dev) : Option Nat := (d.chans.find? (fun c => pSource c.2.params = 1 ∧ d.chanState c.1 = 2)).map (·.1)

/-- The checks of PREVIEW-CONFIGURE. -/
def chkPreviewConfigure (s : List Byte) (d : Dev) : Option (Status × Nat) :=
  let p := (d.chan (vId s)).params
  let old := d.prev.latest.block
  if previewFieldsBad s then some (.badParam, 0x08)
  else if d.previewSizesBad s then some (.badParam, 0x62)
  else if previewTooFast s then some (.badParam, 0x61)
  else if vKind s = 1 ∧ p ≠ [] ∧
      (d.chan (vId s)).slots < minSlots p (d.getF F.CHAN_DELAY_D_US (vId s)) + ceilDiv (vDen s * pRateNum p) (vNum s * pRateDen p) + 1 then some (.noResource, 0x60)
  else if d.proxyChan.isSome ∧ (vOutW s ≠ vOutW old ∨ vOutH s ≠ vOutH old ∨ vNum s * vDen old ≠ vNum old * vDen s) then some (.busy, 0x08)
  else none

/-- PREVIEW-CONFIGURE: settings recorded, to latch under R417. -/
def runPreviewConfigure (c : Ctx) (s : List Byte) (d : Dev) : Dev :=
  ((d.putPrev { d.prev with latest := { d.prev.latest with block := s } }).commitPoint c).finish c 0x0801 .ok

/-! ### Array loads (R418, R419) -/

/-- The bytes a bank's CRC covers. -/
def arrayBytes (k : Nat) (l : List (Nat × Nat)) : List Byte :=
  let n := if k < 6 then 4096 else if k = 6 then 1792 else if k = 7 then 16384 else 3840 * 2160
  let w := if k < 7 then 2 else 4
  (List.range n).flatMap (fun i => leBytes w (Cells.get (arrayReset k) l i))

/-- Write entries from `first` on into the pending bank of array `k`, each `w` bytes. -/
def bankWrite (k first w : Nat) (bs : List Byte) (l : List (Nat × Nat)) : List (Nat × Nat) :=
  (List.range (bs.length / w)).foldl (fun l i => Cells.set (arrayReset k) l (first + i) (leAt bs (w * i) w)) l

/-- A load has written the pending bank: its SWAP, and ARRAY_CRC. -/
def Dev.loaded (d : Dev) (k : Nat) (l : List (Nat × Nat)) (swap : Bool) : Dev :=
  let d1 := (d.putPrev { d.prev with arrays := setAt d.prev.arrays k { d.array k with pending := l, swap := swap } }).showSwaps
  d1.setF F.PREVIEW_ARRAY_CRC (crc32c (arrayBytes k l)) k

/-- A load completes with ARRAY_CRC. -/
def Dev.endLoad (d : Dev) (c : Ctx) (op k : Nat) : Dev :=
  (d.commitPoint c).finish c op .ok 0 (leBytes 4 (d.getF F.PREVIEW_ARRAY_CRC k))

/-- A load of array `k` while a SWAP of it is pending (R418). -/
def Dev.swapBusy (d : Dev) (k : Nat) : Option (Status × Nat) := if (d.array k).swap then some (.busy, 0x08) else none

/-- The checks of LUT-LOAD; the parameters are the 8 bytes and the entries. -/
def chkLutLoad (p : List Byte) (d : Dev) : Option (Status × Nat) :=
  let n := leAt p 4 2
  if 6 ≤ leAt p 0 1 ∨ 2 ≤ leAt p 1 1 ∨ leAt p 6 2 ≠ 0 ∨ n = 0 ∨ 2044 < n ∨ 4096 < leAt p 2 2 + n ∨ p.length ≠ 8 + 2 * n ∨
      (List.range n).any (fun i => decide (4096 ≤ leAt p (8 + 2 * i) 2)) = true then some (.badParam, 0x08)
  else d.swapBusy (leAt p 0 1)

/-- LUT-LOAD. -/
def runLutLoad (c : Ctx) (p : List Byte) (d : Dev) : Dev :=
  let k := leAt p 0 1
  (d.loaded k (bankWrite k (leAt p 2 2) 2 (p.drop 8) (d.array k).pending) (bit (leAt p 1 1) 0)).endLoad c 0x0802 k

/-- The checks of SCALER-LOAD. -/
def chkScalerLoad (p : List Byte) (d : Dev) : Option (Status × Nat) :=
  if p.length ≠ 3592 ∨ 2 ≤ leAt p 0 1 ∨ leAt p 1 7 ≠ 0 then some (.badParam, 0x08) else d.swapBusy 6

/-- SCALER-LOAD. -/
def runScalerLoad (c : Ctx) (p : List Byte) (d : Dev) : Dev :=
  (d.loaded 6 (bankWrite 6 0 2 (p.drop 8) (d.array 6).pending) (bit (leAt p 0 1) 0)).endLoad c 0x0803 6

/-- The checks of LANTERN-LOAD. -/
def chkLanternLoad (flags hx hy : Nat) (d : Dev) : Option (Status × Nat) :=
  if 2 ≤ flags ∨ 127 < hx ∨ 127 < hy then some (.badParam, 0x08) else d.swapBusy 7

/-- A copy from a host buffer, whole or up to the granule of its fault (R358), and whether it is whole. -/
def copiedOf (c : Ctx) (n : Nat) : List Byte × Bool :=
  if c.rd.fault.isSome then (c.rd.bytes.take (min n (c.rd.bytes.length / 64 * 64)), false) else (c.rd.bytes.take n, true)

/-- LANTERN-LOAD: with a fault the pending bank is partly written and no SWAP set. -/
def runLanternLoad (c : Ctx) (flags hx hy : Nat) (d : Dev) : Dev :=
  let (bs, whole) := copiedOf c 65536
  let l := bankWrite 7 0 4 bs (d.array 7).pending
  if whole then
    let d1 := d.loaded 7 l (bit flags 0)
    (d1.putPrev { d1.prev with pendHx := hx, pendHy := hy }).endLoad c 0x0804 7
  else ((d.loaded 7 l false).bufFault c).finish c 0x0804 .fault

/-- LANTERN-MOVE. -/
def runLanternMove (c : Ctx) (x y : Int) (flags : Nat) (d : Dev) : Dev :=
  ((d.putPrev { d.prev with latest := { d.prev.latest with x := x, y := y, visible := bit flags 0 } }).commitPoint c).finish c 0x0805 .ok

/-- The checks of LANTERN-MOVE: only its reserved bits. -/
def chkLanternMove (flags : Nat) : Option (Status × Nat) := if 2 ≤ flags then some (.badParam, 0x08) else none

/-- The checks of PLANE-LOAD. -/
def chkPlaneLoad (flags row rows : Nat) (d : Dev) : Option (Status × Nat) :=
  if 2 ≤ flags ∨ 2160 < row + rows then some (.badParam, 0x08) else d.swapBusy 8

/-- PLANE-LOAD: ROWS rows of GFX_W words of the settings recorded. -/
def runPlaneLoad (c : Ctx) (flags row rows : Nat) (d : Dev) : Dev :=
  let w := vGfxW d.prev.latest.block
  let (bs, whole) := copiedOf c (rows * w * 4)
  let l := (List.range rows).foldl (fun l r => bankWrite 8 ((row + r) * 3840) 4 ((bs.drop (4 * w * r)).take (4 * w)) l) (d.array 8).pending
  if whole then (d.loaded 8 l (bit flags 0)).endLoad c 0x0806 8
  else ((d.loaded 8 l false).bufFault c).finish c 0x0806 .fault

/-! ### START_TICK (R416, R417) -/

/-- Show the settings in force. -/
def Dev.showPreview (d : Dev) : Dev :=
  let s := d.prev.act.block
  let a := d.prev.act
  let d1 := (((d.setF F.PREVIEW_STATE_FLAGS (vFlags s)).setF F.PREVIEW_STATE_BASE_KIND (vKind s)).setF F.PREVIEW_STATE_BASE_ID (vId s)).setF F.PREVIEW_STATE_PULSE_GEN (vGen s)
  let d2 := ((d1.setF F.PREVIEW_STATE_LINK_RATE (vRate s)).setF F.PREVIEW_STATE_LANE_BASE (vLane s)).setFlag F.PREVIEW_STATE_GFX_SCALE2 (vScale s == 2)
  let d3 := (((d2.setF F.PREVIEW_OUT_SIZE_W (vOutW s)).setF F.PREVIEW_OUT_SIZE_H (vOutH s)).setF F.PREVIEW_RATE_NUM (vNum s)).setF F.PREVIEW_RATE_DEN (vDen s)
  let d4 := (((d3.setF F.PREVIEW_SRC_X (vSrcX s)).setF F.PREVIEW_SRC_Y (vSrcY s)).setF F.PREVIEW_SRC_W (vSrcW s)).setF F.PREVIEW_SRC_H (vSrcH s)
  let d5 := (((d4.setF F.PREVIEW_DST_X (vDstX s)).setF F.PREVIEW_DST_Y (vDstY s)).setF F.PREVIEW_DST_W (vDstW s)).setF F.PREVIEW_DST_H (vDstH s)
  let d6 := (((d5.setF F.PREVIEW_GFX_X (vGfxX s)).setF F.PREVIEW_GFX_Y (vGfxY s)).setF F.PREVIEW_GFX_W (vGfxW s)).setF F.PREVIEW_GFX_H (vGfxH s)
  let d7 := (((d6.setF F.PREVIEW_LAYERS_GFX_ALPHA (vAlpha s)).setF F.PREVIEW_LAYERS_HX a.hx).setF F.PREVIEW_LAYERS_HY a.hy).setFlag F.PREVIEW_LAYERS_VISIBLE a.visible
  (d7.setF F.PREVIEW_LANTERN_X (wrapInt 16 a.x)).setF F.PREVIEW_LANTERN_Y (wrapInt 16 a.y)

/-- The base picture of the settings latched (R416): its kind, source and index. -/
def Dev.chooseBase (d : Dev) : Option (Nat × Nat × Nat) :=
  let s := d.prev.act.block
  match vKind s with
  | 1 =>
    (match (d.chan (vId s)).lastAccepted with
     | some k => (match (d.chan (vId s)).pic k with | some p => if p.released then none else some (1, vId s, k) | none => none)
     | none => none)
  | 2 => (assoc d.decs (vId s)).bind (fun x => x.out.getLast?.map (fun k => (2, vId s, k)))
  | _ => none

/-- The slot of a channel picture is let go, and the channel's slots freed. -/
def Dev.dropBase (d : Dev) : Dev :=
  match d.prev.base with
  | some (1, n, _) =>
    let c := { d.chan n with previewHold := none }
    if c.params = [] then d else d.putChan n c.freeSlots
  | _ => d

/-- Count a base picture that is missing (R416). -/
def Dev.baseMissing (d : Dev) : Dev := (d.count C.PREVIEW_BASE_MISSING).raise .preview 0 0

/-- Whether an output picture is due: the generator fired with INTERNAL, or the free-running period is over. -/
def Dev.startDue (d : Dev) : Bool :=
  let s := d.prev.latest.block
  s != [] && (if bit (vFlags s) 3 then !d.prev.started || decide (vDen s * 1000000000 ≤ (d.ns + 2 ^ 32 - d.getF F.PREVIEW_LAST_START) % 2 ^ 32 * vNum s) else d.prev.due)

/-- The markers of the four preview lanes with MCOUNT `mc` (R420). -/
def Dev.laneMarkers (d : Dev) (mc : Nat) : Dev :=
  let s := d.prev.act.block
  Dev.upto 4 (fun i d => d.emit (.previewMarker i (previewMarkerWord (vLane s + i) (vRate s) mc))) d

/-- The preview lanes keep sending their markers (R92, R420): they start with MCOUNT 0 where they send from now on or `restart`, and send one for each
marker period of R91 without stuff bits that has passed since (log entry 102). -/
def Dev.lanesRun (d : Dev) (restart : Bool) : Dev :=
  let s := d.prev.act.block
  let p := d.prev
  if bit (vFlags s) 0 = false ∨ d.fenced 11 13 = true then d.putPrev { p with lanesTick := none }
  else match (if restart then none else p.lanesTick) with
    | none => (d.laneMarkers 0).putPrev { p with lanesTick := some d.tick, lanesMc := 0 }
    | some t =>
      let m := 400 * (d.tick - t) * 2 ^ vRate s / 33554432
      (Dev.each (List.range (m - p.lanesMc)) (fun k d => d.laneMarkers (p.lanesMc + 1 + k)) d).putPrev { p with lanesMc := m }

/-- START_TICK. -/
def Dev.startTick (d : Dev) : Dev :=
  if d.phase ≠ .run ∨ d.mode < 2 ∨ d.startDue = false then d
  else
    let p := d.prev
    let csc := (List.range 12).map (fun j => sext 16 (d.getF F.PREVIEW_GFX_CSC_VALUE j))
    let lantern := (d.array 7).swap
    let hx := if lantern then p.pendHx else p.act.hx
    let hy := if lantern then p.pendHy else p.act.hy
    let act := { p.latest with hx := hx, hy := hy, background := d.getF F.PREVIEW_BACKGROUND, csc := csc }
    let swapped := p.arrays.any (·.swap)
    let arrays := p.arrays.map (fun (a : ArrayBank) => if a.swap then { a with active := a.pending, swap := false } else a)
    let old := p.act.block
    let relink := p.started && bit (vFlags old) 0 && (vRate old != vRate act.block || vLane old != vLane act.block)
    let was := p.base
    let d1 := if p.running then d.dropBase else d
    let d2 := ((d1.putPrev { d1.prev with latest := act, act := act, arrays := arrays, due := false, started := true, running := true, line := 0, gone := false }).showPreview).showSwaps
    let d3 := if swapped then d2.raise .preview 0 3 else d2
    let d4 := (if relink then (d3.count C.PREVIEW_LINK_RESTART).raise .preview 0 4 else d3).lanesRun relink
    let pic := (d4.get64 F.PREVIEW_PIC_LO F.PREVIEW_PIC_HI + 1) % 2 ^ 64
    let d5 := ((d4.set64 F.PREVIEW_PIC_LO F.PREVIEW_PIC_HI pic).setF F.PREVIEW_LAST_START d4.ns).setF F.PREVIEW_LINE 0
    let mark := { d5 with chans := d5.chans.map (fun (c : Nat × Chan) => (c.1, { c.2 with preview := vKind act.block == 1 && c.1 == vId act.block })) }
    let base := mark.chooseBase
    let d6 := mark.putPrev { mark.prev with base := base }
    match base with
    | none => if vKind act.block = 0 then d6 else d6.baseMissing
    | some (kind, n, k) =>
      let d7 := d6.set64 F.PREVIEW_BASE_PIC_LO F.PREVIEW_BASE_PIC_HI k
      let d8 := if was = base then d7.count C.PREVIEW_BASE_REPEAT else d7
      if kind = 1 then
        let last := (((d8.chan n).pic k).map (·.lastNs)).getD d8.ns
        (d8.putChan n { d8.chan n with previewHold := some k }).setF F.PREVIEW_BASE_AGE ((d8.ns + 2 ^ 32 - last % 2 ^ 32) % 2 ^ 32)
      else
        match assoc d8.decs n with
        | some x => ((d8.putDec n { x with out := [k], shown := some k }).setF F.PREVIEW_BASE_AGE (d8.freeBits 32)).drawn
        | none => d8

/-! ### PREVIEW_LINE (R416, R420, R421) -/

/-- The base as the datapath reads it: `none` once the source has been closed. -/
def Dev.baseSrc (d : Dev) : Option BaseSrc :=
  match d.prev.base with
  | some (1, n, k) =>
    (match (d.chan n).pic k with
     | some p => if p.released then none else some { kind := 1, id := n, pic := k, format := pFormat (d.chan n).params, width := pWidth (d.chan n).params }
     | none => none)
  | some (2, n, k) => (assoc d.decs n).bind (fun x => if x.out.contains k then some { kind := 2, id := n, pic := k, format := 4, width := x.maxW } else none)
  | _ => none

/-- Whether line `l`'s time has come: 20 µs + l × t_line after the start tick, t_line = 15 t_out / (16 OUT_H). -/
def Dev.lineDue (d : Dev) (l : Nat) : Bool :=
  let s := d.prev.act.block
  let gone := (d.ns + 2 ^ 32 - d.getF F.PREVIEW_LAST_START) % 2 ^ 32
  decide (20000 * 16 * vOutH s * vNum s + l * 15 * vDen s * 1000000000 ≤ gone * 16 * vOutH s * vNum s)

/-- The line as a line of the proxy channel: placed, and committed with it. -/
def Dev.proxyLine (d : Dev) (n k l : Nat) (samples : List Nat) : Dev :=
  let p := (d.chan n).params
  let d1 := d.placeLine n 0xFF k l false false [] (packSamples (formatBits (pFormat p)) samples)
  let commit := fun (q : Pic) =>
    { q with
      lines := q.lines.map (fun (x : LineRec) => if x.line = l then { x with committed := true } else x)
      committedFirst := q.committedFirst.orElse (fun _ => some d.tick) }
  (d1.updPic n k commit).count C.PREVIEW_PROXY

/-- PREVIEW_LINE: the next line is produced; `ready` whether it was at its time, `poison` the columns whose base samples were poisoned. -/
def Dev.previewLine (d : Dev) (ready : Bool) (poison : List Nat) : Dev :=
  let l := d.prev.line
  let s := d.prev.act.block
  if d.phase ≠ .run ∨ d.prev.running = false ∨ d.mode < 2 ∨ d.lineDue l = false then d
  else
    let base := d.baseSrc
    let lost := d.prev.base.isSome && base.isNone && !d.prev.gone
    let d0 := if lost then (d.putPrev { d.prev with gone := true }).baseMissing else d
    let out := d0.composeLine base l poison
    let d1 := if poison = [] then d0 else (d0.count C.PREVIEW_READ_POISON).raise .preview 0 2
    let d2 := if ready then d1 else (d1.count C.PREVIEW_LATE_LINE).raise .preview 0 1
    let pic := d2.get64 F.PREVIEW_PIC_LO F.PREVIEW_PIC_HI
    let d3 := if bit (vFlags s) 0 ∧ d2.fenced 11 13 = false then ((d2.lanesRun false).emit (.line pic l (previewPacket (vId s) pic l (line422 2 out)))).count C.PREVIEW_LANES else d2
    let d4 := match (if bit (vFlags s) 1 then d3.proxyChan else none) with
      | some n =>
        if d3.takesLines n = false then d3
        else
          let f := pFormat (d3.chan n).params
          d3.proxyLine n pic l (if f = 1 then line420 l out (d3.composeLine base (l + 1) []) else line422 f out)
      | none => d3
    let d5 := (d4.putPrev { d4.prev with line := l + 1 }).setF F.PREVIEW_LINE (l + 1)
    if l + 1 < vOutH s then d5
    else d5.dropBase.putPrev { d5.prev with running := false, line := l + 1 }

/-- PULSE_FIRE (R407): the generator, then every block that names it with INTERNAL set. -/
def Dev.pulseFire (d : Dev) (k : Nat) : Dev :=
  if d.genDue k = false then d
  else
    let internal := (d.gen k).internal
    let d1 := d.genFire k
    if internal = false then d1
    else
      let d2 := d1.harvestPulse k
      if vGen d2.prev.latest.block = k ∧ bit (vFlags d2.prev.latest.block) 3 = false then d2.putPrev { d2.prev with due := true } else d2

end Sys2Proof.Machine
end

