-- ==== Sys2Proof/Machine/Fences.lean ====
section
/-! DEFINITION. What follows from a fence (R478 to R481), as though the unit had failed (R51), and the return of
one unit to service (R32). -/
namespace Sys2Proof.Machine

/-- An engine that has just been fenced: its tags and affinity are lost, its running instance is re-issued, its entries move (R219,
R228). -/
def Dev.engineGone (d : Dev) (e : Nat) : Dev :=
  let clear := fun (c : Nat × Chan) => (c.1, { c.2 with affinity := c.2.affinity.filter (fun a => a.2 ≠ e) })
  let running := d.runOf e
  let waiting := d.entriesOf e
  let d1 := ({ d with chans := d.chans.map clear }).putCache e []
  let d2 := match running with | some t => d1.supersede t (e / 16) | none => d1
  let d3 := Dev.each waiting (fun t d => d.replace t (e / 16) true) d2
  (d3.showEngine e).showCluster (e / 16)

/-- What a PLL clocks beside fenceable units stops (R461). -/
def Dev.pllGone (d : Dev) (i : Nat) : Dev :=
  if i = 3 ∨ i = 4 then d.abortAll else d

/-- What follows from the fence of one unit, which has just been put. -/
def Dev.fenceEffect (d : Dev) (kind i : Nat) : Dev :=
  match kind with
  | 1 => d.declareLost i
  | 2 => ((Dev.upto 8 (fun p d => d.clearLane (laneAt i p)) d).putStripe i 0).flush i none false
  | 3 => d.engineGone i
  | 4 => d.showCluster i
  | 5 => d.pcStops i
  | 6 => ((d.setFlag F.MEM_STATUS_READY false i).raise .mem i 1).abortAll
  | 7 => d.portLinkDown i false
  | 8 => (d.linkDown false).setF F.TWIN_LINK (256 * stFenced)
  | 9 => ((d.linkDown true).setF F.RING_LINK (16 * stFenced)).setFlag F.RING_STATE_BYPASS true
  | 11 => d.pllGone i
  | _ => d

/-- Fence a unit with what it contains, and what follows (R479, R51). -/
def Dev.failUnit (d : Dev) (kind i cause : Nat) (fromAlmanac : Bool := false) : Dev :=
  let old := d.fences
  let d1 := d.fence kind i cause fromAlmanac
  (Dev.each (d1.fences.filter (fun u => !old.contains u)) (fun u d => d.fenceEffect u.1 u.2) d1).showShed

/-- What follows from fences that an operation has put without more: the fence entries of a committed image (R51); a controller with
8 fenced pseudo-channels is fenced too (R352). -/
def Dev.fencesSince (d : Dev) (old : List (Nat × Nat)) : Dev :=
  let new := d.fences.filter (fun u => !old.contains u)
  if new = [] then d
  else
    let d1 := Dev.each new (fun u d => d.fenceEffect u.1 u.2) d
    (Dev.upto 4 (fun k d => if 8 ≤ d.getF F.MEM_STATUS_FENCED_PCS k then d.fenceController k (d.getF F.MEM_FAULT_KIND k) else d) d1).showShed

/-- The contents of a stack are lost (R32, R28): they are open again. -/
def Dev.loseStack (d : Dev) (k : Nat) : Dev :=
  let keep := fun (x : Nat × Byte) =>
    let a := if x.1 < 2 ^ 37 then x.1 else (x.1 - 2 ^ 37) / 2 * 32
    match d.regionAt a with
    | some r => decide ((d.placeIn r a).pc / 32 ≠ k)
    | none => true
  { d with hbm := d.hbm.filter keep }

/-- The unprotected contents of a pseudo-channel are lost (R351): they are open again. -/
def Dev.loseUnprotected (d : Dev) (n : Nat) : Dev :=
  let keep := fun (x : Nat × Byte) =>
    let a := if x.1 < 2 ^ 37 then x.1 else (x.1 - 2 ^ 37) / 2 * 32
    match d.regionAt a with
    | some r => d.regProtect r || decide ((d.placeIn r a).pc ≠ n)
    | none => true
  { d with hbm := d.hbm.filter keep }

/-- A pseudo-channel is back: its ledger starts at 0, its unprotected contents are open, and the rebuild of its protected stripes
begins (R345, R351). -/
def Dev.pcBack (d : Dev) (n : Nat) (rebuild : Bool) : Dev :=
  let d1 := (d.putPc n { idleTick := d.tick, hot := d.flag F.MEM_STATUS_HOT (n / 32) }).putOwedU n 0
  if rebuild then (((d1.loseUnprotected n).setFlag F.MEM_REBUILD_ACTIVE true (n / 32)).setF F.MEM_REBUILD_PC (n % 32) (n / 32)).setF F.MEM_REBUILD_PROGRESS 0 (n / 32) else d1

/-- An engine is back: powered, with no tags, and served its first task by ask and block (R32, R223). -/
def Dev.engineBack (d : Dev) (e : Nat) : Dev :=
  let d1 := ({ d with fresh := if d.fresh.contains e then d.fresh else d.fresh ++ [e] }).setDomState e 0
  (d1.showEngine e).showCluster (e / 16)

/-- Streams restart and master ports with them, once the audio clock is back (R440, R461). -/
def Dev.audioBack (d : Dev) : Dev :=
  let restart := fun (k : Nat) (d : Dev) =>
    if d.flag F.AUDIO_STREAM_STARTED k then (d.formSegment 1 k false).startStream k (d.getF F.AUDIO_STREAM_RATE k) (d.astream k).sources true else d
  Dev.upto 4 (fun p d => if d.getF F.AUDIO_P_CFG_ROLE p = 1 then d.restartPort p else d) (Dev.upto 16 restart d)

/-- The return to service of one unit whose fence has just been lifted (R32). -/
def Dev.unitBack (d : Dev) (kind i : Nat) (alone : Bool) : Dev :=
  match kind with
  | 1 => if alone then d.laneUnfenced i else d
  | 2 => (d.setDomState (158 + i) 0).bundleAgain i
  | 3 => d.engineBack i
  | 4 => (d.setDomState (128 + i) 0).showCluster i
  | 5 => d.pcBack i alone
  | 6 => ((d.setDomState (152 + i) 0).loseStack i).setFlag F.MEM_STATUS_READY true i
  | 7 => d.setDomState (174 + i) 0
  | 8 => if d.flag F.TWIN_CFG_ENABLE then ((d.setDomState 176 0).linkSeek false) else d
  | 9 => if d.flag F.RING_CFG_ENABLE then (d.setDomState 177 0).ringJoin none else d
  | 11 =>
    let d1 := ((d.setFlag F.CLK_PLLS_FAILED false i).setFlag F.CLK_PLLS_LOCK true i).setF F.CLK_PLL_LOCK (setBit (d.getF F.CLK_PLL_LOCK) i)
    let d2 := ({ d1 with clock := { d1.clock with restarts := d1.clock.restarts.filter (fun x => x ≠ i) } }).setF F.CLK_PLL_ON (setBit (d1.getF F.CLK_PLL_ON) i)
    let d3 := d2.count C.CLK_STARTS
    if i = 2 then d3.audioBack
    else if i = 13 ∧ bit (vFlags d3.prev.act.block) 0 then (d3.count C.PREVIEW_LINK_RESTART).raise .preview 0 4 else d3
  | _ => d

end Sys2Proof.Machine
end

