-- ==== Sys2Proof/Machine/Power.lean ====
section
/-! DEFINITION. Power domains and clocks (R452 to R463): the floor of each domain, the keeper's choice, alarms and wakes, the PLLs,
the resonator and the qualification of external references. -/
namespace Sys2Proof.Machine

/-! ### Domains (R452, R453) -/

/-- The deepest state the table of R452 allows a domain now: 0 Active, 1 Gated, 2 Retain, 3 Off. -/
def Dev.domFloor (d : Dev) (n : Nat) : Nat :=
  let m := d.mode
  if d.flag F.PWR_DOM_FENCED n then 3
  else if m = 0 then (if n < 180 then 3 else if n < 182 then 2 else 0)
  else if n < 128 then (if m = 2 then 2 else 3)
  else if n < 136 then
    (if m ≠ 2 ∧ (clusterEngines (n - 128)).all (fun e => d.domState e == 3) = true then 3 else 1)
  else if n < 152 then 3
  else if n < 156 then 0
  else if n < 158 then (if m = 2 then 0 else 1)
  else if n < 174 then (let st := d.bundleState (n - 158); if st = 0 ∨ st = stFenced then 3 else 0)
  else if n < 176 then (if d.flag F.ETH_CTRL_EN (n - 174) then 0 else 3)
  else if n = 176 then (if d.flag F.TWIN_CFG_ENABLE then 0 else 3)
  else if n = 177 then (if d.flag F.RING_CFG_ENABLE then 0 else 3)
  else if n = 178 then (let f := vFlags d.prev.latest.block; if bit f 0 || bit f 1 then 0 else 1)
  else if n = 179 then (if d.flag F.AUDIO_CTRL_PLL_EN && !d.fenced 11 2 then 0 else 3)
  else 0

/-- Whether a domain is held Active by CTRL.AUTO_EN = 0 (R463): outside Standby, unless its own row turns it off. -/
def Dev.autoHeld (d : Dev) (n : Nat) : Bool :=
  !d.flag F.PWR_CTRL_AUTO_EN && d.mode != 0 && !d.flag F.PWR_DOM_FENCED n && !(decide (158 ≤ n) && decide (d.domFloor n = 3))

/-- Wake latency of a state in ns (R453). -/
def wakeNs (s : Nat) : Nat := match s with | 0 => 0 | 1 => 16 | 2 => 2000 | _ => 40000

/-- Break-even time in force, in ns. -/
def Dev.breakEven (d : Dev) (s : Nat) : Nat :=
  match s with | 0 => 0 | 1 => d.getF F.PWR_BE_GATED | 2 => d.getF F.PWR_BE_RETAIN | _ => d.getF F.PWR_BE_OFF

/-- GUARD in ns. -/
def Dev.guardNs (d : Dev) : Nat := 10 * d.getF F.PWR_CTRL_GUARD

/-! ### PLLs (R460) -/

/-- The domains a PLL feeds. -/
def pllDomains (i : Nat) : List Nat :=
  let run := fun (a n : Nat) => (List.range n).map (fun k => a + k)
  match i with
  | 1 => [180, 181]
  | 2 => [179]
  | 3 => run 0 64 ++ run 128 4 ++ run 136 8 ++ [156]
  | 4 => run 64 64 ++ run 132 4 ++ run 144 8 ++ [157]
  | 13 => [176, 177, 178]
  | 14 => [174]
  | 15 => [175]
  | i => if 5 ≤ i ∧ i ≤ 8 then [147 + i] else if 9 ≤ i ∧ i ≤ 12 then run (158 + 4 * (i - 9)) 4 else []

/-- Lock time, at most, in µs. -/
def pllLockMax (i : Nat) : Nat := if i < 5 then 100 else if i < 9 then 200 else 500

/-- Whether PLL `i` is to run now (R460): the tick always, the audio clock by PLL_EN, the PCIe clock outside L1.2 unless its restart runs
or failed, the others while a domain they feed is not Off;
FORCE_ON keeps one running, a fence stops it. -/
def Dev.pllWanted (d : Dev) (i : Nat) : Bool :=
  !d.fenced 11 i &&
  (bit (d.getF F.CLK_FORCE_ON) i || i == 0 || (i == 2 && d.flag F.AUDIO_CTRL_PLL_EN && d.mode != 0) ||
    (i == 16 && !d.flag F.PCIE_LINK_L1_2 && !d.clock.restarts.contains 16 && !d.flag F.CLK_PLLS_FAILED 16) ||
    (i != 2 && (pllDomains i).any (fun n => decide (d.domState n ≠ 3) || d.flag F.PWR_DOM_CHANGING n)))

/-- PLL `i` locks after a start, in a time the spec bounds and does not fix. -/
def Dev.pllLocked (d : Dev) (i us : Nat) : Dev :=
  let d1 := ((d.setF F.CLK_PLL_LOCK (setBit (d.getF F.CLK_PLL_LOCK) i)).setFlag F.CLK_PLLS_LOCK true i).setF F.CLK_PLLS_LOCK_US us i
  let d2 := (d1.setF F.CLK_PLL_ON (setBit (d1.getF F.CLK_PLL_ON) i)).maxF F.CLK_LOCK_MAX (1000 * us)
  (if i = 2 then d2.setFlag F.AUDIO_STATUS_PLL_LOCK true else d2).count C.CLK_STARTS

/-- PLL `i` stops. -/
def Dev.pllStop (d : Dev) (i : Nat) : Dev :=
  let d1 := ((d.setF F.CLK_PLL_LOCK (clearBit (d.getF F.CLK_PLL_LOCK) i)).setFlag F.CLK_PLLS_LOCK false i).setF F.CLK_PLL_ON (clearBit (d.getF F.CLK_PLL_ON) i)
  if i = 2 then d1.setFlag F.AUDIO_STATUS_PLL_LOCK false else d1

/-- Start the PLLs that are wanted, stop those that no domain needs. -/
def Dev.updPlls (d : Dev) : Dev :=
  Dev.upto 17 (fun i d =>
    let on := bit (d.getF F.CLK_PLL_ON) i
    let want := d.pllWanted i
    if want ∧ on = false then (d.pllLocked i (d.freeBits 16 % (pllLockMax i + 1))).drawn
    else if want = false ∧ on = true then d.pllStop i else d) d

/-! ### Prediction (R454) -/

/-- When row `r` of a picture whose first line came, or will come, at `first` arrives, in ns from now: T_first + ACTIVE_US × min(64r + 72,
H) / H. -/
def rowDue (p : List Byte) (first : Int) (r : Nat) : Int :=
  first + ((activeNum p * 1000 * min (64 * r + 72) (pHeight p) / (pRateNum p * pHeight p) : Nat) : Int)

/-- The rows of channel `n` that have not arrived, with the ns until each: of the pictures begun, and of the next sixteen. -/
def Dev.predictedRows (d : Dev) (n : Nat) : List (Nat × Nat) :=
  let c := d.chan n
  let p := c.params
  let rows := List.range (pRows p)
  let begun := c.pics.filter (fun x => x.firstTick.isSome)
  let late := begun.flatMap (fun x =>
    (rows.filter (fun r => (x.row r).arrival.isNone && !x.closed)).map (fun r => (r, (rowDue p (nsDiff x.firstNs d.ns) r).toNat)))
  match begun.getLast? with
  | none => []
  | some x =>
    let next := (List.range 16).flatMap (fun k =>
      let first : Int := nsDiff x.firstNs d.ns + ((1000000000 * pRateDen p * (k + 1) / max 1 (pRateNum p) : Nat) : Int)
      rows.map (fun r => (r, (rowDue p first r).toNat)))
    late ++ next

/-- The predicted rows of every STARTED LIVE channel: channel, row, ns. -/
def Dev.allPredicted (d : Dev) : List (Nat × Nat × Nat) :=
  ((d.chans.filter (fun c => d.chanState c.1 == 2 && pClass c.2.params == 0)).map (·.1)).flatMap
    (fun n => (d.predictedRows n).map (fun x => (n, x.1, x.2)))

/-- The affinity engine of a row, where it is neither fenced nor held. -/
def Dev.predictedAffinity (d : Dev) (n r : Nat) : Option Nat :=
  (assoc (d.chan n).affinity r).filter (fun e => d.engineOpen e)

/-- Whether an engine has work: a running task, one in its slot, or an entry on its list. -/
def Dev.engineBusy (d : Dev) (e : Nat) : Bool := d.tasks.any (fun t => t.engine = e)

/-- The least of some times. -/
def leastOf (l : List Nat) : Option Nat := l.foldl (fun b x => some (match b with | none => x | some y => min x y)) none

/-- A time put into its place among rising times. -/
def insertTime (t : Nat) : List Nat → List Nat
  | [] => [t]
  | x :: r => if t ≤ x then t :: x :: r else x :: insertTime t r

/-- The k-th of some times, earliest first. -/
def rankOf (l : List Nat) (k : Nat) : Option Nat := (l.foldr insertTime [])[k]?

/-- t_next of every engine (R454): `none` is infinity. -/
def Dev.engineNext (d : Dev) : List (Option Nat) :=
  let rows := d.allPredicted
  let own := rows.filterMap (fun x => (d.predictedAffinity x.1 x.2.1).map (fun e => (e, x.2.2)))
  let home := (rows.filter (fun x => (d.predictedAffinity x.1 x.2.1).isNone)).map (fun x => ((x.1 + x.2.1) % 8, x.2.2))
  (List.range 128).map (fun e =>
    if d.engineBusy e then some 0
    else
      let c := e / 16
      let idle := (clusterEngines c).filter (fun x => !d.engineBusy x && d.engineOpen x)
      let k := (idle.takeWhile (fun x => x != e)).length
      let mine := if idle.contains e then (rankOf ((home.filter (fun x => x.1 = c)).map (·.2)) k).toList else []
      leastOf (mine ++ (own.filter (fun x => x.1 = e)).map (·.2)))

/-- t_next of a domain (R454), from those of the engines. -/
def Dev.domNext (d : Dev) (engines : List (Option Nat)) (n : Nat) : Option Nat :=
  if n < 128 then getAt none engines n
  else if n < 136 then leastOf ((engines.drop (16 * (n - 128))).take 16 |>.filterMap id)
  else if n < 152 then
    (if d.decs.any (fun x => match x.2.pic with | some p => p.units.any (fun u => u.2 = n - 136) | none => false) then some 0 else none)
  else if n = 156 ∨ n = 157 then (if d.tasks.any (fun t => t.engine / 64 = n - 156) then some 0 else none)
  else none

/-! ### The choice (R455 to R457) -/

/-- The deepest state that fits t_next (R455); an Off domain's wake is preceded by the wait already queued on its die. -/
def Dev.chooseState (d : Dev) (n : Nat) (next : Option Nat) : Nat :=
  let fits := fun (s : Nat) => match next with
    | none => true
    | some t => decide (wakeNs s + d.guardNs ≤ t) && decide (d.breakEven s ≤ t)
  let best := ([1, 2, 3].filter (fun s => decide (s ≤ d.domFloor n) && fits s)).getLast?.getD 0
  if d.autoHeld n ∨ d.getF F.PWR_DOM_FORCE n = 1 then 0
  else if d.getF F.PWR_DOM_FORCE n = 2 then min best 1 else best

/-- Whether one of the 192 alarm timers is domain `n`'s or free (R456). -/
def Dev.alarmRoom (d : Dev) (n : Nat) : Bool := (assoc d.power.alarms n).isSome || decide (d.power.alarms.length < 192)

/-- An alarm for domain `n` to start the wake from `s` at t_next − W(s) − GUARD (R455). -/
def Dev.armAlarm (d : Dev) (n s t : Nat) : Dev :=
  let wait := if s = 3 then (d.exitTick (domDie n) - d.tick) else 0
  let due := d.tick + ((t - wakeNs s - d.guardNs) / 4 - wait)
  ({ d with power := { d.power with alarms := assocPut d.power.alarms n due } }).setFlag F.PWR_DOM_ALARM true n

/-- Domain `n` enters state `s`, with an alarm for a finite t_next; with no alarm timer free, Gated at most (R456). -/
def Dev.enterState (d : Dev) (n s : Nat) (next : Option Nat) : Dev :=
  match next with
  | none => (d.setDomState n s).count C.PWR_DECISIONS
  | some t =>
    if d.alarmRoom n = false then
      let d1 := (((d.setF F.PWR_LAST_EVENT_DOMAIN n).setF F.PWR_LAST_EVENT_CAUSE 3).raise .pwr 0 2)
      if 1 ≤ s then (d1.setDomState n 1).count C.PWR_DECISIONS else d1
    else ((d.armAlarm n s t).setDomState n s).count C.PWR_DECISIONS

/-- A domain stays as it is: its alarm follows a t_next that has become known, or moved (R455, R457). -/
def Dev.stayState (d : Dev) (n : Nat) (next : Option Nat) : Dev :=
  let cur := d.domState n
  match next with
  | some t => if cur ≠ 0 ∧ wakeNs cur + d.guardNs ≤ t ∧ d.alarmRoom n = true then d.armAlarm n cur t else d
  | none => d

/-- The keeper's decision for one domain: a wake in progress goes on; deeper where that fits; back up where t_next has come within
the wake of the state it is in, or nothing may keep it down. -/
def Dev.decideDomain (d : Dev) (engines : List (Option Nat)) (n : Nat) : Dev :=
  let floor := d.domFloor n
  let d0 := d.setF F.PWR_DOM_FLOOR floor n
  let cur := d0.domState n
  if d0.flag F.PWR_DOM_FENCED n then (if cur = 3 then d0 else d0.setDomState n 3)
  else if d0.flag F.PWR_DOM_CHANGING n then d0
  else
    let next := d0.domNext engines n
    let s := d0.chooseState n next
    if cur < s then d0.enterState n s next
    else if s < cur then
      let near := match next with | some t => decide (t < wakeNs cur + d0.guardNs) | none => false
      let forced := s = 0 ∧ (d0.autoHeld n = true ∨ d0.getF F.PWR_DOM_FORCE n = 1 ∨ next = some 0)
      if floor < cur ∨ near = true ∨ forced ∨ (d0.getF F.PWR_DOM_FORCE n = 2 ∧ 1 < cur) then d0.beginWake n else d0.stayState n next
    else d0.stayState n next

/-- POWER_DECISION (R454, R455). -/
def Dev.powerDecision (d : Dev) : Dev :=
  if d.phase ≠ .run then d
  else
    let engines := d.engineNext
    ((Dev.upto 183 (fun n d => d.decideDomain engines n) d).showDomains).updPlls

/-- ALARM (R455, R457): the compare value is reached, and the wake begins; a timer that a reset or a shutdown keeps fires once the device runs
again (R28). -/
def Dev.alarm (d : Dev) (n : Nat) : Dev :=
  match assoc d.power.alarms n with
  | none => d
  | some t =>
    if d.tick < t ∨ d.phase ≠ .run then d
    else if d.flag F.PWR_DOM_FENCED n then
      ({ d with power := { d.power with alarms := assocDel d.power.alarms n } }).setFlag F.PWR_DOM_ALARM false n
    else ((d.beginWake n).count C.PWR_WAKES).updPlls

/-- WAKE_COMPLETE (R453, R457): the domain is Active; one fenced meanwhile goes to Off. -/
def Dev.wakeComplete (d : Dev) (n : Nat) : Dev :=
  if d.flag F.PWR_DOM_CHANGING n = false then d
  else
    match assoc d.power.wakes n with
    | none => d
    | some t =>
      if d.tick < t then d
      else
        let d1 := { d with power := { d.power with wakes := assocDel d.power.wakes n } }
        if d1.flag F.PWR_DOM_FENCED n then d1.setDomState n 3
        else (d1.setDomState n 0).maxF F.PWR_WAKE_MAX (4 * (d.tick - t))

/-- The unit whose domain this is, where R478 numbers one. -/
def domUnit (n : Nat) : Option (Nat × Nat) :=
  if n < 128 then some (3, n) else if n < 136 then some (4, n - 128) else if n < 152 then some (10, n - 136)
  else if n < 156 then some (6, n - 152) else if n < 158 then none else if n < 174 then some (2, n - 158)
  else if n < 176 then some (7, n - 174) else if n = 176 then some (8, 0) else if n = 177 then some (9, 0) else none

/-- WAKE_FAIL (R457): no power-good within twice the wake latency; the domain's unit is fenced. -/
def Dev.wakeFail (d : Dev) (n : Nat) : Dev :=
  match assoc d.power.wakes n with
  | none => d
  | some t =>
    if d.flag F.PWR_DOM_CHANGING n = false ∨ 4 * (d.tick - t) < 2 * wakeNs (d.domState n) then d
    else
      let d1 := ({ d with power := { d.power with wakes := assocDel d.power.wakes n } }).setFlag F.PWR_DOM_CHANGING false n
      let d2 := (((d1.count C.PWR_WAKE_FAIL).setF F.PWR_LAST_EVENT_DOMAIN n).setF F.PWR_LAST_EVENT_CAUSE 2).raise .pwr 0 1
      match domUnit n with
      | some (kind, i) => d2.failUnit kind i 2
      | none => d2

/-! ### Loss of lock (R461) -/

/-- A PLL event: LAST_EVENT, INT_STATUS.PLL_UNLOCK. -/
def Dev.pllEvent (d : Dev) (i cause : Nat) : Dev :=
  ((d.setF F.CLK_LAST_EVENT_PLL i).setF F.CLK_LAST_EVENT_CAUSE cause).raise .clk 0 0

/-- The PCIe link goes down (R461). -/
def Dev.pcieDown (d : Dev) : Dev :=
  let d1 := ((d.setFlag F.PCIE_LINK_DL_UP false).setF F.PCIE_LINK_SPEED 0).setF F.PCIE_LINK_WIDTH 0
  let d2 := Dev.upto 16 (fun i d => d.setFlag F.PCIE_LANE_LOCK false i) d1
  if d.flag F.PCIE_LINK_DL_UP then d2.raise .pcie 0 0 else d2

/-- PLL_UNLOCK. -/
def Dev.pllUnlock (d : Dev) (i : Nat) : Dev :=
  if d.phase = .coldReset ∨ d.phase = .shutdown ∨ d.phase = .clockStop ∨ bit (d.getF F.CLK_PLL_LOCK) i = false then d
  else
    let d1 := d.count C.CLK_PLL_UNLOCK
    if i < 2 then (d1.setFlag F.CLK_PLLS_LOOP_B (!d1.flag F.CLK_PLLS_LOOP_B i) i).pllEvent i 1
    else
      let d2 := ((d1.pllStop i).pllEvent i 2)
      let d3 := { d2 with clock := { d2.clock with restarts := d2.clock.restarts ++ [i] } }
      if i = 16 then d3.pcieDown else d3.failUnit 11 i 2

/-- PLL_RESTART_DONE: the one restart ends, in lock after `us` µs, or not. -/
def Dev.pllRestartDone (d : Dev) (i : Nat) (us : Option Nat) : Dev :=
  if d.clock.restarts.contains i = false then d
  else
    let d1 := { d with clock := { d.clock with restarts := d.clock.restarts.filter (fun x => x ≠ i) } }
    match us with
    | some us => d1.pllLocked i us
    | none => (d1.setFlag F.CLK_PLLS_FAILED true i).pllEvent i 3

/-- RESONATOR_FAILURE (R459): the keeper clock is measured at `m` tenths of a ppm; beyond ±1,000 ppm every fast clock stops, and the
device is held in reset until the next cold reset. -/
def Dev.resonator (d : Dev) (m : Int) : Dev :=
  if d.phase = .coldReset ∨ d.phase = .clockStop then d
  else
    let d1 := (d.setF F.CLK_KOSC_MEAS (wrapInt 32 m)).setFlag F.CLK_STATUS_KOSC_OK (decide (-5000 ≤ m) && decide (m ≤ 5000))
    if -10000 ≤ m ∧ m ≤ 10000 then d1
    else
      let d2 := ((d1.count C.CLK_RES_FAULT).setFlag F.CLK_STATUS_RES_RUN false).setFlag F.CLK_STATUS_RES_STABLE false
      let d3 := Dev.upto 17 (fun i d => d.pllStop i) d2
      { d3.logOpen .clk 0 with phase := .clockStop }

/-! ### Qualification (R462) -/

/-- Whether a reference is enabled: 0 CLKREF_IN, 1 FREF_IN, 2 AMCLK. -/
def Dev.refEnabled (d : Dev) (r : Nat) : Bool :=
  if r = 2 then d.flag F.AUDIO_CTRL_AMCLK_EN else d.getF F.TB_DISC_SRC == r + 1

/-- A reference begins to qualify. -/
def Dev.qualStart (d : Dev) (r : Nat) : Dev :=
  let d1 := ((d.setF F.CLK_QSTATE_STATE 1 r).setF F.CLK_QSTATE_GOOD 0 r).setFlag F.CLK_QSTATE_QUAL_SLOW false r
  let d2 := { d1 with clock := { d1.clock with since := setAt d1.clock.since r d1.tick } }
  if r = 2 then d2.setF F.AUDIO_STATUS_AMCLK_STATE 1 else d2

/-- A reference is turned off. -/
def Dev.qualStop (d : Dev) (r : Nat) : Dev :=
  let d1 := ((d.setF F.CLK_QSTATE_STATE 0 r).setF F.CLK_QSTATE_GOOD 0 r).setFlag F.CLK_QSTATE_QUAL_SLOW false r
  if r = 2 then d1.setF F.AUDIO_STATUS_AMCLK_STATE 0 else d1

/-- A qualified reference is lost (R403, R425): DISQUAL counts it, and qualification begins again. -/
def Dev.disqualify (d : Dev) (r : Nat) : Dev :=
  if d.getF F.CLK_QSTATE_STATE r ≠ 2 then d
  else
    let d1 := (((d.setF F.CLK_QSTATE_STATE 3 r).setF F.CLK_QSTATE_GOOD 0 r).count C.CLK_DISQUAL r).raise .clk 0 2
    { d1 with clock := { d1.clock with since := setAt d1.clock.since r d1.tick } }

/-- Good gates in a row that qualify a reference. -/
def qualGates (r : Nat) : Nat := if r = 1 then 4 else 16

/-- Whether a gate `m` tenths of a ppm from nominal is good: within QUAL_PPM, or within the window of R402 for FREF_IN. -/
def Dev.gateGood (d : Dev) (r : Nat) (m : Int) : Bool :=
  let a := m.natAbs
  if r = 1 then
    let nom := d.getF F.TB_REF_NOM
    decide (a * nom ≤ 10 * d.getF F.TB_DISC_WINDOW_PPM * nom + 80000000)
  else decide (a ≤ 10 * d.getF F.CLK_QCFG_QUAL_PPM r)

/-- A reference is qualified and taken into use (R402, R425): the loop locks to it, and a holdover of the reference before it ends. -/
def Dev.qualified (d : Dev) (r : Nat) : Dev :=
  let ms := 4 * (d.tick - getAt 0 d.clock.since r) / 1000000
  let d1 := ((d.setF F.CLK_QSTATE_STATE 2 r).setF F.CLK_QUAL_TIME ms r).raise .clk 0 1
  if r = 2 then d1.setF F.AUDIO_STATUS_AMCLK_STATE 2
  else if d1.getF F.TB_DISC_STATE = 1 then
    (d1.putTime { d1.time with refs := setAt d1.time.refs r {} }).relock
  else d1

/-- QUALIFICATION_GATE: a gate of reference `r` ends, `m` tenths of a ppm from nominal; AMCLK_HZ shows AMCLK's. -/
def Dev.qualGate (d : Dev) (r : Nat) (m : Int) : Dev :=
  let st := d.getF F.CLK_QSTATE_STATE r
  if d.phase ≠ .run ∨ d.refEnabled r = false ∨ st = 0 then d
  else
    let hz := d.openDiv (24576000 * (10000000 + m)) 10000000
    let d0 := if r = 2 then (d.setF F.AUDIO_AMCLK_HZ (wrapInt 32 hz)).drawn else d
    let d1 := d0.setF F.CLK_MEAS (wrapInt 32 m) r
    if st = 2 then d1
    else
      let d2 := d1.setF F.CLK_QSTATE_STATE 1 r
      let d3 := if r = 2 then d2.setF F.AUDIO_STATUS_AMCLK_STATE 1 else d2
      if d3.gateGood r m = false then d3.setF F.CLK_QSTATE_GOOD 0 r
      else
        let n := d3.getF F.CLK_QSTATE_GOOD r + 1
        let d4 := d3.setF F.CLK_QSTATE_GOOD n r
        if qualGates r ≤ n then d4.qualified r else d4

/-- Ticks in 60 s. -/
def ticks60s : Nat := 15000000000

/-- QUAL_SLOW. -/
def Dev.qualSlow (d : Dev) (r : Nat) : Dev :=
  let st := d.getF F.CLK_QSTATE_STATE r
  if (st ≠ 1 ∧ st ≠ 3) ∨ d.flag F.CLK_QSTATE_QUAL_SLOW r = true ∨ d.tick - getAt 0 d.clock.since r < ticks60s then d
  else (d.setFlag F.CLK_QSTATE_QUAL_SLOW true r).raise .clk 0 3

/-- The source in use has gone into holdover (R403). -/
def Dev.refLossSince (d : Dev) (was : Nat) : Dev :=
  if was = 2 ∧ (d.getF F.TB_DISC_STATE = 3 ∨ d.getF F.TB_DISC_STATE = 4) then d.disqualify (d.getF F.TB_DISC_SRC - 1) else d

/-- REF_EDGE and REF_STOPPED, with the loss of the reference they may find (R403, R462). -/
def Dev.refEdgeQ (d : Dev) (r : Nat) : Dev := (d.refEdge r).refLossSince (d.getF F.TB_DISC_STATE)
def Dev.refStoppedQ (d : Dev) : Dev := d.refStopped.refLossSince (d.getF F.TB_DISC_STATE)

/-- AMCLK_LOSS, with the loss of the reference (R425, R462). -/
def Dev.amclkLossQ (d : Dev) (back : Bool) : Dev :=
  let d1 := d.amclkLoss back
  if d.getF F.AUDIO_STATUS_AMCLK_STATE = 2 ∧ d1.getF F.AUDIO_STATUS_AMCLK_STATE = 3 then d1.disqualify 2 else d1

end Sys2Proof.Machine
end

