-- ==== Sys2Proof/Machine/Queues.lean ====
section
/-! DEFINITION. Doorbells and queues (R70 to R76), and the frames of the management SPI but for registers (R77 to R79). -/
namespace Sys2Proof.Machine

/-- A doorbell or a chip select in Standby wakes the steward cores (R20, R457). -/
def Dev.wakeCores (d : Dev) : Dev := if d.mode = 0 ∧ d.phase = .run then (d.wakeFor 180 false).wakeFor 181 false else d

/-- A doorbell value at or above the ring's slot count, or a refused open (R70, R74). -/
def Dev.queueError (d : Dev) (n : Nat) : Dev := d.setFlag F.CMD_Q_CTRL_ERROR true n

/-- A new submission tail that is serviced, at a time that the replies to its slots carry (R63). -/
def Dev.takeSq (d : Dev) (n v : Nat) : Dev :=
  if d.sqSize n ≤ v then d.queueError n
  else if d.flag F.CMD_Q_CTRL_CLOSING n then d
  else
    let q := d.queue n
    let bells := if v = d.getF F.CMD_Q_SQ_HEAD n then [] else if v = q.tail then q.bells else q.bells ++ [(v, d.ns)]
    d.putQueue n { q with tail := v, latchSq := none, bells := bells }

/-- A new reply head that is serviced (R72): the slots it has passed are free, and held replies follow. -/
def Dev.takeRq (d : Dev) (n v : Nat) : Dev :=
  let size := d.rqSize n
  if size ≤ v then d.queueError n
  else
    let freed := (v + size - d.getF F.CMD_Q_RQ_HEAD n % size) % size
    let q := d.queue n
    ((d.putQueue n { q with used := q.used - freed, latchRq := none, pass := q.pass.drop (q.pass.length - (q.used - freed)) }).setF F.CMD_Q_RQ_HEAD v n).flushReplies n

/-- TB.NS when the doorbell of the slot at SQ_HEAD was taken. -/
def Dev.bellTime (d : Dev) (n : Nat) : Nat := ((d.queue n).bells.head?.map (·.2)).getD d.ns

/-- Whether doorbells are latched now (R24, R87). -/
def Dev.latches (d : Dev) : Bool := d.phase == .warmReset || d.phase == .startHold

/-- SQ_DB (R70, R71). -/
def Dev.sqDb (d : Dev) (n v : Nat) : Dev :=
  if d.flag F.CMD_Q_CTRL_OPEN n = false then d.wakeCores
  else if d.latches then d.putQueue n { d.queue n with latchSq := some v }
  else if d.serving = false then d
  else (d.wakeCores).takeSq n v

/-- RQ_DB (R70, R72). -/
def Dev.rqDb (d : Dev) (n v : Nat) : Dev :=
  if d.flag F.CMD_Q_CTRL_OPEN n = false then d.wakeCores
  else if d.latches then d.putQueue n { d.queue n with latchRq := some v }
  else if d.serving = false then d
  else (d.wakeCores).takeRq n v

/-- The doorbells latched during a reset are serviced (R24, R87). -/
def Dev.serviceLatches (d : Dev) : Dev :=
  Dev.upto 64 (fun n d =>
    let q := d.queue n
    if q.latchSq = none ∧ q.latchRq = none then d
    else
      let d1 := d.putQueue n { q with latchSq := none, latchRq := none }
      let d2 := match q.latchRq with | some v => d1.takeRq n v | none => d1
      match q.latchSq with | some v => d2.takeSq n v | none => d2) d

/-- OPEN_LO or OPEN_HI, bit n. -/
def Dev.showOpenBit (d : Dev) (n : Nat) (on : Bool) : Dev :=
  let f := if n < 32 then F.CMD_OPEN_LO else F.CMD_OPEN_HI
  d.setF f (putBit (d.getF f) (n % 32) on)

/-- The fields of CTRL beside ENABLE that a write sets (R74). -/
def Dev.writeQueueCtrl (d : Dev) (n v : Nat) : Dev :=
  let d1 := ((d.setFlag F.CMD_Q_CTRL_IRQ_EN (bit v 4) n).setF F.CMD_Q_CTRL_SQ_LOG2 (bits v 8 4) n).setF F.CMD_Q_CTRL_RQ_LOG2 (bits v 12 4) n
  if bit v 3 then d1.setFlag F.CMD_Q_CTRL_ERROR false n else d1

/-- Whether the bases and sizes of queue `n` are valid (R74). -/
def Dev.queueValid (d : Dev) (n : Nat) : Bool :=
  let s := d.getF F.CMD_Q_CTRL_SQ_LOG2 n
  let r := d.getF F.CMD_Q_CTRL_RQ_LOG2 n
  d.getF F.CMD_Q_SQ_BASE_LO n % 4096 == 0 && d.getF F.CMD_Q_RQ_BASE_LO n % 4096 == 0 &&
    decide (4 ≤ s) && decide (s ≤ 12) && decide (4 ≤ r) && decide (r ≤ 12) && decide (s + 1 ≤ r)

/-- QUEUE_OPEN: CTRL of queue `n` written with ENABLE 1 (R74, R75). -/
def Dev.queueOpen (d : Dev) (n v : Nat) : Dev :=
  let d1 := d.writeQueueCtrl n v
  if d1.flag F.CMD_Q_CTRL_CLOSING n then d1.queueError n
  else if d1.flag F.CMD_Q_CTRL_OPEN n then d1
  else if d1.queueValid n = false ∨ d1.spiBound n = true then d1.queueError n
  else
    let d2 := (((d1.setFlag F.CMD_Q_CTRL_ENABLE true n).setFlag F.CMD_Q_CTRL_OPEN true n).showOpenBit n true).putQueue n {}
    (((d2.setF F.CMD_Q_SQ_HEAD 0 n).setF F.CMD_Q_RQ_TAIL 0 n).setF F.CMD_Q_RQ_HEAD 0 n).putWindow n []

/-- QUEUE_CLOSE: CTRL of queue `n` written with ENABLE 0 (R75): slots not fetched are discarded. -/
def Dev.queueClose (d : Dev) (n v : Nat) : Dev :=
  let d1 := (d.writeQueueCtrl n v).setFlag F.CMD_Q_CTRL_ENABLE false n
  if d1.flag F.CMD_Q_CTRL_OPEN n = false then d1
  else ((d1.setFlag F.CMD_Q_CTRL_CLOSING true n).putQueue n
    { d1.queue n with tail := d1.getF F.CMD_Q_SQ_HEAD n, latchSq := none, retries := 0, bells := [], waits := false }).showWaits

/-! ### Management SPI -/

/-- Whether direct accesses and the SPI are served at all now: not in a cold reset, nor with the device shut down (R37, R515). -/
def Dev.reachable (d : Dev) : Bool :=
  match d.phase with
  | .run | .warmReset | .startHold | .stopped => true
  | .coldReset | .shutdown | .clockStop => false

/-- Whether a frame of WRITE-PACKET is whole: the header, then PLEN bytes. -/
def packetWhole (bs : List Byte) : Bool := decide (32 ≤ bs.length) && decide (32 + min 4096 (leAt bs 14 2) ≤ bs.length)

/-- Client `n` is bound to the SPI, or is no longer (R79). -/
def Dev.bindSpi (d : Dev) (n : Nat) (on : Bool) : Dev :=
  let f := if n < 32 then F.CMD_SPI_LO else F.CMD_SPI_HI
  (d.setFlag F.CMD_Q_CTRL_SPI_BOUND on n).setF f (putBit (d.getF f) (n % 32) on)

/-- Whether a packet's MAGIC and HCRC are right (R65 step 1), over the SPI, where the parameters follow in the frame. -/
def packetTrusted (bs : List Byte) : Bool :=
  leAt bs 0 4 == 0x50435856 && leAt bs 28 4 == crc32c (bs.take 28 ++ (if bit (leAt bs 5 1) 0 then [] else (bs.drop 32).take (leAt bs 14 2)))

/-- A packet received over the SPI binds its client number (R79), unless the number belongs to an open PCIe queue; a header that fails its
check names no client (DEDUCED, log entry 85). -/
def Dev.bindFirst (d : Dev) (bs : List Byte) : Dev :=
  let n := leAt bs 12 1
  if packetTrusted bs = false ∨ 64 ≤ n ∨ d.spiBound n = true ∨ d.flag F.CMD_Q_CTRL_OPEN n = true then d else d.bindSpi n true

/-- WRITE-PACKET (R20, R77, R78). A frame that ends early is discarded, but its MS_CS_N has fallen. While CTRL.SPI_EN is 0 the frame is refused,
as STATUS shows, and not counted: R78 counts a frame refused for want of buffer space alone (DESIGN CHOICE, log entry 86). -/
def Dev.writePacket (d : Dev) (bs : List Byte) : Dev :=
  if d.reachable = false then d
  else
    let d1 := d.wakeCores
    if packetWhole bs = false then d1
    else if d1.serving = false ∨ d1.flag F.CMD_CTRL_SPI_EN = false then { d1 with spiRefused := true }
    else if 4 ≤ d1.spiIn.length then ({ d1 with spiRefused := true }).count C.CMD_SPI_DROP
    else
      let p : SpiPacket := { bytes := bs.take (32 + min 4096 (leAt bs 14 2)), time := d1.ns }
      { d1 with spiRefused := false, spiIn := d1.spiIn ++ [p] }.bindFirst p.bytes

/-- READ-REPLY (R77): the oldest pending reply; that of SPI-RELEASE unbinds its client once read (R500). -/
def Dev.readReply (d : Dev) : Dev :=
  if d.reachable = false then d
  else match d.spiOut with
    | [] => d.wakeCores.emit (.spiBytes (leBytes 32 0))
    | r :: rest =>
      let d1 := (d.wakeCores.emit (.spiBytes r.bytes)).putSpiOut rest
      if r.opcode = 0x0007 ∧ r.done = true ∧ r.status = 0 then (d1.bindSpi r.client false).putWindow r.client [] else d1

/-- STATUS (R77). -/
def Dev.spiStatus (d : Dev) : Dev :=
  let ready := d.serving
  if d.reachable = false then d
  else d.wakeCores.emit (.spiBytes (leBytes 1 (b2n (!d.spiOut.isEmpty) + 2 * b2n (!ready) + 4 * b2n d.spiRefused)))

/-- The check of SPI-RELEASE: not on a PCIe queue (R500). -/
def chkSpiRelease (c : Ctx) (d : Dev) : Option (Status × Nat) := if d.spiBound c.client then none else some (.badParam, 0x0A)

/-- SPI-RELEASE (R500): its effect follows the reading of its reply. -/
def runSpiRelease (c : Ctx) (d : Dev) : Dev := d.finish c 0x0007 .ok

end Sys2Proof.Machine
end

