-- ==== Sys2Proof/Machine/Almanac.lean ====
section
/-! DEFINITION. The Almanac (R41 to R60): the flash, images and their validity, layering, staging, commit, revert. -/
namespace Sys2Proof.Machine

/-! ### The flash -/

/-- The first byte of a slot (R41): 0 factory, 1 copy A, 2 copy B. -/
def slotBase (copy : Nat) : Nat := match copy with | 0 => 0x03800000 | 1 => 0x03900000 | _ => 0x03A00000

/-- Bytes of a slot. -/
def slotSize : Nat := 0x100000

/-- The largest image (R42), and the slot offset of the commit record. -/
def imageMax : Nat := 1048512

/-- What a flash byte that nothing has programmed reads as: erased, or what the factory left (log entry 4). -/
def flashUnlisted (a : Nat) : Byte :=
  if slotBase 0 ≤ a ∧ a < slotBase 1 then Config.factoryFlash a else 0xFF

/-- The byte of the flash at `a`. -/
def Dev.flashByte (d : Dev) (a : Nat) : Byte := Cells.get flashUnlisted d.flash a

/-- `n` bytes of the flash from `a`. -/
def Dev.flashBytes (d : Dev) (a n : Nat) : List Byte := (List.range n).map (fun i => d.flashByte (a + i))

/-- Program bytes from `a`: programming only clears bits (R45). -/
def Dev.flashProgram (d : Dev) (a : Nat) (bs : List Byte) : Dev :=
  (bs.foldl (fun (p : Dev × Nat) b =>
    ({ p.1 with flash := Cells.set flashUnlisted p.1.flash p.2 (p.1.flashByte p.2 &&& b) }, p.2 + 1)) (d, a)).1

/-- Erase `n` bytes from `a` to 0xFF; nothing programs or erases the factory slot (R41). -/
def Dev.flashErase (d : Dev) (a n : Nat) : Dev :=
  { d with flash := d.flash.filter (fun e => ¬ (a ≤ e.1 ∧ e.1 < a + n)) }

/-- Byte `a` of the staging buffer: 0xFF where BEGIN filled and nothing was copied (R53). -/
def Dev.stageByte (d : Dev) (a : Nat) : Byte := Cells.get (fun _ => (0xFF : Byte)) d.stage a

/-- `n` bytes of the staging buffer from `a`. -/
def Dev.stageBytes (d : Dev) (a n : Nat) : List Byte := (List.range n).map (fun i => d.stageByte (a + i))

/-! ### Images -/

/-- A check that fails: its reason and the byte offset of the fault (ALMANAC.LAST_ERROR). -/
abbrev AlmFault := Nat × Nat

/-- The header checks of R43 and R46; `staged` leaves GENERATION and HEADER_CRC out (R54). An image shorter than the bytes at hand is
taken: that LENGTH equal the staged length is asked nowhere (DESIGN CHOICE, log entry 78). -/
def headerFault (kind : Nat) (staged : Bool) (b : List Byte) : Option AlmFault :=
  let len := leAt b 12 4
  if leAt b 0 4 ≠ 0x4C415856 then some (1, 0)
  else if leAt b 4 2 ≠ 2 then some (1, 4)
  else if leAt b 6 1 ≠ kind then some (1, 6)
  else if staged ∧ leAt b 7 1 ≠ 0 then some (1, 7)
  else if len < 64 ∨ imageMax < len ∨ b.length < len then some (1, 12)
  else if leAt b 16 2 = 0 ∨ 14 < leAt b 16 2 then some (1, 16)
  else if 3 < leAt b 18 2 then some (1, 18)
  else if leAt b 20 4 ≠ 0x8128 then some (1, 20)
  else if crc32c ((b.take len).drop 64) ≠ leAt b 56 4 then some (1, 56)
  else if staged then none
  else if crcOf 1 (leBytes 4 (leAt b 8 4)) (b.take 60) ≠ leAt b 60 4 then some (1, 60)
  else none

/-- The directory entries (R44). -/
def directory (b : List Byte) : List AlmSection :=
  (List.range (leAt b 16 2)).map (fun i =>
    let o := 64 + 16 * i
    { type := leAt b o 1, version := leAt b (o + 1) 1, offset := leAt b (o + 4) 4, length := leAt b (o + 8) 4,
      crc := leAt b (o + 12) 4, bytes := (b.drop (leAt b (o + 4) 4)).take (leAt b (o + 8) 4) })

/-- Whether entry `i` of a directory breaks R44: its type, reserved bytes, alignment, extent, or an earlier entry of
the same type or with overlapping bytes. That a TYPE which R47 does not list, and a section that reaches into the header or the directory
or past LENGTH, break it too is the model's choice (DESIGN CHOICE, log entry 79). -/
def entryBad (b : List Byte) (dir : List AlmSection) (i : Nat) (s : AlmSection) : Bool :=
  let len := leAt b 12 4
  s.type = 0 || decide (14 < s.type) || decide (leAt b (64 + 16 * i + 2) 2 ≠ 0) || decide (s.offset % 16 ≠ 0) ||
  decide (s.offset < 64 + 16 * dir.length) || decide (len < s.offset + s.length) ||
  (dir.take i).any (fun t => t.type = s.type || (decide (s.offset < t.offset + t.length) && decide (t.offset < s.offset + s.length)))

/-- The directory, section CRC and factory-only checks (R44, R46, R47). -/
def directoryFault (kind : Nat) (b : List Byte) : Option AlmFault :=
  let dir := directory b
  let ix := dir.zipIdx
  match ix.find? (fun p => entryBad b dir p.2 p.1) with
  | some p => some (2, 64 + 16 * p.2)
  | none =>
    match dir.find? (fun s => crc32c s.bytes ≠ s.crc) with
    | some s => some (3, s.offset)
    | none =>
      match ix.find? (fun p => decide (kind = 1) && [5, 6, 13].contains p.1.type) with
      | some p => some (4, 64 + 16 * p.2)
      | none => none

/-- The parsed image. -/
def parseImage (b : List Byte) : AlmImage :=
  { generation := leAt b 8 4, length := leAt b 12 4, sections := directory b }

/-- The bytes of a slot that an image may occupy. -/
def Dev.slotBytes (d : Dev) (copy : Nat) : List Byte :=
  let len := leNat (d.flashBytes (slotBase copy + 12) 4)
  d.flashBytes (slotBase copy) (if imageMax < len then 64 else max 64 len)

/-- Whether the commit record of a user copy holds COMMIT_WORD and copies that agree with the header (R45, R46). -/
def Dev.commitRecordOk (d : Dev) (copy : Nat) : Bool :=
  let r := d.flashBytes (slotBase copy + imageMax) 12
  let h := d.flashBytes (slotBase copy) 64
  decide (leAt r 0 4 = 0xC0A11A5C) && decide (leAt r 4 4 = leAt h 8 4) && decide (leAt r 8 4 = leAt h 60 4)

/-- The image of a slot, when it is valid (R46). -/
def Dev.validImage (d : Dev) (copy : Nat) : Option AlmImage :=
  let b := d.slotBytes copy
  let kind := if copy = 0 then 0 else 1
  if (headerFault kind false b).isSome || (directoryFault kind b).isSome then none
  else if copy ≠ 0 ∧ d.commitRecordOk copy = false then none
  else some (parseImage b)

/-- The user copy that R50 chooses: 0 none, 1 copy A, 2 copy B. -/
def chosenCopy (a b : Option AlmImage) : Nat :=
  match a, b with
  | none, none => 0
  | some _, none => 1
  | none, some _ => 2
  | some x, some y => if x.generation < y.generation then 2 else 1

/-- NEXT, FALLBACK, the validity flags, the generations and PENDING (ALMANAC.STATUS). -/
def Dev.showAlmanac (d : Dev) : Dev :=
  let a := d.validImage 1
  let b := d.validImage 2
  let next := chosenCopy a b
  let d1 := ((d.setF F.ALMANAC_STATUS_NEXT next).setFlag F.ALMANAC_STATUS_A_VALID a.isSome).setFlag F.ALMANAC_STATUS_B_VALID b.isSome
  let d2 := d1.setFlag F.ALMANAC_STATUS_FALLBACK (a.isSome && b.isSome)
  let d3 := (d2.setF F.ALMANAC_GEN_A ((a.map (·.generation)).getD 0)).setF F.ALMANAC_GEN_B ((b.map (·.generation)).getD 0)
  d3.setFlag F.ALMANAC_STATUS_PENDING (next != d3.getF F.ALMANAC_STATUS_APPLIED || d3.almCommitted)

/-! ### Register entries (R48, R49) -/

/-- The row of the register map at an address, with its instance. -/
def findRow (a : Nat) : Option (RegRow × Nat × Nat) :=
  ((blockOf a).rows).findSome? (fun r =>
    if a < r.base then none
    else (instanceAt (a - r.base) r.n1 r.s1 r.n2 r.s2).map (fun p => (r, p.1, p.2)))

/-- A field of a row as a `Field`. -/
def RegRow.field (r : RegRow) (f : Nat × Nat × Access × Bool) : Field :=
  { base := r.base, s1 := r.s1, s2 := r.s2, lsb := f.1, width := f.2.1 }

/-- The bits of a row's fields that the tables mark "(Almanac)". -/
def RegRow.almanacMask (r : RegRow) : Nat :=
  r.fields.foldl (fun m f => if f.2.2.2 then m ||| ((2 ^ f.2.1 - 1) * 2 ^ f.1) else m) 0

/-- Whether a REGISTERS entry passes the test of R48. -/
def entryPasses (a mask : Nat) : Bool :=
  match findRow a with
  | none => false
  | some (r, _, _) => mask &&& r.almanacMask == mask

/-- Set the bits of one register under a mask, field by field. -/
def Dev.putMasked (d : Dev) (r : RegRow) (i j mask value : Nat) : Dev :=
  r.fields.foldl (fun d f =>
    let m := bits mask f.1 f.2.1
    if m = 0 then d
    else
      let fld := r.field f
      let old := d.getF fld i j
      d.setF fld ((old ^^^ (old &&& m)) ||| (bits value f.1 f.2.1 &&& m)) i j) d

/-- The entries of a REGISTERS section: ADDRESS, MASK, VALUE. -/
def registerEntries (b : List Byte) : List (Nat × Nat × Nat) :=
  (List.range (b.length / 12)).map (fun i => (leAt b (12 * i) 4, leAt b (12 * i + 4) 4, leAt b (12 * i + 8) 4))

/-- The section of a type in an image. -/
def AlmImage.sec (im : AlmImage) (t : Nat) : Option AlmSection := im.sections.find? (fun s => s.type = t)

/-- Log one ENTRY_SKIPPED (R48, R483). -/
def Dev.skipEntry (d : Dev) (sectionType entry : Nat) : Dev :=
  (d.logEvent .almanac 0xF6 0 sectionType entry).setFlag F.ALMANAC_STATUS_SKIPPED true

/-- Apply the REGISTERS entries of one image to the blocks that `on` selects (R49); entries that fail R48 are
skipped and logged, once, when `log` is set. -/
def Dev.applyRegisters (d : Dev) (im : AlmImage) (on : Block → Bool) (log : Bool) : Dev :=
  match im.sec 1 with
  | none => d
  | some s =>
    (registerEntries s.bytes).zipIdx.foldl (fun d p =>
      let (a, m, v) := p.1
      if entryPasses a m then
        match findRow a with
        | some (r, i, j) => if on (blockOf a) then (d.putMasked r i j m v).setF F.ALMANAC_ENTRIES (d.getF F.ALMANAC_ENTRIES + 1) else d
        | none => d
      else if log then d.skipEntry 1 p.2 else d) d

/-! ### Section contents (R47, R48) -/

/-- Records of `n` bytes. -/
def records (n : Nat) (b : List Byte) : List (List Byte) :=
  (List.range (b.length / n)).map (fun i => (b.drop (n * i)).take n)

/-- The factory value of MAX_BITS_PER_CTU (R243), formats 0 to 7. -/
def rescueFactory (format kind : Nat) : Nat :=
  if kind = 0 then 32
  else match format with | 0 => 160 | 1 => 160 | 2 => 192 | 3 => 192 | 4 => 224 | 5 => 224 | _ => 128

/-- Whether the field at byte `o` of a record of a section of `type` lies within the range R47 gives it; a field to which R47 gives none
takes every value. That RESCUE's FORMAT is one of the eight (R157) is read from its use (DEDUCED, log entry 80). -/
def fieldOk (type o v : Nat) : Bool :=
  match type, o with
  | 2, 0 => decide (1 ≤ v) && decide (v ≤ 5)
  | 3, 1 => decide (v ≤ 2)
  | 3, 7 => decide (v ≤ 7)
  | 7, 0 => decide (v ≤ 7)
  | 7, 1 => decide (v ≤ 1)
  | 8, 0 => decide (v ≤ 127)
  | _, _ => true

/-- The byte offsets of the fields of a section's record to which R47 gives a range; each is one byte. -/
def rangedFields (type : Nat) : List Nat :=
  match type with | 2 => [0] | 3 => [1, 7] | 7 => [0, 1] | 8 => [0] | _ => []

/-- Whether one record of a section lies within the ranges of R47 and, where `kind` is 1, a RESCUE entry is at or above the factory value
(R243). A FENCES entry names a unit that exists (R478; DEDUCED, log entry 80). -/
def recordOk (type kind : Nat) (r : List Byte) : Bool :=
  (rangedFields type).all (fun o => fieldOk type o (leAt r o 1)) &&
  match type with
  | 1 => entryPasses (leAt r 0 4) (leAt r 4 4)
  | 4 => unitExists (leAt r 0 1) (leAt r 2 2)
  | 7 => kind = 0 || decide (rescueFactory (leAt r 0 1) (leAt r 1 1) ≤ leAt r 4 4)
  | _ => true

/-- The record size, and the least and the largest number of records of a section (R47). -/
def recordShape (type : Nat) : Nat × Nat × Nat :=
  match type with
  | 1 => (12, 0, 87376) | 2 => (1, 1, 1) | 3 => (12, 1, 1) | 4 => (8, 0, 256) | 5 => (64, 128, 128) | 6 => (8, 38, 38) | 7 => (8, 0, 16)
  | 8 => (4, 1, 1) | 9 => (16, 0, 16) | 10 => (16, 0, 16) | 11 => (26, 0, 2) | 12 => (2, 1, 1) | 13 => (16, 1, 1) | _ => (1, 0, 65536)

/-- Whether a section's length is a whole number of records, as many as R47 gives it. -/
def shapeOk (s : AlmSection) : Bool :=
  let (n, least, most) := recordShape s.type
  decide (s.bytes.length % n = 0) && decide (n * least ≤ s.bytes.length) && decide (s.bytes.length ≤ n * most)

/-- The first record of a section out of range: its byte offset in the section. -/
def sectionFault (kind : Nat) (s : AlmSection) : Option Nat :=
  if shapeOk s = false then some 0
  else
    let n := (recordShape s.type).1
    ((records n s.bytes).zipIdx.find? (fun p => !recordOk s.type kind p.1)).map (fun p => n * p.2)

/-- The content checks of a staged image (R54 step 2): reason 0x05 or 0x06. A RESCUE entry below its factory value is no fault here: R243 has
it skipped when the image is applied. -/
def contentFault (b : List Byte) : Option AlmFault :=
  (directory b).findSome? (fun s => (sectionFault 0 s).map (fun o => (if s.type = 1 then 5 else 6, s.offset + o)))

/-- The bytes of a section of an image, where its length is one R47 gives. -/
def AlmImage.whole (im : AlmImage) (t : Nat) : Option (List Byte) :=
  (im.sec t).bind (fun s => if shapeOk s then some s.bytes else none)

/-- The section in force for a type whose user section replaces the factory's (R47): factory image, user image. -/
def sectionInForce (fac user : Option AlmImage) (t : Nat) : Option (List Byte) :=
  (user.bind (·.whole t)).orElse (fun _ => fac.bind (·.whole t))

/-- The `n` bytes at `o` of the section in force: a value outside its range is skipped, and the layer below gives it (R47, R48). -/
def fieldInForce (fac user : Option AlmImage) (t o n : Nat) : Option Nat :=
  let pick := fun (im : Option AlmImage) =>
    (im.bind (·.whole t)).bind (fun b => if fieldOk t o (leAt b o n) then some (leAt b o n) else none)
  (pick user).orElse (fun _ => pick fac)

/-- The records of a section whose factory and user lists are joined: FENCES, RESCUE (user entries last). -/
def recordsInForce (fac user : Option AlmImage) (t : Nat) : List (List Byte) :=
  let n := (recordShape t).1
  let pick := fun (im : Option AlmImage) (kind : Nat) =>
    match im.bind (·.sec t) with
    | none => []
    | some s => (records n s.bytes).filter (fun r => recordOk t kind r)
  pick fac 0 ++ pick user 1

/-- The factory image and the user image in force (R50). -/
def Dev.imagesInForce (d : Dev) : Option AlmImage × Option AlmImage :=
  let a := d.validImage 1
  let b := d.validImage 2
  (d.validImage 0, match chosenCopy a b with | 1 => a | 2 => b | _ => none)

/-- The user image applied at the last start or warm reset, as it was then: a commit or revert since changes only the flash (R51). -/
def Dev.appliedUser (d : Dev) : Option AlmImage := d.almUser

/-- Fence what FENCES entries list (R47, R51): FLAGS bit 1 marks the fence, REASON is its cause. -/
def Dev.applyFences (d : Dev) (rs : List (List Byte)) : Dev :=
  rs.foldl (fun d r => d.fence (leAt r 0 1) (leAt r 2 2) (leAt r 4 4) true) d

/-- The entries of a new copy that the list before it, of the factory image and the other copy, did not hold (R51). -/
def Dev.addedFences (d : Dev) (im : AlmImage) (other : Nat) : List (List Byte) :=
  let old := (recordsInForce (d.validImage 0) (d.validImage other) 4).map (fun r => (leAt r 0 1, leAt r 2 2))
  (recordsInForce none (some im) 4).filter (fun r => !old.contains (leAt r 0 1, leAt r 2 2))

/-! ### Temperature and sensor count (R57, R475) -/

/-- Whether sensor `s` is marked failed. -/
def Dev.sensorFailed (d : Dev) (s : Nat) : Bool := d.flag F.THERM_SENSOR_FAILED s

/-- The actual reading of sensor `s`, in 1/64 °C, without injection (R475). -/
def Dev.realReading (d : Dev) (s : Nat) : Int := getAt 0 d.therm.real s

/-- How many sensors are not marked failed. -/
def Dev.validSensors (d : Dev) : Nat := ((List.range 38).filter (fun s => !d.sensorFailed s)).length

/-- The conditions of R57: every sensor not marked failed reads from 0 °C to 100 °C, and at least 30 are not failed. -/
def Dev.flashTempOk (d : Dev) : Bool :=
  (List.range 38).all (fun s => d.sensorFailed s || (decide (0 ≤ d.realReading s) && decide (d.realReading s ≤ 6400))) &&
  decide (30 ≤ d.validSensors)

/-! ### Commands (R502) -/

/-- The KEYS values of an image at `rd` read as zeros (R494): the offsets of the bytes hidden. -/
def keyBytes (b : List Byte) : List Nat :=
  match (directory b).find? (fun s => s.type = 9) with
  | none => []
  | some s => (List.range (s.length / 16)).flatMap (fun i => (List.range 12).map (fun k => s.offset + 16 * i + 4 + k))

/-- The checks of ALMANAC-READ (R502). -/
def chkAlmanacRead (source offset length : Nat) : Option (Status × Nat) :=
  if 3 < source ∨ length = 0 ∨ 4096 < length ∨ slotSize < offset + length then some (.badParam, 0x08) else none

/-- What ALMANAC-READ returns (R494, R502). -/
def Dev.almanacBytes (d : Dev) (source offset length : Nat) : List Byte :=
  let rd := fun o n => if source = 3 then d.stageBytes o n else d.flashBytes (slotBase source + o) n
  let hidden := keyBytes (rd 0 (64 + 16 * 14))
  (rd offset length).zipIdx.map (fun p => if hidden.contains (offset + p.2) then (0 : Byte) else p.1)

/-- ALMANAC-READ (R57, R502). -/
def runAlmanacRead (c : Ctx) (source offset length : Nat) (d : Dev) : Dev := d.finish c 0x0101 .ok 0 (d.almanacBytes source offset length)

/-- Whether a commit or revert is running (R59). -/
def Dev.flashBusy (d : Dev) : Bool := d.flag F.ALMANAC_STATUS_IN_PROGRESS

/-- The checks of ALMANAC-STAGE (R53, R59). -/
def chkAlmanacStage (offset length : Nat) (d : Dev) : Option (Status × Nat) :=
  if d.flashBusy then some (.busy, 0x08)
  else if length = 0 ∨ 4096 < length ∨ imageMax < offset + length then some (.badParam, 0x08) else none

/-- ALMANAC-STAGE (R53): BEGIN fills with 0xFF and clears STAGE_LEN; a fault leaves the bytes before it and STAGE_LEN. -/
def runAlmanacStage (c : Ctx) (begin : Bool) (offset length : Nat) (d : Dev) : Dev :=
  let d0 := if begin then ({ d with stage := [] }).setF F.ALMANAC_STAGE_LEN 0 else d
  let bs := c.rd.bytes.take length
  let d1 := { d0 with stage := (bs.zipIdx.foldl (fun st (p : Byte × Nat) => Cells.set (fun _ => (0xFF : Byte)) st (offset + p.2) p.1) d0.stage) }
  if c.rd.fault.isSome then d1.finish c 0x0102 .fault
  else
    let len := max (d1.getF F.ALMANAC_STAGE_LEN) (offset + length)
    let d2 := d1.setF F.ALMANAC_STAGE_LEN len
    (d2.commitPoint c).finish c 0x0102 .ok 0 (leBytes 4 len)

/-- The fault of a staged image, if R54 step 2 finds one. -/
def Dev.stagedFault (d : Dev) (length : Nat) : Option AlmFault :=
  let b := d.stageBytes 0 length
  ((headerFault 1 true b).orElse (fun _ => directoryFault 1 b)).orElse (fun _ => contentFault b)

/-- The value of LAST_ERROR for a fault. -/
def AlmFault.code (f : AlmFault) : Nat := f.1 + 2 ^ 8 * f.2

/-- The greater valid generation (R55). -/
def Dev.topGeneration (d : Dev) : Nat :=
  max (((d.validImage 1).map (·.generation)).getD 0) (((d.validImage 2).map (·.generation)).getD 0)

/-- The checks of ALMANAC-COMMIT, in the order of R54, with BUSY of R59 and NO_RESOURCE of R55. -/
def chkAlmanacCommit (length crc : Nat) (d : Dev) : Option (Status × Nat) :=
  if d.flashBusy then some (.busy, 0x08)
  else if d.getF F.ALMANAC_STAGE_LEN ≠ length ∨ crc32c (d.stageBytes 0 length) ≠ crc then some (.badCheck, 0x08)
  else
    match d.stagedFault length with
    | some f => some (.badParam, f.code)
    | none =>
      if d.flashTempOk = false then some (.tempForbids, 0x08)
      else if d.topGeneration = 0xFFFFFFFE then some (.noResource, 0x08) else none

/-- A commit that the checks of R54 step 2 turn away leaves its reason in LAST_ERROR. -/
def Dev.noteCommitFault (d : Dev) (length crc : Nat) : Dev :=
  if d.flashBusy ∨ d.getF F.ALMANAC_STAGE_LEN ≠ length ∨ crc32c (d.stageBytes 0 length) ≠ crc then d
  else match d.stagedFault length with | some f => d.setF F.ALMANAC_LAST_ERROR f.code | none => d

/-- The image as it is programmed: GENERATION and HEADER_CRC filled in (R54, R55). -/
def filledImage (b : List Byte) (gen : Nat) : List Byte :=
  let h := b.take 8 ++ leBytes 4 gen ++ (b.drop 12).take 48
  h ++ leBytes 4 (crcOf 1 (leBytes 4 gen) h) ++ b.drop 64

/-- The sectors an image covers (R55 step 1), the last sector of the slot among them. -/
def imageSectors (len : Nat) : List Nat :=
  let n := ceilDiv len 65536
  if 16 ≤ n then List.range 16 else List.range n ++ [15]

/-- PROGRESS for the operation in progress (ALMANAC.PROGRESS). -/
def Dev.showProgress (d : Dev) : Dev :=
  match d.flashJob with
  | none => ((d.setF F.ALMANAC_PROGRESS_STEP 0).setF F.ALMANAC_PROGRESS_SECTOR 0).setFlag F.ALMANAC_STATUS_IN_PROGRESS false
  | some j =>
    let d1 := (d.setFlag F.ALMANAC_STATUS_IN_PROGRESS true).setF F.ALMANAC_PROGRESS_TARGET (j.target - 1)
    match j.ops.head? with
    | some (.erase _ s) => (d1.setF F.ALMANAC_PROGRESS_STEP 1).setF F.ALMANAC_PROGRESS_SECTOR s
    | some (.program _ s) => (d1.setF F.ALMANAC_PROGRESS_STEP 2).setF F.ALMANAC_PROGRESS_SECTOR s
    | some (.readBack _) => d1.setF F.ALMANAC_PROGRESS_STEP 3
    | some (.commitRecord _) => (d1.setF F.ALMANAC_PROGRESS_STEP 4).setF F.ALMANAC_PROGRESS_SECTOR 15
    | some (.retire _) => (d1.setF F.ALMANAC_PROGRESS_STEP 4).setF F.ALMANAC_PROGRESS_SECTOR 15
    | none => d1.setF F.ALMANAC_PROGRESS_STEP 0

/-- The target copy and the generation of a commit that starts (R55). -/
def Dev.commitTarget (d : Dev) : Nat × Nat :=
  (if chosenCopy (d.validImage 1) (d.validImage 2) = 1 then 2 else 1, d.topGeneration + 1)

/-- The journal entry of a command records the target copy and the generation (R60). -/
def Dev.fixCommit (d : Dev) (c : Ctx) (p : Nat × Nat) : Dev :=
  { d with journal := d.journal.map (fun (e : JEntry) => if e.client = c.client ∧ e.tag = c.tag then { e with fixed := some p } else e) }

/-- ALMANAC-COMMIT writes copy `target` with generation `gen` (R55, R60). -/
def runCommitAt (c : Ctx) (target gen length : Nat) (d : Dev) : Dev :=
  let secs := imageSectors length
  let progs := (List.range (ceilDiv length 65536)).map (FlashOp.program target)
  let job : FlashJob :=
    { client := c.client, tag := c.tag, confirm := c.confirm, commit := true, target := target, generation := gen,
      image := filledImage (d.stageBytes 0 length) gen,
      ops := secs.map (FlashOp.erase target) ++ progs ++ [.readBack target, .commitRecord target] }
  ({ d.fixCommit c (target, gen) with flashJob := some job }).showProgress

/-- ALMANAC-COMMIT starts: the target and the generation are fixed now (R55). -/
def runAlmanacCommit (c : Ctx) (length : Nat) (d : Dev) : Dev := runCommitAt c d.commitTarget.1 d.commitTarget.2 length d

/-- The checks of ALMANAC-REVERT (R56, R57, R59). -/
def chkAlmanacRevert (form : Nat) (d : Dev) : Option (Status × Nat) :=
  if d.flashBusy then some (.busy, 0x08)
  else if 1 < form ∨ (form = 0 ∧ chosenCopy (d.validImage 1) (d.validImage 2) = 0) then
    some (.badParam, 0x08)
  else if d.flashTempOk = false then some (.tempForbids, 0x08) else none

/-- ALMANAC-REVERT starts (R56): PREVIOUS retires the valid copy of greater generation, FACTORY both copies. -/
def runAlmanacRevert (c : Ctx) (form : Nat) (d : Dev) : Dev :=
  let chosen := chosenCopy (d.validImage 1) (d.validImage 2)
  let job : FlashJob :=
    { client := c.client, tag := c.tag, confirm := c.confirm, commit := false,
      target := if form = 0 then chosen else 1, generation := 0, image := [],
      ops := if form = 0 then [.retire chosen] else [.retire 1, .retire 2] }
  ({ d with flashJob := some job }).showProgress

/-- The flash effect of one completed operation (R45, R55, R56). -/
def Dev.flashDo (d : Dev) (j : FlashJob) : FlashOp → Dev
  | .erase cp s => d.flashErase (slotBase cp + 65536 * s) 65536
  | .program cp s => d.flashProgram (slotBase cp + 65536 * s) ((j.image.drop (65536 * s)).take 65536)
  | .readBack _ => d
  | .commitRecord cp =>
    d.flashProgram (slotBase cp + imageMax) (leBytes 4 0xC0A11A5C ++ leBytes 4 j.generation ++ (j.image.drop 60).take 4)
  | .retire cp => d.flashProgram (slotBase cp + imageMax) (leBytes 4 0)

/-- A commit is complete: its effect is recorded, a fence entry that it adds applies at once, as though the unit had failed (R51), and its DONE
reply names the copy and the generation. -/
def Dev.commitEnds (d : Dev) (c : Ctx) (target gen : Nat) (im : AlmImage) : Dev :=
  let d1 := d.commitPoint c
  (d1.applyFences (d1.addedFences im (3 - target))).finish c 0x0103 .ok 0 (leBytes 1 (target - 1) ++ leBytes 3 0 ++ leBytes 4 gen)

/-- The job is over: its reply, and what STATUS now says. -/
def Dev.flashEnd (d : Dev) (j : FlashJob) (st : Status) : Dev :=
  let c : Ctx := { client := j.client, tag := j.tag, confirm := j.confirm }
  let d1 := ({ d with flashJob := none, almCommitted := d.almCommitted || (st == Status.ok && j.commit) }).showProgress.showAlmanac
  if st ≠ .ok then d1.finish c (if j.commit then 0x0103 else 0x0104) st
  else if j.commit then d1.commitEnds c j.target j.generation (parseImage j.image)
  else
    (d1.commitPoint c).finish c 0x0104 .ok 0 (leBytes 1 (d1.getF F.ALMANAC_STATUS_NEXT) ++ leBytes 3 0)

/-- A replayed commit whose recorded target is already valid with its generation completes without a write (R60): that image. -/
def Dev.commitStands (d : Dev) (e : JEntry) : Option (Nat × Nat × AlmImage) :=
  match e.fixed with
  | some (target, gen) => (d.validImage target).bind (fun im => if im.generation = gen then some (target, gen, im) else none)
  | none => none

/-- The operations left once the leading read-back checks, which take no flash operation, are made (R55 step 3):
`none` when a check fails. -/
def Dev.skipReadBack (d : Dev) (j : FlashJob) : List FlashOp → Option (List FlashOp)
  | .readBack cp :: rest => if d.flashBytes (slotBase cp) j.image.length = j.image then some rest else none
  | ops => some ops

/-- A NOR erase or program completes (R58, R475): the check is repeated before the next one; when it fails after the
first erase has begun, the job stops without the commit record and ends with TEMP_FORBIDS. An image that does not read back as written
ends the job with FAULT and no commit record: what a failed check of step 3 of R55 does is open (DESIGN CHOICE, log entry 81). -/
def Dev.flashDone (d : Dev) : Dev :=
  match d.flashJob with
  | none => d
  | some j =>
    match j.ops with
    | [] => d
    | op :: rest =>
      let d1 := d.flashDo j op
      match d1.skipReadBack j rest with
      | none => d1.flashEnd j .fault
      | some [] => d1.flashEnd j .ok
      | some (o :: more) =>
        if d1.flashTempOk then ({ d1 with flashJob := some { j with ops := o :: more } }).showProgress
        else d1.flashEnd j .tempForbids

end Sys2Proof.Machine
end

