-- ==== Sys2Proof/Machine/Thermal.lean ====
section
/-! DEFINITION. Temperature sensing and throttling (R464 to R477, R554): readings, failed sensors, T_ctl, levels, S_t, holds, and
thermal shutdown. -/
namespace Sys2Proof.Machine

/-- Degrees Celsius in 1/64 °C. -/
def deg (t : Int) : Int := 64 * t

/-- The thermal readout replaced. -/
def Dev.putTherm (d : Dev) (t : Therm) : Dev := { d with therm := t }

/-! ### Readings (R465, R476) -/

/-- A raw code as an actual reading; a rounding the spec does not give is open (log entry 7). -/
def Dev.trimmed (d : Dev) (s : Nat) (raw : Int) : Int :=
  let (off, gain) := getAt (0, 0) d.therm.trim s
  let g := if gain = 0 then 32768 else gain
  d.openDiv (raw * (g : Int)) 32768 + off

/-- The sensors of a zone (R464). -/
def zoneSensors (z : Nat) : List Nat :=
  if z < 8 then [4 * z, 4 * z + 1, 4 * z + 2, 4 * z + 3] else if z = 8 then [32, 33] else [25 + z]

/-- Whether sensor `s` carries an injected reading now (R476), and the reading of R466 to R471. -/
def Dev.injected (d : Dev) (s : Nat) : Bool := d.injecting 6 && d.pertTarget 6 == s
def Dev.reading (d : Dev) (s : Nat) : Int :=
  let r := d.realReading s
  if d.injected s then
    let p := sext 32 (d.pertP0 6)
    if bit (d.pertP1 6) 0 then r + p else p
  else r

/-- Ticks in 1 s. -/
def ticks1s : Nat := 250000000

/-- A sample of the 38 raw codes is taken in (R465): every reading, and since when each code has not changed. -/
def Dev.takeRaws (d : Dev) (raws : List Int) : Dev :=
  Dev.upto 38 (fun s d =>
    let v := getAt 0 raws s
    let keep := match getAt none d.therm.raw s with
      | some (old, t) => if old = v then t else d.tick
      | none => d.tick
    let real := d.trimmed s v
    let d1 := (d.putTherm { d.therm with real := setAt d.therm.real s real, raw := setAt d.therm.raw s (some (v, keep)) }).drawn
    (d1.setF F.THERM_SENSOR_T (wrapInt 16 (d1.realReading s)) s).setFlag F.THERM_SENSOR_INJECTED (d1.injected s) s) d

/-! ### Failed sensors (R466, R467) -/

/-- A reading put into its place among rising readings. -/
def insertInt (t : Int) : List Int → List Int
  | [] => [t]
  | x :: r => if t ≤ x then t :: x :: r else x :: insertInt t r

/-- Twice the median; of two readings, their sum. -/
def median2 (l : List Int) : Int :=
  let x := l.foldr insertInt []
  let n := x.length
  if n % 2 = 1 then 2 * getAt 0 x (n / 2) else getAt 0 x (n / 2 - 1) + getAt 0 x (n / 2)

/-- Why a sensor fails by itself: 1 implausible, 2 stuck. -/
def Dev.ownFault (d : Dev) (s : Nat) : Option Nat :=
  let t := d.reading s
  if t < deg (-40) ∨ deg 150 < t then some 1
  else match getAt none d.therm.raw s with
    | some (_, since) => if ticks1s ≤ d.tick - since then some 2 else none
    | none => none

/-- Twice a sensor's distance from the median of the other valid readings of its zone, where at least two are valid. -/
def Dev.disagreement (d : Dev) (s : Nat) : Option Nat :=
  let others := (zoneSensors (sensorZone s)).filter (fun x => x != s && !d.sensorFailed x)
  if others.length < 2 then none else some (2 * d.reading s - median2 (others.map d.reading)).natAbs

/-- FAILED_LO and FAILED_HI hold the bits, STATUS.VALID their count; each memory controller shows its stack sensor (R353). -/
def Dev.showFailed (d : Dev) : Dev :=
  let m := maskOf38 (fun s => d.sensorFailed s)
  let d1 := ((d.setF F.THERM_FAILED_LO (m % 2 ^ 32)).setF F.THERM_FAILED_HI (m / 2 ^ 32)).setF F.THERM_STATUS_VALID d.validSensors
  Dev.upto 4 (fun k e => (e.setFlag F.MEM_TEMP_SENSOR_FAILED (d.sensorFailed (34 + k)) k).showHot k) d1
where
  /-- The mask of the sensors that satisfy `f`. -/
  maskOf38 (f : Nat → Bool) : Nat := (List.range 38).foldl (fun m s => if f s then setBit m s else m) 0

/-- A thermal event: LAST_EVENT, INT_STATUS. -/
def Dev.thermEvent (d : Dev) (sensor zone cause k : Nat) : Dev :=
  (((d.setF F.THERM_LAST_EVENT_SENSOR sensor).setF F.THERM_LAST_EVENT_ZONE zone).setF F.THERM_LAST_EVENT_CAUSE cause).raise .therm 0 k

/-- The level of zone `z`: 0 Normal, 1 Warning, 2 Throttle. -/
def Dev.zoneLevel (d : Dev) (z : Nat) : Nat := bits (d.getF F.THERM_ZONE_LEVEL) (2 * z) 2

/-- Whether zone `z` is in a hold (R467). -/
def Dev.zoneHeld (d : Dev) (z : Nat) : Bool := d.therm.holds.any (fun h => h.zone = z)

/-- Mark sensor `s` failed for cause `why`: once logged and counted; a zone at Throttle begins its hold. -/
def Dev.failSensor (d : Dev) (s why : Nat) : Dev :=
  let z := sensorZone s
  let d1 := ((d.setFlag F.THERM_SENSOR_FAILED true s).setF F.THERM_SENSOR_WHY why s).showFailed
  let d2 := (d1.count C.THERM_SENSOR_FAIL_CNT).thermEvent s z 4 3
  if d2.zoneLevel z = 2 ∧ d2.zoneHeld z = false then
    let h : ZoneHold := { zone := z, tick := d2.tick, request := getAt 0 d2.therm.requests z }
    ((d2.putTherm { d2.therm with holds := d2.therm.holds ++ [h] }).count C.THERM_HOLD_CNT).setFlag F.THERM_STATUS_HOLD true
  else d2

/-- The sensor of a zone that disagrees most, by more than 15 °C. -/
def Dev.worstOf (d : Dev) (z : Nat) : Option Nat :=
  let xs := (zoneSensors z).filterMap (fun s => if d.sensorFailed s then none else (d.disagreement s).map (fun x => (s, x)))
  let ys := xs.filter (fun x => decide (2 * 15 * 64 < x.2))
  (ys.foldl (fun (b : Option (Nat × Nat)) x => match b with | none => some x | some y => if y.2 < x.2 then some x else some y) none).map (·.1)

/-- Check every sensor (R466): those that fail by themselves first, then in each zone the one that disagrees most, until none does,
so that a failed reading is never used. -/
def Dev.checkSensors (d : Dev) : Dev :=
  let d1 := Dev.upto 38 (fun s d =>
    if d.sensorFailed s then d else match d.ownFault s with | some w => d.failSensor s w | none => d) d
  Dev.upto 13 (fun z d =>
    Dev.upto 4 (fun _ d => match d.worstOf z with | some s => d.failSensor s 3 | none => d) d) d1

/-! ### T_ctl (R468) -/

/-- The hottest valid reading of some sensors. -/
def Dev.hottestOf (d : Dev) (ss : List Nat) : Option Int :=
  (ss.filter (fun s => !d.sensorFailed s)).foldl (fun b s => some (match b with | none => d.reading s | some y => max y (d.reading s))) none

/-- The reading that stands in for a zone with no valid sensor (R464, R468). -/
def Dev.substitute (d : Dev) (z : Nat) : Option Int :=
  let zones := fun (zs : List Nat) => d.hottestOf (zs.flatMap zoneSensors)
  if z < 4 then zones ([0, 1, 2, 3].filter (fun x => x != z))
  else if z < 8 then zones ([4, 5, 6, 7].filter (fun x => x != z))
  else if z = 8 then zones [0, 1, 2, 3, 4, 5, 6, 7]
  else
    let (a, b, rest) := if z < 11 then (0, 2, [1, 3]) else (4, 6, [5, 7])
    ((zones [a]).orElse (fun _ => zones [b])).orElse (fun _ => zones rest)

/-- T_ctl of a zone; none where no substitute has a valid sensor. -/
def Dev.controlTemp (d : Dev) (z : Nat) : Option Int :=
  let ss := zoneSensors z
  let margin : Int := if ss.any d.sensorFailed then deg 8 else 0
  ((d.hottestOf ss).orElse (fun _ => d.substitute z)).map (· + margin)

/-! ### Levels and shed (R469, R470) -/

/-- The level after an evaluation at T_ctl `t`. -/
def nextLevel (level : Nat) (t : Int) : Nat :=
  match level with
  | 0 => if deg 105 ≤ t then 2 else if deg 100 ≤ t then 1 else 0
  | 1 => if deg 105 ≤ t then 2 else if t ≤ deg 95 then 0 else 1
  | _ => if t ≤ deg 100 then 1 else 2

/-- The request of a zone at Throttle: clamp(ceil(T_ctl − 104), 1, 15). -/
def shedRequest (t : Int) : Nat := max 1 (min 15 (-((deg 104 - t) / 64)).toNat)

/-- ZONE_LEVEL of a zone, and STATUS.LEVEL. -/
def Dev.putLevel (d : Dev) (z v : Nat) : Dev :=
  let w := d.getF F.THERM_ZONE_LEVEL
  let d1 := d.setF F.THERM_ZONE_LEVEL (w - bits w (2 * z) 2 * 2 ^ (2 * z) + v * 2 ^ (2 * z))
  d1.setF F.THERM_STATUS_LEVEL ((List.range 13).foldl (fun m x => max m (d1.zoneLevel x)) 0)

/-- A zone enters a level (R469). -/
def Dev.enterLevel (d : Dev) (z v : Nat) : Dev :=
  if d.zoneLevel z = v then d
  else
    let d1 := d.putLevel z v
    match v with
    | 0 => d1.thermEvent 0 z 3 2
    | 1 => (d1.count C.THERM_WARN_CNT).thermEvent 0 z 1 0
    | _ => (d1.count C.THERM_THROTTLE_CNT).thermEvent 0 z 2 1

/-- ZONE_T of a zone. -/
def Dev.putZoneT (d : Dev) (z : Nat) (t : Int) : Dev :=
  d.setF (if z % 2 = 0 then F.THERM_ZONE_T_LOW else F.THERM_ZONE_T_HIGH) (wrapInt 16 t) (z / 2)

/-- Evaluate a zone that is not held. -/
def Dev.evalZone (d : Dev) (z : Nat) : Dev :=
  match d.controlTemp z with
  | none => (d.enterLevel z 2).putTherm { (d.enterLevel z 2).therm with requests := setAt d.therm.requests z 15 }
  | some t =>
    let d1 := (d.putZoneT z t).enterLevel z (nextLevel (d.zoneLevel z) t)
    let d2 := if sext 16 (d1.getF F.THERM_PEAK) < t then d1.setF F.THERM_PEAK (wrapInt 16 t) else d1
    d2.putTherm { d2.therm with requests := setAt d2.therm.requests z (if d2.zoneLevel z = 2 then shedRequest t else 0) }

/-- S_t takes a value: SHED.S_T here and in every engine (R202, R477). -/
def Dev.putShed (d : Dev) (v : Nat) : Dev :=
  if d.getF F.THERM_SHED_S_T = v then d
  else Dev.upto 128 (fun e d => d.setF F.ENG_SHED_S_T v e) ((d.setF F.THERM_SHED_S_T v).putTherm { d.therm with stepTick := d.tick })

/-- S_target and S_t follow the requests (R470). -/
def Dev.followShed (d : Dev) : Dev :=
  let target := d.therm.requests.foldl max 0
  let zone := ((List.range 13).find? (fun z => getAt 0 d.therm.requests z = target)).getD 0
  let was := d.getF F.THERM_SHED_S_TARGET
  let d1 := (d.setF F.THERM_SHED_S_TARGET target).setF F.THERM_SHED_ZONE (if target = 0 then 0 else zone)
  let s := d1.getF F.THERM_SHED_S_T
  if d1.flag F.THERM_CTRL_THROTTLE_EN = false then d1.putShed 0
  else if s < target then d1.putShed target
  else if target < s ∧ s ≤ was then d1.putTherm { d1.therm with stepTick := d1.tick }
  else d1

/-- HOTTEST, NVW_OK and ALMANAC.STATUS.TEMP_OK, and how long a valid actual reading has stood at or above 115 °C (R472, R475). -/
def Dev.showHottest (d : Dev) : Dev :=
  let valid := (List.range 38).filter (fun s => !d.sensorFailed s)
  let hot := valid.foldl (fun (b : Option Nat) s => match b with | none => some s | some x => if d.realReading x < d.realReading s then some s else some x) none
  let d1 := match hot with
    | some s => (d.setF F.THERM_HOTTEST_SENSOR s).setF F.THERM_HOTTEST_T (wrapInt 16 (d.realReading s))
    | none => d
  let d2 := (d1.setFlag F.THERM_STATUS_NVW_OK d1.flashTempOk).setFlag F.ALMANAC_STATUS_TEMP_OK d1.flashTempOk
  let late := valid.any (fun s => decide (deg 115 ≤ d2.realReading s))
  d2.putTherm { d2.therm with hotTick := if late then some (d2.therm.hotTick.getD d2.tick) else none }

/-- Whether the thermal readout samples: domain 182 is powered, warm resets included (R554). -/
def Dev.thermRuns (d : Dev) : Bool := d.phase == .run || d.phase == .warmReset || d.phase == .startHold || d.phase == .stopped

/-- HOLD_LEFT_MS of the hold that ends last. -/
def Dev.showHold (d : Dev) : Dev :=
  let left := d.therm.holds.foldl (fun m h => max m (100 - min 100 (4 * (d.tick - h.tick) / 1000000))) 0
  (d.setFlag F.THERM_STATUS_HOLD (!d.therm.holds.isEmpty)).setF F.THERM_SHED_HOLD_LEFT_MS left

/-- Every zone that is not held is evaluated, and what follows from it. -/
def Dev.evalZones (d : Dev) : Dev :=
  (((Dev.upto 13 (fun z d => if d.zoneHeld z then d else d.evalZone z) d).followShed).showHottest).showHold

/-- THERMAL_SAMPLE: the raw codes of the 38 sensors, and the zones at or above their restart threshold (R465 to R470). -/
def Dev.thermalSample (d : Dev) (raws : List Int) (comp : Nat) : Dev :=
  if d.phase = .shutdown then d.setF F.THERM_COMP_STATE comp
  else if d.thermRuns = false then d
  else
    let d1 := Dev.when (d.injecting 6) (fun d => d.inject 6) d
    (((d1.takeRaws raws).checkSensors).evalZones).setF F.THERM_COMP_STATE comp

/-- Ticks in 1 ms and in 100 ms. -/
def ticks1ms : Nat := 250000
def ticks100ms : Nat := 25000000

/-- SENSOR_HOLD_END (R467): the zone is evaluated again. -/
def Dev.sensorHoldEnd (d : Dev) (z : Nat) : Dev :=
  match d.therm.holds.find? (fun h => h.zone = z) with
  | none => d
  | some h =>
    if d.tick - h.tick < ticks100ms then d
    else
      let d1 := d.putTherm { d.therm with holds := d.therm.holds.filter (fun x => x.zone ≠ z) }
      let d2 := ((d1.setF F.THERM_LAST_EVENT_ZONE z).setF F.THERM_LAST_EVENT_CAUSE 5).setF F.THERM_LAST_EVENT_SENSOR 0
      (((d2.evalZone z).followShed).showHottest).showHold

/-- SHED_STEP_DOWN (R470). -/
def Dev.shedStepDown (d : Dev) : Dev :=
  let s := d.getF F.THERM_SHED_S_T
  if s ≤ d.getF F.THERM_SHED_S_TARGET ∨ d.tick - d.therm.stepTick < ticks1ms * d.getF F.THERM_CTRL_STEP_DOWN_MS then d
  else d.putShed (s - 1)

/-! ### Self-test of the comparators (R474) -/

/-- COMP_FAIL takes the outcome of a self-test; each comparator that fails it is logged. -/
def Dev.selfTestComps (d : Dev) (fails : Nat) : Dev :=
  let d1 := d.setF F.THERM_COMP_FAIL fails
  Dev.upto 26 (fun i d => if bit fails i then d.raise .therm 0 4 else d) d1

/-- The marks of failed sensors end (R466). -/
def Dev.clearSensorMarks (d : Dev) : Dev :=
  (Dev.upto 38 (fun s d => (d.setFlag F.THERM_SENSOR_FAILED false s).setF F.THERM_SENSOR_WHY 0 s) d).showFailed

end Sys2Proof.Machine
end

