-- ==== Sys2Proof/Machine/Lifecycle.lean ====
section
/-! DEFINITION. The Almanac as it is applied (R47 to R50), modes and their transitions (R11 to R19), start-up (R21 to R27, R556), Standby
(R348, R520), cold reset, thermal shutdown and thermal restart (R28, R33, R34, R472, R473). -/
namespace Sys2Proof.Machine

/-! ### Groups of registers -/

/-- The engine-die blocks, whose register entries apply at start-up step 11 (R47). -/
def engineDie (b : Block) : Bool := [Block.chan, .dispatch, .eng, .mem, .xlat, .decode].contains b

/-- The blocks that Standby leaves unpowered (R520). -/
def standbyOff (b : Block) : Bool :=
  [Block.sl, .bundle, .chan, .dispatch, .eng, .mem, .xlat, .eth, .ring, .twin, .decode, .audio, .preview].contains b

/-- The blocks that a warm reset resets and does not restore (R555). -/
def warmReset (b : Block) : Bool := [Block.almanac, .crc, .perturb, .dispatch, .eng, .decode].contains b

/-- The blocks of the keeper island (R512). -/
def keeperIsland (b : Block) : Bool := [Block.keeper, .cmd, .pwr].contains b

/-- The address of the register of a field key. -/
def keyAddr (k : Nat) : Nat := k / 32

/-- Every field that `f` selects back at its hardware value (R49 layer 1), with the note that its counter has saturated. -/
def Dev.dropRegs (d : Dev) (f : Nat → Bool) : Dev :=
  { d with regs := d.regs.filter (fun x => !f x.1), satNoted := d.satNoted.filter (fun a => !f (32 * a)) }

/-- The fields that `f` selects as another state holds them: what the firmware restores from its record (R555). -/
def Dev.keepCells (d old : Dev) (f : Nat → Bool) : Dev :=
  { d with regs := (old.regs.filter (fun x => f x.1)).foldl (fun l x => Cells.set resetField l x.1 x.2) (d.regs.filter (fun x => !f x.1)) }

/-- The statistics and error counters of the blocks that `f` selects are cleared (R28). -/
def Dev.clearBlockCounters (d : Dev) (f : Block → Bool) : Dev :=
  Dev.each (ctrRows.filter (fun r => f r.block)) (fun r d =>
    Dev.upto r.n1 (fun i d => Dev.upto r.n2 (fun j d => d.clearCtr r.ctr i j) d) d) d

/-- The AUDIO fields that the firmware keeps a record of: port settings, masks, gains and routes (R440, R555). -/
def audioKept (k : Nat) : Bool :=
  let a := keyAddr k
  if a < 0xA0040 then false
  else if a < 0xA0140 then [0x00, 0x08, 0x0C, 0x18, 0x1C, 0x20, 0x24].contains ((a - 0xA0040) % 0x40)
  else if a < 0xA01C0 then k % 32 == 0
  else decide (a < 0xA0200) && [0, 1, 2, 12, 13, 16].contains (k % 32)

/-! ### The Almanac as applied -/

/-- Whether a section holds numbered entries (R48). -/
def hasEntries (t : Nat) : Bool := t == 4 || t == 7

/-- The values of a section that are skipped, by entry number (R48): of a section with entries, each entry that fails; of another, each field out
of its range; a section whose length is not one R47 gives is skipped whole (DEDUCED, log entry 80). -/
def skippedValues (s : AlmSection) (kind : Nat) : List Nat :=
  if hasEntries s.type then
    ((Sys2Proof.Machine.records (recordShape s.type).1 s.bytes).zipIdx.filter (fun p => !recordOk s.type kind p.1)).map (·.2)
  else if shapeOk s = false then [0]
  else ((rangedFields s.type).filter (fun o => !fieldOk s.type o (leAt s.bytes o 1))).map (fun _ => 0)

/-- Log what one image's sections hold outside the ranges of R47 (R48). -/
def Dev.noteSkips (d : Dev) (im : Option AlmImage) (kind : Nat) : Dev :=
  match im with
  | none => d
  | some i =>
    Dev.each (i.sections.filter (fun s => s.type ≠ 1)) (fun s d => Dev.each (skippedValues s kind) (fun n d => d.skipEntry s.type n) d) d

/-- DESC, OFFSET, LENGTH and CRC of every section as applied (the ALMANAC registers). -/
def Dev.showSections (d : Dev) (fac user : Option AlmImage) : Dev :=
  Dev.upto 14 (fun n d =>
    let t := n + 1
    let f := fac.bind (fun i => i.sec t)
    let u := user.bind (fun i => i.sec t)
    let merged := [1, 4, 7, 11].contains t
    let u2 := if merged then u else u.filter shapeOk
    let src := match f, u2 with | none, none => 0 | some _, none => 1 | none, some _ => 2 | some _, some _ => if merged then 3 else 2
    let d0 := d.setF F.ALMANAC_DESC_SOURCE src n
    match u2.orElse (fun _ => f) with
    | none => (((d0.setF F.ALMANAC_DESC_VERSION 0 n).setF F.ALMANAC_OFFSET 0 n).setF F.ALMANAC_LENGTH 0 n).setF F.ALMANAC_CRC 0 n
    | some s => (((d0.setF F.ALMANAC_DESC_VERSION s.version n).setF F.ALMANAC_OFFSET s.offset n).setF F.ALMANAC_LENGTH s.length n).setF F.ALMANAC_CRC s.crc n) d

/-- Six bytes, or more, as a number with the first byte lowest. -/
def netRecords (im : Option AlmImage) : List (List Byte) :=
  match im.bind (·.sec 11) with | some s => records 26 s.bytes | none => []

/-- The addresses of port `p`: the user image's record in place of the factory's (R47). -/
def netRecord (fac user : Option AlmImage) (p : Nat) : Option (List Byte) := (netRecords user)[p]?.orElse (fun _ => (netRecords fac)[p]?)

/-- What the sections in force say beside registers (R47). -/
def almSettings (fac user : Option AlmImage) : AlmSettings :=
  let sec := sectionInForce fac user
  let fld := fun (t o n hw : Nat) => (fieldInForce fac user t o n).getD hw
  let net := fun (p : Nat) => (netRecord fac user p).getD (leBytes 26 0)
  { reserve := fld 8 0 1 8
    margin := fld 8 1 2 50
    floorEffort := fld 8 3 1 4
    rescue := (recordsInForce fac user 7).map (fun r => (leAt r 0 1, leAt r 1 1, leAt r 4 4))
    keys := (records 16 ((sectionInForce none user 9).getD [])).map (fun r => (leAt r 0 2, leAt r 2 2, leAt r 4 12))
    pasr := (records 16 ((sec 10).getD [])).map (fun r => (leAt r 0 8, leAt r 8 8))
    macs := [leAt (net 0) 0 6, leAt (net 1) 0 6]
    ip4s := [leAt (net 0) 6 4, leAt (net 1) 6 4]
    ip6s := [leAt (net 0) 10 16, leAt (net 1) 10 16]
    serial := leAt ((sectionInForce fac none 13).getD []) 0 8
    lot := leAt ((sectionInForce fac none 13).getD []) 8 8
    prefOverride := fld 3 1 1 0
    gangEnable := fld 3 6 1 0 != 0
    twinEnable := fld 3 0 1 0 != 0 }

/-- THERMTRIM (R465). -/
def thermTrim (fac : Option AlmImage) : List (Int × Nat) :=
  let b := (sectionInForce fac none 6).getD []
  (List.range 38).map (fun s => (sext 16 (leAt b (8 * s) 2), leAt b (8 * s + 2) 2))

/-- Register entries of both images on the blocks that `on` selects (R49 layers 2 and 3). -/
def Dev.layer (d : Dev) (fac user : Option AlmImage) (on : Block → Bool) (log : Bool) : Dev :=
  let one := fun (im : Option AlmImage) (d : Dev) => match im with | some i => d.applyRegisters i on log | none => d
  one user (one fac d)

/-- Start-up step 4: the copy is chosen, and what the images hold is applied to the keeper die (R47, R50). -/
def Dev.applyAlmanac (d : Dev) : Dev :=
  let im := d.imagesInForce
  let d1 := (d.setF F.ALMANAC_STATUS_APPLIED (chosenCopy (d.validImage 1) (d.validImage 2))).showAlmanac
  let d2 := (((d1.noteSkips im.1 0).noteSkips im.2 1).showSections im.1 im.2).layer im.1 im.2 (fun b => !engineDie b) true
  { d2 with alm := almSettings im.1 im.2, almUser := im.2, therm := { d2.therm with trim := thermTrim im.1 } }

/-- NETID (R47): the addresses of the ports. -/
def Dev.applyNetId (d : Dev) (fac user : Option AlmImage) : Dev :=
  Dev.upto 2 (fun p d =>
    match netRecord fac user p with
    | none => d
    | some r =>
      let d1 := ((d.setF F.ETH_PORT_MAC_LO (leAt r 0 4) p).setF F.ETH_PORT_MAC_HI (leAt r 4 2) p).setF F.ETH_PORT_IPV4 (leAt r 6 4) p
      (((d1.setF F.ETH_PORT_IPV6_0 (leAt r 10 4) p).setF F.ETH_PORT_IPV6_1 (leAt r 14 4) p).setF F.ETH_PORT_IPV6_2 (leAt r 18 4) p).setF
        F.ETH_PORT_IPV6_3 (leAt r 22 4) p) d

/-- IDENTITY (R47): the pair and the gang. -/
def Dev.applyIdentity (d : Dev) (fac user : Option AlmImage) : Dev :=
  let put := fun (o n : Nat) (f : Nat → Dev → Dev) (d : Dev) => match fieldInForce fac user 3 o n with | some v => f v d | none => d
  let d1 := put 2 4 (fun v d => d.setF F.TWIN_PAIR_ID v) (put 0 1 (fun v d => d.setFlag F.TWIN_CFG_ENABLE (v != 0)) d)
  let d2 := put 7 1 (fun v d => d.setF F.RING_CFG_MEMBER v) (put 6 1 (fun v d => d.setFlag F.RING_CFG_ENABLE (v != 0)) d1)
  put 8 4 (fun v d => d.setF F.RING_RING_ID v) d2

/-- BUNDLES (R47, R123): the bundles that train by themselves. -/
def Dev.applyBundles (d : Dev) (fac user : Option AlmImage) : Dev :=
  match sectionInForce fac user 12 with
  | none => d
  | some b => Dev.upto 16 (fun k d => d.setFlag F.BUNDLE_CFG_AUTO (bit (leAt b 0 2) k) k) d

/-- RESERVE's margin, in every dispatcher, where a RESERVE section is in force; over what REGISTERS entries gave the field, since which of the two
acts last is open (DESIGN CHOICE, log entry 82). -/
def Dev.applyReserve (d : Dev) (fac user : Option AlmImage) : Dev :=
  match fieldInForce fac user 8 1 2 with
  | some v => Dev.upto 8 (fun c d => d.setF F.DISPATCH_RESCUE_MARGIN_US v c) d
  | none => d

/-- The digests follow what has been applied (R280, R314). -/
def Dev.showDigests (d : Dev) : Dev := (d.showDigest).showRingDigest

/-! ### Links and ports -/

/-- The twin link and the ring start as the Almanac identity says (R22 step 10, R29 step 5). -/
def Dev.linksStart (d : Dev) : Dev :=
  let d1 := if d.flag F.TWIN_CFG_ENABLE && !d.fenced 8 0 then (d.enterOffering).linkSeek false else d.claimPref
  if d1.flag F.RING_CFG_ENABLE && !d1.fenced 9 0 then d1.ringJoin none else d1

/-- A port is down, uncounted: its block is unpowered or in reset (R37). -/
def Dev.portOff (d : Dev) (p : Nat) : Dev :=
  let d1 := ((d.setFlag F.ETH_STATUS_LINK false p).setFlag F.ETH_STATUS_FEC_LOCK false p).setFlag F.ETH_STATUS_AN_DONE false p
  (Dev.upto 4 (fun i d => d.setFlag F.ETH_LANE_LOCK false p i) d1).showOwnPath

/-- The transmitters of the twin link and the ring go idle, and the bypass closes (R29, R37, R38). -/
def Dev.linksOff (d : Dev) : Dev :=
  let d1 := d.twinQuit
  let d2 := (d1.linkDown true).setFlag F.RING_STATE_BYPASS true
  (d2.putRing { d2.ring with joined := false, bypassWanted := none }).setF F.RING_STATE_ROLE 0

/-! ### Domains at a start -/

/-- The states of the domains as a start leaves them (R22, R452): engines and entropy units Off, dispatchers Gated, the others Active
where their row of R452 allows it. The alarms a thermal restart finds armed stay so (R28). -/
def Dev.startDomains (d : Dev) : Dev :=
  let d0 := { d with power := { alarms := d.power.alarms } }
  ((Dev.upto 183 (fun n d =>
    let floor := d.domFloor n
    let s := if n < 128 then 3 else if n < 136 then (if d.fenced 4 (n - 128) then 3 else 1) else if floor = 3 then 3 else 0
    (d.setF F.PWR_DOM_FLOOR floor n).setDomState n s) d0).showDomains).updPlls

/-- The clocks of step 2: the resonator stable, the PLLs of the keeper die locked (R459, R460). -/
def Dev.clocksStart (d : Dev) : Dev :=
  let d1 := ((d.setFlag F.CLK_STATUS_RES_RUN true).setFlag F.CLK_STATUS_RES_STABLE true).setFlag F.CLK_STATUS_KOSC_OK true
  let lock := fun (i : Nat) (d : Dev) => if d.fenced 11 i then d else (d.pllLocked i (d.freeBits 16 % (pllLockMax i + 1))).drawn
  Dev.each [180, 181, 182] (fun n d => d.setDomState n 0) (lock 16 (lock 1 (lock 0 d1)))

/-! ### The memory at a start (R337, R338) -/

/-- The MEMCAL record of pseudo-channel `n`. -/
def memRecord (fac : Option AlmImage) (n : Nat) : List Byte := (((sectionInForce fac none 5).getD []).drop (64 * n)).take 64

/-- Whether a record is VALID, not RETIRED, and passes its CRC. -/
def memRecordOk (r : List Byte) : Bool :=
  decide (r.length = 64) && bit (leAt r 2 1) 0 && !bit (leAt r 2 1) 1 && crcOf 1 (r.take 2) (r.take 60) == leAt r 60 4

/-- Step 8: every record is written to its PHY, and a bad one fences its pseudo-channel. -/
def Dev.memLoad (d : Dev) (fac : Option AlmImage) : Dev :=
  let d1 := Dev.upto 4 (fun k d => (d.setFlag F.MEM_CAL_LOADED true k).setF F.MEM_CAL_BAD_RECORDS 0 k) d
  Dev.upto 128 (fun n d =>
    let k := n / 32
    if memRecordOk (memRecord fac n) then d
    else (d.setF F.MEM_CAL_BAD_RECORDS (d.getF F.MEM_CAL_BAD_RECORDS k + 1) k).failUnit 5 n (d.getF F.MEM_FAULT_KIND k)) d1

/-- Step 9: the pattern test, then each controller's own check. -/
def Dev.memTest (d : Dev) (phys : Nat) (pcs : List Nat) : Dev :=
  let d1 := Dev.each (pcs.filter (fun n => decide (n < 128))) (fun n d => d.failUnit 5 n (d.getF F.MEM_FAULT_KIND (n / 32))) d
  Dev.upto 4 (fun k d =>
    let d2 := d.setFlag F.MEM_CAL_TESTED true k
    if bit phys k then (d2.memFault (32 * k) 5 0 0).failUnit 6 k 5
    else if 8 ≤ d2.getF F.MEM_STATUS_FENCED_PCS k then d2.failUnit 6 k (d2.getF F.MEM_FAULT_KIND k)
    else d2.setFlag F.MEM_STATUS_READY (!d2.fenced 6 k) k) d1

/-- The stacks leave self-refresh with their calibration reloaded (R338, R348). -/
def Dev.memBack (d : Dev) : Dev :=
  Dev.upto 4 (fun k d =>
    ((((d.setFlag F.MEM_STATUS_SELF_REFRESH false k).setFlag F.MEM_STATUS_PASR false k).setFlag F.MEM_CAL_LOADED true k).setFlag F.MEM_CAL_TESTED true k).setFlag
      F.MEM_STATUS_READY (!d.fenced 6 k) k) d

/-- Every stack enters self-refresh, every owed refresh paid (R345, R348). -/
def Dev.memSleep (d : Dev) (pasr : Bool) : Dev :=
  let d1 := Dev.upto 4 (fun k d => ((d.setFlag F.MEM_STATUS_SELF_REFRESH true k).setFlag F.MEM_STATUS_PASR pasr k).setFlag F.MEM_STATUS_READY false k) d
  Dev.upto 128 (fun n d =>
    let due := (if d.fenced 5 n then 0 else (d.owed n).toNat)
    let e := if due = 0 then d else (d.count C.MEM_REFRESHES (n / 32) 0 due).maxF F.MEM_STALL_MAX (210 * due) (n / 32)
    (e.putPc n { idleTick := d.tick, hot := (d.pc n).hot }).putOwedU n 0) d1

/-- The flags of every fence, after registers have been reset (R481). -/
def Dev.showAllFences (d : Dev) : Dev := Dev.each d.fences (fun u d => d.showFence u.1 u.2 true) d

/-! ### Modes -/

/-- Where a transition may not be made: its status (R14). -/
def Dev.modeCheck (d : Dev) (target : Nat) : Option Status :=
  let hot := (List.range 13).any (fun z => match d.controlTemp z with | some t => decide (deg 105 ≤ t) | none => true)
  match d.mode, target with
  | 0, 1 | 1, 5 | 5, 1 => none
  | 1, 0 => if d.chans.any (fun c => d.chanState c.1 != 0) then some .busy else none
  | 1, 2 | 1, 3 | 1, 4 => if hot then some .tempForbids else none
  | 2, 1 => if d.chans.any (fun c => decide (2 ≤ d.chanState c.1)) then some .busy else none
  | 3, 1 => if d.chans.any (fun c => match c.2.harvest with | some h => h.phase != .frozen | none => false) then some .busy else none
  | 4, 1 => if d.decs.any (fun x => !x.2.ended) then some .busy else none
  | _, _ => some .wrongMode

/-- The firmware's KEEPER event of `code` (R483): ARG0 MODE, ARG1 START_TIME.MS; bit `k` of INT_STATUS. -/
def Dev.keeperEvent (d : Dev) (code k : Nat) : Dev :=
  (d.logEvent .keeper code 0 d.mode (d.getF F.KEEPER_START_TIME_MS)).setInt .keeper 0 k

/-- Ask and block in Maintenance, normal service elsewhere (R223). -/
def Dev.askAll (d : Dev) (on : Bool) : Dev := Dev.upto 8 (fun c d => d.setFlag F.DISPATCH_CTRL_ASK_BLOCK (on || d.flag F.DISPATCH_CTRL_RECOVERY c) c) d

/-- The pieces of the ranges that partial self-refresh keeps, by the banks they touch (R348): whether a pseudo-channel's bank is kept. -/
def Dev.pasrKeeps (d : Dev) (a : Nat) : Bool :=
  match d.regionAt a with
  | none => false
  | some r =>
    let x := d.placeIn r a
    d.pasrPieces.any (fun g =>
      let first := g.1 / 32
      (List.range (ceilDiv g.2 32)).any (fun i =>
        let v := 32 * (first + i)
        match d.regionAt v with
        | none => false
        | some q => let y := d.placeIn q v; y.pc == x.pc && y.bank == x.bank))

/-- Whether the addresses from `lo` up to but not including `hi` lie within the ranges, taken together. -/
def inRanges (gs : List (Nat × Nat)) (hi : Nat) : Nat → Nat → Bool
  | 0, lo => decide (hi ≤ lo)
  | n + 1, lo =>
    if hi ≤ lo then true
    else match gs.find? (fun g => decide (g.1 ≤ lo) && decide (lo < g.1 + g.2)) with
      | some g => inRanges gs hi n (g.1 + g.2)
      | none => false

/-- Whether a FROZEN capture survives Standby: its whole buffer, in each part of the Harvest region, lies within the PASR ranges (R153). -/
def Dev.captureKept (d : Dev) (h : Harvest) : Bool :=
  match d.regionOf 4 with
  | none => false
  | some r =>
    let part := d.getF F.MEM_REGION_MAP_PC_LEN 0 r * 2 ^ 24 * 16
    (List.range (min (groupCount (d.regMask r)) h.slots)).all (fun i =>
      let lo := d.regionBase r + i * part + h.base * 4096
      inRanges d.pasrPieces (lo + h.stripes * 4096) d.pasrPieces.length lo)

/-- Standby is entered: what R520 leaves unpowered stops, and the stacks sleep (R348, R440). -/
def Dev.standbyEnter (d : Dev) : Dev :=
  let d1 := Dev.upto 16 (fun b d => d.bundleDown b) d
  let d2 := Dev.upto 2 (fun p d => d.portOff p) d1
  let pasr := !d2.alm.pasr.isEmpty
  let d3 := (((d2.endProposals).endExchange).linksOff).memSleep pasr
  let d4 := if pasr then { d3 with hbm := d3.hbm.filter (fun x => d3.pasrKeeps (if x.1 < 2 ^ 37 then x.1 else (x.1 - 2 ^ 37) / 2 * 32)) } else d3
  let d5 := { d4 with keptCaptures := d4.keptCaptures.filter (fun x => d4.captureKept x.2.1), power := {}, tasks := [], caches := [] }
  let d6 := Dev.upto 183 (fun n d => (d.setFlag F.PWR_DOM_ALARM false n).setDomState n (if n < 180 then 3 else if n < 182 then 2 else 0)) d5
  (d6.setFlag F.PCIE_LINK_L1_2 true).showDomains.updPlls

/-- AMCLK begins to qualify where the AUDIO block, which has just taken its values, enables it (R462). -/
def Dev.amclkStart (d : Dev) : Dev := if d.flag F.AUDIO_CTRL_AMCLK_EN then d.qualStart 2 else d.qualStop 2

/-- The references that the values of a start-up enable begin to qualify (R402, R462). -/
def Dev.refsStart (d : Dev) : Dev :=
  let src := d.getF F.TB_DISC_SRC
  (if src = 1 ∨ src = 2 then (d.qualStart (src - 1)).discSource src else d).amclkStart

/-- BUNDLE.STATE.CAP and CAPPED, which hold until BUNDLE-TRAIN, a BUNDLE-CONFIGURE of CFG or a cold reset (R110). -/
def rateCap (k : Nat) : Bool := (List.range 16).any (fun b => k == F.BUNDLE_STATE_CAP.key b 0 || k == F.BUNDLE_STATE_CAPPED.key b 0)

/-- Standby is left (R520): hardware values, then the Almanac's, counters at 0; the audio settings return from the firmware's record
and started streams restart (R440); bundles and links start. -/
def Dev.standbyLeave (d : Dev) : Dev :=
  let off := fun (k : Nat) => standbyOff (blockOf (keyAddr k)) && !audioKept k && !decide (0x680100 ≤ keyAddr k ∧ keyAddr k < 0x680200)
  let user := d.appliedUser
  let fac := d.validImage 0
  let d1 := (d.setFlag F.PCIE_LINK_L1_2 false).dropRegs off
  let d2 := { d1 with lanes := [], bundles := [], merged := [], twin := { prefOwn := d1.twin.prefOwn }, ring := {}, eth := [{}, {}], ptp := {}, fresh := [], prev := { arrays := d1.prev.arrays } }
  let d3 := ((d2.layer fac user standbyOff false).setF F.ALMANAC_ENTRIES (d.getF F.ALMANAC_ENTRIES)).keepCells d (fun k => audioKept k || rateCap k)
  let d4 := ((((d3.applyNetId fac user).applyIdentity fac user).applyBundles fac user).applyReserve fac user).showAllFences
  let d5 := (((d4.amclkStart).memBack).showDigests).showEgress
  ((d5.showShed).linksStart).bundlesStart

/-- What a mode that is left, or entered, takes with it (R14, R470, R494). -/
def Dev.modeEffects (d : Dev) (old new : Nat) : Dev :=
  let d1 := if old = 2 ∨ old = 5 then d.pertClearMask 127 else d
  let d2 := if old = 5 then d1.setFlag F.THERM_CTRL_THROTTLE_EN true else d1
  let d3 := if new = 5 then (d2.setFlag F.PERTURB_STATUS_LOCKED false).setF F.PERTURB_STATUS_REFUSALS 0 else d2
  let d4 := if new = 0 then d3.standbyEnter else if old = 0 then d3.standbyLeave else d3
  d4.askAll (new == 5)

/-- The results of SET-MODE: MODE (1), reserved (3). -/
def Dev.modeResult (d : Dev) : List Byte := leBytes 1 d.mode ++ leBytes 3 0

/-- A transition is complete (R14): KEEPER.MODE.MODE equals the target. -/
def Dev.modeDone (d : Dev) (j : ModeJob) : Dev :=
  let d1 := (d.setF F.KEEPER_MODE_MODE j.target).setF F.KEEPER_MODE_TARGET j.target
  let d2 := ((d1.setFlag F.KEEPER_MODE_BUSY false).modeEffects j.from_ j.target).keeperEvent 0x42 0
  let wake := fun (n : Nat) (d : Dev) =>
    if n < 128 then d else if d.domFloor n = 0 ∧ d.flag F.PWR_DOM_FENCED n = false then d.setDomState n 0 else d
  let d3 := ((Dev.upto 183 wake d2).updPlls).updHolds
  let d4 := { d3 with modeJob := none }.serviceLatches
  match j.cmd with
  | none => d4.setF F.KEEPER_START_STEP_STEP 0xFF
  | some c => (d4.commitPoint c).finish c 0x0002 .ok 0 d4.modeResult

/-- A STARTED channel is stopped by a transition (R15): through a proposal where it is LOCKED and the peer answers. -/
def Dev.transitionStop (d : Dev) (n : Nat) : Dev :=
  let named := fun (p : Proposal) => p.entries.any (fun e => e.1 = n)
  if d.chanState n ≠ 2 ∨ (d.chan n).stopAt.isSome = true ∨ (d.twin.own.any named || d.twin.waiting.any named) = true then d
  else if d.proposes n ∧ d.twinUp = true ∧ d.twin.lost = false then
    d.propose {} 0x0204 [n] (leBytes 1 n ++ leBytes 3 0) false true
  else d.modeStop n

/-- Whether some channel has still to stop. -/
def Dev.stopping (d : Dev) : Bool := d.chans.any (fun c => decide (2 ≤ d.chanState c.1))

/-- A transition begins (R14 to R16). -/
def Dev.modeBegin (d : Dev) (cmd : Option Ctx) (target : Nat) : Dev :=
  let j : ModeJob := { cmd := cmd, from_ := d.mode, target := target }
  let d1 := ({ d with modeJob := some j }.setF F.KEEPER_MODE_TARGET target).setFlag F.KEEPER_MODE_BUSY true
  if 2 ≤ target ∧ target ≤ 4 then d1
  else if target = 1 ∧ 3 ≤ d.mode then
    let d2 := Dev.each (d1.chans.map (·.1)) (fun n d => d.transitionStop n) d1
    let d3 := if d.mode = 5 then Dev.each (d2.decs.map (·.1)) (fun k d => (d.endContext k).endFeed k) d2 else d2
    if d3.stopping then d3 else d3.modeDone j
  else d1.modeDone j

/-- SET-MODE is checked and carried out (R14, R17). -/
def Dev.setModeNow (d : Dev) (c : Ctx) (target : Nat) : Dev :=
  if target = d.mode then (d.commitPoint c).finish c 0x0002 .ok 0 d.modeResult
  else match d.modeCheck target with
    | some st => d.finish c 0x0002 st
    | none => d.modeBegin (some c) target

/-- Whether a SET-MODE has to wait: for a transition (R17), or for a commit or revert of the Almanac (R59). -/
def Dev.modeHeld (d : Dev) : Bool := d.modeJob.isSome || d.flashJob.isSome

/-- The SET-MODEs that wait follow in acceptance order, as far as they may start now: of `n` that wait. -/
def Dev.nextModes : Nat → Dev → Dev
  | 0, d => d
  | n + 1, d =>
    if d.modeHeld then d
    else match d.modeWait with
      | [] => d
      | (c, t) :: rest => Dev.nextModes n (({ d with modeWait := rest }).setModeNow c t)

/-- The check of SET-MODE before acceptance (R500). -/
def chkSetMode (target : Nat) : Option (Status × Nat) := if 5 < target then some (.badParam, 0x0A) else none

/-- SET-MODE (R14, R17, R59). -/
def runSetMode (c : Ctx) (target : Nat) (d : Dev) : Dev :=
  if d.modeHeld || !d.modeWait.isEmpty then { d with modeWait := d.modeWait ++ [(c, target)] } else d.setModeNow c target

/-- MODE_TRANSITION_END (R15): the last of the stops is complete; a stop that a failed proposal left undone is made again. -/
def Dev.modeTransitionEnd (d : Dev) : Dev :=
  match d.modeJob with
  | none => d
  | some j =>
    if j.target ≠ 1 then d
    else
      let d1 := Dev.each (d.chans.map (·.1)) (fun n d => d.transitionStop n) d
      if d1.stopping then d1 else Dev.nextModes d.modeWait.length (d1.modeDone j)

/-- ENGINE_GROUP_POWER (R16): the next eight engines are powered; with the last the transition is complete. -/
def Dev.engineGroup (d : Dev) : Dev :=
  match d.modeJob with
  | none => d
  | some j =>
    if j.target < 2 ∨ 5 ≤ j.target then d
    else
      let es := (List.range 8).map (fun k => 8 * j.groups + k)
      let d1 := Dev.each es (fun e d => if d.flag F.PWR_DOM_FENCED e then d else (d.setDomState e 0).showAt e) d
      let j2 := { j with groups := j.groups + 1 }
      if j2.groups < 16 then { d1 with modeJob := some j2 }
      else
        let d2 := Dev.upto 8 (fun c d => if d.fenced 4 c then d else d.setDomState (128 + c) 0) d1
        Dev.nextModes d.modeWait.length (d2.modeDone j2)

/-! ### Start-up (R21 to R27, R556) -/

/-- Step `k` of the start-up table is complete. -/
def Dev.stepDone (d : Dev) (x : StartInfo) (k : Nat) : Dev :=
  (d.setF F.KEEPER_START_STEP_STEP k).setF F.KEEPER_STEP_US (getAt 0 x.micros (k - 1)) (k - 1)

/-- Start-up stops at a step (R26). -/
def Dev.startFail (d : Dev) (step code : Nat) : Dev :=
  let d1 := (d.setF F.KEEPER_START_STEP_FAIL_STEP step).setF F.KEEPER_START_STEP_FAIL_CODE code
  { ((d1.setFlag F.KEEPER_MODE_BUSY false).setF F.KEEPER_MODE_TARGET 0) with phase := .stopped }

/-- Whether some valid sensor's actual reading is at or above `t` °C. -/
def Dev.anyAbove (d : Dev) (t : Int) : Bool :=
  (List.range 38).any (fun s => !d.sensorFailed s && decide (deg t ≤ d.realReading s))

/-- A LIFE event (R550). -/
def Dev.logLife (d : Dev) : Dev :=
  d.logEvent .keeper 0x45 0 d.life.hours (wrapInt 16 d.life.mean + 65536 * (d.life.slow % 65536))

/-- Step 13 (R556): the boot target is entered, its time recorded, or refused. -/
def Dev.bootTarget (d : Dev) (us : Nat) : Dev :=
  let t := d.getF F.KEEPER_MODE_BOOT_TARGET
  let timed := d.setF F.KEEPER_STEP_US us 12
  if t ≤ 1 then (timed.setF F.KEEPER_START_STEP_STEP 0xFF).setFlag F.KEEPER_MODE_BUSY false
  else match d.modeCheck t with
    | none => timed.modeBegin none t
    | some st => (d.logEvent .keeper 0x46 0 t st.code).setFlag F.KEEPER_MODE_BUSY false

/-- Every journaled command is completed with FAULT (R34). -/
def Dev.faultJournal (d : Dev) : Dev :=
  let d1 := Dev.each d.journal (fun e d => d.finish { client := e.client, tag := e.tag } e.opcode .fault) d
  d1.setF F.CMD_JOURNAL_FREE 16384

/-- Steps 7 to 9: the memory and the fences. -/
def Dev.startMemory (d : Dev) (x : StartInfo) : Dev :=
  let fac := d.validImage 0
  let d8 := ((((d.stepDone x 7).memLoad fac).stepDone x 8).memTest x.phys x.pcs).ownTable
  let old := d8.fences
  let listed := recordsInForce fac d.appliedUser 4
  ((d8.setF F.ALMANAC_FENCES listed.length).applyFences listed).fencesSince old

/-- Whether some stack can be used (R27). -/
def Dev.hasMemory (d : Dev) : Bool := !(List.range 4).all (fun k => d.fenced 6 k)

/-- The boot target of the Almanac (R48, R556): that of the BOOT section in force, else what the register holds, its hardware value 1 or that of a
REGISTERS entry (DESIGN CHOICE, log entry 82). -/
def Dev.bootMode (d : Dev) : Nat := (fieldInForce (d.validImage 0) d.appliedUser 2 0 1).getD (d.getF F.KEEPER_MODE_BOOT_TARGET)

/-- Steps 7 to 13. -/
def Dev.startLate (d : Dev) (x : StartInfo) : Dev :=
  let fac := d.validImage 0
  let user := d.appliedUser
  let d9 := d.startMemory x
  if d9.hasMemory = false then d9.startFail 9 3
  else
    let d9b := (if d9.journal.isEmpty then d9.setF F.CMD_JOURNAL_FREE 16384 else d9).stepDone x 9
    let d10 := ((((d9b.applyNetId fac user).applyIdentity fac user).applyBundles fac user)).stepDone x 10
    let d11 := (((d10.layer fac user engineDie false).applyReserve fac user).showShed).stepDone x 11
    let d12 := { d11 with life := { d11.life with slow := x.slow } }.logLife
    let d13 := (((d12.setF F.KEEPER_MODE_MODE 1).setF F.KEEPER_MODE_TARGET 1).setF F.KEEPER_START_TIME_MS (getAt 0 x.micros 11 / 1000)).setFlag F.KEEPER_START_TIME_WARM false
    let d14 := { ((d13.stepDone x 12).setFlag F.CMD_STATUS_READY true) with phase := .run }
    let d15 := (((((d14.showDigests).linksStart).bundlesStart).startDomains).updHolds).keeperEvent 0x40 1
    let d16 := ((d15.faultJournal).serviceLatches)
    { (d16.setF F.KEEPER_MODE_BOOT_TARGET d.bootMode).bootTarget (getAt 0 x.micros 12) with phase := .run }

/-- Step 2: the clocks. -/
def Dev.startClocks (d : Dev) (x : StartInfo) : Dev :=
  let d0 := (((d.setF F.KEEPER_MODE_TARGET 1).setFlag F.KEEPER_MODE_BUSY true).setF F.KEEPER_START_STEP_FAIL_STEP 0).setF F.KEEPER_START_STEP_FAIL_CODE 0
  (d0.clocksStart).stepDone x 2

/-- Step 3: the firmware image. -/
def Dev.startFirmware (d : Dev) (x : StartInfo) : Dev :=
  ((d.startClocks x).setF F.KEEPER_FW_VERSION (0x03020000 + x.version % 65536)).stepDone x 3

/-- Whether the PCIe configuration space and the LTSSM are ready: from step 5 of a start-up on (R24). -/
def Dev.pcieReady (d : Dev) : Bool :=
  d.phase != .coldReset && d.phase != .shutdown && d.phase != .clockStop && decide (5 ≤ d.getF F.KEEPER_START_STEP_STEP)

/-- The LTSSM has left Detect and trained the link (R24); its state codes are open. -/
def Dev.pcieTrain (d : Dev) (speed width lanes : Nat) : Dev :=
  let d1 := ((d.setF F.PCIE_LINK_LTSSM (d.freeBits 6)).drawn.setF F.PCIE_LINK_SPEED speed).setF F.PCIE_LINK_WIDTH width
  Dev.upto 16 (fun i d => d.setFlag F.PCIE_LANE_LOCK (bit lanes i) i) (d1.setFlag F.PCIE_LINK_DL_UP true)

/-- Step 5: a PERST_N that has been released before it lets the LTSSM enter Detect now (R24). -/
def Dev.startPcie (d : Dev) (x : StartInfo) : Dev :=
  let d1 := d.stepDone x 5
  match d1.perst with
  | some (s, w, l) => { d1 with perst := none }.pcieTrain s w l
  | none => d1

/-- Steps 4 to 6: the Almanac and the first readings. -/
def Dev.startSensed (d : Dev) (x : StartInfo) : Dev :=
  let d5 := ((((d.startFirmware x).applyAlmanac).refsStart).stepDone x 4).startPcie x
  let d6 := (((({ d5 with phase := .startHold } : Dev).takeRaws x.raws).checkSensors).evalZones).selfTestComps x.comps
  d6.stepDone x 6

/-- Steps 2 to 6, and what follows unless start-up stops or holds (R25, R26, R27). -/
def Dev.startFrom2 (d : Dev) (x : StartInfo) : Dev :=
  if x.image = false then (d.startClocks x).startFail 3 1
  else if (d.validImage 0).isNone then (d.startFirmware x).startFail 4 2
  else if (d.startSensed x).anyAbove 105 then d.startSensed x
  else (d.startSensed x).startLate x

/-- Step 1, at the start reference. -/
def Dev.startBegin (d : Dev) (x : StartInfo) : Dev :=
  let d1 := { d with pwrok := true }.setFlag F.KEEPER_STRAPS_TWIN_PREF x.strap
  (Dev.upto 16 (fun b d => d.setFlag F.BUNDLE_FIFO_STATUS_HOLD true b) d1).stepDone x 1

/-- START_UP (R21, R22): at the start reference; after a thermal shutdown whose count is complete, as THERMAL_RESTART. -/
def Dev.startUp (d : Dev) (x : StartInfo) : Dev := if d.phase ≠ .coldReset then d else (d.startBegin x).startFrom2 x

/-- THERMAL_HOLD_END (R25): every sensor reads below 100 °C, and start-up goes on. -/
def Dev.thermalHoldEnd (d : Dev) (x : StartInfo) : Dev :=
  if d.phase ≠ .startHold ∨ d.anyAbove 100 = true then d else d.startLate x

/-- THERMAL_HOLD_TIMEOUT (R25, R26). -/
def Dev.thermalHoldTimeout (d : Dev) : Dev := if d.phase ≠ .startHold then d else d.startFail 7 4

/-! ### Cold reset and thermal shutdown -/

/-- Cold reset (R28): everything but the flash, with what the model itself keeps. -/
def Dev.cold (d : Dev) : Dev :=
  ({ flash := d.flash, life := d.life, free := d.free, out := d.out, tick := d.tick, pwrok := d.pwrok } : Dev)

/-- COLD_RESET (R542): RESET_N low. A thermal shutdown takes precedence over every reset (R19), so that THERMTRIP_N stays asserted and the device shut
down until the thermal restart begins (R40; DEDUCED, log entry 89). -/
def Dev.coldReset (d : Dev) : Dev := if d.therm.tripped then d else d.cold

/-- PWROK_FALL (R543): as RESET_N, but while THERMTRIP_N is asserted. -/
def Dev.pwrokFall (d : Dev) : Dev := if d.therm.tripped then { d with pwrok := false } else { d.cold with pwrok := false }

/-- What a thermal shutdown, or a warm reset of a start-up, leaves: the keeper island, the flash, the log and the fences (R28, R31). -/
def Dev.islandOnly (d : Dev) : Dev :=
  let d0 := d.dropRegs (fun k => !keeperIsland (blockOf (keyAddr k)))
  let d1 := d0.clearBlockCounters (fun b => b == .cmd || b == .pwr)
  let base := d.cold
  { base with
    regs := d1.regs, satNoted := d1.satNoted, evlog := d.evlog, fences := d.fences, queues := d.queues, windows := d.windows, journal := d.journal
    held := d.held, spiOut := d.spiOut, nextOrder := d.nextOrder, nextToken := d.nextToken, awaitBme := d.awaitBme, unread := d.unread
    power := { alarms := d.power.alarms } }.showAllFences

/-- The device shuts down (R472): `source` 1 comparator A, 2 comparator B, 3 the firmware. -/
def Dev.shutDown (d : Dev) (zone source : Nat) : Dev :=
  let w := d.getF F.THERM_LAST_TRIP_WAIT_S
  let t : Therm := { tripped := true, tripTick := d.tick, trim := d.therm.trim }
  let d1 := d.islandOnly
  let d2 := ((d1.setF F.THERM_LAST_TRIP_ZONE zone).setF F.THERM_LAST_TRIP_SOURCE source).setF F.THERM_LAST_TRIP_WAIT_S w
  let d3 := ((d2.setFlag F.KEEPER_RESET_CAUSE_THERMAL true).setF F.KEEPER_MODE_MODE 0).setF F.KEEPER_MODE_TARGET 1
  let d4 := (Dev.upto 183 (fun n d => d.setDomState n 3) (d3.setFlag F.KEEPER_MODE_BUSY true)).setFlag F.CMD_STATUS_READY false
  { d4 with phase := .shutdown, therm := t }

/-- Whether the shutdown comparators act: the keeper island is powered and out of cold reset. -/
def Dev.compsAct (d : Dev) : Bool := d.phase != .coldReset && d.phase != .shutdown && d.phase != .clockStop

/-- THERMAL_SHUTDOWN (R472, R474): a comparator that has failed its self-test does not count. -/
def Dev.thermalTrip (d : Dev) (zone comp : Nat) : Dev :=
  if d.compsAct = false ∨ bit (d.getF F.THERM_COMP_FAIL) (2 * zone + comp) = true then d else d.shutDown zone (1 + comp)

/-- FIRMWARE_TRIP (R472): a valid reading at or above 115 °C for 1 ms. -/
def Dev.firmwareTrip (d : Dev) : Dev :=
  match d.therm.hotTick with
  | none => d
  | some t =>
    if d.compsAct = false ∨ d.tick - t < ticks1ms then d
    else d.shutDown (sensorZone (d.getF F.THERM_HOTTEST_SENSOR)) 3

/-- What the restart of R33 begins from: the keeper island as it was; FAULT replies wait for Bus Master Enable (R88). -/
def Dev.thermalBegin (d : Dev) : Dev :=
  let trip := (d.getF F.THERM_LAST_TRIP_ZONE, d.getF F.THERM_LAST_TRIP_SOURCE, d.getF F.THERM_LAST_TRIP_WAIT_S)
  let d1 := (((d.dropRegs (fun k => !keeperIsland (blockOf (keyAddr k)))).setF F.THERM_LAST_TRIP_ZONE trip.1).setF F.THERM_LAST_TRIP_SOURCE trip.2.1).setF F.THERM_LAST_TRIP_WAIT_S trip.2.2
  let d2 := (Dev.upto 13 (fun k d => d.setF F.KEEPER_STEP_US 0 k) { d1 with therm := {}, awaitBme := true, phase := .coldReset }).showAllFences
  d2.logEvent .keeper 0x43 0 d2.mode (d2.getF F.KEEPER_START_TIME_MS)

/-- The restart of R33: start-up from step 2. -/
def Dev.thermalStart (d : Dev) (x : StartInfo) : Dev := d.thermalBegin.startFrom2 x

/-- THERMAL_RESTART (R473): the count is complete `waitS` seconds after the trip; with PWROK low the restart waits for it (R21). -/
def Dev.thermalRestart (d : Dev) (waitS : Nat) (x : StartInfo) : Dev :=
  if d.phase ≠ .shutdown ∨ d.getF F.THERM_COMP_STATE ≠ 0 then d
  else
    let d1 := d.setF F.THERM_LAST_TRIP_WAIT_S waitS
    if d1.pwrok then d1.thermalStart x else d1.putTherm { d1.therm with due := true }

/-- START_UP at either reference (R21, R473). -/
def Dev.startReference (d : Dev) (x : StartInfo) : Dev :=
  if d.phase = .shutdown ∧ d.therm.due = true then { d with pwrok := true }.thermalStart x else d.startUp x

/-! ### Links to the host, and the life record -/

/-- PERST_N_RELEASE (R24): the LTSSM, ready from step 5 on, trains the link; a release before that is acted on as step 5 completes. -/
def Dev.perstRelease (d : Dev) (speed width lanes : Nat) : Dev :=
  if d.pcieReady then d.pcieTrain speed width lanes else { d with perst := some (speed, width, lanes) }

/-- BUS_MASTER_ENABLE (R24, R88): a configuration write, which completes from step 5 on; the replies that waited for it are written. -/
def Dev.busMasterEnable (d : Dev) : Dev :=
  if d.pcieReady = false then d
  else
    let d1 := { d with awaitBme := false }.setFlag F.PCIE_LINK_BME true
    Dev.upto 64 (fun n d => d.flushReplies n) d1

/-- The life area of the flash (R550). -/
def lifeBase : Nat := 0x03F00000

/-- A slowdown measured while a write waits (R550): LIFE at once when it first reaches 3.00 %. -/
def Dev.slowMeasured (d : Dev) (slow : Nat) : Dev :=
  let d1 := { d with life := { d.life with slow := slow } }
  if d.life.slow < 300 ∧ 300 ≤ slow then d1.logLife else d1

/-- LIFE_RECORD (R550): 24 h more of operation, recorded where R475 allows a write, at the next free position; the record waits where it
does not. -/
def Dev.lifeRecord (d : Dev) (mean : Int) (slow : Nat) : Dev :=
  if d.phase ≠ .run then d
  else if d.flashTempOk = false then d.slowMeasured slow
  else
    let l := { d.life with hours := d.life.hours + 24, mean := mean, slow := slow }
    let full := 16384 ≤ l.next
    let d1 := if full then d.flashErase lifeBase 0x100000 else d
    let at_ := if full then 0 else l.next
    let d2 := d1.flashProgram (lifeBase + 64 * at_) ((Config.lifeRecord l.hours l.mean l.slow).take 64)
    ({ d2 with life := { l with next := at_ + 1 } }).logLife

end Sys2Proof.Machine
end

