-- ==== Sys2Proof/Machine/Check.lean ====
section
/-! DEFINITION. The check-value units (R443 to R451): START, FINISH, the feed registers, VALUE and CHECK-RUN. -/
namespace Sys2Proof.Machine

/-- Bytes of the guard for a GUARD_LEN code (R444): 0 none, 1 two, 2 four. -/
def guardBytes (code : Nat) : Nat := match code with | 0 => 0 | 1 => 2 | 2 => 4 | _ => 0

/-- The running value of unit `u`. -/
def Dev.crcValue (d : Dev) (u : Nat) : Nat := d.get64 F.CRC_VALUE_LO F.CRC_VALUE_HI u

/-- Replace the running value of unit `u`. -/
def Dev.putCrcValue (d : Dev) (u v : Nat) : Dev := d.set64 F.CRC_VALUE_LO F.CRC_VALUE_HI v u

/-- The 64-bit expected value of unit `u` (R447). -/
def Dev.crcExpected (d : Dev) (u : Nat) : Nat := getAt 0 d.crcExpect u

/-- EXPECT shows the half that EXP_SEL reaches (R447). -/
def Dev.showExpect (d : Dev) (u : Nat) : Dev :=
  let e := d.crcExpected u
  d.setF F.CRC_EXPECT (if d.flag F.CRC_CTRL_EXP_SEL u then e / 2 ^ 32 else e % 2 ^ 32) u

/-- A write to EXPECT replaces the half that EXP_SEL reaches (R447). -/
def Dev.writeExpect (d : Dev) (u v : Nat) : Dev :=
  let e := d.crcExpected u
  let e2 := if d.flag F.CRC_CTRL_EXP_SEL u then e % 2 ^ 32 + 2 ^ 32 * (v % 2 ^ 32) else v % 2 ^ 32 + 2 ^ 32 * (e / 2 ^ 32)
  ({ d with crcExpect := setAt d.crcExpect u e2 }).showExpect u

/-- START (R444): POLY and GUARD_LEN latched, the initial value loaded, the guard folded in. -/
def Dev.crcStart (d : Dev) (u : Nat) : Dev :=
  let poly := d.getF F.CRC_CTRL_POLY u
  let g := (leBytes 4 (d.getF F.CRC_GUARD u)).take (guardBytes (d.getF F.CRC_CTRL_GUARD_LEN u))
  let d1 := d.setF F.CRC_CTRL_ACTIVE_POLY poly u
  let d2 := (((d1.setFlag F.CRC_CTRL_FINISHED false u).setFlag F.CRC_CTRL_MATCH false u).setFlag F.CRC_CTRL_EXP_SEL false u)
  (d2.putCrcValue u (crcFeed poly (crcInit poly) g)).showExpect u

/-- FINISH (R446): the final XOR, FINISHED, and the comparison with EXPECT over the width of the check. -/
def Dev.crcFinish (d : Dev) (u : Nat) : Dev :=
  let poly := d.getF F.CRC_CTRL_ACTIVE_POLY u
  let v := d.crcValue u ^^^ crcFinal poly
  let d1 := (d.putCrcValue u v).setFlag F.CRC_CTRL_FINISHED true u
  let w := 2 ^ crcWidth poly
  if v % w = d.crcExpected u % w then d1.setFlag F.CRC_CTRL_MATCH true u
  else
    let d2 := d1.setFlag F.CRC_CTRL_MISMATCH true u
    if d2.flag F.CRC_CTRL_INT_EN u then d2.emit (.msix 71) else d2

/-- A CTRL write with START, FINISH or both (R446): both do neither and set ORDER_ERR. -/
def Dev.crcCtrl (d : Dev) (u : Nat) (start fin : Bool) : Dev :=
  if start && fin then d.setFlag F.CRC_CTRL_ORDER_ERR true u
  else if start then d.crcStart u
  else if fin then d.crcFinish u
  else d

/-- Feed the low `n` bytes of `v` (R445); while FINISHED the write is ignored and sets ORDER_ERR (R446). -/
def Dev.crcFeedReg (d : Dev) (u n v : Nat) : Dev :=
  if d.flag F.CRC_CTRL_FINISHED u then d.setFlag F.CRC_CTRL_ORDER_ERR true u
  else d.putCrcValue u (crcFeed (d.getF F.CRC_CTRL_ACTIVE_POLY u) (d.crcValue u) (leBytes n v))

/-- A write to GUARD; ignored while FINISHED (R446). -/
def Dev.crcGuard (d : Dev) (u v : Nat) : Dev :=
  if d.flag F.CRC_CTRL_FINISHED u then d.setFlag F.CRC_CTRL_ORDER_ERR true u else d.setF F.CRC_GUARD v u

/-- A write to VALUE_LO or VALUE_HI (R448): that half replaced within the width of the check (R443), FINISHED,
MATCH and MISMATCH cleared. -/
def Dev.crcValueReg (d : Dev) (u : Nat) (hi : Bool) (v : Nat) : Dev :=
  let w := 2 ^ crcWidth (d.getF F.CRC_CTRL_ACTIVE_POLY u)
  let old := d.crcValue u
  let new := if hi then old % 2 ^ 32 + 2 ^ 32 * (v % 2 ^ 32) else v % 2 ^ 32 + 2 ^ 32 * (old / 2 ^ 32)
  let d1 := d.putCrcValue u (new % w)
  ((d1.setFlag F.CRC_CTRL_FINISHED false u).setFlag F.CRC_CTRL_MATCH false u).setFlag F.CRC_CTRL_MISMATCH false u

/-- The checks of CHECK-RUN before acceptance (R451). -/
def chkCheckRun (unit poly guardLen length : Nat) : Option (Status × Nat) :=
  if 7 ≤ unit ∨ 2 ^ 30 < length ∨ 4 ≤ poly ∨ 3 ≤ guardLen then some (.badParam, 0x08) else none

/-- CHECK-RUN (R451): the unit's own state is saved and restored, so only the reply shows the run. -/
def runCheckRun (c : Ctx) (poly guardLen guard expect length : Nat) (d : Dev) : Dev :=
  let g := (leBytes 4 guard).take (guardBytes guardLen)
  let data := c.rd.bytes.take length
  let v := crcOf poly g data
  let w := 2 ^ crcWidth poly
  let ok := c.rd.fault.isNone
  let res := leBytes 8 v ++ leBytes 1 (b2n (v % w = expect % w)) ++ leBytes 3 0 ++ leBytes 4 data.length
  if ok then (d.commitPoint c).finish c 0x0904 .ok 0 res
  else (d.bufFault c).finish c 0x0904 .fault 0 (leBytes 8 0 ++ leBytes 4 0 ++ leBytes 4 data.length)

end Sys2Proof.Machine
end

