-- ==== Sys2Proof/Machine/RegAccess.lean ====
section
/-! DEFINITION. How registers are reached (R8, R10, R489, R512 to R520): direct reads and writes, by BAR0 and by SPI, and the commands
REG-READ, REG-WRITE and REG-MODIFY (R510, R517). -/
namespace Sys2Proof.Machine

/-! ### The map -/

/-- A register of the map: its row and its instance. -/
structure RegPlace where
  row : RegRow
  i : Nat
  j : Nat
  deriving DecidableEq, Repr

/-- The first row that has an instance at `a`. -/
def rowAt (a : Nat) : List RegRow → Option RegPlace
  | [] => none
  | r :: rest =>
    if a < r.base then rowAt a rest
    else match instanceAt (a - r.base) r.n1 r.s1 r.n2 r.s2 with
      | some p => some ⟨r, p.1, p.2⟩
      | none => rowAt a rest

/-- The register at address `a`; none where the address is reserved space (R514). -/
def regPlace (a : Nat) : Option RegPlace := if a % 4 = 0 then rowAt a (blockOf a).rows else none

/-- A field of the register at `a` as it reads: unit 7 of the check-value units, but for its FW_OWNED, is what the firmware left in it (R449, log entry
103). -/
def Dev.fieldRead (d : Dev) (a : Nat) (f : Nat × Nat × Access × Bool) : Nat :=
  let unit7 := F.CRC_CTRL_POLY.addr 7 0
  if unit7 ≤ a ∧ a < unit7 + 0x40 ∧ a * 32 + f.1 ≠ F.CRC_CTRL_FW_OWNED.key 7 0 ∧ (f.2.2.1 = .rw ∨ f.2.2.1 = .ro ∨ f.2.2.1 = .w1c) then
    Config.firmwareUnit (a * 32 + f.1) d.tick % 2 ^ f.2.1
  else Cells.get resetField d.regs (a * 32 + f.1)

/-- The value of the register at `a`, as its fields stand. -/
def Dev.regValue (d : Dev) (a : Nat) (r : RegRow) : Nat :=
  r.fields.foldl (fun v f => v + d.fieldRead a f * 2 ^ f.1) 0

/-- Block instances and their stride (R512). -/
def Block.instances : Block → Nat × Nat
  | .crc => (8, 0x40) | .sl => (128, 0x100) | .bundle => (16, 0x400) | .chan => (128, 0x100) | .dispatch => (8, 0x1000)
  | .eng => (128, 0x1000) | .mem => (4, 0x4000) | .eth => (2, 0x1000) | .decode => (16, 0x40)
  | _ => (1, 0)

/-- The address of the last register of the block instance that holds `a`. -/
def lastRegister (a : Nat) : Nat :=
  let b := blockOf a
  let s := b.instances.2
  let i := if s = 0 then 0 else (a - b.base) / s
  b.rows.foldl (fun m r => max m (r.base + (if s = 0 then (r.n1 - 1) * r.s1 else i * s) + (r.n2 - 1) * r.s2)) 0

/-! ### Reads -/

/-- The address of the HI register of the 48-bit counter whose LO register is at `a`. -/
def hiOf (a : Nat) : Option Nat :=
  (ctrRows.find? (fun r => match r.ctr with
    | .wide lo _ => lo.base ≤ a && (instanceAt (a - lo.base) r.n1 lo.s1 r.n2 lo.s2).isSome
    | .narrow .. => false)).bind (fun r => match r.ctr with
    | .wide lo hi => some (a - lo.base + hi.base)
    | .narrow .. => none)

/-- A direct access in Standby wakes domain 181 only (R520). -/
def Dev.wakeDirect (d : Dev) : Dev := if d.phase = .run ∧ d.mode = 0 then d.wakeFor 181 false else d

/-- Clear the RC fields of a register that is read; OFFSET_MAX is device-wide (R393). -/
def Dev.clearRead (d : Dev) (a : Nat) (r : RegRow) : Dev :=
  if r.base = F.ETH_OFFSET_MAX.base then d.setBoth F.ETH_OFFSET_MAX 0
  else Dev.each (r.fields.filter (fun (f : Nat × Nat × Access × Bool) => f.2.2.1 == .rc))
    (fun f d => { d with regs := Cells.set resetField d.regs (a * 32 + f.1) 0 }) d

/-- The shadow that a read of LO latches for a path (R489). -/
def Dev.latchHi (d : Dev) (path a : Nat) : Dev :=
  match hiOf a with
  | none => d
  | some h =>
    match regPlace h with
    | none => d
    | some r => { d with shadows := ⟨path, h, d.regValue h r.row⟩ :: d.shadows.filter (fun (s : Shadow) => ¬ (s.path = path ∧ s.addr = h)) }

/-- One register read over a path (0 BAR0, 1 SPI, 2 a command): its value, the shadow where one waits (R489), and the RC fields
cleared. -/
def Dev.readOne (d : Dev) (path a : Nat) : Dev × Nat :=
  match regPlace a with
  | none => (d, 0)
  | some r =>
    let b := blockOf a
    if (d.phase = .warmReset ∧ keeperIsland b = false) ∨ (d.phase ≠ .warmReset ∧ d.mode = 0 ∧ standbyOff b = true) then (d, 0)
    else
      match d.shadows.find? (fun (s : Shadow) => s.path = path ∧ s.addr = a) with
      | some s => ({ d with shadows := d.shadows.filter (fun (x : Shadow) => ¬ (x.path = path ∧ x.addr = a)) }, s.value)
      | none => ((d.latchHi path a).clearRead a r.row, d.regValue a r.row)

/-- Successive registers in ascending order, each read once (R515): their values, lowest address first. -/
def Dev.readMany (path : Nat) : Nat → Nat → Dev → Dev × List Nat
  | 0, _, d => (d, [])
  | n + 1, a, d =>
    let (d1, v) := d.readOne path a
    let (d2, l) := Dev.readMany path n (a + 4) d1
    (d2, v :: l)

/-- A direct read of `n` bytes from address `a` (R515): the bytes as one little-endian number. -/
def Dev.readBytes (d : Dev) (path a n : Nat) : Dev × Nat :=
  let first := a / 4 * 4
  let (d1, l) := Dev.readMany path (ceilDiv (a - first + n) 4) first d.wakeDirect
  (d1, leNat ((l.flatMap (leBytes 4)) |>.drop (a - first) |>.take n))

/-- DIRECT_READ: over PCIe the data go back in the completion, over the SPI in the frame. -/
def Dev.directRead (d : Dev) (p : Path) (a n : Nat) : Dev :=
  if d.reachable = false then d
  else match p with
    | .bar0 => let (d1, v) := d.readBytes 0 a n; d1.emit (.readData v)
    | .spi => let (d1, v) := d.readBytes 1 a n; d1.emit (.spiBytes (leBytes n v))

/-! ### Restricted fields (R516) -/

/-- Whether R516 restricts the field at bit `lsb` of a register now. -/
def Dev.fieldRestricted (d : Dev) (b : Block) (base i lsb : Nat) (acc : Access) : Bool :=
  match b with
  | .almanac => acc == .ro
  | .mem => base == F.MEM_REGION_MAP_BASE.base || base == F.MEM_REGION_CFG_MASK.base
  | .crc => i == 7
  | .perturb => d.mode != 5
  | .eng => base == F.ENG_CTRL_HOLD.base && lsb == 0 && d.mode != 5
  | .dispatch => base == F.DISPATCH_GIVE_GO.base && d.mode != 5
  | .eth => base == F.ETH_CTRL_LOOPBACK.base && lsb == F.ETH_CTRL_LOOPBACK.lsb && d.mode != 5
  | .tb => (base == F.TB_CTRL_TSQ_OWNER.base && lsb == F.TB_CTRL_TSQ_OWNER.lsb && d.mode != 5) ||
      (base == F.TB_STEP_HI_OFFSET.base && lsb == 31 && d.anyLiveStarted)
  | .clk => base == F.CLK_RES_TRIM.base && d.mode != 1 && d.mode != 5
  | _ => false

/-- Whether writing `v` to a field that holds `held` would change it, as R516 counts it. -/
def wouldChange (acc : Access) (held v : Nat) : Bool :=
  match acc with
  | .rw | .ro | .rc => v != held
  | .wo | .w1c | .w1s | .sc => v != 0

/-- A value in which a field is replaced. -/
def putField (v lsb w x : Nat) : Nat := v - bits v lsb w * 2 ^ lsb + x % 2 ^ w * 2 ^ lsb

/-- The value with every restricted field left as it stands, and whether the write would have changed one. -/
def Dev.restrain (d : Dev) (a : Nat) (r : RegPlace) (v : Nat) : Nat × Bool :=
  r.row.fields.foldl (fun (x : Nat × Bool) f =>
    if d.fieldRestricted (blockOf a) r.row.base r.i f.1 f.2.2.1 then
      let held := Cells.get resetField d.regs (a * 32 + f.1)
      let keep := match f.2.2.1 with | .rw | .ro | .rc => held | .wo | .w1c | .w1s | .sc => 0
      (putField x.1 f.1 f.2.1 keep, x.2 || wouldChange f.2.2.1 (d.fieldRead a f) (bits v f.1 f.2.1))
    else x) (v, false)

/-! ### What a write does -/

/-- A field of a value to be written replaced by the one held. -/
def Dev.keepIn (d : Dev) (f : Field) (i j v : Nat) : Nat := putField v f.lsb f.width (d.getF f i j)

/-- A value in which every field that its table leaves unchanged, or limits, stands as it will. -/
def Dev.limitWrite (d : Dev) (base i j v : Nat) : Nat :=
  let field := fun (f : Field) => bits v f.lsb f.width
  let keep := fun (f : Field) => d.keepIn f i j v
  let outside := fun (f : Field) (lo hi : Nat) => field f < lo || hi < field f
  if base = F.CMD_CTRL_SPI_EN.base then (if outside F.CMD_CTRL_INFLIGHT_LIMIT 1 64 then keep F.CMD_CTRL_INFLIGHT_LIMIT else v)
  else if base = F.DISPATCH_TIMERS_STEAL_DLY.base then
    if field F.DISPATCH_TIMERS_XSTEAL_DLY < field F.DISPATCH_TIMERS_STEAL_DLY then
      putField (keep F.DISPATCH_TIMERS_STEAL_DLY) F.DISPATCH_TIMERS_XSTEAL_DLY.lsb F.DISPATCH_TIMERS_XSTEAL_DLY.width (d.getF F.DISPATCH_TIMERS_XSTEAL_DLY i j)
    else v
  else if base = F.DISPATCH_RESCUE_MARGIN_US.base then
    putField v F.DISPATCH_RESCUE_MARGIN_US.lsb F.DISPATCH_RESCUE_MARGIN_US.width (min 1000 (max 36 (field F.DISPATCH_RESCUE_MARGIN_US)))
  else if base = F.TWIN_TIMERS_HOLD.base then
    let w := if outside F.TWIN_TIMERS_REVERT_S 1 600 then keep F.TWIN_TIMERS_REVERT_S else v
    if outside F.TWIN_TIMERS_HOLD 10 1000 then putField w F.TWIN_TIMERS_HOLD.lsb F.TWIN_TIMERS_HOLD.width (d.getF F.TWIN_TIMERS_HOLD i j) else w
  else if base = F.MEM_CTRL_WQ_DRAIN.base then (if outside F.MEM_CTRL_WQ_DRAIN 8 31 then keep F.MEM_CTRL_WQ_DRAIN else v)
  else if base = F.MEM_QOS_TARGET.base then (if field F.MEM_QOS_TARGET < 100 then keep F.MEM_QOS_TARGET else v)
  else if base = F.TB_INC_LIMIT_PPM.base then (if outside F.TB_INC_LIMIT_PPM 1 1000 then keep F.TB_INC_LIMIT_PPM else v)
  else if base = F.TB_DISC_SRC.base then (if field F.TB_DISC_WINDOW_PPM = 0 then keep F.TB_DISC_WINDOW_PPM else v)
  else if base = F.TB_REF_NOM.base then (if outside F.TB_REF_NOM 100 1000000000 then keep F.TB_REF_NOM else v)
  else if base = F.TB_PG_CTRL_MODE.base then
    let w := if field F.TB_PG_CTRL_MODE = 3 then keep F.TB_PG_CTRL_MODE else v
    if field F.TB_PG_CTRL_WIDTH = 0 then putField w F.TB_PG_CTRL_WIDTH.lsb F.TB_PG_CTRL_WIDTH.width (d.getF F.TB_PG_CTRL_WIDTH i j) else w
  else if base = F.CRC_CTRL_POLY.base then (if field F.CRC_CTRL_GUARD_LEN = 3 then keep F.CRC_CTRL_GUARD_LEN else v)
  else if base = F.PWR_BE_GATED.base then (if v < resetField (F.PWR_BE_GATED.key 0 0) then keep F.PWR_BE_GATED else v)
  else if base = F.PWR_BE_RETAIN.base then (if v < resetField (F.PWR_BE_RETAIN.key 0 0) then keep F.PWR_BE_RETAIN else v)
  else if base = F.PWR_BE_OFF.base then (if v < resetField (F.PWR_BE_OFF.key 0 0) then keep F.PWR_BE_OFF else v)
  else if base = F.PWR_DOM_FORCE.base then (if field F.PWR_DOM_FORCE = 3 then keep F.PWR_DOM_FORCE else v)
  else if base = F.CLK_RES_TRIM.base then
    (if sext 16 v < -5000 ∨ 5000 < sext 16 v then keep F.CLK_RES_TRIM else v)
  else if base = F.CLK_QCFG_QUAL_PPM.base then (if outside F.CLK_QCFG_QUAL_PPM 1 10000 then keep F.CLK_QCFG_QUAL_PPM else v)
  else if base = F.THERM_CTRL_THROTTLE_EN.base then
    let w := if d.mode ≠ 5 ∧ field F.THERM_CTRL_THROTTLE_EN = 0 then keep F.THERM_CTRL_THROTTLE_EN else v
    if field F.THERM_CTRL_STEP_DOWN_MS = 0 then
      putField w F.THERM_CTRL_STEP_DOWN_MS.lsb F.THERM_CTRL_STEP_DOWN_MS.width (d.getF F.THERM_CTRL_STEP_DOWN_MS i j) else w
  else if base = F.PCIE_CTRL_CPL_TIMEOUT_MS.base then (if field F.PCIE_CTRL_CPL_TIMEOUT_MS = 0 then keep F.PCIE_CTRL_CPL_TIMEOUT_MS else v)
  else v

/-- Write one field by its access code (R8): RW takes the value, W1C clears where a 1 is written. -/
def Dev.writeField (a v : Nat) (d : Dev) (f : Nat × Nat × Access × Bool) : Dev :=
  let k := a * 32 + f.1
  let x := bits v f.1 f.2.1
  let held := Cells.get resetField d.regs k
  match f.2.2.1 with
  | .rw => { d with regs := Cells.set resetField d.regs k x }
  | .w1c => { d with regs := Cells.set resetField d.regs k (held ^^^ (held &&& x)) }
  | .ro | .wo | .w1s | .rc | .sc => d

/-- The registers whose RW fields the operations below write themselves. -/
def ownWrite (base : Nat) : Bool :=
  [F.CMD_Q_CTRL_ENABLE.base, F.BUNDLE_FIFO_CTRL_HIGH_WM.base, F.ENG_CTRL_HOLD.base, F.CRC_GUARD.base, F.CRC_VALUE_LO.base, F.CRC_VALUE_HI.base,
    F.CRC_EXPECT.base, F.PERTURB_K_CFG_EN.base, F.AUDIO_P_RX_MASK_PENDING.base, F.AUDIO_P_TX_MASK_PENDING.base, F.XLAT_RECQ_HEAD.base].contains base

/-- INT_EN written: bits now set in both raise their vectors. -/
def Dev.newlyEnabled (d : Dev) (b : Block) (base i old v : Nat) : Dev :=
  match b.ints with
  | none => d
  | some (st, en) =>
    if base ≠ en.base then d
    else Dev.upto 11 (fun k d => if bit v k && !bit old k && bit (d.getF st i) k then d.emit (.msix (b.vector k)) else d) d

/-- DISC written (R402, R403, R462): a changed SRC starts its reference anew, a changed REF_DIV one that qualifies; ACCEPT takes the measured rate. -/
def Dev.discWrite (d : Dev) (was v : Nat) : Dev :=
  let src := bits v 0 2
  let old := bits was 0 2
  let d1 :=
    if src ≠ old then
      let e := if old = 1 ∨ old = 2 then d.qualStop (old - 1) else d
      let e := if src = 1 ∨ src = 2 then e.qualStart (src - 1) else e
      e.discSource src
    else if bits was 16 16 ≠ bits v 16 16 ∧ src = 1 ∧ d.getF F.CLK_QSTATE_STATE 0 ≠ 2 then (d.qualStart 0).discSource 1
    else d
  if bit v 5 then d1.discAccept else d1

/-- REF_NOM written (R462): a change while the reference in use qualifies restarts the qualification. -/
def Dev.refNomWrite (d : Dev) (was v : Nat) : Dev :=
  let src := d.getF F.TB_DISC_SRC
  if was = v ∨ (src ≠ 1 ∧ src ≠ 2) ∨ d.getF F.CLK_QSTATE_STATE (src - 1) = 2 then d else (d.qualStart (src - 1)).discSource src

/-- FRONT_CTRL written: D_dev follows (R280), and a direct write takes the LOCKED channels on the bundle out of lockstep (R290). -/
def Dev.frontWrite (d : Dev) (b : Nat) (changed direct : Bool) : Dev :=
  if changed = false then d
  else
    let hit := if direct then d.chans.filter (fun (c : Nat × Chan) => d.proposes c.1 && (bundleIndex c.2.params b).isSome) else []
    Dev.each hit (fun c d => d.leaveFrom c.1 (d.nextUnissued c.1) 6) d.showDigest

/-- PTP_CFG written through instance `i`: both instances hold it (R393), and the choice of port and the groups follow it. -/
def Dev.ptpCfgWrite (d : Dev) (i v : Nat) : Dev :=
  let k := 1 - i
  let d1 := (d.setF F.ETH_PTP_CFG_DOMAIN (bits v 0 8) k).setF F.ETH_PTP_CFG_PREF_PORT (bits v 8 1) k
  let d2 := (d1.setF F.ETH_PTP_CFG_DELAY_UNICAST (bits v 9 1) k).setF F.ETH_PTP_CFG_IPV6 (bits v 10 1) k
  (d2.rechoose false).showEgress

/-- What follows from a register written, beside its fields; `was` and `v` are the values before and written. -/
def Dev.afterWrite (d : Dev) (spi direct : Bool) (b : Block) (base i j was v : Nat) : Dev :=
  match b with
  | .cmd => if base = F.CMD_Q_CTRL_ENABLE.base then (if bit v 0 then d.queueOpen i v else d.queueClose i v) else d
  | .bundle =>
    if base = F.BUNDLE_FIFO_CTRL_HIGH_WM.base then
      let e := d.writeWatermarks i (bits v 0 8) (bits v 8 8)
      if bit v 16 then e.flush i none else e
    else if base = F.BUNDLE_FRONT_CTRL_CONVERT_EN.base then d.frontWrite i (was % 8 != v % 8) direct
    else d
  | .eng =>
    if base = F.ENG_CTRL_HOLD.base then
      let e := d.hold i (bit v 0)
      if bit v 1 then e.cacheInval i else e
    else d
  | .dispatch => if base = F.DISPATCH_GIVE_GO.base ∧ bit v 4 = true then d.give i (bits v 0 4) true else d
  | .ring => if base = F.RING_CFG_MEMBERS.base ∨ base = F.RING_HOP_DELAY_NS.base then d.showRingDigest else d
  | .mem => if base = F.MEM_QOS_TARGET.base then
      Dev.upto 4 (fun k d => (d.setF F.MEM_QOS_TARGET (bits v 0 16) k j).setF F.MEM_QOS_POSTPONE (bits v 16 1) k j) d
    else if base = F.MEM_CTRL_HOT_FORCE.base then d.showHot i else d
  | .xlat =>
    if base = F.XLAT_RECQ_STATE_RESUME.base then (if bit v 7 then d.recqResume (if i = 0 then j else i) else d)
    else if base = F.XLAT_RECQ_HEAD.base then d.recqHead (if i = 0 then j else i) v else d
  | .eth =>
    if base = F.ETH_CTRL_EN.base ∧ bit v 0 = false ∧ d.flag F.ETH_STATUS_LINK i = true then d.portLinkDown i false
    else if base = F.ETH_PTP_CFG_DOMAIN.base then d.ptpCfgWrite i v else d
  | .tb =>
    if base = F.TB_STEP_HI_OFFSET.base then (if bit v 31 then d.stepGo spi else d)
    else if base = F.TB_SNAP_CTRL_TAKE.base then (if bit v 0 then d.snapTake else d)
    else if base = F.TB_DISC_SRC.base then d.discWrite was v
    else if base = F.TB_REF_NOM.base then d.refNomWrite was v
    else if base = F.TB_TSQ_TAG_POP.base then (if bit v 31 then d.tsqPop (if i = 0 then j else i) true else d)
    else if base = F.TB_PG_SEL_GEN.base then
      let e := if bit v 4 then d.pgLoad else d
      if bit v 5 then e.pgFetch else e
    else if base = F.TB_CTRL_PTP_STEER.base then
      (if bit v 0 && !bit was 0 then d.putTime { d.time with ptpMeasured := false } else d).showSteer
    else d
  | .crc =>
    if i = 7 then d
    else if base = F.CRC_CTRL_POLY.base then (d.showExpect i).crcCtrl i (bit v 4) (bit v 5)
    else if base = F.CRC_GUARD.base then d.crcGuard i v
    else if base = F.CRC_DATA8.base then d.crcFeedReg i 1 v
    else if base = F.CRC_DATA16.base then d.crcFeedReg i 2 v
    else if base = F.CRC_DATA32.base then d.crcFeedReg i 4 v
    else if base = F.CRC_VALUE_LO.base then d.crcValueReg i false v
    else if base = F.CRC_VALUE_HI.base then d.crcValueReg i true v
    else if base = F.CRC_EXPECT.base then d.writeExpect i v
    else d
  | .audio =>
    if base = F.AUDIO_P_RX_MASK_PENDING.base then d.writeMask i false (bits v F.AUDIO_P_RX_MASK_PENDING.lsb 16)
    else if base = F.AUDIO_P_TX_MASK_PENDING.base then d.writeMask i true (bits v F.AUDIO_P_TX_MASK_PENDING.lsb 16)
    else if base = F.AUDIO_CTRL_PLL_EN.base then
      let e := if bit was 1 = bit v 1 then d else if bit v 1 then d.qualStart 2 else d.qualStop 2
      e.updPlls
    else d
  | .clk => if base = F.CLK_FORCE_ON.base then d.updPlls else d
  | .therm => if base = F.THERM_CTRL_THROTTLE_EN.base then d.followShed else d
  | .perturb =>
    if base = F.PERTURB_CTRL_KILL.base then d.kill (v % 128)
    else if base = F.PERTURB_K_CFG_EN.base then d.cfgEn i (bit v 0)
    else d
  | _ => d

/-- A register written: its fields by their access codes, then what follows from it. -/
def Dev.applyWrite (d : Dev) (spi direct : Bool) (a : Nat) (r : RegPlace) (v0 : Nat) : Dev :=
  let b := blockOf a
  let base := r.row.base
  let was := d.regValue a r.row
  let v := d.limitWrite base r.i r.j v0
  let d1 := if ownWrite base then d else r.row.fields.foldl (Dev.writeField a v) d
  (d1.afterWrite spi direct b base r.i r.j was v).newlyEnabled b base r.i was v

/-! ### Direct writes -/

/-- Whether a direct write to address `a` reaches its register, or is refused with a cause (R514, R515, R519, R520). -/
def Dev.refusal (d : Dev) (a enables : Nat) : Option Nat :=
  match regPlace (a / 4 * 4) with
  | none => some 1
  | some _ =>
    let b := blockOf a
    if d.phase = .warmReset ∧ keeperIsland b = false then some 6
    else if d.phase ≠ .warmReset ∧ d.mode = 0 ∧ standbyOff b = true then some 5
    else if a % 4 ≠ 0 ∨ enables ≠ 15 then some 4
    else none

/-- A direct write that passes its gate does `f` to the register. -/
def Dev.gated (d : Dev) (p : Path) (a enables : Nat) (f : RegPlace → Dev → Dev) : Dev :=
  if d.reachable = false then d
  else
    let d0 := d.wakeDirect
    match d0.refusal a enables with
    | some cause => d0.refuseDirect a (p == .spi) cause
    | none => match regPlace a with | some r => f r d0 | none => d0

/-- A direct write (R516): restricted fields stay as they are, the rest takes effect, and one refusal is counted where a restricted
field would have changed. -/
def Dev.directWrite (d : Dev) (p : Path) (a v enables : Nat) : Dev :=
  d.gated p a enables (fun r d =>
    let x := d.restrain a r (v % 2 ^ 32)
    let d1 := if x.2 then d.refuseDirect a (p == .spi) 3 else d
    d1.applyWrite (p == .spi) true a r x.1)

/-- A field's register written whole over a path. -/
def Dev.directField (d : Dev) (p : Path) (f : Field) (v : Nat) (i : Nat := 0) (j : Nat := 0) : Dev := d.directWrite p (f.addr i j) v 15

/-- FLUSH: FIFO_CTRL written with FLUSH, and the packet it interrupts (R141). -/
def Dev.directFlush (d : Dev) (p : Path) (b high low : Nat) (cut : Option CutPacket) : Dev :=
  d.gated p (F.BUNDLE_FIFO_CTRL_HIGH_WM.addr b 0) 15 (fun _ d => (d.writeWatermarks b high low).flush b cut)

/-! ### BAR2 -/

/-- Where a direct access by BAR0 stands for one by BAR2: past the 64 MiB of BAR0, at this address plus the offset in BAR2 (the model's own spelling,
log entry 88). -/
def bar2Base : Nat := 0x4000000

/-- The doubleword of BAR2 at offset `o` (R69, R70): a queue page reads as 0, the MSI-X table as it was written, the pending-bit array as 0, since
the device sends every message at once. -/
def Dev.bar2Word (d : Dev) (o : Nat) : Nat := if 0x40000 ≤ o ∧ o < 0x40000 + 72 * 16 then (assoc d.msixTable o).getD 0 else 0

/-- A read of `n` bytes from offset `o` of BAR2. -/
def Dev.bar2Read (d : Dev) (o n : Nat) : Nat :=
  leNat (((List.range (ceilDiv (o % 4 + n) 4)).flatMap (fun k => leBytes 4 (d.bar2Word (o / 4 * 4 + 4 * k)))) |>.drop (o % 4) |>.take n)

/-- A write of a doubleword at offset `o` of BAR2 (R69, R70): the doorbells of a queue page, or an entry of the MSI-X table. -/
def Dev.bar2Write (d : Dev) (o v : Nat) : Dev :=
  if o < 0x40000 then
    if o % 0x1000 = 0 then d.sqDb (o / 0x1000) v else if o % 0x1000 = 4 then d.rqDb (o / 0x1000) v else d
  else if o < 0x40000 + 72 * 16 ∧ o % 4 = 0 then { d with msixTable := assocPut d.msixTable o v }
  else d

/-- Whether a direct access stands for one by BAR2. -/
def inBar2 (p : Path) (a : Nat) : Bool := (regPlace (a / 4 * 4)).isNone && p == .bar0 && decide (bar2Base ≤ a)

/-- A write over PCIe or the SPI: to a register, or by BAR2. -/
def Dev.busWrite (d : Dev) (p : Path) (a v enables : Nat) : Dev :=
  if inBar2 p a then (if d.reachable && enables == 15 then d.bar2Write (a - bar2Base) (v % 2 ^ 32) else d) else d.directWrite p a v enables

/-- A read over PCIe or the SPI: of registers, or by BAR2. -/
def Dev.busRead (d : Dev) (p : Path) (a n : Nat) : Dev :=
  if inBar2 p a then (if d.reachable then d.emit (.readData (d.bar2Read (a - bar2Base) n)) else d) else d.directRead p a n

/-! ### REG-READ, REG-WRITE and REG-MODIFY (R510, R517) -/

/-- The checks of REG-READ. -/
def chkRegRead (addr count : Nat) : Option (Status × Nat) :=
  if (regPlace addr).isNone then some (.badParam, 0x80)
  else if count = 0 ∨ 1024 < count then some (.badParam, 0x08)
  else if lastRegister addr < addr + 4 * (count - 1) then some (.badParam, 0x82)
  else none

/-- REG-READ. -/
def runRegRead (c : Ctx) (addr count : Nat) (d : Dev) : Dev :=
  let (d1, l) := Dev.readMany 2 count addr d
  d1.finish c 0x0A01 .ok 0 (l.flatMap (leBytes 4))

/-- Whether a register has a field that a command may write. -/
def RegRow.writable (r : RegRow) : Bool :=
  r.fields.any (fun f => f.2.2.1 == .rw || f.2.2.1 == .w1c || f.2.2.1 == .w1s || f.2.2.1 == .sc)

/-- Bits of a register that no field covers. -/
def RegRow.covered (r : RegRow) : Nat := r.fields.foldl (fun m f => m ||| ((2 ^ f.2.1 - 1) * 2 ^ f.1)) 0

/-- Whether a field is one that commands may not change: restricted now, or read only. -/
def Dev.closedField (d : Dev) (a : Nat) (r : RegPlace) (f : Nat × Nat × Access × Bool) : Bool :=
  f.2.2.1 == .ro || f.2.2.1 == .rc || d.fieldRestricted (blockOf a) r.row.base r.i f.1 f.2.2.1

/-- The address of R517: named, outside CMD, with something to write. -/
def chkRegAddress (a : Nat) : Option (Status × Nat) :=
  match regPlace a with
  | none => some (.badParam, 0x80)
  | some r => if blockOf a = .cmd ∨ r.row.writable = false then some (.badParam, 0x81) else none

/-- The checks of REG-WRITE: nothing that is closed or reserved would change. -/
def chkRegWrite (a v : Nat) (d : Dev) : Option (Status × Nat) :=
  (chkRegAddress a).or ((regPlace a).bind (fun r =>
    let change := r.row.fields.any (fun f =>
      d.closedField a r f && wouldChange f.2.2.1 (Cells.get resetField d.regs (a * 32 + f.1)) (bits v f.1 f.2.1))
    if change || v &&& r.row.covered != v then some (.badParam, 0x81) else none))

/-- The checks of REG-MODIFY: MASK covers nothing that is closed or reserved. -/
def chkRegModify (a mask : Nat) (d : Dev) : Option (Status × Nat) :=
  (chkRegAddress a).or ((regPlace a).bind (fun r =>
    let hit := r.row.fields.any (fun f => d.closedField a r f && bits mask f.1 f.2.1 != 0)
    if hit || mask &&& r.row.covered != mask then some (.badParam, 0x81) else none))

/-- The LOCKED channels that a write to a register R280 covers concerns (R289). -/
def Dev.proposeFor (d : Dev) (a : Nat) : List Nat :=
  match regPlace a with
  | none => []
  | some r =>
    if r.row.base = F.BUNDLE_FRONT_CTRL_CONVERT_EN.base then
      (d.chans.filter (fun (c : Nat × Chan) => d.proposes c.1 && (bundleIndex c.2.params r.i).isSome)).map (·.1)
    else []

/-- The register written by a command. -/
def Dev.commandWrite (d : Dev) (a v : Nat) : Dev :=
  match regPlace a with | some r => d.applyWrite false false a r v | none => d

/-- REG-WRITE. -/
def runRegWrite (c : Ctx) (a v : Nat) (d : Dev) : Dev :=
  let chans := d.proposeFor a
  if chans = [] then ((d.commandWrite a v).commitPoint c).finish c 0x0A02 .ok
  else d.propose c 0x0A02 chans (leBytes 4 a ++ leBytes 4 v)

/-- The value that REG-MODIFY writes. -/
def modified (old mask v : Nat) : Nat := (old &&& (mask ^^^ (2 ^ 32 - 1))) ||| (v &&& mask)

/-- What REG-MODIFY hands to the register: W1C, W1S and SC fields outside MASK take no 1. -/
def modifyWord (r : RegRow) (old mask v : Nat) : Nat :=
  r.fields.foldl (fun x f => match f.2.2.1 with
    | .w1c | .w1s | .sc | .wo => putField x f.1 f.2.1 (bits (v &&& mask) f.1 f.2.1)
    | .rw | .ro | .rc => x) (modified old mask v)

/-- REG-MODIFY: read, changed under the mask and written, with both values returned. -/
def runRegModify (c : Ctx) (a mask v : Nat) (d : Dev) : Dev :=
  let chans := d.proposeFor a
  if chans = [] then
    match regPlace a with
    | none => d.finish c 0x0A03 .ok
    | some r =>
      let old := d.regValue a r.row
      (((d.commandWrite a (modifyWord r.row old mask v)).commitPoint c).finish c 0x0A03 .ok 0
        (leBytes 4 old ++ leBytes 4 (modified old mask v)))
  else d.propose c 0x0A03 chans (leBytes 4 a ++ leBytes 4 mask ++ leBytes 4 v)

end Sys2Proof.Machine
end

