-- ==== Sys2Proof/Machine/DomainReset.lean ====
section
/-! DEFINITION. The domain reset (R28, R32) and FENCE-CLEAR (R32, R508). -/
namespace Sys2Proof.Machine

/-- The block of which units of a kind have a register instance of their own; a pseudo-channel and a PLL have none (R512). -/
def unitInstances (kind : Nat) : Option Block :=
  match kind with
  | 1 => some .sl | 2 => some .bundle | 3 => some .eng | 4 => some .dispatch | 6 => some .mem | 7 => some .eth
  | 8 => some .twin | 9 => some .ring | 10 => some .decode | _ => none

/-- Whether a field access is one by which software sets the field, or clears what an event set. -/
def Access.settable (a : Access) : Bool := a == .rw || a == .w1c

/-- Whether the field of key `k` is one that a domain reset of the unit sets back: a settable field of the unit's own register instance. What only
the device writes follows the unit's state (DESIGN CHOICE, log entry 90). -/
def unitField (kind i k : Nat) : Bool :=
  match unitInstances kind, regPlace (keyAddr k) with
  | some b, some p =>
    blockOf (keyAddr k) == b && (unitCount kind == 1 || (p.row.n1 == unitCount kind && p.i == i)) &&
      p.row.fields.any (fun f => f.1 == k % 32 && f.2.2.1.settable)
  | _, _ => false

/-- The registers of a reset unit: hardware values, then those of the Almanac as applied (R28). -/
def Dev.unitRegs (d : Dev) (kind i : Nat) : Dev :=
  let own := unitField kind i
  let fac := d.validImage 0
  let user := d.appliedUser
  let d1 := (d.dropRegs own).layer fac user (fun b => some b == unitInstances kind) false
  let d2 := (((d1.applyNetId fac user).applyIdentity fac user).applyBundles fac user).applyReserve fac user
  d2.keepCells d (fun k => !own k)

/-- The statistics counters of a reset unit are cleared (R28). -/
def Dev.clearUnitCounters (d : Dev) (kind i : Nat) : Dev :=
  Dev.each (ctrRows.filter (fun r => some r.block == unitInstances kind && (unitCount kind == 1 || r.n1 == unitCount kind)))
    (fun r d => Dev.upto r.n2 (fun j d => if unitCount kind = 1 then Dev.upto r.n1 (fun i d => d.clearCtr r.ctr i j) d else d.clearCtr r.ctr i j) d) d

/-- The domain reset of one unit (R28, R32). -/
def Dev.domainReset (d : Dev) (kind i : Nat) : Dev := ((d.unitRegs kind i).clearUnitCounters kind i).showDigests

/-- Lift the fence of a unit and of those it contains, and return them to service, containing units first. -/
def Dev.restoreUnit (d : Dev) (kind i : Nat) : Dev :=
  let us := ((kind, i) :: unitParts kind i).filter (fun u => d.fenced u.1 u.2)
  let d1 := Dev.each us (fun u d => d.domainReset u.1 u.2) (d.unfence kind i)
  (Dev.each us (fun u d => d.unitBack u.1 u.2 (u = (kind, i))) d1).showShed

/-- The modes in which FENCE-CLEAR is legal (R32). -/
def fenceClearModes (kind : Nat) : List Nat := if kind = 6 then [1, 5] else notStandby

/-- The checks of FENCE-CLEAR (R32, R479, R508). -/
def chkFenceClear (kind i : Nat) (d : Dev) : Option (Status × Nat) :=
  if unitExists kind i = false ∨ d.fenced kind i = false then some (.badParam, 0x08)
  else if d.containerFenced kind i then some (.fenced, 0x08) else none

/-- FENCE-CLEAR: `struck` is the cause of a fault that strikes the unit while it returns to service (R479). -/
def runFenceClear (c : Ctx) (kind i : Nat) (struck : Option Nat) (d : Dev) : Dev :=
  let d1 := d.restoreUnit kind i
  match struck with
  | none => (d1.commitPoint c).finish c 0x0504 .ok
  | some cause => (d1.failUnit kind i cause).finish c 0x0504 .fault

end Sys2Proof.Machine
end

