-- ==== Sys2Proof/Machine/Reports.lean ====
section
/-! DEFINITION. The device commands that report (R484, R487, R500, R501): NOP, GET-INFO, GET-STATUS, READ-EVENTS and
SNAPSHOT-COUNTERS. -/
namespace Sys2Proof.Machine

/-- NOP (R500): complete at acceptance. -/
def runNop (c : Ctx) (d : Dev) : Dev := (d.commitPoint c).finish c 0x0000 .ok

/-- How many units of a kind are fenced. -/
def Dev.fencedCount (d : Dev) (kind : Nat) : Nat := (d.fences.filter (fun u => u.1 = kind)).length

/-- The 48 bytes of GET-INFO (R501). -/
def Dev.infoRecord (d : Dev) : List Byte :=
  leBytes 4 0x8128 ++ leBytes 2 0xB1 ++ leBytes 1 3 ++ leBytes 1 2 ++ leBytes 4 (d.getF F.KEEPER_FW_VERSION) ++ leBytes 4 0 ++
  leBytes 8 d.alm.serial ++ leBytes 8 d.alm.lot ++ leBytes 2 Config.selftestSignature ++ leBytes 1 d.enginesAvail ++ leBytes 1 d.alm.reserve ++
  leBytes 2 ((384 - 3 * d.fencedCount 5) / 4) ++ leBytes 1 d.alm.floorEffort ++ leBytes 1 (d.getF F.CMD_CTRL_INFLIGHT_LIMIT) ++
  leBytes 2 d.alm.margin ++ leBytes 6 0

/-- GET-INFO. -/
def runGetInfo (c : Ctx) (d : Dev) : Dev := d.finish c 0x0001 .ok 0 d.infoRecord

/-- RESET_CAUSE bits [4:0]. -/
def Dev.resetCause (d : Dev) : Nat :=
  d.getF F.KEEPER_RESET_CAUSE_COLD + 2 * d.getF F.KEEPER_RESET_CAUSE_WARM_PIN + 4 * d.getF F.KEEPER_RESET_CAUSE_WARM_CMD +
    8 * d.getF F.KEEPER_RESET_CAUSE_THERMAL + 16 * d.getF F.KEEPER_RESET_CAUSE_ESCALATED

/-- The FLAGS of GET-STATUS. -/
def Dev.statusFlags (d : Dev) : Nat :=
  d.getF F.KEEPER_MODE_BUSY + 2 * d.getF F.CMD_STATUS_REPLAYING + 4 * d.getF F.TB_STATUS_HOLDOVER +
    8 * b2n (d.getF F.PERTURB_STATUS_ACTIVE != 0) + 16 * d.getF F.ALMANAC_STATUS_IN_PROGRESS

/-- The 32 bytes of GET-STATUS (R501). -/
def Dev.statusRecord (d : Dev) : List Byte :=
  let opened := (d.chans.filter (fun c => d.chanState c.1 != 0)).length
  let started := (d.chans.filter (fun c => d.chanState c.1 == 2)).length
  leBytes 1 d.mode ++ leBytes 1 (d.getF F.KEEPER_MODE_TARGET) ++ leBytes 1 d.statusFlags ++ leBytes 1 (d.getF F.THERM_STATUS_LEVEL) ++
  leBytes 1 d.resetCause ++ leBytes 1 (d.getF F.THERM_SHED_S_T) ++ leBytes 1 d.eCap ++ leBytes 1 0 ++ leBytes 2 (d.getF F.THERM_HOTTEST_T) ++
  leBytes 1 opened ++ leBytes 1 started ++ leBytes 1 (d.fencedCount 3) ++ leBytes 1 (d.fencedCount 5) ++ leBytes 1 (d.getF F.TWIN_STATE_ROLE) ++
  leBytes 1 (d.getF F.RING_STATE_ROLE) ++ leBytes 8 (d.get64 F.KEEPER_EVLOG_SEQ_LO F.KEEPER_EVLOG_SEQ_HI) ++ leBytes 4 d.ns ++ leBytes 4 0

/-- GET-STATUS. -/
def runGetStatus (c : Ctx) (d : Dev) : Dev := d.finish c 0x0003 .ok 0 d.statusRecord

/-! ### READ-EVENTS (R482, R484) -/

/-- The 32 bytes of a record with its SEQ. -/
def EvRec.bytes (r : EvRec) (seq : Nat) : List Byte :=
  leBytes 8 seq ++ leBytes 4 r.ns ++ leBytes 4 r.era ++ leBytes 1 r.block ++ leBytes 1 r.code ++ leBytes 2 r.inst ++ leBytes 1 r.flags ++
    leBytes 1 r.unitKind ++ leBytes 2 0 ++ leBytes 4 r.arg0 ++ leBytes 4 r.arg1

/-- The check of READ-EVENTS: MAX from 1 to 127. -/
def chkReadEvents (most : Nat) : Option (Status × Nat) := if most = 0 ∨ 127 < most then some (.badParam, 0x08) else none

/-- The results of READ-EVENTS: where to go on, how many records, how many are lost, then the records. -/
def Dev.eventsRecord (d : Dev) (from_ most : Nat) : List Byte :=
  let next := d.get64 F.KEEPER_EVLOG_SEQ_LO F.KEEPER_EVLOG_SEQ_HI
  let oldest := next - d.evlog.length
  let first := max from_ oldest
  let n := min most (next - first)
  let recs := (d.evlog.reverse.drop (first - oldest)).take n
  let lost := min 65535 (oldest - from_)
  let bytes := (recs.zipIdx.map (fun p => p.1.bytes (first + p.2))).flatten
  leBytes 8 (if n = 0 then next else first + n) ++ leBytes 2 n ++ leBytes 2 lost ++ leBytes 4 0 ++ bytes

/-- READ-EVENTS. -/
def runReadEvents (c : Ctx) (from_ most : Nat) (d : Dev) : Dev := d.finish c 0x0006 .ok 0 (d.eventsRecord from_ most)

/-! ### SNAPSHOT-COUNTERS (R487, R488) -/

/-- The register counters in scope, by instance, in the order of the map. -/
def counterList (scope : Nat) : List (Ctr × Nat × Nat) :=
  (ctrRows.filter (fun r => bit scope r.block.index)).flatMap (fun r =>
    (List.range r.n1).flatMap (fun i => (List.range r.n2).map (fun j => (r.ctr, i, j))))

/-- An entry: ADDRESS and VALUE with SAT in bit 63. -/
def snapEntry (addr value : Nat) (sat : Bool) : List Byte := leBytes 4 addr ++ recCounter value sat

/-- The entries of the rate-control records, channel by channel, and of the decode records, context by context (R488). -/
def Dev.recordEntries (d : Dev) (scope : Nat) : List (List Byte) :=
  let rc := if bit scope 23 then (List.range 128).flatMap (fun n =>
    let r := (d.chan n).rc
    r.values.zipIdx.map (fun x => snapEntry (0xF0000000 + n * 256 + 64 + 8 * x.2) x.1 (bit r.sat x.2))) else []
  let dec := if bit scope 24 then (List.range 16).flatMap (fun k =>
    let x : DecCtx := (assoc d.decs k).getD { kind := 0 }
    x.counts.zipIdx.map (fun y => snapEntry (0xF1000000 + k * 256 + 8 * y.2) y.1 (bit x.sats y.2))) else []
  rc ++ dec

/-- Every entry in scope. -/
def Dev.snapEntries (d : Dev) (scope : Nat) : List (List Byte) :=
  (counterList scope).map (fun x => snapEntry (x.1.lo.addr x.2.1 x.2.2) (d.ctr x.1 x.2.1 x.2.2) (d.ctrSat x.1 x.2.1 x.2.2)) ++ d.recordEntries scope

/-- How many entries a scope has. -/
def snapCount (scope : Nat) : Nat := (counterList scope).length + (if bit scope 23 then 768 else 0) + (if bit scope 24 then 192 else 0)

/-- Every counter in scope is set to 0 with its SAT flag cleared. -/
def Dev.clearScope (d : Dev) (scope : Nat) : Dev :=
  let d1 := Dev.each (counterList scope) (fun x d => d.clearCtr x.1 x.2.1 x.2.2) d
  let d2 := if bit scope 23 then { d1 with chans := d1.chans.map (fun (x : Nat × Chan) => (x.1, { x.2 with rc := {} })) } else d1
  if bit scope 24 then { d2 with decs := d2.decs.map (fun (x : Nat × DecCtx) => (x.1, { x.2 with counts := List.replicate 12 0, sats := 0 })) } else d2

/-- The checks of SNAPSHOT-COUNTERS: LENGTH holds every entry, and over the SPI the frame does (R487, R500). -/
def chkSnapshot (c : Ctx) (scope length scatter : Nat) (d : Dev) : Option (Status × Nat) :=
  let need := 16 + 12 * snapCount scope
  if d.spiBound c.client = true ∧ scatter ≠ 0 then some (.badParam, 0x08)
  else if length < need ∨ (d.spiBound c.client = true ∧ 340 < snapCount scope) then some (.badLength, need)
  else none

/-- The header of a snapshot: how many entries, TB.NS and the wraps at the tick of the capture. -/
def Dev.snapHead (d : Dev) (scope : Nat) : List Byte :=
  leBytes 4 (d.snapEntries scope).length ++ leBytes 4 d.ns ++ leBytes 2 (d.getF F.TB_WRAP_WRAPS) ++ leBytes 6 0

/-- A snapshot: the header, then every entry in scope. -/
def Dev.snapshot (d : Dev) (scope : Nat) : List Byte := d.snapHead scope ++ (d.snapEntries scope).flatten

/-- SNAPSHOT-COUNTERS: captured and cleared at one tick, then written to the host's buffer, or returned in the frame. -/
def runSnapshot (c : Ctx) (scope flags scatter : Nat) (d : Dev) : Dev :=
  let spi := d.spiBound c.client
  let all := d.snapshot scope
  let d1 := (if bit flags 0 then d else d.clearScope scope).commitPoint c
  if spi then d1.finish c 0x0005 .ok 0 all
  else
    let good := match c.rd.fault with | some _ => c.rd.bytes.length | none => all.length
    let d2 := (d1.emit (.bufWrite scatter 0 (all.take good)))
    match c.rd.fault with
    | some k => (d2.xlatFault k 12 0xFF 0 true (good / 64 * 64)).finish c 0x0005 .fault
    | none =>
      if c.confirm then d2.finish c 0x0005 .ok 0 ((d.snapHead scope).take 8)
      else (d2.xlatFault 7 12 0xFF 0 false 0).finish c 0x0005 .fault

end Sys2Proof.Machine
end

