-- ==== Sys2Proof/Machine/Commands.lean ====
section
/-! DEFINITION. The command catalogue (R496 to R510): for each opcode its parameter length, its reserved bytes, the modes in which it is
legal, its class, the checks of step 8 of R65 and what it does. -/
namespace Sys2Proof.Machine

/-- A command with its parameters: its opcode, the modes in which it is legal, its checks of step 8 of R65, what it does, the results a
refusal carries (R157), the trace a refusal leaves, and whether it can start now. -/
structure CmdJob where
  op : Nat
  modes : Dev → List Nat := fun _ => notStandby
  chk : Dev → Option (Status × Nat) := fun _ => none
  run : Dev → Dev
  data : Dev → List Byte := fun _ => []
  refused : Dev → Dev := id
  ready : Dev → Bool := fun _ => true

/-- A command row: legal in the mode (step 7 of R65) or WRONG_MODE with reason 0x07, past the checks of step 8 or turned away, then
carried out. -/
def Dev.issue (d : Dev) (c : Ctx) (j : CmdJob) : Dev :=
  if d.serving = false then d
  else if (j.modes d).contains d.mode = false then d.turnAway c j.op .wrongMode 0x07
  else match j.chk d with
    | some (st, detail) => (j.refused d).turnAway c j.op st detail (j.data d)
    | none => j.run d

/-! ### One job per command -/

def jobNop (c : Ctx) : CmdJob := { op := 0x0000, modes := fun _ => allModes, run := runNop c }
def jobGetInfo (c : Ctx) : CmdJob := { op := 0x0001, modes := fun _ => allModes, run := runGetInfo c }
def jobSetMode (c : Ctx) (target : Nat) : CmdJob :=
  { op := 0x0002, modes := fun _ => allModes, chk := fun _ => chkSetMode target, run := runSetMode c target }
def jobGetStatus (c : Ctx) : CmdJob := { op := 0x0003, modes := fun _ => allModes, run := runGetStatus c }
/-- WARM-RESET (R29): accepted, and the device enters warm reset; DONE comes at resume. -/
def runWarmReset (c : Ctx) (d : Dev) : Dev := { d.commitPoint c with warmAsk := some c }
def jobWarmReset (c : Ctx) : CmdJob := { op := 0x0004, modes := fun _ => allModes, run := runWarmReset c }
def jobSnapshot (c : Ctx) (scope flags length scatter : Nat) : CmdJob :=
  { op := 0x0005, chk := chkSnapshot c scope length scatter, run := runSnapshot c scope flags scatter }
def jobReadEvents (c : Ctx) (from_ most : Nat) : CmdJob :=
  { op := 0x0006, chk := fun _ => chkReadEvents most, run := runReadEvents c from_ most }
def jobSpiRelease (c : Ctx) : CmdJob := { op := 0x0007, modes := fun _ => allModes, chk := chkSpiRelease c, run := runSpiRelease c }
def jobAlmanacRead (c : Ctx) (source offset length : Nat) : CmdJob :=
  { op := 0x0101, chk := fun _ => chkAlmanacRead source offset length, run := runAlmanacRead c source offset length }
def jobAlmanacStage (c : Ctx) (begin : Bool) (offset length : Nat) : CmdJob :=
  { op := 0x0102, modes := fun _ => [1, 5], chk := chkAlmanacStage offset length, run := runAlmanacStage c begin offset length }
def jobAlmanacCommit (c : Ctx) (length crc : Nat) : CmdJob :=
  { op := 0x0103, modes := fun _ => [1, 5], chk := chkAlmanacCommit length crc, run := runAlmanacCommit c length
    refused := fun d => d.noteCommitFault length crc }
def jobAlmanacRevert (c : Ctx) (form : Nat) : CmdJob :=
  { op := 0x0104, modes := fun _ => [1, 5], chk := chkAlmanacRevert form, run := runAlmanacRevert c form }
def jobOpenChannel (c : Ctx) (block : List Byte) : CmdJob :=
  { op := 0x0201, chk := chkOpenChannel block, run := runOpenChannel c block
    data := fun d => if refusalResults (chkOpenChannel block d) then d.openResults block else [] }
def jobCloseChannel (c : Ctx) (n : Nat) : CmdJob := { op := 0x0202, chk := chkCloseChannel n, run := runCloseChannel c n }
def jobStartChannel (c : Ctx) (n : Nat) : CmdJob :=
  { op := 0x0203, modes := fun d => if d.startMode n then [d.mode] else [], chk := chkStartChannel n, run := runStartChannel c n }
def jobStopChannel (c : Ctx) (n mode : Nat) : CmdJob := { op := 0x0204, chk := chkStopChannel n mode, run := runStopChannel c n mode }
def jobReconfigure (c : Ctx) (block : List Byte) : CmdJob :=
  { op := 0x0205, chk := chkReconfigure block, run := runReconfigure c block
    data := fun d => if refusalResults (chkReconfigure block d) then d.openResults block else [] }
def jobForceEquinox (c : Ctx) (n : Nat) : CmdJob := { op := 0x0206, modes := fun _ => [2, 4, 5], chk := chkForceEquinox n, run := runForceEquinox c n }
def jobQueryChannel (c : Ctx) (n : Nat) : CmdJob := { op := 0x0207, chk := fun _ => chkQueryChannel n, run := runQueryChannel c n }
def jobEgressBind (c : Ctx) (p : List Byte) : CmdJob := { op := 0x0208, chk := chkEgressBind p, run := runEgressBind c p }
def jobEgressUnbind (c : Ctx) (kind stream : Nat) : CmdJob :=
  { op := 0x0209, chk := chkEgressUnbind kind stream, run := runEgressUnbind c kind stream }
def jobBundleConfigure (c : Ctx) (b what cfg front fifo : Nat) (matrix : List Int) : CmdJob :=
  { op := 0x0301, modes := fun _ => [1, 5], chk := chkBundleConfigure b what cfg fifo, run := runBundleConfigure c b what cfg front fifo matrix }
def jobBundleTrain (c : Ctx) (b : Nat) : CmdJob :=
  { op := 0x0302, chk := chkBundleTrain b, run := runBundleTrain c b }
def jobLaneStatus (c : Ctx) (b : Nat) : CmdJob := { op := 0x0303, chk := fun _ => chkLaneStatus b, run := runLaneStatus c b }
def jobHarvestArm (c : Ctx) (n flags triggers gen slots pre post : Nat) : CmdJob :=
  { op := 0x0304, modes := fun _ => [3], chk := chkHarvestArm n flags triggers gen slots pre post, run := runHarvestArm c n flags triggers gen slots pre post }
def jobHarvestTrigger (c : Ctx) (n : Nat) : CmdJob := { op := 0x0305, modes := fun _ => [3], chk := chkHarvestTrigger n, run := runHarvestTrigger c n }
def jobHarvestRelease (c : Ctx) (n : Nat) : CmdJob := { op := 0x0306, modes := fun _ => [1, 3, 5], chk := chkHarvestRelease n, run := runHarvestRelease c n }
def jobTwinConfigure (c : Ctx) (enable : Nat) : CmdJob :=
  { op := 0x0401, modes := fun _ => [1], chk := chkTwinConfigure enable, run := runTwinConfigure c enable }
def jobTwinStatus (c : Ctx) : CmdJob := { op := 0x0402, run := runTwinStatus c }
def jobTwinHandover (c : Ctx) : CmdJob := { op := 0x0403, modes := fun _ => [2, 5], chk := chkTwinHandover, run := runTwinHandover c }
def jobGangJoin (c : Ctx) (member members ringId : Nat) : CmdJob :=
  { op := 0x0411, modes := fun _ => [1, 5], chk := chkGangJoin member members ringId, run := runGangJoin c member members ringId }
def jobGangLeave (c : Ctx) : CmdJob := { op := 0x0412, modes := fun _ => [1, 5], chk := chkGangLeave, run := runGangLeave c }
def jobGangStatus (c : Ctx) : CmdJob := { op := 0x0413, run := runGangStatus c }
def jobRecordBind (c : Ctx) (p : List Byte) : CmdJob := { op := 0x0501, chk := chkRecordBind c p, run := runRecordBind c p }
def jobRecordUnbind (c : Ctx) (q : Nat) : CmdJob := { op := 0x0502, chk := chkRecordUnbind q, run := runRecordUnbind c q }
def jobMemRegions (c : Ctx) (es : List (Nat × Nat)) : CmdJob := { op := 0x0503, modes := fun _ => [1, 5], chk := chkMemRegions es, run := runMemRegions c es }
def jobFenceClear (c : Ctx) (kind i : Nat) (struck : Option Nat) : CmdJob :=
  { op := 0x0504, modes := fun _ => fenceClearModes kind, chk := chkFenceClear kind i, run := runFenceClear c kind i struck }
def jobTimeGet (c : Ctx) : CmdJob := { op := 0x0601, run := runTimeGet c }
def jobTimeSetIncrement (c : Ctx) (inc : Nat) : CmdJob := { op := 0x0602, chk := chkTimeSetIncrement inc, run := runTimeSetIncrement c inc }
def jobTimeStep (c : Ctx) (off : Int) : CmdJob := { op := 0x0603, chk := chkTimeStep off, run := runTimeStep c off }
def jobPulseProgram (c : Ctx) (gen mode flags width start period frac : Nat) : CmdJob :=
  { op := 0x0604, chk := chkPulseProgram gen mode width start period, run := runPulseProgram c gen mode flags width start period frac }
def jobAudioConfigure (c : Ctx) (p : List Byte) : CmdJob := { op := 0x0701, chk := chkAudioConfigure p, run := runAudioConfigure c p }
def jobAudioRoute (c : Ctx) (p : List Byte) : CmdJob := { op := 0x0702, chk := chkAudioRoute p, run := runAudioRoute c p }
def jobAudioMute (c : Ctx) (kind index slot action : Nat) : CmdJob :=
  { op := 0x0703, chk := fun _ => chkAudioMute kind index slot action, run := runAudioMute c kind index slot action }
def jobPreviewConfigure (c : Ctx) (p : List Byte) : CmdJob := { op := 0x0801, chk := chkPreviewConfigure p, run := runPreviewConfigure c p }
def jobLutLoad (c : Ctx) (p : List Byte) : CmdJob := { op := 0x0802, chk := chkLutLoad p, run := runLutLoad c p }
def jobScalerLoad (c : Ctx) (p : List Byte) : CmdJob := { op := 0x0803, chk := chkScalerLoad p, run := runScalerLoad c p }
def jobLanternLoad (c : Ctx) (flags hx hy : Nat) : CmdJob := { op := 0x0804, chk := chkLanternLoad flags hx hy, run := runLanternLoad c flags hx hy }
def jobLanternMove (c : Ctx) (x y : Int) (flags : Nat) : CmdJob := { op := 0x0805, chk := fun _ => chkLanternMove flags, run := runLanternMove c x y flags }
def jobPlaneLoad (c : Ctx) (flags row rows : Nat) : CmdJob := { op := 0x0806, chk := chkPlaneLoad flags row rows, run := runPlaneLoad c flags row rows }
def jobPerturbSet (c : Ctx) (p : List Byte) : CmdJob :=
  { op := 0x0901, modes := fun _ => [2, 5], chk := chkPerturbSet p, run := runPerturbSet c p
    refused := fun d => if d.mode = 2 ∧ d.keyPasses p = false then d.keyRefused (psKeyId p) else d }
def jobPerturbClear (c : Ctx) (kinds : Nat) : CmdJob := { op := 0x0902, run := runPerturbClear c kinds }
def jobSelftest (c : Ctx) (mask wrong delta : Nat) : CmdJob :=
  { op := 0x0903, modes := fun _ => [5], chk := fun _ => chkSelftest mask, run := runSelftest c mask wrong delta
    ready := fun d => (engineMask mask).all (fun e => (d.runOf e).isNone || d.fenced 3 e || d.fenced 4 (e / 16)) }
def jobCheckRun (c : Ctx) (unit poly guardLen guard expect length : Nat) : CmdJob :=
  { op := 0x0904, chk := fun _ => chkCheckRun unit poly guardLen length, run := runCheckRun c poly guardLen guard expect length }
def jobRegRead (c : Ctx) (addr count : Nat) : CmdJob :=
  { op := 0x0A01, modes := fun _ => allModes, chk := fun _ => chkRegRead addr count, run := runRegRead c addr count }
def jobRegWrite (c : Ctx) (addr v : Nat) : CmdJob := { op := 0x0A02, chk := chkRegWrite addr v, run := runRegWrite c addr v }
def jobRegModify (c : Ctx) (addr mask v : Nat) : CmdJob := { op := 0x0A03, chk := chkRegModify addr mask, run := runRegModify c addr mask v }
def jobDecodeOpen (c : Ctx) (p : List Byte) : CmdJob := { op := 0x0B01, modes := fun _ => decodeOpenModes p, chk := chkDecodeOpen p, run := runDecodeOpen c p }
def jobDecodeFeed (c : Ctx) (p : List Byte) : CmdJob :=
  { op := 0x0B02, modes := fun d => d.decodeFeedModes p, chk := chkDecodeFeed c p, run := runDecodeFeed c p }
def jobDecodeClose (c : Ctx) (k : Nat) : CmdJob := { op := 0x0B03, chk := chkDecodeClose k, run := runDecodeClose c k }

/-! ### The catalogue by opcode -/

/-- The job that an opcode and its parameter bytes name; none for an opcode the catalogue does not list. -/
def parseCommand (op : Nat) (p : List Byte) (c : Ctx) (x : CmdExtra) : Option CmdJob :=
  let u := fun (o n : Nat) => leAt p o n
  match op with
  | 0x0000 => some (jobNop c)
  | 0x0001 => some (jobGetInfo c)
  | 0x0002 => some (jobSetMode c (u 0 1))
  | 0x0003 => some (jobGetStatus c)
  | 0x0004 => some (jobWarmReset c)
  | 0x0005 => some (jobSnapshot c (u 0 4) (u 4 1) (u 8 4) (u 12 8))
  | 0x0006 => some (jobReadEvents c (u 0 8) (u 8 2))
  | 0x0007 => some (jobSpiRelease c)
  | 0x0101 => some (jobAlmanacRead c (u 0 1) (u 4 4) (u 8 4))
  | 0x0102 =>
    let j := jobAlmanacStage (if p.length ≤ 24 then c else { c with rd := { bytes := p.drop 24 } }) (bit (u 0 1) 0) (u 4 4) (u 8 4)
    some (if 24 < p.length ∧ u 16 8 ≠ 0 then { j with chk := fun _ => some (.badParam, 0x08) } else j)
  | 0x0103 => some (jobAlmanacCommit c (u 0 4) (u 4 4))
  | 0x0104 => some (jobAlmanacRevert c (u 0 1))
  | 0x0201 => some (jobOpenChannel c p)
  | 0x0202 => some (jobCloseChannel c (u 0 1))
  | 0x0203 => some (jobStartChannel c (u 0 1))
  | 0x0204 => some (jobStopChannel c (u 0 1) (u 1 1))
  | 0x0205 => some (jobReconfigure c p)
  | 0x0206 => some (jobForceEquinox c (u 0 1))
  | 0x0207 => some (jobQueryChannel c (u 0 1))
  | 0x0208 => some (jobEgressBind c p)
  | 0x0209 => some (jobEgressUnbind c (u 0 1) (u 1 1))
  | 0x0301 => some (jobBundleConfigure c (u 0 1) (u 1 1) (u 4 4) (u 8 4) (u 12 4) ((List.range 12).map (fun k => sext 16 (u (16 + 2 * k) 2))))
  | 0x0302 => some (jobBundleTrain c (u 0 1))
  | 0x0303 => some (jobLaneStatus c (u 0 1))
  | 0x0304 => some (jobHarvestArm c (u 0 1) (u 1 1) (u 2 1) (u 3 1) (u 4 4) (u 8 4) (u 12 4))
  | 0x0305 => some (jobHarvestTrigger c (u 0 1))
  | 0x0306 => some (jobHarvestRelease c (u 0 1))
  | 0x0401 => some (jobTwinConfigure c (u 0 1))
  | 0x0402 => some (jobTwinStatus c)
  | 0x0403 => some (jobTwinHandover c)
  | 0x0411 => some (jobGangJoin c (u 0 1) (u 1 1) (u 4 4))
  | 0x0412 => some (jobGangLeave c)
  | 0x0413 => some (jobGangStatus c)
  | 0x0501 => some (jobRecordBind c p)
  | 0x0502 => some (jobRecordUnbind c (u 0 1))
  | 0x0503 => some (jobMemRegions c ((List.range 16).map (fun r => (u (8 * r) 4, u (8 * r + 4) 4))))
  | 0x0504 => some (jobFenceClear c (u 0 1) (u 2 2) x.struck)
  | 0x0601 => some (jobTimeGet c)
  | 0x0602 => some (jobTimeSetIncrement c (u 0 4))
  | 0x0603 => some (jobTimeStep c (sext 64 (u 0 8)))
  | 0x0604 => some (jobPulseProgram c (u 0 1) (u 1 1) (u 2 1) (u 3 1) (u 4 4) (u 8 4) (u 12 2))
  | 0x0701 => some (jobAudioConfigure c p)
  | 0x0702 => some (jobAudioRoute c p)
  | 0x0703 => some (jobAudioMute c (u 0 1) (u 1 1) (u 2 1) (u 3 1))
  | 0x0801 => some (jobPreviewConfigure c p)
  | 0x0802 => some (jobLutLoad c p)
  | 0x0803 => some (jobScalerLoad c p)
  | 0x0804 => some (jobLanternLoad c (u 0 1) (u 1 1) (u 2 1))
  | 0x0805 => some (jobLanternMove c (sext 16 (u 0 2)) (sext 16 (u 2 2)) (u 4 1))
  | 0x0806 => some (jobPlaneLoad c (u 0 1) (u 2 2) (u 4 2))
  | 0x0901 => some (jobPerturbSet c p)
  | 0x0902 => some (jobPerturbClear c (u 0 1))
  | 0x0903 => some (jobSelftest c (u 0 16) x.wrong x.delta)
  | 0x0904 => some (jobCheckRun c (u 0 1) (u 1 1) (u 2 1) (u 4 4) (u 8 8) (u 16 4))
  | 0x0A01 => some (jobRegRead c (u 0 4) (u 4 2))
  | 0x0A02 => some (jobRegWrite c (u 0 4) (u 4 4))
  | 0x0A03 => some (jobRegModify c (u 0 4) (u 4 4) (u 8 4))
  | 0x0B01 => some (jobDecodeOpen c p)
  | 0x0B02 => some (jobDecodeFeed c p)
  | 0x0B03 => some (jobDecodeClose c (u 0 1))
  | _ => none

/-- The least and the greatest PLEN that the catalogue gives an opcode (R496); `spi` where a host buffer's bytes follow in the frame. -/
def plenRange (op : Nat) (spi : Bool) : Nat × Nat :=
  match op with
  | 0x0000 | 0x0001 | 0x0003 | 0x0004 | 0x0007 | 0x0402 | 0x0403 | 0x0412 | 0x0413 | 0x0601 => (0, 0)
  | 0x0002 | 0x0104 | 0x0202 | 0x0203 | 0x0204 | 0x0206 | 0x0207 | 0x0209 | 0x0302 | 0x0303 | 0x0305 | 0x0306 | 0x0401 | 0x0502 | 0x0504
  | 0x0602 | 0x0902 | 0x0B03 => (4, 4)
  | 0x0005 => (20, 20) | 0x0006 => (12, 12) | 0x0101 => (12, 12)
  | 0x0102 => if spi then (25, 4096) else (24, 24)
  | 0x0103 => (8, 8) | 0x0201 => (128, 128) | 0x0205 => (128, 128) | 0x0208 => (64, 64) | 0x0301 => (40, 40) | 0x0304 => (16, 16)
  | 0x0411 => (8, 8) | 0x0501 => (64, 64) | 0x0503 => (128, 128) | 0x0603 => (8, 8) | 0x0604 => (16, 16) | 0x0701 => (16, 16)
  | 0x0702 => (9, 72) | 0x0703 => (8, 8) | 0x0801 => (48, 48) | 0x0802 => (10, 4096) | 0x0803 => (3592, 3592) | 0x0804 => (16, 16)
  | 0x0805 => (8, 8) | 0x0806 => (16, 16) | 0x0901 => (40, 40) | 0x0903 => (16, 16) | 0x0904 => (32, 32) | 0x0A01 => (8, 8)
  | 0x0A02 => (8, 8) | 0x0A03 => (12, 12) | 0x0B01 => (24, 24) | 0x0B02 => (24, 24)
  | _ => (0, 4096)

/-- PLEN equals the length that the command's own fields imply (R496). -/
def plenImplied (op : Nat) (p : List Byte) (spi : Bool) : Bool :=
  match op with
  | 0x0102 => if spi then p.length == 24 + leAt p 8 4 else true
  | 0x0702 => p.length == 8 + leAt p 3 1
  | 0x0802 => p.length == 8 + 2 * leAt p 4 2
  | _ => true

/-- The length of the longest result that the parameters allow. -/
def longestResult (op : Nat) (p : List Byte) : Nat :=
  match op with
  | 0x0006 => 16 + 32 * leAt p 8 2
  | 0x0101 => leAt p 8 4
  | 0x0207 => 320
  | 0x0303 => 416
  | 0x0402 => 288
  | 0x0413 => 384
  | 0x0A01 => 4 * leAt p 4 2
  | _ => 96

/-- The reserved parameter bytes of an opcode (offset, size); the blocks of R156 have their own reason (R159). -/
def reservedBytes (op : Nat) (p : List Byte) : List (Nat × Nat) :=
  match op with
  | 0x0002 | 0x0104 | 0x0202 | 0x0203 | 0x0206 | 0x0207 | 0x0302 | 0x0303 | 0x0305 | 0x0306 | 0x0401 | 0x0502 | 0x0902 | 0x0B03 => [(1, 3)]
  | 0x0005 => [(5, 3)]
  | 0x0006 => [(10, 2)]
  | 0x0101 => [(1, 3)]
  | 0x0102 => [(1, 3), (12, 4)]
  | 0x0201 | 0x0205 => [(30, 2), (63, 1), (98, 6), (112, 16)]
  | 0x0204 | 0x0209 | 0x0301 | 0x0411 => [(2, 2)]
  | 0x0501 => [(12, 4), (50, 14)]
  | 0x0504 => [(1, 1)]
  | 0x0604 => [(14, 2)]
  | 0x0701 => if leAt p 0 1 = 4 then [(3, 1), (6, 10)] else [(12, 4)]
  | 0x0702 | 0x0703 => [(4, 4)]
  | 0x0801 => [(44, 4)]
  | 0x0802 => [(6, 2)]
  | 0x0803 => [(1, 7)]
  | 0x0804 => [(3, 5)]
  | 0x0805 => [(5, 3)]
  | 0x0806 => [(1, 1), (6, 2)]
  | 0x0904 => [(3, 1)]
  | 0x0A01 => [(6, 2)]
  | 0x0B01 => [(13, 3), (20, 4)]
  | 0x0B02 => [(2, 2), (12, 4)]
  | _ => []

/-- Whether every reserved parameter byte is 0. -/
def reservedClear (op : Nat) (p : List Byte) : Bool :=
  (reservedBytes op p).all (fun r => ((p.drop r.1).take r.2).all (fun b => b == 0))

/-- The checks of step 8 on raw parameter bytes: reserved bytes, reason 0x09, come first. -/
def rawCheck (j : CmdJob) (p : List Byte) (d : Dev) : Option (Status × Nat) :=
  if reservedClear j.op p = false then some (.badParam, 0x09) else j.chk d

/-- A command row that carries its parameter bytes as they are. -/
def Dev.issueRaw (d : Dev) (c : Ctx) (p : List Byte) (j : CmdJob) : Dev := d.issue c { j with chk := rawCheck j p }

/-- Class A of R497: acceptance itself is the commit point. -/
def classA (op : Nat) : Bool := op == 0x0000 || op == 0x0004

/-- The object whose register REG-WRITE or REG-MODIFY writes: that of its block instance, a lane's being its bundle. -/
def registerObject (a : Nat) : List (Nat × Nat) :=
  match regPlace a with
  | none => []
  | some r =>
    match blockOf a with
    | .chan => [(0, r.i)]
    | .bundle => [(1, r.i)]
    | .sl => [(1, r.i / 8)]
    | .eth => [(2, r.i)]
    | .audio => if 0xA0040 ≤ a ∧ a < 0xA0140 then [(2, 16 + (a - 0xA0040) / 0x40)] else []
    | .xlat => if r.row.n1 * r.row.n2 = 16 then [(3, max r.i r.j)] else []
    | _ => []

/-- The objects a command acts on (R83): 0 channel, 1 bundle, 2 port, 3 queue, 4 Almanac copy, 5 decode context; and 6 the mode, whose changes are
carried out in acceptance order (R17). -/
def cmdObjects (op : Nat) (p : List Byte) : List (Nat × Nat) :=
  let u := fun (o n : Nat) => leAt p o n
  match op with
  | 0x0002 => [(6, 0)]
  | 0x0201 | 0x0202 | 0x0203 | 0x0204 | 0x0205 | 0x0206 | 0x0207 | 0x0304 | 0x0305 | 0x0306 => [(0, u 0 1)]
  | 0x0208 | 0x0209 => if u 0 1 = 0 then [(0, u 1 1)] else [(3, 256 + u 1 1)]
  | 0x0301 | 0x0302 | 0x0303 => [(1, u 0 1)]
  | 0x0501 => [(3, u 0 1)]
  | 0x0502 => [(3, u 0 1)]
  | 0x0504 => if u 0 1 = 1 then [(1, u 2 2 / 8)] else if u 0 1 = 2 then [(1, u 2 2)] else if u 0 1 = 7 then [(2, u 2 2)] else []
  | 0x0101 | 0x0102 | 0x0103 | 0x0104 => [(4, 0)]
  | 0x0701 => [(2, 16 + u 0 1)]
  | 0x0703 => if u 0 1 = 1 then [(2, 16 + u 1 1)] else []
  | 0x0A02 | 0x0A03 => registerObject (u 0 4)
  | 0x0B01 | 0x0B02 | 0x0B03 => [(5, u 0 1)]
  | _ => []

end Sys2Proof.Machine
end

