-- ==== Sys2Proof/Machine/Transport.lean ====
section
/-! DEFINITION. How command packets become accepted commands and how accepted commands start (R61 to R68, R71 to R73, R79, R81 to R86,
R553). -/
namespace Sys2Proof.Machine

/-! ### The packet (R61, R62) -/

/-- A command packet: the header fields and the inline parameter bytes. -/
structure Packet where
  magic : Nat
  version : Nat
  flags : Nat
  op : Nat
  tag : Nat
  client : Nat
  rsv0 : Nat
  plen : Nat
  buf : Nat
  bufcap : Nat
  rsv1 : Nat
  hcrc : Nat
  head : List Byte
  inline : List Byte
  deriving DecidableEq, Repr

/-- The fields of a packet's bytes. -/
def packetOf (bs : List Byte) : Packet :=
  { magic := leAt bs 0 4, version := leAt bs 4 1, flags := leAt bs 5 1, op := leAt bs 6 2, tag := leAt bs 8 4, client := leAt bs 12 1
    rsv0 := leAt bs 13 1, plen := leAt bs 14 2, buf := leAt bs 16 8, bufcap := leAt bs 24 2, rsv1 := leAt bs 26 2, hcrc := leAt bs 28 4
    head := bs.take 28, inline := bs.drop 32 }

/-- FLAGS.PTR and FLAGS.BARRIER. -/
def Packet.ptr (p : Packet) : Bool := bit p.flags 0
def Packet.barrier (p : Packet) : Bool := bit p.flags 1

/-- The parameter bytes HCRC covers. -/
def Packet.covered (p : Packet) : List Byte := if p.ptr then [] else p.inline.take p.plen

/-- Step 1 of R65. -/
def Packet.checks (p : Packet) : Bool := p.magic == 0x50435856 && p.hcrc == crc32c (p.head ++ p.covered)

/-- The bytes of host memory that BUF stands for (R62). -/
def Packet.bufBytes (p : Packet) : Nat := max (if p.ptr then p.plen else 0) p.bufcap

/-- Whether the buffer lies within one page. -/
def Packet.onePage (p : Packet) : Bool :=
  p.bufBytes == 0 || p.buf / 4096 == (p.buf + p.bufBytes - 1) / 4096

/-- BUFCAP holds the longest result that the parameters allow, where it exceeds 96 bytes (R65 step 4); with no parameters at hand, the least that any
allow. -/
def Packet.resultRoom (p : Packet) (params : List Byte) : Bool :=
  decide (longestResult p.op params ≤ 96) || decide (longestResult p.op params ≤ p.bufcap)

/-- Step 4 of R65 as far as the header tells. -/
def Packet.lengthOk (p : Packet) (spi : Bool) : Bool :=
  let r := plenRange p.op spi
  decide (r.1 ≤ p.plen) && decide (p.plen ≤ r.2) && decide (p.plen ≤ 4096) &&
    (if spi then !p.ptr && p.bufcap == 0 else (p.ptr || decide (p.plen ≤ 96)) && p.onePage && p.resultRoom [])

/-- Step 4 of R65 as far as the parameters tell: PLEN, and BUFCAP for the longest result. -/
def Packet.resultOk (p : Packet) (spi : Bool) (params : List Byte) : Bool :=
  plenImplied p.op params spi && (spi || p.resultRoom params)

/-! ### Acceptance (R65, R66) -/

/-- What becomes of a fetched packet: rejected, answered as a duplicate, made to wait for journal space, or accepted. -/
inductive Verdict where
  | rejected (st : Status) (detail : Nat) (untrusted : Bool) (data : List Byte)
  | duplicate (w : WinEntry)
  | waits
  | accepted (params : List Byte)
  deriving DecidableEq, Repr

/-- Step 2 of R65. -/
def Dev.headerCheck (d : Dev) (src : Option Nat) (p : Packet) : Option Status :=
  if p.version ≠ 1 ∨ 4 ≤ p.flags ∨ p.rsv0 ≠ 0 ∨ p.rsv1 ≠ 0 then some .badParam
  else match src with
    | some n => if p.client = n then none else some .badParam
    | none =>
      if 64 ≤ p.client then some .badParam
      else if d.flag F.CMD_Q_CTRL_OPEN p.client ∧ d.spiBound p.client = false then some .busy else none

/-- The context of a packet. -/
def Packet.ctx (p : Packet) (host : HostRead) : Ctx := { client := p.client, tag := p.tag, buf := p.buf, rd := host }

/-- The checks of R65 from step 3 on; `rd` is what the parameter read from BUF gives, `host` what other reads of host memory that a check
makes give. -/
def Dev.judge (d : Dev) (spi : Bool) (p : Packet) (rd host : HostRead) : Verdict :=
  let params := if p.ptr then rd.bytes.take p.plen else p.inline.take p.plen
  match parseCommand p.op params (p.ctx host) {} with
  | none => .rejected .badOpcode 0x03 false []
  | some j =>
    if p.lengthOk spi = false then .rejected .badLength 0x04 false []
    else if p.ptr = true ∧ rd.fault.isSome = true then .rejected .fault 0x05 false []
    else if p.resultOk spi params = false then .rejected .badLength 0x04 false []
    else match (d.window p.client).find? (fun w => w.tag = p.tag) with
      | some w => if w.opcode = p.op ∧ w.crc = crc32c params then .duplicate w else .rejected .badParam 0x06 false []
      | none =>
        if (j.modes d).contains d.mode = false then .rejected .wrongMode 0x07 false []
        else match rawCheck j params d with
          | some (st, detail) => .rejected st (detailOf st detail) false (j.data d)
          | none => if d.getF F.CMD_JOURNAL_FREE < journalUnits params.length then .waits else .accepted params

/-- A refusal of step 8 leaves its trace (R54, R494). -/
def Dev.refusalTrace (d : Dev) (p : Packet) (rd host : HostRead) (v : Verdict) : Dev :=
  let params := if p.ptr then rd.bytes.take p.plen else p.inline.take p.plen
  match v, parseCommand p.op params (p.ctx host) {} with
  | .rejected st _ _ _, some j =>
    if (j.modes d).contains d.mode ∧ (rawCheck j params d).isSome = true ∧ st ≠ .badLength ∧ reservedClear p.op params = true then j.refused d else d
  | _, _ => d

/-- The reply of an accepted command that is not DONE. -/
def acceptedReply (p : Packet) (st : Status) (detail now : Nat) : Reply :=
  { done := false, opcode := p.op, tag := p.tag, client := p.client, status := st.code, detail := detail, rlen := 0, acceptTime := now, data := [] }

/-- A command is journaled, entered in its client's window and answered ACCEPTED (R66, R73, R82, R84); WARM-RESET takes effect with its
acceptance (R29). -/
def Dev.accept (d : Dev) (spi : Bool) (p : Packet) (params : List Byte) (now : Nat) : Dev :=
  let e : JEntry :=
    { order := d.nextOrder, client := p.client, tag := p.tag, opcode := p.op, barrier := p.barrier, ptr := p.ptr, spi := spi, buf := p.buf
      bufcap := p.bufcap, params := params, acceptTime := now, started := false, committed := classA p.op }
  let r := acceptedReply p .accepted 0 now
  let w : WinEntry := { tag := p.tag, opcode := p.op, crc := crc32c params, done := false, reply := r }
  let d0 := { d with journal := d.journal ++ [e], nextOrder := d.nextOrder + 1 }
  let d1 := if p.op = 0x0004 then { d0 with warmAsk := some { client := p.client, tag := p.tag } } else d0
  let d2 := d1.setF F.CMD_JOURNAL_FREE (d1.getF F.CMD_JOURNAL_FREE - journalUnits params.length)
  let d3 := (d2.setF (inflightField p.client) (d2.inflight p.client + 1) (p.client / 4)).putWindow p.client ((w :: d2.window p.client).take 256)
  (d3.count C.CMD_ACCEPTED).postReply spi p.client r

/-- A duplicate is answered (R85): the recorded DONE reply, or ACCEPTED. -/
def Dev.answerDuplicate (d : Dev) (spi : Bool) (p : Packet) (w : WinEntry) (now : Nat) : Dev :=
  let r : Reply :=
    if w.done then { w.reply with status := Status.duplicate.code, detail := w.reply.status }
    else acceptedReply p .duplicate Status.accepted.code now
  (d.count C.CMD_DUPLICATE).postReply spi p.client r

/-- A packet waits for parameter space, which CMD.STATUS.JOURNAL_FULL shows (R73). -/
def Dev.waitForSpace (d : Dev) (src : Option Nat) : Dev :=
  (match src with
    | some n => d.putQueue n { d.queue n with waits := true }
    | none => { d with spiIn := match d.spiIn with | [] => [] | x :: rest => { x with waits := true } :: rest }).showWaits

/-- One packet is handled, whose doorbell or SPI interrupt was taken at `now`; the flag says whether its source goes on to the next (R71). The client
number is bound to the SPI at the latest when its first packet passes step 2 (R79). -/
def Dev.handlePacket (d : Dev) (src : Option Nat) (p : Packet) (rd host : HostRead) (now : Nat) : Dev × Bool :=
  let spi := src.isNone
  let dest := src.getD p.client
  if p.checks = false then (d.reject spi dest p.op p.tag p.client .badCheck 0x01 true [] now, true)
  else match d.headerCheck src p with
    | some st => (d.reject spi dest p.op p.tag p.client st 0x02 false [] now, true)
    | none =>
      let d0 := if spi ∧ d.spiBound p.client = false then d.bindSpi p.client true else d
      if d0.getF F.CMD_CTRL_INFLIGHT_LIMIT ≤ d0.inflight p.client then (d0, false)
      else
        let v := d0.judge spi p rd host
        let d1 := d0.refusalTrace p rd host v
        match v with
        | .rejected st detail untrusted data =>
          let d2 := if p.ptr ∧ st = .fault ∧ detail = 0x05 then d1.bufFault { rd := rd } else d1
          (d2.reject spi dest p.op p.tag p.client st detail untrusted data now, true)
        | .duplicate w => (d1.answerDuplicate spi p w now, true)
        | .waits => (d1.waitForSpace src, false)
        | .accepted params => (d1.accept spi p params now, true)

/-! ### Fetching (R71 to R73) -/

/-- Whether the device fetches from the submission ring of queue `n` now. At INFLIGHT_LIMIT nothing is fetched, so a packet that would be rejected or
answered as a duplicate waits at the ring head too: R73 does not say whether the checks run ahead of the limit (DESIGN CHOICE, log entry 87). -/
def Dev.fetches (d : Dev) (n : Nat) : Bool :=
  d.serving && !d.replaying && d.flag F.CMD_Q_CTRL_OPEN n && !d.flag F.CMD_Q_CTRL_CLOSING n && d.getF F.CMD_Q_SQ_HEAD n != (d.queue n).tail &&
    d.replyRoom n && !d.held.any (fun h => h.1 == n) && decide (d.inflight n < d.getF F.CMD_CTRL_INFLIGHT_LIMIT)

/-- SQ_HEAD passes the slot it points at. -/
def Dev.passSlot (d : Dev) (n : Nat) : Dev :=
  let head := (d.getF F.CMD_Q_SQ_HEAD n + 1) % d.sqSize n
  let q := d.queue n
  let bells := match q.bells with | [] => [] | b :: rest => if b.1 = head then rest else b :: rest
  ((d.setF F.CMD_Q_SQ_HEAD head n).putQueue n { q with retries := 0, bells := bells, waits := false }).showWaits

/-- A slot whose read ended in an error (R71): it is read again, and rejected once four reads have failed. -/
def Dev.slotUnread (d : Dev) (n : Nat) : Dev :=
  let q := d.queue n
  if q.retries < 3 then d.putQueue n { q with retries := q.retries + 1 }
  else
    let d1 := (d.xlatFault 7 12 0xFF 0 false 0).reject false n 0 0 n .fault 0x05 true [] (d.bellTime n)
    d1.passSlot n

/-- A slot of queue `n` that has been read, or whose read failed. -/
def Dev.slotRead (d : Dev) (n : Nat) (bytes : Option (List Byte)) (rd host : HostRead) : Dev :=
  match bytes with
  | none => d.slotUnread n
  | some bs =>
    let (d1, passed) := d.handlePacket (some n) (packetOf bs) rd host (d.bellTime n)
    if passed then d1.passSlot n else d1.putQueue n { d1.queue n with retries := 0 }

/-- SLOT_FETCH of a queue: a slot of which no read has failed. -/
def Dev.slotFetch (d : Dev) (n : Nat) (bytes : Option (List Byte)) (rd host : HostRead) : Dev :=
  if d.fetches n = false ∨ (d.queue n).retries ≠ 0 then d else d.slotRead n bytes rd host

/-- SLOT_FETCH of the management SPI: the oldest packet not yet checked (R78). -/
def Dev.spiFetch (d : Dev) (host : HostRead) : Dev :=
  match d.spiIn with
  | [] => d
  | x :: rest =>
    if d.serving = false ∨ d.replaying = true then d
    else
      let (d1, passed) := d.handlePacket none (packetOf x.bytes) {} host x.time
      if passed then { d1 with spiIn := rest }.showWaits else d1

/-- SLOT_READ_RETRY (R71): 10 µs after a read that failed, the slot is read again. -/
def Dev.slotRetry (d : Dev) (n : Nat) (bytes : Option (List Byte)) (rd host : HostRead) : Dev :=
  if d.fetches n = false ∨ (d.queue n).retries = 0 then d else d.slotRead n bytes rd host

/-! ### Starting (R81 to R83, R553) -/

/-- Whether the predecessors of a journaled command allow it to start: those of its client, BARRIERs before it, everything before a
BARRIER, and those of other clients on the same object. -/
def Dev.mayStart (d : Dev) (e : JEntry) : Bool :=
  let before := d.journal.filter (fun x => x.order < e.order)
  !before.any (fun x => x.client == e.client) && !before.any (fun x => x.barrier) && !(e.barrier && !before.isEmpty) &&
    !before.any (fun x => (cmdObjects x.opcode x.params).any (fun o => (cmdObjects e.opcode e.params).contains o))

/-- The context of a journaled command that starts. -/
def JEntry.ctx (e : JEntry) (x : CmdExtra) : Ctx := { client := e.client, tag := e.tag, confirm := x.confirm, buf := e.buf, rd := x.rd }

/-- The job of a journaled command; a commit that had started before a warm reset keeps its target and generation (R60). -/
def JEntry.job (e : JEntry) (x : CmdExtra) : Option CmdJob :=
  (parseCommand e.opcode e.params (e.ctx x) x).map (fun j =>
    match e.fixed with
    | some (target, gen) => if e.opcode = 0x0103 then { j with run := runCommitAt (e.ctx x) target gen (leAt e.params 0 4) } else j
    | none => j)

/-- The entry of a place in the acceptance order, marked as started. -/
def Dev.markStarted (d : Dev) (order : Nat) : Dev :=
  { d with journal := d.journal.map (fun (e : JEntry) => if e.order = order then { e with started := true } else e) }

/-- A journaled command is carried out: the checks of step 8 are made again, and one that fails ends it (R553). -/
def Dev.runEntry (d : Dev) (e : JEntry) (x : CmdExtra) : Dev :=
  let c := e.ctx x
  match e.job x with
  | none => d.finish c e.opcode .badOpcode 0x03
  | some j =>
    let d1 := d.markStarted e.order
    match rawCheck j e.params d1 with
    | some (st, detail) => (j.refused d1).finish c e.opcode st detail (j.data d1)
    | none => if j.ready d1 then j.run d1 else d

/-- COMMAND_START. -/
def Dev.commandStart (d : Dev) (order : Nat) (x : CmdExtra) : Dev :=
  match d.journal.find? (fun e => e.order = order) with
  | none => d
  | some e => if d.serving = false ∨ d.replaying = true ∨ e.started = true ∨ d.mayStart e = false then d else d.runEntry e x

end Sys2Proof.Machine
end

