-- ==== Sys2Proof/Machine/Resume.lean ====
section
/-! DEFINITION. Warm reset and warm resume (R29 to R36, R122, R153, R368, R440, R519, R554, R555), and the replay of the journal. -/
namespace Sys2Proof.Machine

/-! ### Entry (R29, R36) -/

/-- A row that has not departed is to be coded again from its retained inputs (R35). -/
def RowSt.again (x : RowSt) : RowSt :=
  if x.departed ∨ x.phase = .cancelled then x
  else
    { x with
      phase := .waiting, resumed := true, lane := none, late := false, forLateness := false, holder := none, coarse := 0, progress := 0, begun := false, coarseItems := [], items := [],
      gen := if x.fixed then x.gen + 1 else x.gen }

/-- A picture whose rows have not all departed is coded again as far as they go. -/
def Pic.again (p : Pic) (rows : Nat) : Pic :=
  if p.gone rows then p else { p with rows := p.rows.map RowSt.again, complete := false }

/-- The pictures of a channel whose lines had partly arrived close, as pictures that the reset has cut (R36, R146, R173); those that waited for a
first line are not coded (R180). -/
def Chan.closeOpen (c : Chan) (ns : Nat) : Chan :=
  let c1 : Chan := { c with pics := (c.pics.filter (fun (p : Pic) => !c.waits p.index)).map (fun (p : Pic) => if p.closed then p else { p with resetCut := true }) }
  c1.pics.foldl (fun c p => if p.closed ∨ p.cut = true then c else (pBundleList c.params).foldl (fun c b => c.shutShare b p.index ns) c) c1

/-- A capture that is ARMED or TRIGGERED freezes, and its picture in hand is not accepted (R153). -/
def Chan.cutCapture (c : Chan) : Chan :=
  match c.harvest with
  | none => c
  | some h =>
    if h.phase = .frozen then c
    else { c with harvest := some { h with phase := .frozen, resetCut := true }, pics := c.pics.map (fun (p : Pic) => if p.accepted then p else { p with cut := true }) }

/-- A channel at entry step 1. -/
def Chan.enterReset (c : Chan) (ns : Nat) : Chan :=
  let c1 := ((c.closeOpen ns).cutCapture)
  { c1 with pics := c1.pics.map (fun (p : Pic) => p.again (pRows c1.params)) }

/-- A decode task restarts from its row start; an encode task is issued again from its row (R35, R274, R370). -/
def resetTasks (l : List Task) : List Task :=
  (l.filter (fun (t : Task) => t.kind == 1)).map (fun (t : Task) =>
    let e := t.engine
    { t.restart with place := .list e, saving := false, stopped := false })

/-- A command whose proposal is committed and not acknowledged ends unconfirmed when the unit leaves the pair (R290); others of this unit's are
carried out again from the journal (R67). -/
def Dev.endCommitted (d : Dev) : Dev :=
  match d.twin.own with
  | none => d
  | some p => if (p.phase == .committed) = true then d.proposalInDoubt p else d

/-- The engine dies, the memory and the streams at entry: outside Standby. -/
def Dev.stopStreams (d : Dev) : Dev :=
  let d1 := Dev.upto 16 (fun b d => (d.setFlag F.BUNDLE_FIFO_STATUS_HOLD true b).flush b none false) d
  let d2 := { d1 with chans := d1.chans.map (fun (c : Nat × Chan) => (c.1, c.2.enterReset d1.ns)), tasks := resetTasks d1.tasks, caches := [], given := [] }
  let d3 := ((d2.putLanes 0 0).endCommitted).linksOff
  let d4 := (d3.memSleep false)
  (Dev.upto 158 (fun n d => d.setDomState n 3) d4).updPlls

/-- The replies of a queue's last pass whose confirming read has not ended are not recorded as written (R88): they wait to be written again, at the
slots they were written to. Whether the read had ended is open. -/
def Dev.unwriteReplies (d : Dev) (n : Nat) : Dev :=
  let q := d.queue n
  let size := d.rqSize n
  let k := q.pass.length
  if k = 0 then d
  else if d.freeBits 1 = 0 then (d.putQueue n { q with pass := [] }).drawn
  else
    let tail := d.getF F.CMD_Q_RQ_TAIL n
    let d1 := d.putQueue n { q with pass := [], used := q.used - k, ringPhase := (if tail < k then !q.ringPhase else q.ringPhase) }
    ({ d1 with held := q.pass.map (fun r => (n, r)) ++ d1.held }.setF F.CMD_Q_RQ_TAIL ((tail + size - k) % size) n).drawn

/-- The transport at entry: packets not yet journaled are fetched, or sent, again (R71), and every command of the journal is one that a warm reset
has interrupted. -/
def Dev.transportReset (d : Dev) : Dev :=
  let d1 := Dev.upto 64 (fun n d => d.unwriteReplies n) d
  { d1 with
    spiIn := [], replaying := false, journal := d1.journal.map (fun (e : JEntry) => { e with resumed := true })
    queues := d1.queues.map (fun (q : Nat × Queue) => (q.1, { q.2 with waits := false })) }.showWaits

/-- The transitions and the flash operation in hand are interrupted; their commands are replayed from the journal. -/
def Dev.jobsReset (d : Dev) : Dev := { d with phase := .warmReset, modeJob := none, modeWait := [], flashJob := none }

/-- The device enters warm reset (R29). -/
def Dev.enterWarm (d : Dev) (byCmd : Bool) : Dev :=
  let cause := if byCmd then d.setFlag F.KEEPER_RESET_CAUSE_WARM_CMD true else d.setFlag F.KEEPER_RESET_CAUSE_WARM_PIN true
  let d1 := cause.count C.KEEPER_WARM_RESETS
  let d2 := ((d1.setF F.KEEPER_MODE_TARGET d1.mode).setFlag F.KEEPER_MODE_BUSY true).setFlag F.CMD_STATUS_READY false
  let d3 := d2.transportReset.jobsReset
  let d4 := if d3.mode = 0 then d3 else d3.stopStreams
  { d4 with phase := .warmReset, warmByCmd := byCmd, released := false, resumeMode := d2.mode }

/-- WRST_N (R29, R31): a low of 1 µs or more. A start-up in progress begins again; a resume in progress begins again. -/
def Dev.wrstN (d : Dev) : Dev :=
  match d.phase with
  | .startHold | .stopped => { ((d.islandOnly).setFlag F.KEEPER_RESET_CAUSE_WARM_PIN true).count C.KEEPER_WARM_RESETS with phase := .coldReset }
  | .run => d.enterWarm false
  | .warmReset => { (d.setFlag F.KEEPER_RESET_CAUSE_WARM_PIN true).count C.KEEPER_WARM_RESETS with warmByCmd := false, released := false }
  | _ => d

/-- The entry of an accepted WARM-RESET (R29). -/
def Dev.warmEntry (d : Dev) : Dev := if d.warmAsk.isSome ∧ d.phase = .run then d.enterWarm true else d

/-- INTERNAL_RELEASE (R29): 1 ms after the entry of a WARM-RESET. -/
def Dev.internalRelease (d : Dev) : Dev := if d.phase = .warmReset ∧ d.warmByCmd = true then { d with released := true } else d

/-! ### Resume -/

/-- The MEM REGION registers, which have a copy in HBM (R555). -/
def regionCell (k : Nat) : Bool :=
  let a := keyAddr k
  blockOf a == .mem && decide (0x100 ≤ a % 0x4000) && decide (a % 0x4000 < 0x180)

/-- The XLAT registers that come back from the window tables and the record queue state in HBM (R368, R555): all but CTRL, the interrupt registers and
the last fault. -/
def xlatCell (k : Nat) : Bool :=
  let a := keyAddr k
  blockOf a == .xlat && !([F.XLAT_CTRL_PREEMPT_EN, F.XLAT_INT_STATUS, F.XLAT_INT_EN, F.XLAT_LAST_FAULT_KIND, F.XLAT_FAULT_VA_LO, F.XLAT_FAULT_VA_HI].any
    (fun f => f.base == a))

/-- The PREVIEW registers that come back from the firmware's record: the settings and PIC (R417). -/
def previewCell (k : Nat) : Bool :=
  let a := keyAddr k
  blockOf a == .preview && !([F.PREVIEW_INT_STATUS, F.PREVIEW_INT_EN, F.PREVIEW_LAST_START, F.PREVIEW_LINE, F.PREVIEW_BASE_AGE, F.PREVIEW_BASE_PIC_LO,
    F.PREVIEW_BASE_PIC_HI].any (fun f => f.base == a))

/-- What a warm reset restores from the firmware's record and from HBM (R555); of CHAN everything but the counters, from the commit records. -/
def restoredCell (k : Nat) : Bool := audioKept k || regionCell k || xlatCell k || previewCell k || blockOf (keyAddr k) == .chan

/-- The staging area's length outlives the reset of ALMANAC with the staged bytes (R53). -/
def stageCell (k : Nat) : Bool := keyAddr k == F.ALMANAC_STAGE_LEN.addr 0 0

/-- The blocks whose registers resume step 2 resets: those of the last row of R555, and those that are then restored. -/
def warmCleared (b : Block) : Bool := warmReset b || [Block.chan, .xlat, .mem, .preview, .audio].contains b

/-- The AUDIO block after a reset: muted points stay muted, the rest begins anew (R440, R555). -/
def AudioSt.resumed (a : AudioSt) : AudioSt :=
  let still := fun (f : Fade) => ({ gain := if f.on then 96 else 0, on := f.on } : Fade)
  { mics := a.mics.map still, ports := a.ports.map (fun (p : AudioPort) => { din := p.din.map still }), streams := a.streams }

/-- Resume step 2 (R555): register values. -/
def Dev.resumeRegs (d : Dev) : Dev :=
  let fac := d.validImage 0
  let d0 := d.pertReset
  let d1 := d0.dropRegs (fun k => warmCleared (blockOf (keyAddr k)))
  let d2 := { (d1.dropBase) with audio := d1.audio.resumed, prev := { d1.prev with base := none, running := false, due := false, started := false, line := 0, lanesTick := none }, fresh := [], crcExpect := List.replicate 8 0, almCommitted := false }
  let d3 := (d2.setF F.ALMANAC_STATUS_APPLIED (chosenCopy (d2.validImage 1) (d2.validImage 2))).showAlmanac
  let im := d3.imagesInForce
  let d4 := (((d3.noteSkips im.1 0).noteSkips im.2 1).showSections im.1 im.2).layer im.1 im.2 warmCleared true
  let d5 := { d4 with alm := almSettings fac im.2, almUser := im.2 }.keepCells d (fun k => restoredCell k || stageCell k)
  let d6 := d5.clearBlockCounters (fun b => !(keeperIsland b || b == .pcie || b == .eth))
  ((d6.applyReserve fac im.2).showAllFences).amclkStart

/-- The domains as a resume leaves them, in every mode but Standby. -/
def Dev.resumeDomains (d : Dev) : Dev :=
  let d1 := Dev.upto 158 (fun n d =>
    let floor := d.domFloor n
    let busy := n < 128 && !(d.listOf n).isEmpty
    d.setDomState n (if busy && !d.fenced 3 n then 0 else if n < 152 then floor else min floor 1)) d
  (d1.showDomains).updPlls

/-- The closed pictures of a channel that lacked their commit record get it, in index order (R36). -/
def Dev.acceptClosed (d : Dev) (n : Nat) : Dev :=
  let ks := ((d.chan n).pics.filter (fun p => p.closed && !p.accepted && !p.cut)).map (·.index)
  Dev.each (sortNats ks) (fun k d => d.pictureAccept n k) d
where
  sortNats (l : List Nat) : List Nat := l.foldr insertNat []
  insertNat (x : Nat) : List Nat → List Nat
    | [] => [x]
    | y :: r => if x ≤ y then x :: y :: r else y :: insertNat x r

/-- The picture index above every picture that the channel has held. -/
def Chan.nextIndex (c : Chan) : Nat :=
  c.pics.foldl (fun m p => max m (p.index + 1)) (match c.lastClosed with | some k => k + 1 | none => 0)

/-- A channel at resume: any later picture's first line is expected (R36); a started channel waits for the first picture whose first line arrives now,
which is an IDR with DISCONTINUITY (R35). -/
def Chan.resumed (c : Chan) (started : Bool) : Chan :=
  let ex := (pBundleList c.params).zipIdx.map (fun b => (b.1, ({ pic := none, last := c.lastClosed, line := b.2 } : Expect)))
  let c1 := { c with expect := ex }
  if started ∧ c.harvest.isNone = true ∧ c.stopping.isNone = true then
    { c1 with discontinuity := true, firstPic := some c.nextIndex, awaited := some c.nextIndex } else c1

/-- Resume steps 3 and 4: the memory is back, commit records are complete, channels stand where they stood. -/
def Dev.resumeStreams (d : Dev) : Dev :=
  let d1 := (d.memBack).resumeDomains
  let d2 := Dev.each (d1.chans.map (·.1)) (fun n d => d.acceptClosed n) d1
  let d3 := { d2 with chans := d2.chans.map (fun (c : Nat × Chan) => (c.1, c.2.resumed (d2.chanState c.1 == 2))) }
  let rq := fun (q : Nat × RecQueue) =>
    (q.1, { q.2 with written := false, lastGranule := 0, drain := q.2.drain.filter (fun c => match d3.journalOf c.client c.tag with | some e => e.committed | none => true) })
  let ends := fun (b : Binding) => { b with ending := b.ending.filter (fun e => match e.2 with
    | some c => (match d3.journalOf c.client c.tag with | some y => y.committed | none => true)
    | none => true) }
  let d4 := { d3 with recqs := d3.recqs.map rq, binds := d3.binds.map ends, ring := { d3.ring with job := none } }
  let d5 := Dev.upto 16 (fun q d => d.setFlag F.XLAT_RECQ_STATE_DRAINING ((d.recq q).drain.isSome) q) d4
  let d6 := { (((({ d5 with phase := .run } : Dev).showUnits).showDigests).linksStart).bundlesResume with phase := d5.phase }
  ((d6.showEgress).showShed).setRecovery d5.recovering

/-! ### Replay (R29 step 6, R67) -/

/-- The journal order of the entries that are not DONE. -/
def Dev.journalOrder (d : Dev) : List Nat := d.journal.map (·.order)

/-- A committed command whose effect stands: only its reply is produced (R67). -/
def Dev.replyOnly (d : Dev) (e : JEntry) (x : CmdExtra) : Dev :=
  let c := e.ctx x
  match e.opcode with
  | 0x0000 => d.finish c e.opcode .ok
  | 0x0403 | 0x0702 | 0x0703 => d.finish c e.opcode .ok
  | _ => d

/-- One journaled command: carried out again from its start where it had not reached its commit point. -/
def Dev.replayOne (x : ResumeInfo) (order : Nat) (d : Dev) : Dev :=
  match d.journal.find? (fun e => e.order = order) with
  | none => d
  | some e =>
    let extra := ((x.extras.find? (fun y => y.1 = order)).map (·.2)).getD {}
    if e.committed then (if e.opcode = 0x0000 ∧ d.mayStart e = false then d else d.replyOnly e extra)
    else if d.mayStart e = false then d
    else match d.commitStands e with
      | some (target, gen, im) => { d with almCommitted := true }.showAlmanac.commitEnds (e.ctx extra) target gen im
      | none => d.runEntry e extra

/-- The journal is replayed in acceptance order (R29); a command that has to wait for another one follows when COMMAND_START comes. -/
def Dev.replayJournal (d : Dev) (x : ResumeInfo) : Dev :=
  let d1 := { d with journal := d.journal.map (fun (e : JEntry) => if e.committed then e else { e with started := false }) }
  Dev.each d1.journalOrder (fun o d => d.replayOne x o) d1

/-- The DONE reply of WARM-RESET (R29 step 8), of those in the journal and of one issued without it. -/
def Dev.warmDone (d : Dev) : Dev :=
  let d1 := Dev.each (d.journal.filter (fun e => e.opcode = 0x0004)) (fun e d => d.finish { client := e.client, tag := e.tag } 0x0004 .ok) d
  match d.warmAsk with
  | some c => let d2 := { d1 with warmAsk := none }; if (d.journalOf c.client c.tag).isSome then d2 else d2.finish c 0x0004 .ok
  | none => d1

/-- Audio at resume step 7 (R440): started streams restart, one that was stopping ends, with its jobs. -/
def Dev.audioResume (d : Dev) : Dev :=
  let d1 := Dev.upto 16 (fun k d => if d.flag F.AUDIO_STREAM_STARTED k ∧ (d.astream k).stopping = true then d.endStream k else d) d
  if d1.mode = 0 then d1 else d1.audioBack

/-- Resume steps 5 to 8. -/
def Dev.resumeLate (d : Dev) (x : ResumeInfo) : Dev :=
  let marked := fun (r : Reply) => { r with resumed := true }
  let d1 := { d with phase := .run, replaying := true, held := d.held.map (fun (h : Nat × Reply) => (h.1, marked h.2)), spiOut := d.spiOut.map marked }.setFlag
    F.CMD_STATUS_REPLAYING true
  let d1b := (((d1.setFlag F.CMD_STATUS_READY true).audioResume).replayJournal x).endBindings
  -- R87: the doorbells latched during the reset are serviced once MODE.BUSY clears.
  let d2 := if d1b.modeJob.isNone then d1b.serviceLatches else d1b
  let d3 := Dev.upto 64 (fun n d => d.flushReplies n) d2.warmDone
  let d4 := ({ d3 with replaying := false }.setFlag F.CMD_STATUS_REPLAYING false)
  let us := getAt 0 x.micros 7
  let d5 := ((d4.setF F.KEEPER_START_TIME_MS (us / 1000)).setFlag F.KEEPER_START_TIME_WARM true)
  let d6 := Dev.upto 8 (fun k d => d.setF F.KEEPER_RESUME_US (getAt 0 x.micros k) k) d5
  let d7 := if d6.modeJob.isNone then d6.setFlag F.KEEPER_MODE_BUSY false else d6
  { (d7.keeperEvent 0x41 2).updHolds with phase := .run, replaying := false }

/-- A resume is abandoned (R30): the cold start-up runs, and nothing but the flash is kept. -/
def Dev.escalate (d : Dev) (x : StartInfo) : Dev :=
  let d1 := (d.cold).setFlag F.KEEPER_RESET_CAUSE_ESCALATED true
  (d1.logEvent .keeper 0x44 0 d1.mode 0).startUp x

/-- WARM_RESUME (R29): after WRST_N has risen, or after the internal release. -/
def Dev.warmResume (d : Dev) (x : ResumeInfo) : Dev :=
  if d.phase ≠ .warmReset ∨ (d.warmByCmd = true ∧ d.released = false) then d
  else if x.damaged then d.escalate x.start
  else
    let d1 := (((({ d with warmByCmd := false, released := false }.resumeRegs).clearSensorMarks).takeRaws x.raws).checkSensors).evalZones.selfTestComps x.comps
    (if d1.mode = 0 then d1 else d1.resumeStreams).resumeLate x

end Sys2Proof.Machine
end

