-- ==== Sys2Proof/Machine/Pressure.lean ====
section
/-! DEFINITION. What injecting perturbations do to the commands they name (R491, R492): jitter on placements and takes, back-pressure on
a consumer, delayed responses, inverted line bits. A delay itself shows in when a command comes, which its sender decides. -/
namespace Sys2Proof.Machine

/-- Whether dispatch jitter acts on cluster `c`. -/
def Dev.jittered (d : Dev) (c : Nat) : Bool := d.injecting 0 && bit (d.pertTarget 0) c

/-- One draw of jitter for each task of `new` that `old` did not hold. -/
def Dev.jitterPlaced (old : List Task) (d : Dev) : Dev :=
  Dev.each (d.tasks.filter (fun (t : Task) => !old.any (fun u => u.token == t.token)))
    (fun t d => if d.jittered (t.engine / 16) then d.drawInject 0 else d) d

/-- A placement under jitter (R219). -/
def Dev.placing (d : Dev) (f : Dev → Dev) : Dev := Dev.jitterPlaced d.tasks (f d)

/-- A take by engine `e` under jitter (R220, R221). -/
def Dev.taking (d : Dev) (e : Nat) (f : Dev → Dev) : Dev :=
  let d1 := f d
  if d.runOf e = none ∧ (d1.runOf e).isSome = true ∧ d1.jittered (e / 16) = true then d1.drawInject 0 else d1

/-- The cluster whose ready lists a steal of engine `e` would take from. -/
def Dev.stealFrom (d : Dev) (e : Nat) : Nat := match d.stealChoice e with | some (t, _) => t.engine / 16 | none => e / 16

/-- A consumer that back-pressure stalls takes nothing (R491). -/
def Dev.unlessStalled (d : Dev) (fifo i : Nat) (f : Dev → Dev) : Dev := if d.stalled fifo i then d else f d

/-- A read whose response is held (R491): the read that is about to complete is the oldest issued on its pseudo-channel. -/
def Dev.delaying (d : Dev) (n : Nat) (f : Dev → Dev) : Dev :=
  let hit := d.injecting 2 && bit (d.pertTarget 2) (n / 32) &&
    (match (d.pc n).issued with | q :: _ => bit (d.pertTarget 2) (4 + q.port.val) | [] => false)
  f (if hit then d.drawInject 2 else d)

/-- TARGET of the lane bit errors that names a lane. -/
def laneTarget : LinkLane → Nat
  | .sensor n => n.val
  | .twin n => 256 + n.val
  | .ring n => 512 + n.val

/-- A marker slot of a lane passes: the bursts of bit errors of its period are counted; how many the generator makes is open. -/
def Dev.bursts (d : Dev) (l : LinkLane) : Dev :=
  if d.injecting 3 && d.pertTarget 3 % 1024 == laneTarget l then ((d.inject 3 (d.freeBits 16))).drawn else d

end Sys2Proof.Machine
end

