-- ==== Sys2Proof/Machine/Tick.lean ====
section
/-! DEFINITION. The tick of the timebase, what it moves by itself, and the registers and pins that follow from the rest of the state after
every command. -/
namespace Sys2Proof.Machine

/-! ### Registers and pins that follow from the state -/

/-- The bits of TWIN.LOCKED word `w` (R304): the channels 32w to 32w + 31 that are LOCKED. -/
def Dev.lockedWord (d : Dev) (w : Nat) : Nat :=
  d.chans.foldl (fun m (c : Nat × Chan) => if c.1 / 32 = w ∧ c.2.lock = .locked then setBit m (c.1 % 32) else m) 0

/-- The bits of KEEPER.INT_STATUS and PREVIEW.INT_STATUS that have raised vector 64 and are set (R80, R521): those enabled now, the event log's own
bit, which raises the vector whatever INT_EN holds, and those that were unread before. -/
def Dev.unreadNow (d : Dev) : Nat × Nat :=
  (d.getF F.KEEPER_INT_STATUS &&& (d.getF F.KEEPER_INT_EN ||| 8 ||| d.unread.1), d.getF F.PREVIEW_INT_STATUS &&& (d.getF F.PREVIEW_INT_EN ||| d.unread.2))

/-- Whether ALERT_N is to be asserted (R37, R80, R89): it mirrors unread events of vector 64, and replies that wait for READ-REPLY, outside every
reset. -/
def Dev.alertNow (d : Dev) : Bool :=
  (d.phase == .run || d.phase == .startHold || d.phase == .stopped) && (!d.spiOut.isEmpty || d.unreadNow.1 != 0 || d.unreadNow.2 != 0)

/-- What follows from the rest of the state is brought up to date: CMD.STATUS.SPI_PENDING (R77), TB.STATUS.STEER (R396), TWIN.LOCKED
(R304), the event log's bound (R482) and ALERT_N. -/
def Dev.settle (d : Dev) : Dev :=
  let d0 := { d with evlog := d.evlog.take evCapacity }
  let d1 := (d0.setF F.CMD_STATUS_SPI_PENDING (min 64 d0.spiOut.length)).setF F.TB_STATUS_STEER d0.steerNow
  let d2 := (((d1.setF F.TWIN_LOCKED (d0.lockedWord 0) 0).setF F.TWIN_LOCKED (d0.lockedWord 1) 1).setF F.TWIN_LOCKED (d0.lockedWord 2) 2).setF
    F.TWIN_LOCKED (d0.lockedWord 3) 3
  { d2 with alert := d0.alertNow, unread := d0.unreadNow }

/-! ### The tick -/

/-- Whether the timebase has power and clock. -/
def Dev.timeRuns (d : Dev) : Bool := d.phase != .coldReset && d.phase != .shutdown && d.phase != .clockStop

/-- TRIM_NOW moves towards RES_TRIM by one step of 0.01 ppm in 10 µs, which is 1 ppm per ms (R459). -/
def Dev.tickTrim (d : Dev) : Dev :=
  let now := sext 16 (d.getF F.CLK_TRIM_NOW)
  let goal := sext 16 (d.getF F.CLK_RES_TRIM)
  if now = goal ∨ d.tick % 2500 ≠ 0 then d
  else d.setF F.CLK_TRIM_NOW (wrapInt 16 (if now < goal then now + 1 else now - 1))

/-- One tick of 4 ns (R394), with what it moves by itself. -/
def Dev.tickOnce (d : Dev) : Dev :=
  if d.timeRuns then ((((d.tickTime).tickBackoff).tickTwin).tickStall).tickTrim else { d with tick := d.tick + 1 }

end Sys2Proof.Machine
end

