-- ==== Sys2Proof/Machine/Outcome.lean ====
section
/-! DEFINITION. How a meaning acts: its effect on the device, after which what follows from the state is brought up to date; the queue is
left as it is. -/
namespace Sys2Proof.Machine

/-- The next state after an effect on the device. -/
def State.act (s : State) (f : Dev → Dev) : Outcome := .next { s with dev := (f s.dev).settle }

end Sys2Proof.Machine
end

