-- ==== Sys2Proof/Machine/AlmanacMeanings.lean ====
section
/-! DEFINITION. The meanings of the commands of the Almanac, one per row of the command table. -/
namespace Sys2Proof.Machine

/-- ALMANAC_READ (R502): Command that reads up to 4,096 bytes from a flash slot or the staging buffer. -/
def execAlmanacRead (c : Ctx) (source offset length : Nat) (s : State) : Outcome :=
  s.act (fun d => d.issue c (jobAlmanacRead c source offset length))

/-- ALMANAC_STAGE (R53): Command that copies host bytes into the Almanac staging buffer. -/
def execAlmanacStage (c : Ctx) (begin : Bool) (offset length : Nat) (s : State) : Outcome :=
  s.act (fun d => d.issue c (jobAlmanacStage c begin offset length))

/-- ALMANAC_COMMIT (R55): Command that checks the staged image and writes it, with its commit record, to the target user copy. -/
def execAlmanacCommit (c : Ctx) (length crc : Nat) (s : State) : Outcome := s.act (fun d => d.issue c (jobAlmanacCommit c length crc))

/-- ALMANAC_REVERT (R56): Command that retires the newer user copy, or both user copies. -/
def execAlmanacRevert (c : Ctx) (form : Nat) (s : State) : Outcome := s.act (fun d => d.issue c (jobAlmanacRevert c form))

/-- FLASH_OPERATION_DONE (R58): A NOR sector erase or program completes, after which the thermal check is repeated and the next sector
operation or the commit record follows. -/
def execFlashOperationDone (s : State) : Outcome := s.act (fun d => Dev.nextModes d.modeWait.length ((d.flashDone).fencesSince d.fences))

end Sys2Proof.Machine
end

