-- ==== Sys2Proof/Machine/AudioMeanings.lean ====
section
/-! DEFINITION. The meanings of the commands of audio, one per row of the command table. -/
namespace Sys2Proof.Machine

/-- AUDIO_CONFIGURE (R441): Command that configures a TDM port or the PDM inputs. -/
def execAudioConfigure (c : Ctx) (block : List Byte) (s : State) : Outcome :=
  s.act (fun d => d.issueRaw c block (jobAudioConfigure c block))

/-- AUDIO_ROUTE (R438): Command that starts or stops an audio stream with fades. -/
def execAudioRoute (c : Ctx) (block : List Byte) (s : State) : Outcome := s.act (fun d => d.issueRaw c block (jobAudioRoute c block))

/-- AUDIO_MUTE (R436): Command that sets a new target gain of 0 or 1 on a microphone, DIN slot or stream. -/
def execAudioMute (c : Ctx) (kind index slot action : Nat) (s : State) : Outcome :=
  s.act (fun d => d.issue c (jobAudioMute c kind index slot action))

/-- SAMPLE_FRAME (R424): An audio sample frame is captured at t_n, with fades, PCM blocks and packets advanced. -/
def execSampleFrame (rate : Fin 2) (mics din : List Int) (changed : Nat) (s : State) : Outcome :=
  s.act (fun d => d.sampleFrame rate mics din changed)

/-- FRAME_START (R429): A TDM frame begins on an FS edge, applying pending masks and handling slips. -/
def execFrameStart (port : Fin 4) (clocks : Nat) (s : State) : Outcome := s.act (fun d => d.frameStart port clocks)

/-- MIC_STUCK (R428): A microphone's bits stay equal for 1 ms, and it is faded to silence. -/
def execMicStuck (mic : Fin 32) (s : State) : Outcome := s.act (fun d => d.micStuck mic)

/-- CLOCK_LOSS (R434): No frame start occurs within 2 × T_f on a slave port, and the port's clock is lost. -/
def execClockLoss (port : Fin 4) (s : State) : Outcome := s.act (fun d => d.clockLoss port)

/-- AMCLK_LOSS (R425): AMCLK deviates by more than 1 %, and its master ports change to the internal clock. -/
def execAmclkLoss (back : Bool) (s : State) : Outcome := s.act (fun d => d.amclkLossQ back)

/-- RATE_MEASUREMENT (R433): Every 256 frames a port updates its measured FS rate and may change RATE_REP. -/
def execRateMeasurement (port : Fin 4) (mhz : Nat) (s : State) : Outcome := s.act (fun d => d.rateMeasurement port mhz)

/-- FADE_TIMEOUT (R436): 20 ms pass without a zero crossing, and the gain ramps to its target. -/
def execFadeTimeout (point : AudioPoint) (s : State) : Outcome := s.act (fun d => d.fadeTimeout point)

end Sys2Proof.Machine
end

