-- ==== Sys2Proof/Machine/ChannelMeanings.lean ====
section
/-! DEFINITION. The meanings of the commands of channels, engines and dispatch, one per row of the command table. -/
namespace Sys2Proof.Machine

/-- OPEN_CHANNEL (R159): Command that checks channel parameters, admits the channel and makes it OPEN. -/
def execOpenChannel (c : Ctx) (block : List Byte) (s : State) : Outcome := s.act (fun d => d.issueRaw c block (jobOpenChannel c block))

/-- CLOSE_CHANNEL (R180): Command that aborts a started channel if needed, then frees its store, buffers and allocation. -/
def execCloseChannel (c : Ctx) (channel : Nat) (s : State) : Outcome := s.act (fun d => d.issue c (jobCloseChannel c channel))

/-- START_CHANNEL (R180): Command that starts a channel from the first picture whose line 0 is placed after its commit point. -/
def execStartChannel (c : Ctx) (channel : Nat) (s : State) : Outcome := s.act (fun d => d.issue c (jobStartChannel c channel))

/-- STOP_CHANNEL (R180): Command that stops a channel by DRAIN or ABORT and ends its stream with end of sequence. -/
def execStopChannel (c : Ctx) (channel mode : Nat) (s : State) : Outcome := s.act (fun d => d.issue c (jobStopChannel c channel mode))

/-- RECONFIGURE_CHANNEL (R179): Command that changes channel parameters, taking effect at the next picture or random access picture. -/
def execReconfigureChannel (c : Ctx) (block : List Byte) (s : State) : Outcome :=
  s.act (fun d => d.issueRaw c block (jobReconfigure c block))

/-- FORCE_EQUINOX (R166): Command that makes the next picture of a started channel an agreed IDR picture. -/
def execForceEquinox (c : Ctx) (channel : Nat) (s : State) : Outcome := s.act (fun d => d.issue c (jobForceEquinox c channel))

/-- QUERY_CHANNEL (R504): Command returning the 320-byte channel record. -/
def execQueryChannel (c : Ctx) (channel : Nat) (s : State) : Outcome := s.act (fun d => d.issue c (jobQueryChannel c channel))

/-- HARVEST_ARM (R149): Command that allocates a Harvest buffer and arms a capture, or re-binds a kept buffer. -/
def execHarvestArm (c : Ctx) (channel flags triggers gen slots pre post : Nat) (s : State) : Outcome :=
  s.act (fun d => d.issue c (jobHarvestArm c channel flags triggers gen slots pre post))

/-- HARVEST_TRIGGER (R150): Command that triggers an armed capture. -/
def execHarvestTrigger (c : Ctx) (channel : Nat) (s : State) : Outcome := s.act (fun d => d.issue c (jobHarvestTrigger c channel))

/-- HARVEST_RELEASE (R151): Command that cancels a capture's outstanding row tasks and frees its buffer. -/
def execHarvestRelease (c : Ctx) (channel : Nat) (s : State) : Outcome := s.act (fun d => d.issue c (jobHarvestRelease c channel))

/-- SELFTEST (R207): Command that codes test CTUs on the named engines and fences any engine whose signature differs. -/
def execSelftest (c : Ctx) (engines wrong delta : Nat) (s : State) : Outcome :=
  s.act (fun d => d.issue c (jobSelftest c engines wrong delta))

/-- CACHE_INVAL (R195): Write of ENG.CTRL.CACHE_INVAL that discards every window cache tag. -/
def execCacheInval (path : Path) (engine : Fin 128) (s : State) : Outcome :=
  s.act (fun d => d.directField path F.ENG_CTRL_HOLD (d.getF F.ENG_CTRL_HOLD engine + 2) engine)

/-- HOLD (R207): Write of ENG.CTRL.HOLD in Maintenance that makes an engine take no new task after its current one. -/
def execHold (path : Path) (engine : Fin 128) (on : Bool) (s : State) : Outcome :=
  s.act (fun d => d.directField path F.ENG_CTRL_HOLD (b2n on) engine)

/-- GIVE (R223): Write of DISPATCH.GIVE with GO that releases one ask of a held engine. -/
def execGive (path : Path) (cluster : Fin 8) (engine : Fin 16) (go : Bool) (s : State) : Outcome :=
  s.act (fun d => d.directField path F.DISPATCH_GIVE_ENGINE (engine + 16 * b2n go) cluster)

/-- ROW_ISSUE (R210): Once its conditions hold, the issuer sets QP, effort and cap and places the row task on a ready list. -/
def execRowIssue (channel : Fin 128) (s : State) : Outcome := s.act (fun d => d.placing (fun e => e.rowIssueAt channel))

/-- TASK_TAKE (R220): An engine takes a task from its slot or list, or resumes a saved context. -/
def execTaskTake (engine : Fin 128) (dchk ctxGood : Bool) (s : State) : Outcome :=
  s.act (fun d => d.unlessStalled 1 (engine / 16) (fun d => d.taking engine (fun e => e.taskTake engine dchk ctxGood)))

/-- STEAL (R221): An idle engine takes an entry from another list whose wait has reached STEAL or XSTEAL. -/
def execSteal (engine : Fin 128) (dchk ctxGood : Bool) (s : State) : Outcome :=
  s.act (fun d => d.unlessStalled 1 (d.stealFrom engine) (fun d => d.taking engine (fun e => e.steal engine dchk ctxGood)))

/-- ASK (R223): In ask-and-block service an idle engine asks the dispatcher for a task. -/
def execAsk (engine : Fin 128) (dchk ctxGood : Bool) (s : State) : Outcome :=
  s.act (fun d => d.unlessStalled 1 (engine / 16) (fun d => d.taking engine (fun e => e.ask engine dchk ctxGood)))

/-- PREEMPT (R224): A LIVE entry has waited for STEAL with no engine idle, and a DEFERRED or decode task is pre-empted. -/
def execPreempt (cluster : Fin 8) (s : State) : Outcome := s.act (fun d => d.preempt cluster)

/-- CONTEXT_SAVE (R370): A pre-empted task's context save completes with CHECK written, and the task returns to its list. -/
def execContextSave (engine : Fin 128) (ok : Bool) (s : State) : Outcome := s.act (fun d => d.contextSave engine ok)

/-- TOKEN_PUBLISH (R215): An engine publishes a coarse or progress token for a CTU of its row. -/
def execTokenPublish (engine : Fin 128) (coarse : Bool) (cycles stall refetch : Nat) (s : State) : Outcome :=
  s.act (fun d => d.tokenPublish engine coarse cycles stall refetch)

/-- ROW_COMMIT (R188): An engine commits a complete row, making its substream and reconstruction visible. What the row comes to is a function of its
inputs (R187): a size, a motion summary or a digest that the event names has no part in it (log entry 98). -/
def execRowCommit (engine : Fin 128) (_size : Nat) (_mx _my : Int) (_recon cycles : Nat) (s : State) : Outcome :=
  s.act (fun d => d.rowCommit engine cycles)

/-- ENGINE_FAULT (R228): An engine raises a fault, and is fenced, and its row is re-issued. -/
def execEngineFault (engine : Fin 128) (cause : Fin 5) (stage : Fin 7) (s : State) : Outcome :=
  s.act (fun d => d.engineFault engine (some cause.val) stage 0)

/-- ENGINE_SILENCE (R229): A running engine publishes nothing for 100 µs, and this is treated as an engine fault. -/
def execEngineSilence (engine : Fin 128) (s : State) : Outcome := s.act (fun d => d.engineSilence engine)

/-- DISPATCHER_HEARTBEAT (R229): Dispatchers exchange heartbeats every 1 µs, and one missing 4 is fenced with its cluster. -/
def execDispatcherHeartbeat (missed : Fin 256) (s : State) : Outcome := s.act (fun d => d.dispatcherHeartbeat missed)

/-- RESCUE (R231): At RESCUE_AT a row with no committed instance is given to a rescue coder lane, and rows below restart. -/
def execRescue (channel : Fin 128) (picture : Nat) (row : Fin 256) (s : State) : Outcome := s.act (fun d => d.rescue channel picture row)

/-- RESCUE_COMMIT (R231): A rescue lane commits the row's rescue coding, which R242 gives: a size or a digest that the event names has no part in it
(log entry 98). -/
def execRescueCommit (channel : Fin 128) (picture : Nat) (row : Fin 256) (_size _recon : Nat) (s : State) : Outcome :=
  s.act (fun d => d.rescueCommit channel picture row)

/-- ROW_DEPART (R164): At DEPART_AT the row's first coded byte is handed to egress, with any parameter sets, SEI and filler. -/
def execRowDepart (channel : Fin 128) (lens : List Nat) (crc : Nat) (s : State) : Outcome := s.act (fun d => d.rowDepartAt channel lens crc)

/-- NOTE_COMPARE (R291): At DEPART_AT − 5 µs, twin notes for a LOCKED row are compared, and the channel may leave lockstep. -/
def execNoteCompare (channel : Fin 128) (picture : Nat) (row : Fin 256) (s : State) : Outcome :=
  s.act (fun d => d.noteCompare channel picture row)

end Sys2Proof.Machine
end

