-- ==== Sys2Proof/Machine/CommandMeanings.lean ====
section
/-! DEFINITION. The meanings of the commands of transport and reports, one per row of the command table. -/
namespace Sys2Proof.Machine

/-- NOP (R500): Command that does nothing and completes at acceptance. -/
def execNop (c : Ctx) (s : State) : Outcome := s.act (fun d => d.issue c (jobNop c))

/-- GET_INFO (R501): Command returning the 48-byte device information record. -/
def execGetInfo (c : Ctx) (s : State) : Outcome := s.act (fun d => d.issue c (jobGetInfo c))

/-- GET_STATUS (R501): Command returning the 32-byte device status record. -/
def execGetStatus (c : Ctx) (s : State) : Outcome := s.act (fun d => d.issue c (jobGetStatus c))

/-- SNAPSHOT_COUNTERS (R487): Command that captures the counters in scope at one tick, clears them unless NO_CLEAR is set, and writes them
to a host buffer. -/
def execSnapshotCounters (c : Ctx) (scope flags length scatter : Nat) (s : State) : Outcome :=
  s.act (fun d => d.issue c (jobSnapshot c scope flags length scatter))

/-- READ_EVENTS (R484): Command returning event log records from FROM_SEQ onwards. -/
def execReadEvents (c : Ctx) (from_ most : Nat) (s : State) : Outcome := s.act (fun d => d.issue c (jobReadEvents c from_ most))

/-- SPI_RELEASE (R500): Command that unbinds an SPI client number once its DONE reply has been read. -/
def execSpiRelease (c : Ctx) (s : State) : Outcome := s.act (fun d => d.issue c (jobSpiRelease c))

/-- WRITE_PACKET (R78): SPI instruction that delivers one command packet, refused when 4 packets are already buffered. -/
def execWritePacket (bytes : List Byte) (s : State) : Outcome := s.act (fun d => d.writePacket bytes)

/-- READ_REPLY (R77): SPI instruction returning the oldest pending reply. -/
def execReadReply (s : State) : Outcome := s.act (fun d => d.readReply)

/-- READ_REG (R77): SPI instruction reading one register. -/
def execReadReg (addr : Nat) (s : State) : Outcome := s.act (fun d => d.directRead .spi addr 4)

/-- WRITE_REG (R77): SPI instruction writing one register under the direct write rules. -/
def execWriteReg (addr value : Nat) (s : State) : Outcome := s.act (fun d => d.directWrite .spi addr value 15)

/-- SPI_STATUS (R77): SPI STATUS instruction returning the reply-pending, not-ready and refused bits. -/
def execSpiStatus (s : State) : Outcome := s.act (fun d => d.spiStatus)

/-- SQ_DB (R71): Doorbell write giving a client's new submission tail, which starts slot fetching. -/
def execSqDb (client : Fin 64) (value : Nat) (s : State) : Outcome := s.act (fun d => d.sqDb client value)

/-- RQ_DB (R72): Doorbell write giving a client's new reply head, which frees reply slots. -/
def execRqDb (client : Fin 64) (value : Nat) (s : State) : Outcome := s.act (fun d => d.rqDb client value)

/-- QUEUE_OPEN (R74): Write of CTRL.ENABLE = 1 that opens a client queue or sets ERROR. -/
def execQueueOpen (path : Path) (client : Fin 64) (value : Nat) (s : State) : Outcome :=
  s.act (fun d => d.directField path F.CMD_Q_CTRL_ENABLE (setBit value 0) client)

/-- QUEUE_CLOSE (R75): Write of CTRL.ENABLE = 0 that sets CLOSING and stops fetching. -/
def execQueueClose (path : Path) (client : Fin 64) (value : Nat) (s : State) : Outcome :=
  s.act (fun d => d.directField path F.CMD_Q_CTRL_ENABLE (clearBit value 0) client)

/-- QUEUE_CLOSE_END (R75): Once every accepted command of a closing queue is DONE, OPEN and CLOSING are cleared. -/
def execQueueCloseEnd (client : Fin 64) (s : State) : Outcome := s.act (fun d => d.closeIfDone client)

/-- SLOT_FETCH (R65): The device fetches a submission slot, checks it, journals it and sends ACCEPTED or a rejection. -/
def execSlotFetch (source : Option (Fin 64)) (bytes : Option (List Byte)) (rd host : HostRead) (s : State) : Outcome :=
  s.act (fun d =>
    match source with
    | some n => d.slotFetch n bytes rd host
    | none => d.spiFetch host)

/-- SLOT_READ_RETRY (R71): After a failed slot read, the read is retried 10 µs later, up to 3 times. -/
def execSlotReadRetry (client : Fin 64) (bytes : Option (List Byte)) (rd host : HostRead) (s : State) : Outcome :=
  s.act (fun d => d.slotRetry client bytes rd host)

/-- COMMAND_START (R553): An accepted command starts once its predecessors allow it, and its pre-acceptance checks are made again. -/
def execCommandStart (order : Nat) (extra : CmdExtra) (s : State) : Outcome := s.act (fun d => d.commandStart order extra)

end Sys2Proof.Machine
end

