-- ==== Sys2Proof/Machine/DecodeMeanings.lean ====
section
/-! DEFINITION. The meanings of the commands of decoding, one per row of the command table. -/
namespace Sys2Proof.Machine

/-- DECODE_OPEN (R259): Command that opens a REVIEW or CONFIDENCE decode context with its buffers and windows. -/
def execDecodeOpen (c : Ctx) (block : List Byte) (s : State) : Outcome := s.act (fun d => d.issueRaw c block (jobDecodeOpen c block))

/-- DECODE_FEED (R273): Command that copies stream bytes into a REVIEW context's input ring, or returns the decode record. -/
def execDecodeFeed (c : Ctx) (block : List Byte) (s : State) : Outcome := s.act (fun d => d.issueRaw c block (jobDecodeFeed c block))

/-- DECODE_CLOSE (R260): Command that closes or frees a decode context and returns its record. -/
def execDecodeClose (c : Ctx) (context : Nat) (s : State) : Outcome := s.act (fun d => d.issue c (jobDecodeClose c context))

/-- ENTROPY_PARSE (R261): An entropy decode unit parses NAL units and a row substream and passes it to a decode task. -/
def execEntropyParse (context : Fin 16) (item : ParseItem) (used cycles : Nat) (s : State) : Outcome :=
  s.act (fun d => d.entropyParse context item used cycles)

/-- DECODE_ROW_COMMIT (R261): A decode task writes its row to the decoded picture buffer, with confidence digests compared at picture end.
-/
def execDecodeRowCommit (engine : Fin 128) (xlat : Bool) (digest cycles : Nat) (s : State) : Outcome :=
  s.act (fun d => d.decodeRowCommit engine xlat digest cycles)

/-- BUDGET_EXPIRY (R266): Decode work reaches its cycle bound and is abandoned and concealed. -/
def execBudgetExpiry (unit context : Fin 16) (work : DecodeWork) (s : State) : Outcome := s.act (fun d => d.budgetExpiry unit context work)

/-- RETENTION_EXPIRY (R271): A confidence picture not yet decoded reaches the end of its retention and is abandoned. -/
def execRetentionExpiry (context : Fin 16) (s : State) : Outcome := s.act (fun d => d.retentionExpiry context)

end Sys2Proof.Machine
end

