-- ==== Sys2Proof/Machine/EgressMeanings.lean ====
section
/-! DEFINITION. The meanings of the commands of network egress, one per row of the command table. -/
namespace Sys2Proof.Machine

/-- EGRESS_BIND (R377): Command that checks the reserved rate and binds a video or audio stream to the network paths. -/
def execEgressBind (c : Ctx) (block : List Byte) (s : State) : Outcome := s.act (fun d => d.issueRaw c block (jobEgressBind c block))

/-- EGRESS_UNBIND (R376): Command that stops a stream's egress after its current access unit or audio packet. -/
def execEgressUnbind (c : Ctx) (kind stream : Nat) (s : State) : Outcome := s.act (fun d => d.issue c (jobEgressUnbind c kind stream))

/-- PACKET_SEND (R384): Once its byte bucket holds a packet's bytes, a media packet leaves a port. -/
def execPacketSend (port : Fin 2) (fault : Option (Fin 9)) (s : State) : Outcome :=
  s.act (fun d => d.packetSend port (fault.map (fun k => k.val)))

/-- PORT_LINK_DOWN (R385): An Ethernet port loses link, and its packets are discarded while the other path continues. -/
def execPortLinkDown (port : Fin 2) (fec : Bool) (s : State) : Outcome := s.act (fun d => d.portLinkDown port fec)

/-- LINK_UP (R373): Auto-negotiation and RS-FEC lock complete on a port. -/
def execLinkUp (port : Fin 2) (skew : List Nat) (s : State) : Outcome := s.act (fun d => d.linkUp port skew)

/-- FRAME_RECEIVE (R374): A port receives a frame and accepts or discards it. -/
def execFrameReceive (port : Fin 2) (frame : RxFrame) (bytes : Nat) (fec : FecReport) (s : State) : Outcome :=
  s.act (fun d => d.frameReceive port frame bytes fec)

/-- PTP_MESSAGE (R392): A PTP message is received, updating the offset, steering or synchronisation state. -/
def execPtpMessage (port : Fin 2) (domain : Nat) (v6 : Bool) (msg : PtpMsg) (s : State) : Outcome :=
  s.act (fun d => d.ptpMessage port domain v6 msg)

/-- DELAY_REQ (R390): At the delay request interval a Delay_Req is sent and its timestamp queued. -/
def execDelayReq (s : State) : Outcome := s.act (fun d => d.delayReq)

/-- ANNOUNCE_TIMEOUT (R392): No Announce arrives within the receipt timeout, and the timebase holds over. -/
def execAnnounceTimeout (port : Fin 2) (s : State) : Outcome := s.act (fun d => d.announceTimeout port)

/-- PTP_PORT_CHANGE (R391): A change of best PTP port that has held for 4 s takes effect. -/
def execPtpPortChange (s : State) : Outcome := s.act (fun d => d.ptpPortChange)

/-- ADDRESS_RESOLVE (R388): Every 30 s, or every 1 s for unresolved destinations, unicast destinations are resolved. -/
def execAddressResolve (kind stream : Nat) (path : Fin 2) (answered : Bool) (s : State) : Outcome :=
  s.act (fun d => d.addressResolve kind stream path answered)

/-- GRATUITOUS_ARP (R387): A gratuitous ARP and unsolicited advertisement for a newly transmitted path identity are repeated at 1 ms. -/
def execGratuitousArp (path : Fin 2) (s : State) : Outcome := s.act (fun d => d.gratuitousRepeat path)

/-- GROUP_QUERY (R389): An IGMP or MLD query is answered within its response time. -/
def execGroupQuery (port : Fin 2) (v6 : Bool) (s : State) : Outcome := s.act (fun d => d.groupQuery port v6)

end Sys2Proof.Machine
end

