-- ==== Sys2Proof/Machine/LaneMeanings.lean ====
section
/-! DEFINITION. The meanings of the commands of sensor lanes and picture ingress, one per row of the command table. -/
namespace Sys2Proof.Machine

/-- BUNDLE_CONFIGURE (R506): Command that writes a bundle's matrix, FRONT_CTRL, CFG and FIFO_CTRL in that order. -/
def execBundleConfigure (c : Ctx) (bundle what cfg front fifo : Nat) (matrix : List Int) (s : State) : Outcome :=
  s.act (fun d => d.issue c (jobBundleConfigure c bundle what cfg front fifo matrix))

/-- BUNDLE_TRAIN (R123): Command that restarts a bundle from SEEK at rate code 0, clearing its backoff and rate cap. -/
def execBundleTrain (c : Ctx) (bundle : Nat) (s : State) : Outcome := s.act (fun d => d.issue c (jobBundleTrain c bundle))

/-- LANE_STATUS (R506): Command returning a bundle's SL and BUNDLE registers without clearing RC fields. -/
def execLaneStatus (c : Ctx) (bundle : Nat) (s : State) : Outcome := s.act (fun d => d.issue c (jobLaneStatus c bundle))

/-- FLUSH (R141): Write of FIFO_CTRL.FLUSH that empties both FIFO banks and abandons uncommitted lines. -/
def execFlush (path : Path) (bundle : Fin 16) (high low : Nat) (cut : Option CutPacket) (s : State) : Outcome :=
  s.act (fun d => d.directFlush path bundle high low cut)

/-- MARKER (R98): A lane receives an alignment marker slot, updating lock, alignment, training and source messages. -/
def execMarker (lane : LinkLane) (word : BitVec 64) (gap skew eyeH eyeW : Nat) (s : State) : Outcome :=
  s.act (fun d =>
    let e := d.bursts lane
    match lane with
    | .sensor n => e.sensorMarker n word.toNat gap skew eyeH eyeW
    | .twin n => e.linkMarker false n word.toNat gap skew
    | .ring n => e.linkMarker true n word.toNat gap skew)

/-- MARKER_SLOT_MISSED (R98): A marker slot passes without a good marker, and four consecutive misses declare the lane lost. -/
def execMarkerSlotMissed (lane : LinkLane) (s : State) : Outcome :=
  s.act (fun d =>
    let e := d.bursts lane
    match lane with | .sensor n => e.sensorSlotMissed n | .twin n => e.linkMissed false n | .ring n => e.linkMissed true n)

/-- LOSS_OF_SIGNAL (R114): A lane receiver reports loss of signal or clock-recovery lock, and the lane is declared lost. -/
def execLossOfSignal (lane : LinkLane) (s : State) : Outcome :=
  s.act (fun d =>
    match lane with
    | .sensor n => d.sensorLos n
    | .twin n => d.linkLos false n
    | .ring n => d.linkLos true n)

/-- STUFFING_VIOLATION (R95): The bit after a run of 24 equals the run, and the lane is marked suspect. -/
def execStuffingViolation (lane : LinkLane) (held : Fin 37) (s : State) : Outcome :=
  s.act (fun d =>
    match lane with
    | .sensor n => d.stuffing n held
    | .twin n => d.linkStuffing false n
    | .ring n => d.linkStuffing true n)

/-- PARITY_GROUP (R103): A bundle merges a parity group, delivering, rebuilding or poisoning its words. -/
def execParityGroup (bundle : Fin 16) (words : List (BitVec 64)) (s : State) : Outcome :=
  s.act (fun d => d.parityGroup bundle (words.map (fun w => w.toNat)))

/-- TRAINING_TIMEOUT (R109): A training state or RESUME times out after 10 ms, and the bundle goes to WAITING with a backoff. -/
def execTrainingTimeout (unit : LinkUnit) (s : State) : Outcome :=
  s.act (fun d =>
    match unit with
    | .bundle b => d.trainTimeout b
    | .twin => d.linkTimeout false
    | .ring => d.linkTimeout true)

/-- BACKOFF_EXPIRY (R109): A WAITING bundle's backoff expires, and it enters SEEK. -/
def execBackoffExpiry (unit : LinkUnit) (s : State) : Outcome :=
  s.act (fun d =>
    match unit with
    | .bundle b => d.backoffEnd b
    | .twin => d.linkBackoffEnd false
    | .ring => d.linkBackoffEnd true)

/-- RETRAIN_ATTEMPT (R117): A lost lane's retrain attempt begins at an inter-picture gap or 100 ms after the loss. -/
def execRetrainAttempt (lane : LinkLane) (s : State) : Outcome :=
  s.act (fun d =>
    match lane with
    | .sensor n => d.retrainBegin n
    | .twin n => d.linkRetrain false n
    | .ring n => d.linkRetrain true n)

/-- ATTEMPT_TIMEOUT (R117): A lane retrain attempt fails after 10 ms, fencing the lane after 3 failures. -/
def execAttemptTimeout (lane : LinkLane) (s : State) : Outcome :=
  s.act (fun d =>
    match lane with
    | .sensor n => d.attemptTimeout n
    | .twin n => d.linkAttemptTimeout false n
    | .ring n => d.linkAttemptTimeout true n)

/-- TALKBACK_REPEAT (R104): The current talkback message is repeated at least every 0.5 µs. -/
def execTalkbackRepeat (bundle : Fin 16) (s : State) : Outcome := s.act (fun d => d.talkRepeat bundle)

/-- LINE_PACKET (R132): A bundle receives a line packet, classifies it against the expected position and places it in the FIFO. -/
def execLinePacket (bundle : Fin 16) (words : List LineWord) (s : State) : Outcome := s.act (fun d => d.linePacket bundle words)

/-- LINE_COMMIT (R145): The memory writer commits a line with its parity and metadata, releasing HOLD_N when the fill falls to LOW_WM. -/
def execLineCommit (bundle : Fin 16) (bad : Nat) (s : State) : Outcome :=
  s.act (fun d => d.unlessStalled 0 bundle (fun d => d.lineCommit bundle bad))

/-- PICTURE_TIMEOUT (R146): In Live, two picture periods after a picture's first line, its shares close. -/
def execPictureTimeout (channel : Fin 128) (picture : Nat) (s : State) : Outcome := s.act (fun d => d.pictureTimeout channel picture)

/-- PICTURE_ACCEPT (R146): A closed picture's commit record is durable, and the picture is accepted. -/
def execPictureAccept (channel : Fin 128) (picture : Nat) (s : State) : Outcome := s.act (fun d => d.pictureAccept channel picture)

end Sys2Proof.Machine
end

