-- ==== Sys2Proof/Machine/LifeMeanings.lean ====
section
/-! DEFINITION. The meanings of the commands of modes, resets and temperature, one per row of the command table. -/
namespace Sys2Proof.Machine

/-- SET_MODE (R14): Command that checks and carries out a mode transition between permitted modes. -/
def execSetMode (c : Ctx) (target : Nat) (s : State) : Outcome := s.act (fun d => d.issue c (jobSetMode c target))

/-- WARM_RESET (R29): Command that is accepted and then makes the device enter warm reset within 100 µs. -/
def execWarmReset (c : Ctx) (s : State) : Outcome := s.act (fun d => d.issue c (jobWarmReset c))

/-- START_UP (R22): At the start reference the keeper runs the start-up sequence through to Configure and the boot target. -/
def execStartUp (info : StartInfo) (s : State) : Outcome := s.act (fun d => d.startReference info)

/-- THERMAL_HOLD_END (R25): The start-up thermal hold ends when every sensor reads below 100 °C, and start-up continues. -/
def execThermalHoldEnd (info : StartInfo) (s : State) : Outcome := s.act (fun d => d.thermalHoldEnd info)

/-- THERMAL_HOLD_TIMEOUT (R25): The start-up thermal hold exceeds 60 s, and start-up stops with FAIL_CODE 0x04. -/
def execThermalHoldTimeout (s : State) : Outcome := s.act (fun d => d.thermalHoldTimeout)

/-- COLD_RESET (R542): RESET_N or PWROK held low past the filter enters cold reset. -/
def execColdReset (s : State) : Outcome := s.act (fun d => d.coldReset)

/-- PWROK_FALL (R543): PWROK falling acts as RESET_N, except while THERMTRIP_N is asserted. -/
def execPwrokFall (s : State) : Outcome := s.act (fun d => d.pwrokFall)

/-- WRST_N (R29): The filter takes a low on WRST_N, and warm reset entry begins. -/
def execWrstN (s : State) : Outcome := s.act (fun d => d.wrstN)

/-- WARM_RESET_ENTRY (R29): Warm reset entry starts after a WARM-RESET command and runs its entry steps. -/
def execWarmResetEntry (s : State) : Outcome := s.act (fun d => d.warmEntry)

/-- INTERNAL_RELEASE (R29): 1 ms after entry, the device releases itself from a WARM-RESET. -/
def execInternalRelease (s : State) : Outcome := s.act (fun d => d.internalRelease)

/-- WARM_RESUME (R29): At the resume reference the device runs warm resume steps 1 to 8, including journal replay and channel resumption.
-/
def execWarmResume (info : ResumeInfo) (s : State) : Outcome := s.act (fun d => d.warmResume info)

/-- MODE_TRANSITION_END (R15): A transition to Configure completes once the last channel stop it required is complete. -/
def execModeTransitionEnd (s : State) : Outcome := s.act (fun d => d.modeTransitionEnd)

/-- ENGINE_GROUP_POWER (R16): Every 250 µs during entry to Live, Burst or Review, the next group of 8 engines is powered. -/
def execEngineGroupPower (s : State) : Outcome := s.act (fun d => d.engineGroup)

/-- THERMAL_SAMPLE (R465): Every 100 µs the sensors are sampled, failed sensors are marked, and zone levels and S_target are evaluated. -/
def execThermalSample (raws : List Int) (comp : Nat) (s : State) : Outcome := s.act (fun d => d.thermalSample raws comp)

/-- SENSOR_HOLD_END (R467): The 100 ms hold of a throttling zone after a sensor failure ends. -/
def execSensorHoldEnd (zone : Fin 13) (s : State) : Outcome := s.act (fun d => d.sensorHoldEnd zone)

/-- SHED_STEP_DOWN (R470): After STEP_DOWN_MS with S_target below S_t, S_t falls by one level. -/
def execShedStepDown (s : State) : Outcome := s.act (fun d => d.shedStepDown)

/-- THERMAL_SHUTDOWN (R472): A comparator trips at 115 °C and the device shuts down. -/
def execThermalShutdown (zone : Fin 13) (comp : Fin 2) (s : State) : Outcome := s.act (fun d => d.thermalTrip zone comp)

/-- FIRMWARE_TRIP (R472): A valid reading has stood at or above 115 °C for 1 ms, and the firmware shuts the device down. -/
def execFirmwareTrip (s : State) : Outcome := s.act (fun d => d.firmwareTrip)

/-- THERMAL_RESTART (R473): The restart count of 10 s with every zone below 85 °C completes, and start-up runs from step 2. -/
def execThermalRestart (waitS : Nat) (info : StartInfo) (s : State) : Outcome := s.act (fun d => d.thermalRestart waitS info)

/-- LIFE_RECORD (R550): Every 24 h of operation the firmware writes a life record and logs LIFE. -/
def execLifeRecord (mean : Int) (slow : Nat) (s : State) : Outcome := s.act (fun d => d.lifeRecord mean slow)

/-- COLD_POWER_LOSS (R543): VKEEP is removed while PWROK is high, and the device loses everything but the flash, with the ring bypass
closing. -/
def execColdPowerLoss (s : State) : Outcome := s.act (fun d => d.cold)

/-- PERST_N_RELEASE (R24): Release of PERST_N lets the PCIe LTSSM enter Detect and the link train. -/
def execPerstNRelease (speed width lanes : Nat) (s : State) : Outcome := s.act (fun d => d.perstRelease speed width lanes)

/-- BUS_MASTER_ENABLE (R88): The host sets Bus Master Enable in configuration space, after which the FAULT replies of a thermal restart
are written into the rings. -/
def execBusMasterEnable (s : State) : Outcome := s.act (fun d => d.busMasterEnable)

end Sys2Proof.Machine
end

