-- ==== Sys2Proof/Machine/MemoryMeanings.lean ====
section
/-! DEFINITION. The meanings of the commands of the memory controllers, one per row of the command table. -/
namespace Sys2Proof.Machine

/-- MEM_REGIONS (R335): Command that checks and replaces the memory region table. -/
def execMemRegions (c : Ctx) (entries : List (Nat × Nat)) (s : State) : Outcome := s.act (fun d => d.issue c (jobMemRegions c entries))

/-- MEMORY_REQUEST (R341): A pseudo-channel chooses and issues its next command among refresh and waiting requests. -/
def execMemoryRequest (pc : Fin 128) (arrivals : List MemReq) (s : State) : Outcome := s.act (fun d => d.memRequest pc arrivals)

/-- MEMORY_READ (R350): A sector read completes and is checked, rebuilt or poisoned. -/
def execMemoryRead (pc : Fin 128) (read : SectorRead) (s : State) : Outcome := s.act (fun d => d.delaying pc (fun d => d.memRead pc read))

/-- REQUEST_URGENCY (R340): A request's age passes a threshold of its target, and its urgency rises. -/
def execRequestUrgency (pc : Fin 128) (s : State) : Outcome := s.act (fun d => d.requestUrgency pc)

/-- REFRESH_TICK (R342): A pseudo-channel's refresh grid ticks, adding to OWED_U and possibly forcing a refresh. -/
def execRefreshTick (pc : Fin 128) (s : State) : Outcome := s.act (fun d => d.refreshTick pc)

/-- REFRESH_DONE (R342): A refresh completes, and OWED_U is reduced. -/
def execRefreshDone (pc : Fin 128) (s : State) : Outcome := s.act (fun d => d.refreshDone pc)

/-- STACK_TEMP_READ (R344): Every 10 µs a controller reads its stack sensor and decides the hot state. -/
def execStackTempRead (controller : Fin 4) (reading : Int) (s : State) : Outcome := s.act (fun d => d.stackTemp controller reading)

/-- HOT_STATE_CHANGE (R344): A hot state change takes effect at a tick midpoint, re-reading owed and possibly starting catch-up. -/
def execHotStateChange (pc : Fin 128) (s : State) : Outcome := s.act (fun d => d.hotChange pc)

/-- POWER_DOWN_ENTRY (R347): A pseudo-channel idle for PD_CTRL.TIMER enters power-down. -/
def execPowerDownEntry (pc : Fin 128) (s : State) : Outcome := s.act (fun d => d.powerDown pc)

/-- ACCESS_TIMEOUT (R351): An access to a pseudo-channel does not complete in 10 µs, and the pseudo-channel is fenced. -/
def execAccessTimeout (pc : Fin 128) (s : State) : Outcome := s.act (fun d => d.accessTimeout pc)

/-- PHY_UNLOCK (R352): A controller's PHY loses lock, and the controller is fenced. -/
def execPhyUnlock (controller : Fin 4) (s : State) : Outcome := s.act (fun d => d.phyUnlock controller)

/-- REBUILD_DONE (R351): The background parity rebuild of a returned pseudo-channel completes. -/
def execRebuildDone (pc : Fin 128) (s : State) : Outcome := s.act (fun d => d.rebuildDone pc)

end Sys2Proof.Machine
end

