-- ==== Sys2Proof/Machine/PerturbMeanings.lean ====
section
/-! DEFINITION. The meanings of the commands of perturbation, one per row of the command table. -/
namespace Sys2Proof.Machine

/-- PERTURB_SET (R493): Command that checks a key and parameters and arms or disarms one perturbation kind. -/
def execPerturbSet (c : Ctx) (block : List Byte) (s : State) : Outcome := s.act (fun d => d.issueRaw c block (jobPerturbSet c block))

/-- PERTURB_CLEAR (R493): Command that clears CFG.EN of the named perturbation kinds. -/
def execPerturbClear (c : Ctx) (kinds : Nat) (s : State) : Outcome := s.act (fun d => d.issue c (jobPerturbClear c kinds))

/-- KILL (R494): Write of PERTURB CTRL.KILL that clears the named perturbation kinds at once. -/
def execKill (path : Path) (mask : Nat) (s : State) : Outcome := s.act (fun d => d.directField path F.PERTURB_CTRL_KILL mask)

/-- CFG_EN (R493): Direct write of a perturbation kind's CFG.EN in Maintenance that arms or disarms it. -/
def execCfgEn (path : Path) (kind : Fin 7) (on : Bool) (s : State) : Outcome :=
  s.act (fun d => d.directField path F.PERTURB_K_CFG_EN (b2n on) kind)

/-- INJECTION_START (R495): An armed perturbation reaches START and begins injecting. -/
def execInjectionStart (kind : Fin 7) (s : State) : Outcome := s.act (fun d => d.injectionStart kind)

/-- PERTURB_EXPIRY (R495): A perturbation's DURATION expires, and CFG.EN clears. -/
def execPerturbExpiry (kind : Fin 7) (s : State) : Outcome := s.act (fun d => d.pertExpiry kind)

end Sys2Proof.Machine
end

