-- ==== Sys2Proof/Machine/PowerMeanings.lean ====
section
/-! DEFINITION. The meanings of the commands of power, clocks and fences, one per row of the command table. -/
namespace Sys2Proof.Machine

/-- FENCE_CLEAR (R32): Command that performs a domain reset of a fenced unit and returns it to service. -/
def execFenceClear (c : Ctx) (kind index : Nat) (struck : Option Nat) (s : State) : Outcome :=
  s.act (fun d => d.issue c (jobFenceClear c kind index struck))

/-- POWER_DECISION (R455): Every 1 µs or on an event the keeper chooses each domain's power state and arms its alarm. -/
def execPowerDecision (s : State) : Outcome := s.act (fun d => d.powerDecision)

/-- ALARM (R455): A domain's alarm timer expires and starts its wake. -/
def execAlarm (domain : Fin 183) (s : State) : Outcome := s.act (fun d => d.alarm domain)

/-- WAKE_COMPLETE (R453): A domain reports power-good and becomes Active. -/
def execWakeComplete (domain : Fin 183) (s : State) : Outcome := s.act (fun d => d.wakeComplete domain)

/-- WAKE_FAIL (R457): A domain does not report power-good within twice its wake latency and is fenced. -/
def execWakeFail (domain : Fin 183) (s : State) : Outcome := s.act (fun d => d.wakeFail domain)

/-- PLL_UNLOCK (R461): A PLL loses lock, switching loops, restarting or fencing its units. -/
def execPllUnlock (pll : Fin 17) (s : State) : Outcome := s.act (fun d => d.pllUnlock pll)

/-- RESONATOR_FAILURE (R459): The keeper clock measures beyond ±1,000 ppm, and the device is held in reset. -/
def execResonatorFailure (measured : Int) (s : State) : Outcome := s.act (fun d => d.resonator measured)

/-- QUALIFICATION_GATE (R462): A reference qualification gate completes and is counted good or restarts the count. -/
def execQualificationGate (ref : Fin 3) (deviation : Int) (s : State) : Outcome := s.act (fun d => d.qualGate ref deviation)

/-- QUAL_SLOW (R462): A reference is not qualified within 60 s, and QUAL_SLOW is set. -/
def execQualSlow (ref : Fin 3) (s : State) : Outcome := s.act (fun d => d.qualSlow ref)

/-- PLL_RESTART_DONE (R461): The once-only restart of an unlocked PLL ends, after its lock time, either in lock or with FAILED set and
cause 3. -/
def execPllRestartDone (pll : Fin 17) (lockUs : Option (Fin 501)) (s : State) : Outcome :=
  s.act (fun d => d.pllRestartDone pll (lockUs.map (fun u => u.val)))

end Sys2Proof.Machine
end

