-- ==== Sys2Proof/Machine/PreviewMeanings.lean ====
section
/-! DEFINITION. The meanings of the commands of the preview compositor, one per row of the command table. -/
namespace Sys2Proof.Machine

/-- PREVIEW_CONFIGURE (R419): Command that records compositor settings, to be latched at the next start tick. -/
def execPreviewConfigure (c : Ctx) (block : List Byte) (s : State) : Outcome :=
  s.act (fun d => d.issueRaw c block (jobPreviewConfigure c block))

/-- LUT_LOAD (R418): Command that writes LUT entries into the pending bank, with an optional SWAP. -/
def execLutLoad (c : Ctx) (block : List Byte) (s : State) : Outcome := s.act (fun d => d.issueRaw c block (jobLutLoad c block))

/-- SCALER_LOAD (R418): Command that writes scaler coefficients into the pending bank. -/
def execScalerLoad (c : Ctx) (block : List Byte) (s : State) : Outcome := s.act (fun d => d.issueRaw c block (jobScalerLoad c block))

/-- LANTERN_LOAD (R419): Command that copies the Lantern image into the pending bank. -/
def execLanternLoad (c : Ctx) (flags hx hy : Nat) (s : State) : Outcome := s.act (fun d => d.issue c (jobLanternLoad c flags hx hy))

/-- LANTERN_MOVE (R419): Command that records the Lantern position and visibility. -/
def execLanternMove (c : Ctx) (x y : Int) (flags : Nat) (s : State) : Outcome := s.act (fun d => d.issue c (jobLanternMove c x y flags))

/-- PLANE_LOAD (R419): Command that copies graphics plane rows into the pending bank. -/
def execPlaneLoad (c : Ctx) (flags row rows : Nat) (s : State) : Outcome := s.act (fun d => d.issue c (jobPlaneLoad c flags row rows))

/-- START_TICK (R416): An output picture starts, latching settings, swapping banks and choosing the base picture. -/
def execStartTick (s : State) : Outcome := s.act (fun d => d.startTick)

/-- PREVIEW_LINE (R416): An output line is sent on the preview lanes and placed for the proxy channel. -/
def execPreviewLine (ready : Bool) (poison : List Nat) (s : State) : Outcome := s.act (fun d => d.previewLine ready poison)

end Sys2Proof.Machine
end

