-- ==== Sys2Proof/Machine/RecordMeanings.lean ====
section
/-! DEFINITION. The meanings of the commands of record queues, one per row of the command table. -/
namespace Sys2Proof.Machine

/-- RECORD_BIND (R360): Command that binds streams to a record DMA queue. -/
def execRecordBind (c : Ctx) (block : List Byte) (s : State) : Outcome := s.act (fun d => d.issueRaw c block (jobRecordBind c block))

/-- RECORD_UNBIND (R360): Command that writes a queue's formed segments, marks LAST, and unbinds the queue. -/
def execRecordUnbind (c : Ctx) (queue : Nat) (s : State) : Outcome := s.act (fun d => d.issue c (jobRecordUnbind c queue))

/-- RESUME (R363): Write of RECQ STATE.RESUME that resumes a faulted record queue at RESUME_GRANULES. -/
def execResume (path : Path) (queue : Fin 16) (s : State) : Outcome :=
  s.act (fun d => d.directField path F.XLAT_RECQ_STATE_RESUME 0x80 queue)

/-- HEAD (R361): Host write of RECQ HEAD that frees space in the record ring. -/
def execHead (path : Path) (queue : Fin 16) (value : Nat) (s : State) : Outcome :=
  s.act (fun d => d.directField path F.XLAT_RECQ_HEAD value queue)

/-- SEGMENT_WRITE (R361): Once the ring has room, a record segment is written into the host ring. -/
def execSegmentWrite (queue : Fin 16) (stop : Option (Nat × Nat)) (s : State) : Outcome :=
  s.act (fun d => d.unlessStalled 2 queue (fun d => d.segmentWrite queue stop))

/-- SEGMENT_COMMIT (R361): A segment's data writes and progress record complete, and TAIL advances. -/
def execSegmentCommit (queue : Fin 16) (s : State) : Outcome := s.act (fun d => d.segmentCommit queue)

end Sys2Proof.Machine
end

