-- ==== Sys2Proof/Machine/RegisterMeanings.lean ====
section
/-! DEFINITION. The meanings of the commands of register accesses, one per row of the command table. -/
namespace Sys2Proof.Machine

/-- REG_READ (R517): Command that reads registers as a direct read does. -/
def execRegRead (c : Ctx) (addr count : Nat) (s : State) : Outcome := s.act (fun d => d.issue c (jobRegRead c addr count))

/-- REG_WRITE (R517): Journaled command that writes a register, proposed to the twin where R280 applies. -/
def execRegWrite (c : Ctx) (addr value : Nat) (s : State) : Outcome := s.act (fun d => d.issue c (jobRegWrite c addr value))

/-- REG_MODIFY (R510): Command that reads a register and writes it under a mask atomically. -/
def execRegModify (c : Ctx) (addr mask value : Nat) (s : State) : Outcome := s.act (fun d => d.issue c (jobRegModify c addr mask value))

/-- REGISTER_WRITE (R516): Direct write to a register that has no row of its own, applied field by field under the access codes and
restrictions. -/
def execRegisterWrite (path : Path) (addr value enables : Nat) (s : State) : Outcome :=
  s.act (fun d => d.busWrite path addr value enables)

/-- DIRECT_READ (R515): Direct read that clears RC fields and latches the HI shadow of a 48-bit counter. -/
def execDirectRead (path : Path) (addr bytes : Nat) (s : State) : Outcome := s.act (fun d => d.busRead path addr bytes)

end Sys2Proof.Machine
end

