-- ==== Sys2Proof/Machine/RingMeanings.lean ====
section
/-! DEFINITION. The meanings of the commands of the gang ring, one per row of the command table. -/
namespace Sys2Proof.Machine

/-- GANG_JOIN (R325): Command that powers the ring domain, trains the hop and opens the bypass. -/
def execGangJoin (c : Ctx) (member members ringId : Nat) (s : State) : Outcome :=
  s.act (fun d => d.issue c (jobGangJoin c member members ringId))

/-- GANG_LEAVE (R325): Command that stops STATUS messages and closes the bypass. -/
def execGangLeave (c : Ctx) (s : State) : Outcome := s.act (fun d => d.issue c (jobGangLeave c))

/-- GANG_STATUS (R325): Command returning the RING registers and the last Calends. -/
def execGangStatus (c : Ctx) (s : State) : Outcome := s.act (fun d => d.issue c (jobGangStatus c))

/-- CALENDS (R311): A member receives a Calends, corrects its time, checks for disagreement and forwards it. -/
def execCalends (m : LinkMsg) (residence : Nat) (s : State) : Outcome := s.act (fun d => d.ringMsg 0x21 m (Dev.gotCalends residence))

/-- CALENDS_SEND (R310): Every 125 µs the leader sends a Calends. -/
def execCalendsSend (sched : List SchedEntry) (s : State) : Outcome := s.act (fun d => d.calendsSend sched)

/-- SLOT_MISSED (R316): A Calends slot passes 2 µs late, leading to a HOLE, a counted miss, holdover or a successor take-over. -/
def execSlotMissed (s : State) : Outcome := s.act (fun d => d.slotMissed)

/-- HOLE (R316): A HOLE message is received and forwarded. -/
def execHole (m : LinkMsg) (s : State) : Outcome := s.act (fun d => d.ringMsg 0x22 m Dev.gotHole)

/-- STATUS (R313): A ring STATUS message is received, updating presence, duplicates and panes. -/
def execStatus (m : LinkMsg) (s : State) : Outcome := s.act (fun d => d.ringMsg 0x23 m Dev.gotStatus)

/-- STATS (R320): A ring STATS message with pane figures is received. -/
def execStats (m : LinkMsg) (s : State) : Outcome := s.act (fun d => d.ringMsg 0x24 m Dev.gotStats)

/-- BYPASS_CHANGE (R39): 10 µs after a Calends passes, a planned opening or closing of the bypass is made. -/
def execBypassChange (s : State) : Outcome := s.act (fun d => d.bypassChange)

end Sys2Proof.Machine
end

