-- ==== Sys2Proof/Machine/TimeMeanings.lean ====
section
/-! DEFINITION. The meanings of the commands of the timebase and the check-value units, one per row of the command table. -/
namespace Sys2Proof.Machine

/-- TIME_GET (R398): Command returning the era, the timebase value and the timebase status. -/
def execTimeGet (c : Ctx) (s : State) : Outcome := s.act (fun d => d.issue c (jobTimeGet c))

/-- TIME_SET_INCREMENT (R397): Command that writes TB.INC at the next tick when the host is the steering source. -/
def execTimeSetIncrement (c : Ctx) (inc : Nat) (s : State) : Outcome := s.act (fun d => d.issue c (jobTimeSetIncrement c inc))

/-- TIME_STEP (R398): Command that adds a signed offset to the timebase at one tick. -/
def execTimeStep (c : Ctx) (offset : Int) (s : State) : Outcome := s.act (fun d => d.issue c (jobTimeStep c offset))

/-- PULSE_PROGRAM (R409): Command that checks pulse settings and loads them into a pulse generator. -/
def execPulseProgram (c : Ctx) (gen mode flags width first period frac : Nat) (s : State) : Outcome :=
  s.act (fun d => d.issue c (jobPulseProgram c gen mode flags width first period frac))

/-- CHECK_RUN (R451): Command that runs a host check-value unit over a host buffer. -/
def execCheckRun (c : Ctx) (unit poly guardLen guard expect length : Nat) (s : State) : Outcome :=
  s.act (fun d => d.issue c (jobCheckRun c unit poly guardLen guard expect length))

/-- TAKE (R399): Write of TB.SNAP_CTRL.TAKE that captures the timebase and its tag at one tick. -/
def execTake (path : Path) (s : State) : Outcome := s.act (fun d => d.directField path F.TB_SNAP_CTRL_TAKE 1)

/-- STEP_HI_GO (R398): Write of TB.STEP_HI.GO that applies the step offset at the next tick when permitted. -/
def execStepHiGo (path : Path) (offset : Nat) (s : State) : Outcome :=
  s.act (fun d => d.directField path F.TB_STEP_HI_OFFSET (offset % 65536 + 2 ^ 31))

/-- ACCEPT (R403): Write of TB.DISC.ACCEPT that accepts the measured reference rate. -/
def execAccept (path : Path) (s : State) : Outcome :=
  s.act (fun d => d.directField path F.TB_DISC_SRC (d.getF F.TB_DISC_SRC + 0x20 + 2 ^ 8 * d.getF F.TB_DISC_WINDOW_PPM + 2 ^ 16 * d.getF
    F.TB_DISC_REF_DIV))

/-- POP (R405): Write of TAG.POP that removes the head transmit timestamp entry. -/
def execPop (path : Path) (port : Fin 2) (s : State) : Outcome := s.act (fun d => d.directField path F.TB_TSQ_TAG_POP (2 ^ 31) port)

/-- LOAD (R409): Write of PG.SEL.LOAD that copies the window into a pulse generator at the next tick. -/
def execLoad (path : Path) (gen : Fin 8) (s : State) : Outcome := s.act (fun d => d.directField path F.TB_PG_SEL_GEN (gen + 0x10))

/-- FETCH (R409): Write of PG.SEL.FETCH that copies a generator's active settings into the window. -/
def execFetch (path : Path) (gen : Fin 8) (s : State) : Outcome := s.act (fun d => d.directField path F.TB_PG_SEL_GEN (gen + 0x20))

/-- START (R444): Write of CRC CTRL.START that latches the polynomial, loads the initial value and folds in the guard. -/
def execStart (path : Path) (unit : Fin 8) (poly guardLen : Fin 4) (s : State) : Outcome :=
  s.act (fun d => d.directField path F.CRC_CTRL_POLY (poly + 4 * guardLen + 0x10 + 0x40 * d.getF F.CRC_CTRL_EXP_SEL unit + 0x80 * d.getF
    F.CRC_CTRL_INT_EN unit) unit)

/-- FINISH (R446): Write of CRC CTRL.FINISH that applies the final XOR and compares the value with EXPECT. -/
def execFinish (path : Path) (unit : Fin 8) (s : State) : Outcome :=
  s.act (fun d => d.directField path F.CRC_CTRL_POLY (d.getF F.CRC_CTRL_POLY unit + 4 * d.getF F.CRC_CTRL_GUARD_LEN unit + 0x20 + 0x40 *
    d.getF F.CRC_CTRL_EXP_SEL unit + 0x80 * d.getF F.CRC_CTRL_INT_EN unit) unit)

/-- DATA32 (R445): Write of DATA8, DATA16 or DATA32 that feeds bytes into a check-value unit. -/
def execData32 (path : Path) (unit : Fin 8) (size : FeedSize) (value : Nat) (s : State) : Outcome :=
  s.act (fun d =>
    match size with
    | .b8 => d.directField path F.CRC_DATA8 value unit
    | .b16 => d.directField path F.CRC_DATA16 value unit
    | .b32 => d.directField path F.CRC_DATA32 value unit)

/-- VALUE_LO (R448): Write of VALUE_LO or VALUE_HI that replaces the running check value. -/
def execValueLo (path : Path) (unit : Fin 8) (hi : Bool) (value : Nat) (s : State) : Outcome :=
  s.act (fun d => if hi then d.directField path F.CRC_VALUE_HI value unit else d.directField path F.CRC_VALUE_LO value unit)

/-- PULSE_FIRE (R407): A pulse generator's target is reached, and it drives its pin and internal triggers. -/
def execPulseFire (gen : Fin 8) (s : State) : Outcome := s.act (fun d => d.pulseFire gen)

/-- REF_EDGE (R402): A counted reference edge is judged good, early or consistent and steers TB.INC. -/
def execRefEdge (ref : Fin 2) (s : State) : Outcome := s.act (fun d => d.refEdgeQ ref)

/-- REF_STOPPED (R403): No good reference edge arrives by the window's end, and the timebase holds over. -/
def execRefStopped (s : State) : Outcome := s.act (fun d => d.refStoppedQ)

/-- ERA_UPDATE (R401): At every wrap and at least once per second the firmware snapshots the timebase to update its era. -/
def execEraUpdate (s : State) : Outcome := s.act (fun d => d.eraUpdate)

end Sys2Proof.Machine
end

