-- ==== Sys2Proof/Machine/TwinMeanings.lean ====
section
/-! DEFINITION. The meanings of the commands of twin operation, one per row of the command table. -/
namespace Sys2Proof.Machine

/-- TWIN_CONFIGURE (R277): Command that writes TWIN.CFG.ENABLE. -/
def execTwinConfigure (c : Ctx) (enable : Nat) (s : State) : Outcome := s.act (fun d => d.issue c (jobTwinConfigure c enable))

/-- TWIN_STATUS (R507): Command returning the TWIN registers and the lockstep state of every channel. -/
def execTwinStatus (c : Ctx) (s : State) : Outcome := s.act (fun d => d.issue c (jobTwinStatus c))

/-- TWIN_HANDOVER (R303): Command that proposes a role exchange at agreed target pictures. -/
def execTwinHandover (c : Ctx) (s : State) : Outcome := s.act (fun d => d.issue c (jobTwinHandover c))

/-- HELLO (R279): A twin HELLO message is received, and the units pair or refuse. -/
def execHello (m : LinkMsg) (s : State) : Outcome := s.act (fun d => d.twinMsg 0x01 m Dev.gotHello)

/-- HELLO_SEND (R286): Every 1 ms until paired, a HELLO is sent. -/
def execHelloSend (s : State) : Outcome := s.act (fun d => d.helloSend)

/-- HEARTBEAT (R288): A twin HEARTBEAT message is received. -/
def execHeartbeat (m : LinkMsg) (s : State) : Outcome := s.act (fun d => d.twinMsg 0x02 m Dev.gotHeartbeat)

/-- HEARTBEAT_SEND (R286): Every 100 µs a HEARTBEAT is sent on the twin link. -/
def execHeartbeatSend (s : State) : Outcome := s.act (fun d => d.heartbeatSend)

/-- PROPOSE (R289): A PROPOSE is received, and the peer answers AGREE or REFUSE. -/
def execPropose (m : LinkMsg) (s : State) : Outcome := s.act (fun d => d.twinMsg 0x03 m Dev.gotPropose)

/-- AGREE (R289): An AGREE is received, and the proposer journals and sends COMMIT. -/
def execAgree (m : LinkMsg) (s : State) : Outcome := s.act (fun d => d.twinMsg 0x04 m Dev.gotAgree)

/-- REFUSE (R289): A REFUSE is received, and the proposer retries or ends the command. -/
def execRefuse (m : LinkMsg) (s : State) : Outcome := s.act (fun d => d.twinMsg 0x05 m Dev.gotRefuse)

/-- COMMIT (R289): A twin COMMIT is received, and the peer applies the change and answers COMMIT_ACK. -/
def execCommit (m : LinkMsg) (s : State) : Outcome := s.act (fun d => d.twinMsg 0x06 m Dev.gotCommit)

/-- COMMIT_ACK (R290): A COMMIT_ACK is received, and the command completes OK. -/
def execCommitAck (m : LinkMsg) (s : State) : Outcome := s.act (fun d => d.twinMsg 0x07 m Dev.gotCommitAck)

/-- ABORT (R290): A twin ABORT is received, and the peer drops the proposal. -/
def execAbort (m : LinkMsg) (s : State) : Outcome := s.act (fun d => d.twinMsg 0x08 m Dev.gotAbort)

/-- PROPOSAL_TIMEOUT (R290): No AGREE within 100 µs, or no COMMIT_ACK or COMMIT by the hold limit, ends or places in doubt a proposal. -/
def execProposalTimeout (s : State) : Outcome := s.act (fun d => d.proposalTimeout)

/-- PIC_DIGEST (R292): A PIC_DIGEST is received and compared with the local digest. -/
def execPicDigest (m : LinkMsg) (s : State) : Outcome := s.act (fun d => d.twinMsg 0x09 m Dev.gotPicDigest)

/-- ROW_NOTE (R291): A ROW_NOTE is received and recorded for comparison. -/
def execRowNote (m : LinkMsg) (s : State) : Outcome := s.act (fun d => d.twinMsg 0x0A m Dev.gotRowNote)

/-- LEAVE (R291): A LEAVE is received, naming a channel that left lockstep at a picture. -/
def execLeave (m : LinkMsg) (s : State) : Outcome := s.act (fun d => d.twinMsg 0x0B m Dev.gotLeave)

/-- JOIN_REQ (R297): A JOIN_REQ is received, and the transmitting unit starts a copy or Equinox join. What the copy carries follows from
the state, so the operands `chunks` and `crc` change nothing (log entry 99). -/
def execJoinReq (m : LinkMsg) (_chunks _crc : Nat) (s : State) : Outcome := s.act (fun d => d.twinMsg 0x0C m Dev.gotJoinReq)

/-- JOIN_RETRY (R294): 10 ms after a failed join attempt, JOIN_REQ is sent again. -/
def execJoinRetry (channel : Fin 128) (s : State) : Outcome := s.act (fun d => d.joinRetry channel)

/-- COPY_CHUNK (R297): A COPY_CHUNK is received for the current join GEN. -/
def execCopyChunk (m : LinkMsg) (s : State) : Outcome := s.act (fun d => d.twinMsg 0x0D m Dev.gotCopyChunk)

/-- COPY_DONE (R297): A COPY_DONE is received, and the snapshot is applied if complete, then SWITCH is sent. -/
def execCopyDone (m : LinkMsg) (snap : Snapshot) (s : State) : Outcome := s.act (fun d => d.twinMsg 0x0E m (Dev.gotCopyDone snap))

/-- SWITCH (R298): A SWITCH is received, and the transmitting unit sends TAIL up to picture Q − 1. -/
def execSwitch (m : LinkMsg) (s : State) : Outcome := s.act (fun d => d.twinMsg 0x0F m Dev.gotSwitch)

/-- TAIL (R298): A TAIL is received, and the joining unit decodes and replays it. -/
def execTail (m : LinkMsg) (pic : Option Pic) (lens : List Nat) (s : State) : Outcome :=
  s.act (fun d => d.twinMsg 0x10 m (Dev.gotTail pic lens))

/-- PATH_BEACON (R282): A path beacon or peer-path frame arrives on the watch port. -/
def execPathBeacon (port : Fin 2) (beacon : Bool) (payload : List Byte) (s : State) : Outcome :=
  s.act (fun d => d.pathBeacon port beacon payload)

/-- BEACON_SEND (R282): Every 100 µs a path beacon is sent on each transmitted path. -/
def execBeaconSend (s : State) : Outcome := s.act (fun d => d.beaconSend)

/-- LINK_LOST (R288): 300 µs pass without a good HEARTBEAT, and LOCKED channels become UNVERIFIED. -/
def execLinkLost (s : State) : Outcome := s.act (fun d => d.linkLost)

/-- TAKEOVER (R300): Heartbeat and peer stream have been absent for 300 µs, and the VIGIL unit takes over. -/
def execTakeover (s : State) : Outcome := s.act (fun d => d.takeover)

/-- DEMOTE (R301): An ACTIVE unit whose own path is lost with no heartbeat for 1,200 µs, or that sees a later EPOCH, demotes itself. -/
def execDemote (s : State) : Outcome := s.act (fun d => d.demote)

/-- SOLO (R287): An OFFERING unit hearing no peer for 5 s runs solo as ACTIVE. -/
def execSolo (s : State) : Outcome := s.act (fun d => d.goSolo)

/-- PAIRING_RETRY (R279): Every 1 s, REFUSED units retry pairing. -/
def execPairingRetry (s : State) : Outcome := s.act (fun d => d.pairingRetry)

/-- REVERT (R303): After REVERT_S seconds of VIGIL with every channel LOCKED, the preferred unit proposes a hand-over. -/
def execRevert (s : State) : Outcome := s.act (fun d => d.revert)

/-- SEGMENT_HOLD_EXPIRY (R293): A VIGIL unit's held record segment passes HOLD_US and is dropped. -/
def execSegmentHoldExpiry (s : State) : Outcome := s.act (fun d => d.holdExpiry)

end Sys2Proof.Machine
end

