-- ==== Sys2Proof/Machine/Dispatch.lean ====
section
/-! DEFINITION. One arm per command: each is one direct call of its meaning. -/
namespace Sys2Proof.Machine

/-- What a command does to everything but the queue. -/
def exec (i : Instr) (s : State) : Host.Outcome State Fault Refusal :=
  match i with
  | .nop c => Sys2Proof.Machine.execNop c s
  | .getInfo c => Sys2Proof.Machine.execGetInfo c s
  | .setMode c target => Sys2Proof.Machine.execSetMode c target s
  | .getStatus c => Sys2Proof.Machine.execGetStatus c s
  | .warmReset c => Sys2Proof.Machine.execWarmReset c s
  | .snapshotCounters c scope flags length scatter => Sys2Proof.Machine.execSnapshotCounters c scope flags length scatter s
  | .readEvents c from_ most => Sys2Proof.Machine.execReadEvents c from_ most s
  | .spiRelease c => Sys2Proof.Machine.execSpiRelease c s
  | .almanacRead c source offset length => Sys2Proof.Machine.execAlmanacRead c source offset length s
  | .almanacStage c begin offset length => Sys2Proof.Machine.execAlmanacStage c begin offset length s
  | .almanacCommit c length crc => Sys2Proof.Machine.execAlmanacCommit c length crc s
  | .almanacRevert c form => Sys2Proof.Machine.execAlmanacRevert c form s
  | .openChannel c block => Sys2Proof.Machine.execOpenChannel c block s
  | .closeChannel c channel => Sys2Proof.Machine.execCloseChannel c channel s
  | .startChannel c channel => Sys2Proof.Machine.execStartChannel c channel s
  | .stopChannel c channel mode => Sys2Proof.Machine.execStopChannel c channel mode s
  | .reconfigureChannel c block => Sys2Proof.Machine.execReconfigureChannel c block s
  | .forceEquinox c channel => Sys2Proof.Machine.execForceEquinox c channel s
  | .queryChannel c channel => Sys2Proof.Machine.execQueryChannel c channel s
  | .egressBind c block => Sys2Proof.Machine.execEgressBind c block s
  | .egressUnbind c kind stream => Sys2Proof.Machine.execEgressUnbind c kind stream s
  | .bundleConfigure c bundle what cfg front fifo matrix => Sys2Proof.Machine.execBundleConfigure c bundle what cfg front fifo matrix s
  | .bundleTrain c bundle => Sys2Proof.Machine.execBundleTrain c bundle s
  | .laneStatus c bundle => Sys2Proof.Machine.execLaneStatus c bundle s
  | .harvestArm c channel flags triggers gen slots pre post => Sys2Proof.Machine.execHarvestArm c channel flags triggers gen slots pre post s
  | .harvestTrigger c channel => Sys2Proof.Machine.execHarvestTrigger c channel s
  | .harvestRelease c channel => Sys2Proof.Machine.execHarvestRelease c channel s
  | .twinConfigure c enable => Sys2Proof.Machine.execTwinConfigure c enable s
  | .twinStatus c => Sys2Proof.Machine.execTwinStatus c s
  | .twinHandover c => Sys2Proof.Machine.execTwinHandover c s
  | .gangJoin c member members ringId => Sys2Proof.Machine.execGangJoin c member members ringId s
  | .gangLeave c => Sys2Proof.Machine.execGangLeave c s
  | .gangStatus c => Sys2Proof.Machine.execGangStatus c s
  | .recordBind c block => Sys2Proof.Machine.execRecordBind c block s
  | .recordUnbind c queue => Sys2Proof.Machine.execRecordUnbind c queue s
  | .memRegions c entries => Sys2Proof.Machine.execMemRegions c entries s
  | .fenceClear c kind index struck => Sys2Proof.Machine.execFenceClear c kind index struck s
  | .timeGet c => Sys2Proof.Machine.execTimeGet c s
  | .timeSetIncrement c inc => Sys2Proof.Machine.execTimeSetIncrement c inc s
  | .timeStep c offset => Sys2Proof.Machine.execTimeStep c offset s
  | .pulseProgram c gen mode flags width first period frac => Sys2Proof.Machine.execPulseProgram c gen mode flags width first period frac s
  | .audioConfigure c block => Sys2Proof.Machine.execAudioConfigure c block s
  | .audioRoute c block => Sys2Proof.Machine.execAudioRoute c block s
  | .audioMute c kind index slot action => Sys2Proof.Machine.execAudioMute c kind index slot action s
  | .previewConfigure c block => Sys2Proof.Machine.execPreviewConfigure c block s
  | .lutLoad c block => Sys2Proof.Machine.execLutLoad c block s
  | .scalerLoad c block => Sys2Proof.Machine.execScalerLoad c block s
  | .lanternLoad c flags hx hy => Sys2Proof.Machine.execLanternLoad c flags hx hy s
  | .lanternMove c x y flags => Sys2Proof.Machine.execLanternMove c x y flags s
  | .planeLoad c flags row rows => Sys2Proof.Machine.execPlaneLoad c flags row rows s
  | .perturbSet c block => Sys2Proof.Machine.execPerturbSet c block s
  | .perturbClear c kinds => Sys2Proof.Machine.execPerturbClear c kinds s
  | .selftest c engines wrong delta => Sys2Proof.Machine.execSelftest c engines wrong delta s
  | .checkRun c unit poly guardLen guard expect length => Sys2Proof.Machine.execCheckRun c unit poly guardLen guard expect length s
  | .regRead c addr count => Sys2Proof.Machine.execRegRead c addr count s
  | .regWrite c addr value => Sys2Proof.Machine.execRegWrite c addr value s
  | .regModify c addr mask value => Sys2Proof.Machine.execRegModify c addr mask value s
  | .decodeOpen c block => Sys2Proof.Machine.execDecodeOpen c block s
  | .decodeFeed c block => Sys2Proof.Machine.execDecodeFeed c block s
  | .decodeClose c context => Sys2Proof.Machine.execDecodeClose c context s
  | .writePacket bytes => Sys2Proof.Machine.execWritePacket bytes s
  | .readReply => Sys2Proof.Machine.execReadReply s
  | .readReg addr => Sys2Proof.Machine.execReadReg addr s
  | .writeReg addr value => Sys2Proof.Machine.execWriteReg addr value s
  | .spiStatus => Sys2Proof.Machine.execSpiStatus s
  | .sqDb client value => Sys2Proof.Machine.execSqDb client value s
  | .rqDb client value => Sys2Proof.Machine.execRqDb client value s
  | .queueOpen path client value => Sys2Proof.Machine.execQueueOpen path client value s
  | .queueClose path client value => Sys2Proof.Machine.execQueueClose path client value s
  | .queueCloseEnd client => Sys2Proof.Machine.execQueueCloseEnd client s
  | .slotFetch source bytes rd host => Sys2Proof.Machine.execSlotFetch source bytes rd host s
  | .slotReadRetry client bytes rd host => Sys2Proof.Machine.execSlotReadRetry client bytes rd host s
  | .commandStart order extra => Sys2Proof.Machine.execCommandStart order extra s
  | .take path => Sys2Proof.Machine.execTake path s
  | .stepHiGo path offset => Sys2Proof.Machine.execStepHiGo path offset s
  | .accept path => Sys2Proof.Machine.execAccept path s
  | .pop path port => Sys2Proof.Machine.execPop path port s
  | .load path gen => Sys2Proof.Machine.execLoad path gen s
  | .fetch path gen => Sys2Proof.Machine.execFetch path gen s
  | .flush path bundle high low cut => Sys2Proof.Machine.execFlush path bundle high low cut s
  | .cacheInval path engine => Sys2Proof.Machine.execCacheInval path engine s
  | .hold path engine on => Sys2Proof.Machine.execHold path engine on s
  | .give path cluster engine go => Sys2Proof.Machine.execGive path cluster engine go s
  | .start path unit poly guardLen => Sys2Proof.Machine.execStart path unit poly guardLen s
  | .finish path unit => Sys2Proof.Machine.execFinish path unit s
  | .data32 path unit size value => Sys2Proof.Machine.execData32 path unit size value s
  | .valueLo path unit hi value => Sys2Proof.Machine.execValueLo path unit hi value s
  | .resume path queue => Sys2Proof.Machine.execResume path queue s
  | .head path queue value => Sys2Proof.Machine.execHead path queue value s
  | .kill path mask => Sys2Proof.Machine.execKill path mask s
  | .cfgEn path kind on => Sys2Proof.Machine.execCfgEn path kind on s
  | .registerWrite path addr value enables => Sys2Proof.Machine.execRegisterWrite path addr value enables s
  | .directRead path addr bytes => Sys2Proof.Machine.execDirectRead path addr bytes s
  | .startUp info => Sys2Proof.Machine.execStartUp info s
  | .thermalHoldEnd info => Sys2Proof.Machine.execThermalHoldEnd info s
  | .thermalHoldTimeout => Sys2Proof.Machine.execThermalHoldTimeout s
  | .coldReset => Sys2Proof.Machine.execColdReset s
  | .pwrokFall => Sys2Proof.Machine.execPwrokFall s
  | .wrstN => Sys2Proof.Machine.execWrstN s
  | .warmResetEntry => Sys2Proof.Machine.execWarmResetEntry s
  | .internalRelease => Sys2Proof.Machine.execInternalRelease s
  | .warmResume info => Sys2Proof.Machine.execWarmResume info s
  | .modeTransitionEnd => Sys2Proof.Machine.execModeTransitionEnd s
  | .engineGroupPower => Sys2Proof.Machine.execEngineGroupPower s
  | .thermalSample raws comp => Sys2Proof.Machine.execThermalSample raws comp s
  | .sensorHoldEnd zone => Sys2Proof.Machine.execSensorHoldEnd zone s
  | .shedStepDown => Sys2Proof.Machine.execShedStepDown s
  | .thermalShutdown zone comp => Sys2Proof.Machine.execThermalShutdown zone comp s
  | .firmwareTrip => Sys2Proof.Machine.execFirmwareTrip s
  | .thermalRestart waitS info => Sys2Proof.Machine.execThermalRestart waitS info s
  | .marker lane word gap skew eyeH eyeW => Sys2Proof.Machine.execMarker lane word gap skew eyeH eyeW s
  | .markerSlotMissed lane => Sys2Proof.Machine.execMarkerSlotMissed lane s
  | .lossOfSignal lane => Sys2Proof.Machine.execLossOfSignal lane s
  | .stuffingViolation lane held => Sys2Proof.Machine.execStuffingViolation lane held s
  | .parityGroup bundle words => Sys2Proof.Machine.execParityGroup bundle words s
  | .trainingTimeout unit => Sys2Proof.Machine.execTrainingTimeout unit s
  | .backoffExpiry unit => Sys2Proof.Machine.execBackoffExpiry unit s
  | .retrainAttempt lane => Sys2Proof.Machine.execRetrainAttempt lane s
  | .attemptTimeout lane => Sys2Proof.Machine.execAttemptTimeout lane s
  | .talkbackRepeat bundle => Sys2Proof.Machine.execTalkbackRepeat bundle s
  | .linePacket bundle words => Sys2Proof.Machine.execLinePacket bundle words s
  | .lineCommit bundle bad => Sys2Proof.Machine.execLineCommit bundle bad s
  | .pictureTimeout channel picture => Sys2Proof.Machine.execPictureTimeout channel picture s
  | .pictureAccept channel picture => Sys2Proof.Machine.execPictureAccept channel picture s
  | .rowIssue channel => Sys2Proof.Machine.execRowIssue channel s
  | .taskTake engine dchk ctxGood => Sys2Proof.Machine.execTaskTake engine dchk ctxGood s
  | .steal engine dchk ctxGood => Sys2Proof.Machine.execSteal engine dchk ctxGood s
  | .ask engine dchk ctxGood => Sys2Proof.Machine.execAsk engine dchk ctxGood s
  | .preempt cluster => Sys2Proof.Machine.execPreempt cluster s
  | .contextSave engine ok => Sys2Proof.Machine.execContextSave engine ok s
  | .tokenPublish engine coarse cycles stall refetch => Sys2Proof.Machine.execTokenPublish engine coarse cycles stall refetch s
  | .rowCommit engine size mx my recon cycles => Sys2Proof.Machine.execRowCommit engine size mx my recon cycles s
  | .engineFault engine cause stage => Sys2Proof.Machine.execEngineFault engine cause stage s
  | .engineSilence engine => Sys2Proof.Machine.execEngineSilence engine s
  | .dispatcherHeartbeat missed => Sys2Proof.Machine.execDispatcherHeartbeat missed s
  | .rescue channel picture row => Sys2Proof.Machine.execRescue channel picture row s
  | .rescueCommit channel picture row size recon => Sys2Proof.Machine.execRescueCommit channel picture row size recon s
  | .rowDepart channel lens crc => Sys2Proof.Machine.execRowDepart channel lens crc s
  | .noteCompare channel picture row => Sys2Proof.Machine.execNoteCompare channel picture row s
  | .entropyParse context item used cycles => Sys2Proof.Machine.execEntropyParse context item used cycles s
  | .decodeRowCommit engine xlat digest cycles => Sys2Proof.Machine.execDecodeRowCommit engine xlat digest cycles s
  | .budgetExpiry unit context work => Sys2Proof.Machine.execBudgetExpiry unit context work s
  | .retentionExpiry context => Sys2Proof.Machine.execRetentionExpiry context s
  | .hello m => Sys2Proof.Machine.execHello m s
  | .helloSend => Sys2Proof.Machine.execHelloSend s
  | .heartbeat m => Sys2Proof.Machine.execHeartbeat m s
  | .heartbeatSend => Sys2Proof.Machine.execHeartbeatSend s
  | .propose m => Sys2Proof.Machine.execPropose m s
  | .agree m => Sys2Proof.Machine.execAgree m s
  | .refuse m => Sys2Proof.Machine.execRefuse m s
  | .commit m => Sys2Proof.Machine.execCommit m s
  | .commitAck m => Sys2Proof.Machine.execCommitAck m s
  | .abort m => Sys2Proof.Machine.execAbort m s
  | .proposalTimeout => Sys2Proof.Machine.execProposalTimeout s
  | .picDigest m => Sys2Proof.Machine.execPicDigest m s
  | .rowNote m => Sys2Proof.Machine.execRowNote m s
  | .leave m => Sys2Proof.Machine.execLeave m s
  | .joinReq m chunks crc => Sys2Proof.Machine.execJoinReq m chunks crc s
  | .joinRetry channel => Sys2Proof.Machine.execJoinRetry channel s
  | .copyChunk m => Sys2Proof.Machine.execCopyChunk m s
  | .copyDone m snap => Sys2Proof.Machine.execCopyDone m snap s
  | .switch m => Sys2Proof.Machine.execSwitch m s
  | .tail m pic lens => Sys2Proof.Machine.execTail m pic lens s
  | .pathBeacon port beacon payload => Sys2Proof.Machine.execPathBeacon port beacon payload s
  | .beaconSend => Sys2Proof.Machine.execBeaconSend s
  | .linkLost => Sys2Proof.Machine.execLinkLost s
  | .takeover => Sys2Proof.Machine.execTakeover s
  | .demote => Sys2Proof.Machine.execDemote s
  | .solo => Sys2Proof.Machine.execSolo s
  | .pairingRetry => Sys2Proof.Machine.execPairingRetry s
  | .revert => Sys2Proof.Machine.execRevert s
  | .segmentHoldExpiry => Sys2Proof.Machine.execSegmentHoldExpiry s
  | .calends m residence => Sys2Proof.Machine.execCalends m residence s
  | .calendsSend sched => Sys2Proof.Machine.execCalendsSend sched s
  | .slotMissed => Sys2Proof.Machine.execSlotMissed s
  | .hole m => Sys2Proof.Machine.execHole m s
  | .status m => Sys2Proof.Machine.execStatus m s
  | .stats m => Sys2Proof.Machine.execStats m s
  | .bypassChange => Sys2Proof.Machine.execBypassChange s
  | .memoryRequest pc arrivals => Sys2Proof.Machine.execMemoryRequest pc arrivals s
  | .memoryRead pc read => Sys2Proof.Machine.execMemoryRead pc read s
  | .requestUrgency pc => Sys2Proof.Machine.execRequestUrgency pc s
  | .refreshTick pc => Sys2Proof.Machine.execRefreshTick pc s
  | .refreshDone pc => Sys2Proof.Machine.execRefreshDone pc s
  | .stackTempRead controller reading => Sys2Proof.Machine.execStackTempRead controller reading s
  | .hotStateChange pc => Sys2Proof.Machine.execHotStateChange pc s
  | .powerDownEntry pc => Sys2Proof.Machine.execPowerDownEntry pc s
  | .accessTimeout pc => Sys2Proof.Machine.execAccessTimeout pc s
  | .phyUnlock controller => Sys2Proof.Machine.execPhyUnlock controller s
  | .rebuildDone pc => Sys2Proof.Machine.execRebuildDone pc s
  | .segmentWrite queue stop => Sys2Proof.Machine.execSegmentWrite queue stop s
  | .segmentCommit queue => Sys2Proof.Machine.execSegmentCommit queue s
  | .packetSend port fault => Sys2Proof.Machine.execPacketSend port fault s
  | .portLinkDown port fec => Sys2Proof.Machine.execPortLinkDown port fec s
  | .linkUp port skew => Sys2Proof.Machine.execLinkUp port skew s
  | .frameReceive port frame bytes fec => Sys2Proof.Machine.execFrameReceive port frame bytes fec s
  | .ptpMessage port domain v6 msg => Sys2Proof.Machine.execPtpMessage port domain v6 msg s
  | .delayReq => Sys2Proof.Machine.execDelayReq s
  | .announceTimeout port => Sys2Proof.Machine.execAnnounceTimeout port s
  | .ptpPortChange => Sys2Proof.Machine.execPtpPortChange s
  | .addressResolve kind stream path answered => Sys2Proof.Machine.execAddressResolve kind stream path answered s
  | .gratuitousArp path => Sys2Proof.Machine.execGratuitousArp path s
  | .groupQuery port v6 => Sys2Proof.Machine.execGroupQuery port v6 s
  | .pulseFire gen => Sys2Proof.Machine.execPulseFire gen s
  | .refEdge ref => Sys2Proof.Machine.execRefEdge ref s
  | .refStopped => Sys2Proof.Machine.execRefStopped s
  | .eraUpdate => Sys2Proof.Machine.execEraUpdate s
  | .startTick => Sys2Proof.Machine.execStartTick s
  | .previewLine ready poison => Sys2Proof.Machine.execPreviewLine ready poison s
  | .sampleFrame rate mics din changed => Sys2Proof.Machine.execSampleFrame rate mics din changed s
  | .frameStart port clocks => Sys2Proof.Machine.execFrameStart port clocks s
  | .micStuck mic => Sys2Proof.Machine.execMicStuck mic s
  | .clockLoss port => Sys2Proof.Machine.execClockLoss port s
  | .amclkLoss back => Sys2Proof.Machine.execAmclkLoss back s
  | .rateMeasurement port mhz => Sys2Proof.Machine.execRateMeasurement port mhz s
  | .fadeTimeout point => Sys2Proof.Machine.execFadeTimeout point s
  | .powerDecision => Sys2Proof.Machine.execPowerDecision s
  | .alarm domain => Sys2Proof.Machine.execAlarm domain s
  | .wakeComplete domain => Sys2Proof.Machine.execWakeComplete domain s
  | .wakeFail domain => Sys2Proof.Machine.execWakeFail domain s
  | .pllUnlock pll => Sys2Proof.Machine.execPllUnlock pll s
  | .resonatorFailure measured => Sys2Proof.Machine.execResonatorFailure measured s
  | .qualificationGate ref deviation => Sys2Proof.Machine.execQualificationGate ref deviation s
  | .qualSlow ref => Sys2Proof.Machine.execQualSlow ref s
  | .lifeRecord mean slow => Sys2Proof.Machine.execLifeRecord mean slow s
  | .injectionStart kind => Sys2Proof.Machine.execInjectionStart kind s
  | .perturbExpiry kind => Sys2Proof.Machine.execPerturbExpiry kind s
  | .coldPowerLoss => Sys2Proof.Machine.execColdPowerLoss s
  | .perstNRelease speed width lanes => Sys2Proof.Machine.execPerstNRelease speed width lanes s
  | .busMasterEnable => Sys2Proof.Machine.execBusMasterEnable s
  | .flashOperationDone => Sys2Proof.Machine.execFlashOperationDone s
  | .pllRestartDone pll lockUs => Sys2Proof.Machine.execPllRestartDone pll lockUs s

end Sys2Proof.Machine
end

