-- ==== Sys2Proof/Machine/Step.lean ====
section
/-! DEFINITION. A step: the command at the front of the queue, or with none waiting one tick of the timebase (log entry 2). -/
namespace Sys2Proof.Machine

/-- The block with nothing to do: one tick of 4 ns passes. -/
def State.idle (s : State) : Outcome := s.act Dev.tickOnce

/-- One step. -/
def step (s : State) : Host.Outcome State Fault Refusal :=
  match s.pending with
  | [] => s.idle
  | i :: rest => exec i { s with pending := rest }

/-- The state with a word's command at the front of its queue; a word that spells none leaves it as it is. -/
def State.withFetchWord (s : State) (nbits w : Nat) : State :=
  match decodeTableWord nbits w with
  | some i => { s with pending := i :: s.pending }
  | none => s

end Sys2Proof.Machine
end

