-- ==== Sys2Proof/Safety.lean ====
section
/-! DEFINITION. What claims say of states: the canonical form of the tables, what follows from the rest of the state, and who may stop. -/
namespace Sys2Proof.Machine

/-- The sparse tables are in canonical form: keys strictly rising, no entry equal to what an unlisted key reads as. -/
def Dev.wf (d : Dev) : Bool :=
  Cells.wf resetField d.regs && Cells.wf flashUnlisted d.flash && Cells.wf (fun _ => (0xFF : Byte)) d.stage && Cells.wf hbmUnlisted d.hbm

/-- The registers and pins that follow from the rest of the state agree with it (R37, R77, R80, R304, R396, R482). -/
abbrev Dev.Settled (d : Dev) : Prop :=
  d.getF F.CMD_STATUS_SPI_PENDING = min 64 d.spiOut.length ∧ d.getF F.TB_STATUS_STEER = d.steerNow ∧
  (∀ w < 4, d.getF F.TWIN_LOCKED w = d.lockedWord w) ∧ d.evlog.length ≤ evCapacity ∧ d.alert = d.alertNow

/-- A state whose device is settled. -/
abbrev State.Settled (s : State) : Prop := s.dev.Settled

/-- A command of the catalogue can be carried out now: commands are served, the mode is one the catalogue lists for it (R65 step 7), its
checks pass (R65 step 8), and its client number is one of the 64 (R61). -/
abbrev Dev.canRun (d : Dev) (c : Ctx) (j : CmdJob) : Prop :=
  d.serving = true ∧ (j.modes d).contains d.mode = true ∧ j.chk d = none ∧ c.client < 64

/-- The command of a row that carries its parameter bytes as they are, with the check of its reserved bytes (R61). -/
def rawJob (j : CmdJob) (p : List Byte) : CmdJob := { j with chk := rawCheck j p }

/-- Outside every reset and outside Standby, where every register is powered (R515, R519, R520). -/
abbrev Dev.awake (d : Dev) : Prop := d.phase = .run ∧ d.mode ≠ 0

/-- The blocks whose registers a write changes by their access codes and limits alone, with nothing that follows from it. -/
def plainBlocks : List Block := [.pwr, .preview, .sl, .chan, .pcie, .decode]

/-- What the access codes of R8 leave in the fields of register `r` at address `a` after `v` is written. -/
def wroteFields (d e : Dev) (a v : Nat) (r : RegPlace) : Prop :=
  ∀ f ∈ r.row.fields,
    let held := Cells.get resetField d.regs (a * 32 + f.1)
    let x := bits (d.limitWrite r.row.base r.i r.j v) f.1 f.2.1
    Cells.get resetField e.regs (a * 32 + f.1) = match f.2.2.1 with
      | .rw => x
      | .w1c => held ^^^ (held &&& x)
      | .ro | .wo | .w1s | .rc | .sc => held

/-- Command `i` answers a next state: the queue as it was, and a device of which `P` holds. -/
def answers (i : Instr) (s : State) (P : Dev → Prop) : Prop :=
  ∃ t : State, exec i s = .next t ∧ t.pending = s.pending ∧ P t.dev

/-- Between `d` and `e`, the command of `c` has received its one DONE reply (R63, R64, R66): over the SPI as the newest reply that
READ-REPLY returns, else in the client's reply ring or waiting for room there. Results of more than 96 bytes on PCIe go to BUF. -/
def Dev.replied (d e : Dev) (c : Ctx) (op : Nat) (st : Status) (detail : Nat) (data : List Byte) : Prop :=
  ∃ r : Reply, r.done = true ∧ r.opcode = op ∧ r.tag = c.tag ∧ r.client = c.client ∧ r.status = st.code ∧ r.detail = detailOf st detail ∧
    r.rlen = data.length ∧
    (d.spiBound c.client = true ∨ data.length ≤ 96 → r.data = data) ∧
    (d.spiBound c.client = false → 96 < data.length → ∃ buf, Out.hostWrite buf data ∈ e.out) ∧
    (d.spiBound c.client = true → e.spiOut = d.spiOut ++ [r]) ∧
    (d.spiBound c.client = false → (c.client, r) ∈ e.held ∨ ∃ slot phase, Out.reply c.client slot phase r ∈ e.out)

/-- Start-up has stopped at a step with a code (R26). -/
def stoppedAt (step code : Nat) (d : Dev) : Prop :=
  d.phase = .stopped ∧ d.getF F.KEEPER_START_STEP_FAIL_STEP = step ∧ d.getF F.KEEPER_START_STEP_FAIL_CODE = code ∧ d.flag F.KEEPER_MODE_BUSY = false

/-- Start-up from `d6`, past step 6, has ended: stopped at step 9 where no stack can be used (R27), else with a boot target of 0 or 1 complete
in Configure (R22). -/
def startedFrom (d6 : Dev) (x : StartInfo) (d : Dev) : Prop :=
  if (d6.startMemory x).hasMemory = true then d6.bootMode ≤ 1 →
    d.phase = .run ∧ d.getF F.KEEPER_START_STEP_STEP = 0xFF ∧ d.flag F.KEEPER_MODE_BUSY = false ∧ d.mode = 1
  else stoppedAt 9 3 d

/-- Start-up from `d6`, with its first readings, goes on or holds (R25). -/
def sensedFrom (d6 : Dev) (x : StartInfo) (d : Dev) : Prop := if d6.anyAbove 105 = true then d.phase = .startHold else startedFrom d6 x d

/-- What a step of the timebase by `off` leaves (R398): the 48-bit value moved, one more step counted, and the step recorded. -/
def wroteStep (d e : Dev) (off : Int) : Prop :=
  let v := wrapInt 48 ((d.ns48 : Int) + off)
  e.getF F.TB_NS = v % 2 ^ 32 ∧ e.getF F.TB_WRAP_WRAPS = v / 2 ^ 32 ∧ e.getF F.TB_WRAP_STEPS = (d.getF F.TB_WRAP_STEPS + 1) % 256 ∧
  e.getF F.TB_LAST_STEP_LO = wrapInt 48 off % 2 ^ 32 ∧ e.getF F.TB_LAST_STEP_HI = wrapInt 48 off / 2 ^ 32

/-- At least `ticks` ticks have passed since tick `since`. -/
abbrev Dev.passed (d : Dev) (since ticks : Nat) : Prop := since + ticks ≤ d.tick

/-- The header word of a line packet. -/
def lineHead (words : List LineWord) : Nat := (words.map (·.value)).headD 0

/-- Lane `n` of the ring or of the twin link. -/
def linkLaneOf (ring : Bool) (n : Nat) : LinkLane :=
  if ring then .ring (Fin.ofNat 2 n) else .twin (Fin.ofNat 4 n)

/-- The first LIVE entry of cluster `c` that may be taken and has waited for its STEAL delay (R224). -/
def Dev.liveWaiting (d : Dev) (c : Nat) : Option Task :=
  firstEntry ((clusterEngines c).flatMap (fun x => (d.entriesOf x).filter (fun t => t.live && d.eligible t && d.waited t t.steal)))

/-- Twin message `m` of `type` reaches the unit and passes its checks (R285). -/
abbrev Dev.hears (d : Dev) (type : Nat) (m : LinkMsg) : Prop := d.twinLive = true ∧ m.good type = true

/-- The proposal that the body of PROPOSE carries (R286). -/
def proposed (b : List Byte) (tick : Nat) : Proposal :=
  { id := leAt b 0 4, opcode := leAt b 4 2, entries := (List.range (leAt b 6 1)).map (fun i => (leAt b (20 + 9 * i) 1 % 128, leAt b (21 + 9 * i) 8)),
    params := (b.drop (20 + 9 * leAt b 6 1)).take (proposalPlen (leAt b 4 2)), phase := .agreed, tick := tick }

/-- Twin message `type` with `body` is the newest thing the device has sent. -/
def sentTwin (d e : Dev) (type : Nat) (body : List Byte) : Prop := e.out = .twin type d.twin.seq (bodyWords body) :: d.out

/-- Ring message `m` of `type` reaches the member and passes its checks (R308). -/
abbrev Dev.ringHears (d : Dev) (type : Nat) (m : LinkMsg) : Prop := d.ringLive = true ∧ m.good type = true

/-- Every command that waits for a fade waits for another point than `kind`, `index`, `slot`, and has a point still fading (R436). -/
abbrev Dev.fadesApart (d : Dev) (kind index slot : Nat) : Prop :=
  ∀ j ∈ d.audio.jobs, ¬(min 2 j.kind = kind ∧ j.index = index ∧ (kind = 1 → j.slot = slot)) ∧ (d.jobPoints j).all (fun f => f.phase == 0) = false

/-- The point that AUDIO-MUTE names (R435). -/
def Dev.mutePoints (d : Dev) (kind index slot : Nat) : List Fade := d.jobPoints { client := 0, tag := 0, op := 0x0703, kind := kind, index := index, slot := slot }

/-- What a load of array `k` leaves: the entries `vs` from `first` on in the pending bank, the active bank as it was, SWAP as the command says, and
the answer with ARRAY_CRC (R418, R419). -/
def loadedArray (d e : Dev) (c : Ctx) (op k first : Nat) (vs : List Nat) (swap : Bool) : Prop :=
  (∀ i < vs.length, Cells.get (arrayReset k) (e.array k).pending (first + i) = vs.getD i 0) ∧
  (∀ j, j < first ∨ first + vs.length ≤ j → Cells.get (arrayReset k) (e.array k).pending j = Cells.get (arrayReset k) (d.array k).pending j) ∧
  (e.array k).active = (d.array k).active ∧ (e.array k).swap = swap ∧ e.getF F.PREVIEW_ARRAY_CRC k = crc32c (arrayBytes k (e.array k).pending) % 2 ^ 32 ∧
  Dev.replied d e c op .ok 0 (leBytes 4 (e.getF F.PREVIEW_ARRAY_CRC k))

/-- The `w`-byte entries of a byte string from `offset` on. -/
def entriesFrom (bs : List Byte) (offset w n : Nat) : List Nat := (List.range n).map (fun i => leAt bs (offset + w * i) w)

/-- Decode context `k` exists after a step, and `P` holds of it. -/
abbrev Dev.hasCtx (d : Dev) (k : Nat) (P : DecCtx → Prop) : Prop := ∃ y, assoc d.decs k = some y ∧ P y

/-- A picture that still has a row neither committed nor concealed (R261). -/
def unfinished (p : DecPic) : Bool := (List.range p.rows).any (fun r => !p.done.contains r)

/-- An entropy decode unit `u` is ready to parse `item` for context `k`, which holds `x`: it is Active, its bytes are in the ring, no
picture waits to be closed and nothing is to be discarded first (R261, R263, R457). -/
abbrev Dev.parses (d : Dev) (k u : Nat) (x : DecCtx) (item : ParseItem) (used : Nat) : Prop :=
  d.phase = .run ∧ assoc d.decs k = some x ∧ x.pic.all unfinished = true ∧ (x.ended = true → x.pic ≠ none) ∧ d.freeUnit x item = some u ∧
  d.domState (136 + u) = 0 ∧ (x.kind = 0 → used ≤ x.fill) ∧ x.discAt ≠ some 0

/-! ### Frames: which parts of the block a command may change -/

/-- The parts of the device beside the register file, the event log and what it has driven outwards. -/
inductive Part where
  /-- HBM contents. -/
  | memory
  /-- Requests, refresh and power-down of the pseudo-channels. -/
  | pseudoChannels
  /-- The NOR flash. -/
  | flash
  /-- The staged image and a commit or revert in progress. -/
  | staging
  /-- The Almanac sections in force. -/
  | settings
  /-- Start-up, resets and shutdown. -/
  | lifecycle
  /-- Mode transitions in progress or held. -/
  | modeJobs
  /-- Queues, windows, the journal and replies. -/
  | transport
  /-- The fenced units. -/
  | fences
  /-- Sensor lanes. -/
  | lanes
  /-- Bundles. -/
  | bundles
  /-- Channels with their pictures, and captures. -/
  | channels
  /-- Tasks, caches and dispatch. -/
  | engines
  /-- The twin. -/
  | twin
  /-- The gang ring. -/
  | ring
  /-- Ports, PTP and network streams. -/
  | network
  /-- Record queues and segments. -/
  | records
  /-- Decode contexts. -/
  | decoding
  /-- Window tables. -/
  | windowTables
  /-- The compositor. -/
  | preview
  /-- The audio block. -/
  | audio
  /-- The timebase beside its registers. -/
  | time
  /-- The thermal readout. -/
  | thermal
  /-- Domains, PLLs and references. -/
  | power
  /-- Perturbations. -/
  | perturb
  /-- The life record. -/
  | life
  /-- EXPECT of the check-value units. -/
  | checks
  /-- Counter shadows. -/
  | shadows
  deriving DecidableEq, Repr

/-- Every part. -/
def allParts : List Part :=
  [.memory, .pseudoChannels, .flash, .staging, .settings, .lifecycle, .modeJobs, .transport, .fences, .lanes, .bundles, .channels, .engines,
   .twin, .ring, .network, .records, .decoding, .windowTables, .preview, .audio, .time, .thermal, .power, .perturb, .life, .checks,
   .shadows]

/-- Part `p` is the same in `e` as in `d`. -/
def Dev.keeps (d e : Dev) : Part → Prop
  | .memory => e.hbm = d.hbm
  | .pseudoChannels => e.pcs = d.pcs
  | .flash => e.flash = d.flash
  | .staging => e.stage = d.stage ∧ e.almCommitted = d.almCommitted ∧ e.flashJob = d.flashJob
  | .settings => e.alm = d.alm ∧ e.almUser = d.almUser
  | .lifecycle => e.phase = d.phase ∧ e.released = d.released ∧ e.warmByCmd = d.warmByCmd ∧ e.warmAsk = d.warmAsk ∧ e.resumeMode = d.resumeMode ∧ e.replaying = d.replaying ∧ e.awaitBme = d.awaitBme ∧ e.pwrok = d.pwrok ∧ e.perst = d.perst
  | .modeJobs => e.modeJob = d.modeJob ∧ e.modeWait = d.modeWait
  | .transport => e.queues = d.queues ∧ e.windows = d.windows ∧ e.journal = d.journal ∧ e.held = d.held ∧ e.spiOut = d.spiOut ∧ e.spiIn = d.spiIn ∧ e.spiRefused = d.spiRefused ∧ e.msixTable = d.msixTable
  | .fences => e.fences = d.fences
  | .lanes => e.lanes = d.lanes ∧ e.merged = d.merged
  | .bundles => e.bundles = d.bundles
  | .channels => e.chans = d.chans ∧ e.keptCaptures = d.keptCaptures
  | .engines => e.tasks = d.tasks ∧ e.caches = d.caches ∧ e.given = d.given ∧ e.fresh = d.fresh ∧ e.hbMiss = d.hbMiss ∧ e.nextOrder = d.nextOrder ∧ e.nextToken = d.nextToken
  | .twin => e.twin = d.twin
  | .ring => e.ring = d.ring
  | .network => e.eth = d.eth ∧ e.ptp = d.ptp ∧ e.binds = d.binds
  | .records => e.recqs = d.recqs ∧ e.segs = d.segs ∧ e.vigilSegs = d.vigilSegs ∧ e.dmaLast = d.dmaLast
  | .decoding => e.decs = d.decs
  | .windowTables => e.winTabs = d.winTabs
  | .preview => e.prev = d.prev
  | .audio => e.audio = d.audio
  | .time => e.tick = d.tick ∧ e.time = d.time ∧ e.era = d.era
  | .thermal => e.therm = d.therm
  | .power => e.power = d.power ∧ e.clock = d.clock
  | .perturb => e.perts = d.perts
  | .life => e.life = d.life
  | .checks => e.crcExpect = d.crcExpect
  | .shadows => e.shadows = d.shadows

/-- The parts that a command may change, in any state. A command that carries another to its start, resumes, resets or changes the mode may
change nearly all. -/
def changes : Instr → List Part
  | .talkbackRepeat .. =>
    [.bundles]
  | .queueCloseEnd .. | .stackTempRead .. | .powerDownEntry .. | .rebuildDone .. | .groupQuery .. | .qualSlow ..
  | .perturbExpiry .. =>
    []
  | .amclkLoss .. | .alarm .. | .pllRestartDone .. | .spiStatus .. =>
    [.power]
  | .eraUpdate .. | .qualificationGate .. =>
    [.time]
  | .frameStart .. | .micStuck .. | .clockLoss .. | .rateMeasurement .. | .fadeTimeout .. =>
    [.audio]
  | .helloSend .. | .heartbeatSend .. | .propose .. | .joinRetry .. | .copyChunk .. | .switch .. | .beaconSend .. | .pairingRetry .. =>
    [.twin]
  | .hole .. | .stats .. =>
    [.ring]
  | .injectionStart .. =>
    [.perturb]
  | .nop .. | .getInfo .. | .getStatus .. | .readEvents .. | .spiRelease .. | .almanacRead .. | .queryChannel .. | .laneStatus .. | .twinStatus ..
  | .gangStatus .. | .timeSetIncrement .. | .perturbClear .. | .checkRun .. =>
    [.transport]
  | .readReply .. =>
    [.transport, .power]
  | .rescueCommit .. =>
    [.channels]
  | .portLinkDown .. | .linkUp .. | .announceTimeout .. | .ptpPortChange .. | .addressResolve .. | .gratuitousArp .. =>
    [.network]
  | .preempt .. | .contextSave .. =>
    [.channels, .engines, .decoding, .power]
  | .requestUrgency .. | .refreshTick .. | .refreshDone .. | .hotStateChange .. =>
    [.pseudoChannels]
  | .segmentHoldExpiry .. =>
    [.records]
  | .thermalHoldTimeout .. | .internalRelease .. | .resonatorFailure .. | .perstNRelease .. =>
    [.lifecycle]
  | .thermalSample .. | .sensorHoldEnd .. | .shedStepDown .. =>
    [.thermal]
  | .almanacStage .. | .almanacCommit .. | .almanacRevert .. =>
    [.staging, .transport]
  | .audioConfigure .. =>
    [.transport, .audio]
  | .calendsSend .. | .slotMissed .. | .status .. =>
    [.channels, .ring]
  | .decodeFeed .. =>
    [.transport, .decoding]
  | .gangLeave .. =>
    [.transport, .ring]
  | .harvestArm .. | .harvestTrigger .. =>
    [.transport, .channels]
  | .lifeRecord .. =>
    [.flash, .life]
  | .linePacket .. =>
    [.bundles, .channels]
  | .lineCommit .. =>
    [.memory, .bundles, .channels]
  | .pictureAccept .. =>
    [.memory, .channels]
  | .pictureTimeout .. =>
    [.bundles, .channels]
  | .memRegions .. =>
    [.memory, .transport]
  | .memoryRequest .. =>
    [.memory, .pseudoChannels]
  | .noteCompare .. | .picDigest .. | .rowNote .. | .leave .. | .linkLost .. =>
    [.channels, .twin]
  | .packetSend .. =>
    [.transport, .network]
  | .parityGroup .. =>
    [.lanes, .bundles]
  | .solo .. =>
    [.twin, .network]
  | .pathBeacon .. | .demote .. | .hello .. | .frameReceive .. =>
    [.transport, .channels, .twin, .network]
  | .perturbSet .. =>
    [.transport, .perturb]
  | .previewConfigure .. | .lutLoad .. | .scalerLoad .. | .lanternLoad .. | .lanternMove .. | .planeLoad .. =>
    [.transport, .preview]
  | .previewLine .. =>
    [.channels, .preview]
  | .ptpMessage .. | .delayReq .. =>
    [.network, .time]
  | .readReg .. | .directRead .. =>
    [.power, .shadows]
  | .recordBind .. | .recordUnbind .. | .segmentWrite .. | .segmentCommit .. =>
    [.transport, .records]
  | .refEdge .. | .refStopped .. =>
    [.time, .power]
  | .regRead .. =>
    [.transport, .shadows]
  | .retentionExpiry .. =>
    [.engines, .decoding]
  | .tail .. =>
    [.channels, .network]
  | .timeGet .. | .timeStep .. | .pulseProgram .. =>
    [.transport, .time]
  | .twinHandover .. | .refuse .. | .abort .. | .commitAck .. | .joinReq .. | .revert .. =>
    [.transport, .twin]
  | .warmReset .. | .busMasterEnable .. =>
    [.lifecycle, .transport]
  | .writePacket .. | .sqDb .. | .rqDb .. =>
    [.transport, .power]
  | .audioRoute .. | .audioMute .. =>
    [.transport, .records, .audio]
  | .bundleConfigure .. =>
    [.transport, .bundles, .channels]
  | .bundleTrain .. =>
    [.transport, .lanes, .bundles]
  | .calends .. =>
    [.channels, .ring, .time]
  | .decodeOpen .. =>
    [.transport, .decoding, .windowTables]
  | .egressBind .. | .egressUnbind .. =>
    [.transport, .twin, .network]
  | .flush .. =>
    [.bundles, .channels, .power]
  | .forceEquinox .. =>
    [.transport, .channels, .twin]
  | .proposalTimeout .. =>
    [.transport, .channels, .twin, .network]
  | .gangJoin .. | .bypassChange .. =>
    [.transport, .twin, .ring]
  | .heartbeat .. =>
    [.channels, .twin, .network]
  | .powerDecision .. | .wakeComplete .. =>
    [.channels, .engines, .power]
  | .pulseFire .. =>
    [.channels, .preview, .time]
  | .retrainAttempt .. =>
    [.lanes, .twin, .ring]
  | .snapshotCounters .. =>
    [.transport, .channels, .decoding]
  | .startTick .. =>
    [.channels, .decoding, .preview]
  | .copyDone .. =>
    [.channels, .engines, .twin, .network]
  | .decodeClose .. | .decodeRowCommit .. =>
    [.transport, .engines, .decoding, .windowTables]
  | .markerSlotMissed .. | .lossOfSignal .. | .stuffingViolation .. | .backoffExpiry .. =>
    [.lanes, .bundles, .twin, .ring]
  | .openChannel .. =>
    [.transport, .channels, .network, .windowTables]
  | .reconfigureChannel .. | .agree .. | .commit .. =>
    [.transport, .channels, .twin, .network]
  | .rescue .. =>
    [.channels, .engines, .twin, .ring]
  | .rowCommit .. =>
    [.channels, .engines, .decoding, .power]
  | .sampleFrame .. =>
    [.transport, .network, .records, .audio]
  | .takeover .. =>
    [.transport, .channels, .twin, .network, .records]
  | .entropyParse .. =>
    [.transport, .engines, .decoding, .windowTables, .power]
  | .marker .. | .attemptTimeout .. | .trainingTimeout .. =>
    [.fences, .lanes, .bundles, .twin, .ring]
  | .twinConfigure .. =>
    [.transport, .channels, .twin, .ring, .network]
  | .selftest .. =>
    [.transport, .fences, .channels, .engines, .decoding, .power]
  | .engineFault .. | .engineSilence .. | .dispatcherHeartbeat .. | .tokenPublish .. =>
    [.fences, .channels, .engines, .twin, .ring, .decoding, .power]
  | .startChannel .. | .rowDepart .. =>
    [.transport, .channels, .twin, .network, .records, .decoding, .windowTables]
  | .budgetExpiry .. =>
    [.transport, .fences, .channels, .engines, .twin, .ring, .decoding, .windowTables, .power]
  | .harvestRelease .. =>
    [.transport, .channels, .engines, .twin, .network, .records, .decoding, .windowTables]
  | .taskTake .. | .steal .. | .ask .. =>
    [.fences, .channels, .engines, .twin, .ring, .decoding, .power, .perturb]
  | .closeChannel .. | .stopChannel .. =>
    [.transport, .channels, .engines, .twin, .ring, .network, .records, .decoding, .windowTables]
  | .accessTimeout .. | .phyUnlock .. =>
    [.memory, .pseudoChannels, .transport, .fences, .channels, .engines, .twin, .ring, .network, .records, .decoding, .windowTables]
  | .rowIssue .. =>
    [.transport, .channels, .engines, .twin, .ring, .network, .records, .decoding, .windowTables, .power, .perturb]
  | .warmResetEntry .. =>
    [.pseudoChannels, .staging, .lifecycle, .modeJobs, .transport, .bundles, .channels, .engines, .twin, .ring, .network]
  | .memoryRead .. =>
    [.memory, .pseudoChannels, .transport, .fences, .channels, .engines, .twin, .ring, .network, .records, .decoding, .windowTables, .perturb]
  | .wakeFail .. | .pllUnlock .. =>
    [.memory, .pseudoChannels, .transport, .fences, .lanes, .bundles, .channels, .engines, .twin, .ring, .network, .records, .decoding, .windowTables, .power]
  | .regWrite .. | .regModify .. | .writeReg .. | .queueOpen .. | .queueClose .. | .take .. | .stepHiGo .. | .accept .. | .pop .. | .load ..
  | .fetch .. | .cacheInval .. | .hold .. | .give .. | .start .. | .finish .. | .data32 .. | .valueLo .. | .resume .. | .head .. | .kill ..
  | .cfgEn .. | .registerWrite .. =>
    [.transport, .fences, .bundles, .channels, .engines, .twin, .ring, .network, .decoding, .audio, .time, .thermal, .power, .perturb, .checks]
  | .fenceClear .. =>
    [.memory, .pseudoChannels, .transport, .fences, .lanes, .bundles, .channels, .engines, .twin, .ring, .network, .records, .decoding, .windowTables,
      .audio, .power]
  | .setMode .. | .modeTransitionEnd .. | .engineGroupPower .. =>
    [.memory, .pseudoChannels, .modeJobs, .transport, .lanes, .bundles, .channels, .engines, .twin, .ring, .network, .records, .decoding,
      .windowTables, .preview, .power]
  | .flashOperationDone .. =>
    allParts.filter (fun p => !([.settings, .lifecycle, .audio, .time, .thermal, .perturb, .life, .checks, .shadows] : List Part).contains p)
  | .thermalHoldEnd .. =>
    allParts.filter (fun p => !([.flash, .staging, .settings, .audio, .time, .thermal, .perturb, .checks, .shadows] : List Part).contains p)
  | .startUp .. | .thermalRestart .. =>
    allParts.filter (fun p => !([.flash, .staging, .audio, .perturb, .checks, .shadows] : List Part).contains p)
  | .slotFetch .. | .slotReadRetry .. | .commandStart .. =>
    allParts.filter (fun p => !([.flash, .settings, .life] : List Part).contains p)
  | .coldReset .. | .pwrokFall .. | .wrstN .. | .thermalShutdown .. | .firmwareTrip .. | .coldPowerLoss .. =>
    allParts.filter (fun p => !([.flash, .life] : List Part).contains p)
  | .warmResume .. =>
    allParts.filter (fun p => !([.flash] : List Part).contains p)

/-- The command that a row of the command catalogue issues, with its checks. -/
def carried : Instr → Option (Ctx × CmdJob)
  | .nop c => some (c, (jobNop c))
  | .getInfo c => some (c, (jobGetInfo c))
  | .setMode c target => some (c, (jobSetMode c target))
  | .getStatus c => some (c, (jobGetStatus c))
  | .warmReset c => some (c, (jobWarmReset c))
  | .snapshotCounters c scope flags length scatter => some (c, (jobSnapshot c scope flags length scatter))
  | .readEvents c from_ most => some (c, (jobReadEvents c from_ most))
  | .spiRelease c => some (c, (jobSpiRelease c))
  | .almanacRead c source offset length => some (c, (jobAlmanacRead c source offset length))
  | .almanacStage c begin offset length => some (c, (jobAlmanacStage c begin offset length))
  | .almanacCommit c length crc => some (c, (jobAlmanacCommit c length crc))
  | .almanacRevert c form => some (c, (jobAlmanacRevert c form))
  | .openChannel c block => some (c, (rawJob (jobOpenChannel c block) block))
  | .closeChannel c channel => some (c, (jobCloseChannel c channel))
  | .startChannel c channel => some (c, (jobStartChannel c channel))
  | .stopChannel c channel mode => some (c, (jobStopChannel c channel mode))
  | .reconfigureChannel c block => some (c, (rawJob (jobReconfigure c block) block))
  | .forceEquinox c channel => some (c, (jobForceEquinox c channel))
  | .queryChannel c channel => some (c, (jobQueryChannel c channel))
  | .egressBind c block => some (c, (rawJob (jobEgressBind c block) block))
  | .egressUnbind c kind stream => some (c, (jobEgressUnbind c kind stream))
  | .bundleConfigure c bundle what cfg front fifo matrix => some (c, (jobBundleConfigure c bundle what cfg front fifo matrix))
  | .bundleTrain c bundle => some (c, (jobBundleTrain c bundle))
  | .laneStatus c bundle => some (c, (jobLaneStatus c bundle))
  | .harvestArm c channel flags triggers gen slots pre post => some (c, (jobHarvestArm c channel flags triggers gen slots pre post))
  | .harvestTrigger c channel => some (c, (jobHarvestTrigger c channel))
  | .harvestRelease c channel => some (c, (jobHarvestRelease c channel))
  | .twinConfigure c enable => some (c, (jobTwinConfigure c enable))
  | .twinStatus c => some (c, (jobTwinStatus c))
  | .twinHandover c => some (c, (jobTwinHandover c))
  | .gangJoin c member members ringId => some (c, (jobGangJoin c member members ringId))
  | .gangLeave c => some (c, (jobGangLeave c))
  | .gangStatus c => some (c, (jobGangStatus c))
  | .recordBind c block => some (c, (rawJob (jobRecordBind c block) block))
  | .recordUnbind c queue => some (c, (jobRecordUnbind c queue))
  | .memRegions c entries => some (c, (jobMemRegions c entries))
  | .fenceClear c kind index struck => some (c, (jobFenceClear c kind index struck))
  | .timeGet c => some (c, (jobTimeGet c))
  | .timeSetIncrement c inc => some (c, (jobTimeSetIncrement c inc))
  | .timeStep c offset => some (c, (jobTimeStep c offset))
  | .pulseProgram c gen mode flags width first period frac => some (c, (jobPulseProgram c gen mode flags width first period frac))
  | .audioConfigure c block => some (c, (rawJob (jobAudioConfigure c block) block))
  | .audioRoute c block => some (c, (rawJob (jobAudioRoute c block) block))
  | .audioMute c kind index slot action => some (c, (jobAudioMute c kind index slot action))
  | .previewConfigure c block => some (c, (rawJob (jobPreviewConfigure c block) block))
  | .lutLoad c block => some (c, (rawJob (jobLutLoad c block) block))
  | .scalerLoad c block => some (c, (rawJob (jobScalerLoad c block) block))
  | .lanternLoad c flags hx hy => some (c, (jobLanternLoad c flags hx hy))
  | .lanternMove c x y flags => some (c, (jobLanternMove c x y flags))
  | .planeLoad c flags row rows => some (c, (jobPlaneLoad c flags row rows))
  | .perturbSet c block => some (c, (rawJob (jobPerturbSet c block) block))
  | .perturbClear c kinds => some (c, (jobPerturbClear c kinds))
  | .selftest c engines wrong delta => some (c, (jobSelftest c engines wrong delta))
  | .checkRun c unit poly guardLen guard expect length => some (c, (jobCheckRun c unit poly guardLen guard expect length))
  | .regRead c addr count => some (c, (jobRegRead c addr count))
  | .regWrite c addr value => some (c, (jobRegWrite c addr value))
  | .regModify c addr mask value => some (c, (jobRegModify c addr mask value))
  | .decodeOpen c block => some (c, (rawJob (jobDecodeOpen c block) block))
  | .decodeFeed c block => some (c, (rawJob (jobDecodeFeed c block) block))
  | .decodeClose c context => some (c, (jobDecodeClose c context))
  | _ => none

/-! ### Frames of the register file -/

/-- The blocks among whose registers are all that a command changes, for the commands whose register instances follow from their operands
alone; the registers that R77, R304 and R396 make follow the state are apart (`followed`). -/
def regBlocks : Instr → Option (List Block)
  | .eraUpdate .. | .helloSend .. | .joinRetry .. | .pairingRetry .. | .pictureTimeout .. | .talkbackRepeat ..
  | .internalRelease .. | .segmentHoldExpiry .. =>
    some []
  | .queueCloseEnd .. =>
    some [.cmd]
  | .readReply .. =>
    some [.keeper, .cmd, .pwr]
  | .spiStatus .. =>
    some [.keeper, .pwr]
  | .thermalHoldTimeout .. =>
    some [.keeper]
  | .perstNRelease .. =>
    some [.pcie]
  | .injectionStart .. =>
    some [.perturb]
  | .frameStart .. | .micStuck .. | .clockLoss .. | .rateMeasurement .. | .fadeTimeout .. =>
    some [.keeper, .audio]
  | .qualSlow .. =>
    some [.keeper, .clk]
  | .gratuitousArp .. | .groupQuery .. =>
    some [.keeper, .eth]
  | .stackTempRead .. | .hotStateChange .. | .powerDownEntry .. | .rebuildDone .. | .refreshDone .. =>
    some [.keeper, .mem]
  | .perturbExpiry .. | .heartbeatSend .. =>
    some [.keeper, .perturb]
  | .propose .. | .copyChunk .. | .switch .. | .rowNote .. =>
    some [.keeper, .twin]
  | .abort .. =>
    some [.keeper, .cmd, .xlat, .twin]
  | .shedStepDown .. =>
    some [.therm, .eng]
  | .refStopped .. =>
    some [.keeper, .clk, .tb]
  | .nop .. | .getInfo .. | .getStatus .. | .readEvents .. | .spiRelease .. | .almanacRead .. | .checkRun .. | .timeGet ..
  | .previewConfigure .. | .lanternMove .. | .harvestTrigger .. | .gangLeave .. | .decodeOpen .. =>
    some [.keeper, .cmd, .xlat]
  | .linkUp .. =>
    some [.keeper, .eth, .twin]
  | .beaconSend .. =>
    some [.keeper, .perturb, .eth]
  | .refreshTick .. =>
    some [.keeper, .perturb, .mem]
  | .parityGroup .. =>
    some [.keeper, .sl, .bundle]
  | .almanacStage .. | .almanacCommit .. | .almanacRevert .. =>
    some [.keeper, .almanac, .cmd, .xlat]
  | .sensorHoldEnd .. =>
    some [.keeper, .almanac, .therm, .eng]
  | .qualificationGate .. =>
    some [.keeper, .clk, .tb, .audio]
  | .recordBind .. | .audioConfigure .. =>
    some [.keeper, .cmd, .audio, .xlat]
  | .memRegions .. =>
    some [.keeper, .cmd, .mem, .xlat]
  | .perturbSet .. | .perturbClear .. =>
    some [.keeper, .cmd, .perturb, .xlat]
  | .lutLoad .. | .scalerLoad .. | .lanternLoad .. | .planeLoad .. =>
    some [.keeper, .cmd, .preview, .xlat]
  | .timeSetIncrement .. | .timeStep .. | .pulseProgram .. =>
    some [.keeper, .cmd, .tb, .xlat]
  | .gangStatus .. =>
    some [.keeper, .cmd, .xlat, .ring]
  | .twinStatus .. =>
    some [.keeper, .cmd, .xlat, .twin]
  | .preempt .. | .contextSave .. =>
    some [.keeper, .dispatch, .eng, .xlat, .pwr]
  | .bundleConfigure .. =>
    some [.keeper, .cmd, .bundle, .xlat, .twin]
  | .laneStatus .. | .bundleTrain .. =>
    some [.keeper, .cmd, .sl, .bundle, .xlat]
  | .lossOfSignal .. | .stuffingViolation .. | .trainingTimeout .. | .backoffExpiry .. =>
    some [.keeper, .sl, .bundle, .ring, .twin]
  | .thermalSample .. =>
    some [.keeper, .almanac, .therm, .perturb, .eng, .mem]
  | _ => none

/-- The keys of CMD.STATUS.SPI_PENDING, TB.STATUS.STEER and TWIN.LOCKED, which follow the state (R77, R304, R396). -/
def followed : List Nat :=
  [F.CMD_STATUS_SPI_PENDING.key 0 0, F.TB_STATUS_STEER.key 0 0, F.TWIN_LOCKED.key 0 0, F.TWIN_LOCKED.key 1 0, F.TWIN_LOCKED.key 2 0, F.TWIN_LOCKED.key 3 0]

/-- Every register field outside blocks `bs`, those that follow the state apart, reads in `e` as in `d`. -/
def Dev.keepsRegs (d e : Dev) (bs : List Block) : Prop :=
  ∀ k, blockOf (k / 32) ∉ bs → k ∉ followed → Cells.get resetField e.regs k = Cells.get resetField d.regs k

/-- A step that has gone wrong: it does not answer a next state. -/
def stops (o : Outcome) : Bool := match o with | .next _ => false | _ => true

end Sys2Proof.Machine
end

