-- ==== Sys2Proof/WellFormed.lean ====
section
/-! DEFINITION. Which commands can come: the widths of their parameters (R500 to R510, R61) and of the words of register accesses. Rows
whose operand types already say everything have nothing to check. -/
namespace Sys2Proof
open Machine

/-- Widths of unsigned parameters. -/
def u8 (n : Nat) : Bool := decide (n < 2 ^ 8)
def u16 (n : Nat) : Bool := decide (n < 2 ^ 16)
def u32 (n : Nat) : Bool := decide (n < 2 ^ 32)
def u64 (n : Nat) : Bool := decide (n < 2 ^ 64)

/-- Widths of signed parameters. -/
def i16 (i : Int) : Bool := decide (-(2 ^ 15) ≤ i) && decide (i < 2 ^ 15)
def i24 (i : Int) : Bool := decide (-(2 ^ 23) ≤ i) && decide (i < 2 ^ 23)
def i64 (i : Int) : Bool := decide (-(2 ^ 63) ≤ i) && decide (i < 2 ^ 63)

/-- An address of BAR0, 64 MiB (R69). -/
def bar0 (a : Nat) : Bool := decide (a < 2 ^ 26)

/-- An address that a direct access can carry: over PCIe the 512 KiB of BAR2 stand past BAR0 (R69). -/
def busAddr (p : Path) (a : Nat) : Bool := decide (a < 2 ^ 26 + (if p = .bar0 then 2 ^ 19 else 0))

/-- A submission slot has 128 bytes (R71). -/
def slotOk (b : Option (List Byte)) : Bool := (b.map (·.length == 128)).getD true

/-- The context of an accepted command (R61). -/
def Ctx.wf (c : Ctx) : Bool := decide (c.client < 64) && u32 c.tag && u64 c.buf

/-- A message of the twin link or the ring (R285). -/
def Machine.LinkMsg.wf (m : LinkMsg) : Bool := u16 m.seq && u16 m.hchk && u32 m.crc

/-- What a start-up meets: a raw code for each sensor, a time for each step. -/
def StartInfo.wf (x : StartInfo) : Bool := x.raws.length == 38 && x.micros.length == 13

/-- A command whose parameters have their widths. -/
def Instr.wf : Instr → Bool
  | .nop c => c.wf
  | .getInfo c => c.wf
  | .setMode c target => c.wf && u8 target
  | .getStatus c => c.wf
  | .warmReset c => c.wf
  | .snapshotCounters c scope flags length scatter => c.wf && u32 scope && u32 length && u8 flags && u64 scatter
  | .readEvents c from_ most => c.wf && u64 from_ && u16 most
  | .spiRelease c => c.wf
  | .almanacRead c source offset length => c.wf && u8 source && u32 offset && u32 length
  | .almanacStage c _ offset length => c.wf && u32 offset && u32 length
  | .almanacCommit c length crc => c.wf && u32 length && u32 crc
  | .almanacRevert c form => c.wf && u8 form
  | .openChannel c block => c.wf && block.length == 128
  | .closeChannel c channel => c.wf && u8 channel
  | .startChannel c channel => c.wf && u8 channel
  | .stopChannel c channel mode => c.wf && u8 channel && u8 mode
  | .reconfigureChannel c block => c.wf && block.length == 128
  | .forceEquinox c channel => c.wf && u8 channel
  | .queryChannel c channel => c.wf && u8 channel
  | .egressBind c block => c.wf && block.length == 64
  | .egressUnbind c kind stream => c.wf && u8 kind && u8 stream
  | .bundleConfigure c bundle what cfg front fifo matrix => c.wf && u8 bundle && u8 what && u32 cfg && u32 front && u32 fifo &&
      matrix.length == 12 && matrix.all i16
  | .bundleTrain c bundle => c.wf && u8 bundle
  | .laneStatus c bundle => c.wf && u8 bundle
  | .harvestArm c channel flags triggers gen slots pre post => c.wf && u8 channel && u8 flags && u8 triggers && u8 gen && u32 slots && u32
      pre && u32 post
  | .harvestTrigger c channel => c.wf && u8 channel
  | .harvestRelease c channel => c.wf && u8 channel
  | .twinConfigure c enable => c.wf && u8 enable
  | .twinStatus c => c.wf
  | .twinHandover c => c.wf
  | .gangJoin c member members ringId => c.wf && u8 member && u8 members && u32 ringId
  | .gangLeave c => c.wf
  | .gangStatus c => c.wf
  | .recordBind c block => c.wf && block.length == 64
  | .recordUnbind c queue => c.wf && u8 queue
  | .memRegions c entries => c.wf && entries.length == 16 && entries.all (fun e => u32 e.1 && u32 e.2)
  | .fenceClear c kind index _ => c.wf && u8 kind && u16 index
  | .timeGet c => c.wf
  | .timeSetIncrement c inc => c.wf && u32 inc
  | .timeStep c offset => c.wf && i64 offset
  | .pulseProgram c gen mode flags width first period frac => c.wf && u8 gen && u8 mode && u8 flags && u8 width && u32 first && u32 period
      && u16 frac
  | .audioConfigure c block => c.wf && block.length == 16
  | .audioRoute c block => c.wf && block.length == 8 + leAt block 3 1 && decide (9 ≤ block.length)
  | .audioMute c kind index slot action => c.wf && u8 kind && u8 index && u8 slot && u8 action
  | .previewConfigure c block => c.wf && block.length == 48
  | .lutLoad c block => c.wf && block.length == 8 + 2 * leAt block 4 2 && decide (10 ≤ block.length) && decide (block.length ≤ 4096)
  | .scalerLoad c block => c.wf && block.length == 3592
  | .lanternLoad c flags hx hy => c.wf && u8 flags && u8 hx && u8 hy
  | .lanternMove c x y flags => c.wf && i16 x && i16 y && u8 flags
  | .planeLoad c flags row rows => c.wf && u8 flags && u16 row && u16 rows
  | .perturbSet c block => c.wf && block.length == 40
  | .perturbClear c kinds => c.wf && u8 kinds
  | .selftest c engines wrong delta => c.wf && decide (engines < 2 ^ 128) && decide (wrong < 2 ^ 128) && u16 delta
  | .checkRun c unit poly guardLen guard expect length => c.wf && u8 unit && u8 poly && u8 guardLen && u32 guard && u32 length && u64
      expect
  | .regRead c addr count => c.wf && u32 addr && u16 count
  | .regWrite c addr value => c.wf && u32 addr && u32 value
  | .regModify c addr mask value => c.wf && u32 addr && u32 mask && u32 value
  | .decodeOpen c block => c.wf && block.length == 24
  | .decodeFeed c block => c.wf && block.length == 24
  | .decodeClose c context => c.wf && u8 context
  | .writePacket _ => true
  | .readReply => true
  | .readReg addr => u32 addr
  | .writeReg addr value => u32 addr && u32 value
  | .spiStatus => true
  | .sqDb _ value => u32 value
  | .rqDb _ value => u32 value
  | .queueOpen _ _ value => u32 value
  | .queueClose _ _ value => u32 value
  | .queueCloseEnd _ => true
  | .slotFetch _ bytes _ _ => slotOk bytes
  | .slotReadRetry _ bytes _ _ => slotOk bytes
  | .commandStart _ _ => true
  | .take _ => true
  | .stepHiGo _ offset => u16 offset
  | .accept _ => true
  | .pop _ _ => true
  | .load _ _ => true
  | .fetch _ _ => true
  | .flush _ _ high low _ => u8 high && u8 low
  | .cacheInval _ _ => true
  | .hold _ _ _ => true
  | .give _ _ _ _ => true
  | .start _ _ _ _ => true
  | .finish _ _ => true
  | .data32 _ _ size value => decide (value < 2 ^ (8 * size.bytes))
  | .valueLo _ _ _ value => u32 value
  | .resume _ _ => true
  | .head _ _ value => u32 value
  | .kill _ mask => u32 mask
  | .cfgEn _ _ _ => true
  | .registerWrite path addr value enables => busAddr path addr && u32 value && decide (enables < 16)
  | .directRead path addr bytes => busAddr path addr && decide (1 ≤ bytes)
  | .startUp info => info.wf
  | .thermalHoldEnd info => info.wf
  | .thermalHoldTimeout => true
  | .coldReset => true
  | .pwrokFall => true
  | .wrstN => true
  | .warmResetEntry => true
  | .internalRelease => true
  | .warmResume info => info.raws.length == 38 && info.micros.length == 8 && info.start.wf
  | .modeTransitionEnd => true
  | .engineGroupPower => true
  | .thermalSample raws comp => raws.length == 38 && decide (comp < 2 ^ 13)
  | .sensorHoldEnd _ => true
  | .shedStepDown => true
  | .thermalShutdown _ _ => true
  | .firmwareTrip => true
  | .thermalRestart _ info => info.wf
  | .marker _ _ _ _ _ _ => true
  | .markerSlotMissed _ => true
  | .lossOfSignal _ => true
  | .stuffingViolation _ _ => true
  | .parityGroup _ words => words.length == 8
  | .trainingTimeout _ => true
  | .backoffExpiry _ => true
  | .retrainAttempt _ => true
  | .attemptTimeout _ => true
  | .talkbackRepeat _ => true
  | .linePacket _ words => words.all (fun w => u64 w.value)
  | .lineCommit _ _ => true
  | .pictureTimeout _ _ => true
  | .pictureAccept _ _ => true
  | .rowIssue _ => true
  | .taskTake _ _ _ => true
  | .steal _ _ _ => true
  | .ask _ _ _ => true
  | .preempt _ => true
  | .contextSave _ _ => true
  | .tokenPublish _ _ _ _ _ => true
  | .rowCommit _ _ _ _ _ _ => true
  | .engineFault _ _ _ => true
  | .engineSilence _ => true
  | .dispatcherHeartbeat _ => true
  | .rescue _ _ _ => true
  | .rescueCommit _ _ _ _ _ => true
  | .rowDepart _ _ _ => true
  | .noteCompare _ _ _ => true
  | .entropyParse _ _ _ _ => true
  | .decodeRowCommit _ _ _ _ => true
  | .budgetExpiry _ _ _ => true
  | .retentionExpiry _ => true
  | .hello m => m.wf
  | .helloSend => true
  | .heartbeat m => m.wf
  | .heartbeatSend => true
  | .propose m => m.wf
  | .agree m => m.wf
  | .refuse m => m.wf
  | .commit m => m.wf
  | .commitAck m => m.wf
  | .abort m => m.wf
  | .proposalTimeout => true
  | .picDigest m => m.wf
  | .rowNote m => m.wf
  | .leave m => m.wf
  | .joinReq m _ _ => m.wf
  | .joinRetry _ => true
  | .copyChunk m => m.wf
  | .copyDone m _ => m.wf
  | .switch m => m.wf
  | .tail m _ _ => m.wf
  | .pathBeacon _ _ _ => true
  | .beaconSend => true
  | .linkLost => true
  | .takeover => true
  | .demote => true
  | .solo => true
  | .pairingRetry => true
  | .revert => true
  | .segmentHoldExpiry => true
  | .calends m _ => m.wf
  | .calendsSend _ => true
  | .slotMissed => true
  | .hole m => m.wf
  | .status m => m.wf
  | .stats m => m.wf
  | .bypassChange => true
  | .memoryRequest _ arrivals => arrivals.all (fun q => (q.data.map (·.length == 32)).getD true)
  | .memoryRead _ _ => true
  | .requestUrgency _ => true
  | .refreshTick _ => true
  | .refreshDone _ => true
  | .stackTempRead _ _ => true
  | .hotStateChange _ => true
  | .powerDownEntry _ => true
  | .accessTimeout _ => true
  | .phyUnlock _ => true
  | .rebuildDone _ => true
  | .segmentWrite _ _ => true
  | .segmentCommit _ => true
  | .packetSend _ _ => true
  | .portLinkDown _ _ => true
  | .linkUp _ skew => skew.length == 4
  | .frameReceive _ _ _ _ => true
  | .ptpMessage _ domain _ _ => u8 domain
  | .delayReq => true
  | .announceTimeout _ => true
  | .ptpPortChange => true
  | .addressResolve kind stream _ _ => u8 kind && u8 stream
  | .gratuitousArp _ => true
  | .groupQuery _ _ => true
  | .pulseFire _ => true
  | .refEdge _ => true
  | .refStopped => true
  | .eraUpdate => true
  | .startTick => true
  | .previewLine _ _ => true
  | .sampleFrame _ mics din _ => mics.length == 32 && din.length == 64 && mics.all i24 && din.all i24
  | .frameStart _ _ => true
  | .micStuck _ => true
  | .clockLoss _ => true
  | .amclkLoss _ => true
  | .rateMeasurement _ _ => true
  | .fadeTimeout _ => true
  | .powerDecision => true
  | .alarm _ => true
  | .wakeComplete _ => true
  | .wakeFail _ => true
  | .pllUnlock _ => true
  | .resonatorFailure _ => true
  | .qualificationGate _ _ => true
  | .qualSlow _ => true
  | .lifeRecord _ _ => true
  | .injectionStart _ => true
  | .perturbExpiry _ => true
  | .coldPowerLoss => true
  | .perstNRelease _ _ _ => true
  | .busMasterEnable => true
  | .flashOperationDone => true
  | .pllRestartDone _ _ => true

end Sys2Proof
end

