-- ==== Sys2Proof/Certificates/Slice0/Obligations.lean ====
section
/-! DEFINITION. The statements about the block that are to be proved. Rules of spec/ in brackets say where the clauses of a statement come from;
a statement claims its clauses, not the whole of those rules. -/

open Sys2Proof Sys2Proof.Machine

/-- The commands that report answer OK with the record the catalogue gives them (R500 to R507, R510). Readings of the spec it rests on: log entries
34, 69, 71. -/
def Obligations.ReportCommandsAnswer : Prop :=
  (∀ (s : State) (c : Ctx), s.dev.canRun c (jobNop c) →
    answers (.nop c) s (fun d => Dev.replied s.dev d c 0x0000 .ok 0 [])) ∧
  (∀ (s : State) (c : Ctx), s.dev.canRun c (jobGetInfo c) →
    answers (.getInfo c) s (fun d => Dev.replied s.dev d c 0x0001 .ok 0 s.dev.infoRecord)) ∧
  (∀ (s : State) (c : Ctx), s.dev.canRun c (jobGetStatus c) →
    answers (.getStatus c) s (fun d => Dev.replied s.dev d c 0x0003 .ok 0 s.dev.statusRecord)) ∧
  (∀ (s : State) (c : Ctx) (from_ most : Nat), s.dev.canRun c (jobReadEvents c from_ most) →
    answers (.readEvents c from_ most) s (fun d => Dev.replied s.dev d c 0x0006 .ok 0 (s.dev.eventsRecord from_ most))) ∧
  (∀ (s : State) (c : Ctx), s.dev.canRun c (jobTimeGet c) →
    answers (.timeGet c) s (fun d => Dev.replied s.dev d c 0x0601 .ok 0 s.dev.timeRecord)) ∧
  (∀ (s : State) (c : Ctx) (n : Nat), s.dev.canRun c (jobQueryChannel c n) →
    answers (.queryChannel c n) s (fun d => Dev.replied s.dev d c 0x0207 .ok 0 (s.dev.channelRecord n))) ∧
  (∀ (s : State) (c : Ctx) (b : Nat), s.dev.canRun c (jobLaneStatus c b) →
    answers (.laneStatus c b) s (fun d => Dev.replied s.dev d c 0x0303 .ok 0 (s.dev.laneRecord b))) ∧
  (∀ (s : State) (c : Ctx), s.dev.canRun c (jobTwinStatus c) →
    answers (.twinStatus c) s (fun d => Dev.replied s.dev d c 0x0402 .ok 0 s.dev.twinRecord)) ∧
  (∀ (s : State) (c : Ctx), s.dev.canRun c (jobGangStatus c) →
    answers (.gangStatus c) s (fun d => Dev.replied s.dev d c 0x0413 .ok 0 s.dev.gangRecord)) ∧
  (∀ (s : State) (c : Ctx) (source offset length : Nat), s.dev.canRun c (jobAlmanacRead c source offset length) →
    answers (.almanacRead c source offset length) s
      (fun d => Dev.replied s.dev d c 0x0101 .ok 0 (s.dev.almanacBytes source offset length))) ∧
  (∀ (s : State) (c : Ctx), s.dev.canRun c (jobSpiRelease c) →
    answers (.spiRelease c) s (fun d => Dev.replied s.dev d c 0x0007 .ok 0 [])) ∧
  (∀ (s : State) (c : Ctx) (unit poly guardLen guard expect length : Nat), c.rd.fault = none →
    s.dev.canRun c (jobCheckRun c unit poly guardLen guard expect length) →
    answers (.checkRun c unit poly guardLen guard expect length) s (fun d => Dev.replied s.dev d c 0x0904 .ok 0
      (let v := crcOf poly ((leBytes 4 guard).take (guardBytes guardLen)) (c.rd.bytes.take length)
       leBytes 8 v ++ leBytes 1 (b2n (v % 2 ^ crcWidth poly = expect % 2 ^ crcWidth poly)) ++ leBytes 3 0 ++
         leBytes 4 (c.rd.bytes.take length).length)))

/-- SNAPSHOT-COUNTERS returns every counter in scope, captured before any is cleared (R487): in the frame over the SPI, else in the host's buffer with
the head of the record in the reply. Readings of the spec it rests on: log entry 71. -/
def Obligations.SnapshotReturnsTheCounters : Prop :=
  (∀ (s : State) (c : Ctx) (scope flags length scatter : Nat), s.dev.canRun c (jobSnapshot c scope flags length scatter) →
    s.dev.spiBound c.client = true →
    answers (.snapshotCounters c scope flags length scatter) s (fun d => Dev.replied s.dev d c 0x0005 .ok 0 (s.dev.snapshot scope))) ∧
  (∀ (s : State) (c : Ctx) (scope flags length scatter : Nat), s.dev.canRun c (jobSnapshot c scope flags length scatter) →
    s.dev.spiBound c.client = false → c.rd.fault = none →
    answers (.snapshotCounters c scope flags length scatter) s (fun d => Out.bufWrite scatter 0 (s.dev.snapshot scope) ∈ d.out ∧
      if c.confirm = true then Dev.replied s.dev d c 0x0005 .ok 0 ((s.dev.snapHead scope).take 8) else Dev.replied s.dev d c 0x0005 .fault 0 [])) ∧
  (∀ (s : State) (c : Ctx) (scope flags length scatter k : Nat), s.dev.canRun c (jobSnapshot c scope flags length scatter) →
    s.dev.spiBound c.client = false → c.rd.fault = some k →
    answers (.snapshotCounters c scope flags length scatter) s (fun d =>
      Out.bufWrite scatter 0 ((s.dev.snapshot scope).take c.rd.bytes.length) ∈ d.out ∧ Dev.replied s.dev d c 0x0005 .fault 0 []))

/-- SNAPSHOT-COUNTERS completes in every state in which it can run, whatever its client's transport, its flags and its buffer (R487). Readings of the
spec it rests on: log entry 71. -/
def Obligations.SnapshotCompletes : Prop :=
  ∀ (s : State) (c : Ctx) (scope flags length scatter : Nat), s.dev.canRun c (jobSnapshot c scope flags length scatter) →
    answers (.snapshotCounters c scope flags length scatter) s (fun d => d.hbm = s.dev.hbm ∧
      ∃ st data, (st = Status.ok ∨ st = Status.fault) ∧ Dev.replied s.dev d c 0x0005 st 0 data)

/-- The frames of the management SPI (R77, R78): a packet joins the four that may wait or is refused, READ-REPLY takes the oldest reply, STATUS tells
what waits, READ-REG returns a register. Readings of the spec it rests on: log entries 32, 86, 103. -/
def Obligations.SpiFramesActOnTheirQueues : Prop :=
  (∀ (s : State) (bytes : List Byte), packetWhole bytes = true → s.dev.serving = true → s.dev.flag F.CMD_CTRL_SPI_EN = true →
    s.dev.spiIn.length < 4 → answers (.writePacket bytes) s (fun d => d.spiRefused = false ∧
      d.spiIn = s.dev.spiIn ++ [{ bytes := bytes.take (32 + min 4096 (leAt bytes 14 2)), time := s.dev.ns }])) ∧
  (∀ (s : State) (bytes : List Byte), packetWhole bytes = true → s.dev.serving = true → s.dev.flag F.CMD_CTRL_SPI_EN = true →
    4 ≤ s.dev.spiIn.length → answers (.writePacket bytes) s (fun d => d.spiRefused = true ∧ d.spiIn = s.dev.spiIn)) ∧
  (∀ s : State, s.dev.reachable = true → s.dev.spiOut = [] →
    answers .readReply s (fun d => d.out = .spiBytes (leBytes 32 0) :: s.dev.out)) ∧
  (∀ (s : State) (r : Reply) (rest : List Reply), s.dev.reachable = true → s.dev.spiOut = r :: rest →
    answers .readReply s (fun d => d.spiOut = rest ∧ d.out = .spiBytes r.bytes :: s.dev.out)) ∧
  (∀ s : State, s.dev.reachable = true →
    answers .spiStatus s (fun d => d.out =
      .spiBytes (leBytes 1 (b2n (!s.dev.spiOut.isEmpty) + 2 * b2n (!s.dev.serving) + 4 * b2n s.dev.spiRefused)) :: s.dev.out)) ∧
  (∀ (s : State) (a : Nat) (r : RegPlace), s.dev.awake → regPlace a = some r →
    s.dev.shadows.find? (fun (x : Shadow) => x.path = 1 ∧ x.addr = a) = none →
    answers (.readReg a) s (fun d => d.out = .spiBytes (leBytes 4 (s.dev.regValue a r.row)) :: s.dev.out))

/-- Doorbells and the opening and closing of queues (R70 to R75). Readings of the spec it rests on: log entries 35, 83. -/
def Obligations.DoorbellsMoveTheRings : Prop :=
  (∀ (s : State) (n : Fin 64) (v : Nat), s.dev.awake → s.dev.flag F.CMD_Q_CTRL_OPEN n = true → v < s.dev.sqSize n →
    s.dev.flag F.CMD_Q_CTRL_CLOSING n = false → answers (.sqDb n v) s (fun d => (d.queue n).tail = v)) ∧
  (∀ (s : State) (n : Fin 64) (v : Nat), s.dev.flag F.CMD_Q_CTRL_OPEN n = true → s.dev.phase = .warmReset →
    answers (.sqDb n v) s (fun d => (d.queue n).latchSq = some v)) ∧
  (∀ (s : State) (n : Fin 64) (v : Nat), s.dev.awake → s.dev.flag F.CMD_Q_CTRL_OPEN n = true → v < s.dev.rqSize n →
    v < 4096 → answers (.rqDb n v) s (fun d => d.getF F.CMD_Q_RQ_HEAD n = v)) ∧
  (∀ (s : State) (p : Path) (n : Fin 64) (v : Nat), s.dev.awake → s.dev.flag F.CMD_Q_CTRL_CLOSING n = false →
    s.dev.flag F.CMD_Q_CTRL_OPEN n = false → s.dev.spiBound n = false →
    (s.dev.writeQueueCtrl n (setBit v 0 % 2 ^ 32)).queueValid n = true →
    answers (.queueOpen p n v) s (fun d => d.flag F.CMD_Q_CTRL_ENABLE n = true ∧ d.flag F.CMD_Q_CTRL_OPEN n = true ∧
      d.getF F.CMD_Q_SQ_HEAD n = 0 ∧ d.getF F.CMD_Q_RQ_HEAD n = 0 ∧ d.getF F.CMD_Q_RQ_TAIL n = 0)) ∧
  (∀ (s : State) (p : Path) (n : Fin 64) (v : Nat), s.dev.awake → s.dev.flag F.CMD_Q_CTRL_OPEN n = true →
    answers (.queueClose p n v) s (fun d => d.flag F.CMD_Q_CTRL_ENABLE n = false ∧ d.flag F.CMD_Q_CTRL_CLOSING n = true ∧
      (d.queue n).tail = s.dev.getF F.CMD_Q_SQ_HEAD n)) ∧
  (∀ (s : State) (n : Fin 64), s.dev.flag F.CMD_Q_CTRL_CLOSING n = true → (∀ e ∈ s.dev.journal, e.client ≠ n) →
    (∀ h ∈ s.dev.held, h.1 ≠ n) →
    answers (.queueCloseEnd n) s (fun d => d.flag F.CMD_Q_CTRL_OPEN n = false ∧ d.flag F.CMD_Q_CTRL_CLOSING n = false))

/-- A packet that passes every check of R65 is journaled (R66); an accepted command whose turn has come runs (R81, R553). Readings of the spec it
rests on: log entries 31, 32, 34, 87. -/
def Obligations.PacketsAreAcceptedAndStart : Prop :=
  (∀ (s : State) (n : Fin 64) (bs : List Byte) (rd host : HostRead) (params : List Byte), s.dev.fetches n = true →
    (s.dev.queue n).retries = 0 → (packetOf bs).checks = true → s.dev.headerCheck (some n.val) (packetOf bs) = none →
    s.dev.judge false (packetOf bs) rd host = .accepted params →
    answers (.slotFetch (some n) (some bs) rd host) s (fun d => ∃ e : JEntry, d.journal = s.dev.journal ++ [e] ∧ e.client = n ∧
      e.tag = (packetOf bs).tag ∧ e.opcode = (packetOf bs).op ∧ e.params = params ∧ e.order = s.dev.nextOrder ∧ e.started = false)) ∧
  (∀ (s : State) (x : SpiPacket) (rest : List SpiPacket) (bytes : Option (List Byte)) (rd host : HostRead) (params : List Byte),
    s.dev.spiIn = x :: rest → s.dev.serving = true → s.dev.replaying = false → (packetOf x.bytes).checks = true →
    s.dev.headerCheck none (packetOf x.bytes) = none →
    s.dev.spiBound (packetOf x.bytes).client = true →
    s.dev.inflight (packetOf x.bytes).client < s.dev.getF F.CMD_CTRL_INFLIGHT_LIMIT →
    s.dev.judge true (packetOf x.bytes) {} host = .accepted params →
    answers (.slotFetch none bytes rd host) s (fun d => d.spiIn = rest ∧ ∃ e : JEntry, d.journal = s.dev.journal ++ [e] ∧
      e.client = (packetOf x.bytes).client ∧ e.tag = (packetOf x.bytes).tag ∧ e.opcode = (packetOf x.bytes).op ∧ e.params = params)) ∧
  (∀ (s : State) (n : Fin 64) (bs : List Byte) (rd host : HostRead) (params : List Byte), s.dev.fetches n = true →
    (s.dev.queue n).retries ≠ 0 → (packetOf bs).checks = true → s.dev.headerCheck (some n.val) (packetOf bs) = none →
    s.dev.judge false (packetOf bs) rd host = .accepted params →
    answers (.slotReadRetry n (some bs) rd host) s (fun d => ∃ e : JEntry, d.journal = s.dev.journal ++ [e] ∧ e.client = n ∧
      e.tag = (packetOf bs).tag ∧ e.opcode = (packetOf bs).op ∧ e.params = params)) ∧
  (∀ (s : State) (order : Nat) (x : CmdExtra) (e : JEntry) (j : CmdJob), s.dev.serving = true → s.dev.replaying = false →
    s.dev.journal.find? (fun e => e.order = order) = some e → e.started = false → s.dev.mayStart e = true →
    e.job x = some j → rawCheck j e.params (s.dev.markStarted e.order) = none →
    j.ready (s.dev.markStarted e.order) = true →
    exec (.commandStart order x) s = .next { s with dev := (j.run (s.dev.markStarted e.order)).settle })

/-- Registers are read whole, and written by the access codes of their fields (R8, R515, R516, R517). Readings of the spec it rests on: log entries
30, 31, 88, 103. -/
def Obligations.RegistersAreReadAndWritten : Prop :=
  (∀ (s : State) (a : Nat) (r : RegPlace), s.dev.awake → regPlace a = some r →
    s.dev.shadows.find? (fun (x : Shadow) => x.path = 0 ∧ x.addr = a) = none →
    answers (.directRead .bar0 a 4) s (fun d => d.out = .readData (s.dev.regValue a r.row % 2 ^ 32) :: s.dev.out)) ∧
  (∀ (s : State) (o : Nat), s.dev.reachable = true → o + 4 ≤ 0x40000 →
    answers (.directRead .bar0 (bar2Base + o) 4) s (fun d => d.out = .readData 0 :: s.dev.out)) ∧
  (∀ (s : State) (p : Path) (a v : Nat) (r : RegPlace), s.dev.awake → regPlace a = some r → blockOf a ∈ plainBlocks →
    answers (.registerWrite p a v 15) s (fun d => wroteFields s.dev d a (v % 2 ^ 32) r)) ∧
  (∀ (s : State) (a v : Nat) (r : RegPlace), s.dev.awake → regPlace a = some r → blockOf a ∈ plainBlocks →
    answers (.writeReg a v) s (fun d => wroteFields s.dev d a (v % 2 ^ 32) r)) ∧
  (∀ (s : State) (c : Ctx) (a count : Nat), s.dev.canRun c (jobRegRead c a count) →
    answers (.regRead c a count) s (fun d => Dev.replied s.dev d c 0x0A01 .ok 0 ((Dev.readMany 2 count a s.dev).2.flatMap (leBytes 4)))) ∧
  (∀ (s : State) (c : Ctx) (a v : Nat) (r : RegPlace), s.dev.canRun c (jobRegWrite c a v) → regPlace a = some r →
    blockOf a ∈ plainBlocks → answers (.regWrite c a v) s (fun d => Dev.replied s.dev d c 0x0A02 .ok 0 [] ∧ wroteFields s.dev d a v r)) ∧
  (∀ (s : State) (c : Ctx) (a mask v : Nat) (r : RegPlace), s.dev.canRun c (jobRegModify c a mask v) → regPlace a = some r →
    blockOf a ∈ plainBlocks → answers (.regModify c a mask v) s (fun d =>
      Dev.replied s.dev d c 0x0A03 .ok 0 (leBytes 4 (s.dev.regValue a r.row) ++ leBytes 4 (modified (s.dev.regValue a r.row) mask v)) ∧
      wroteFields s.dev d a (modifyWord r.row (s.dev.regValue a r.row) mask v) r))

/-- Modes and the transitions between them (R14 to R17, R59). Readings of the spec it rests on: log entries 38, 39. -/
def Obligations.ModesChange : Prop :=
  (∀ (s : State) (c : Ctx), s.dev.canRun c (jobSetMode c s.dev.mode) → s.dev.modeHeld = false → s.dev.modeWait = [] →
    answers (.setMode c s.dev.mode) s (fun d => Dev.replied s.dev d c 0x0002 .ok 0 s.dev.modeResult ∧ d.mode = s.dev.mode)) ∧
  (∀ (s : State) (c : Ctx) (t : Nat) (st : Status), s.dev.canRun c (jobSetMode c t) → s.dev.modeHeld = false → s.dev.modeWait = [] →
    t ≠ s.dev.mode → s.dev.modeCheck t = some st →
    answers (.setMode c t) s (fun d => Dev.replied s.dev d c 0x0002 st 0 [] ∧ d.mode = s.dev.mode)) ∧
  (∀ (s : State) (c : Ctx) (t : Nat), s.dev.canRun c (jobSetMode c t) → s.dev.modeHeld = false → s.dev.modeWait = [] →
    t ≠ s.dev.mode → s.dev.modeCheck t = none → 2 ≤ t → t ≤ 4 →
    answers (.setMode c t) s (fun d => d.modeJob = some { cmd := some c, from_ := s.dev.mode, target := t } ∧
      d.getF F.KEEPER_MODE_TARGET = t ∧ d.flag F.KEEPER_MODE_BUSY = true ∧ d.mode = s.dev.mode)) ∧
  (∀ (s : State) (c : Ctx) (t : Nat), s.dev.canRun c (jobSetMode c t) → s.dev.modeHeld = false → s.dev.modeWait = [] →
    t ≠ s.dev.mode → s.dev.modeCheck t = none → t = 0 ∨ s.dev.mode ≤ 2 ∧ (t = 1 ∨ t = 5) →
    answers (.setMode c t) s (fun d => d.modeJob = none ∧ d.mode = t)) ∧
  (∀ (s : State) (c : Ctx) (t : Nat), s.dev.canRun c (jobSetMode c t) → (s.dev.modeHeld = true ∨ s.dev.modeWait ≠ []) →
    answers (.setMode c t) s (fun d => d.modeWait = s.dev.modeWait ++ [(c, t)])) ∧
  (∀ (s : State) (j : ModeJob), s.dev.modeJob = some j → 2 ≤ j.target → j.target < 5 → j.groups < 15 →
    answers .engineGroupPower s (fun d => d.modeJob = some { j with groups := j.groups + 1 } ∧
      ∀ k < 8, s.dev.flag F.PWR_DOM_FENCED (8 * j.groups + k) = false → d.domState (8 * j.groups + k) = 0)) ∧
  (∀ (s : State) (j : ModeJob), s.dev.modeJob = some j → 2 ≤ j.target → j.target < 5 → 15 ≤ j.groups → s.dev.modeWait = [] →
    answers .engineGroupPower s (fun d => d.modeJob = none ∧ d.mode = j.target)) ∧
  (∀ (s : State) (j : ModeJob), s.dev.modeJob = some j → j.target = 1 → (∀ x ∈ s.dev.chans, s.dev.chanState x.1 < 2) → s.dev.modeWait = [] →
    answers .modeTransitionEnd s (fun d => d.modeJob = none ∧ d.mode = 1))

/-- Starts and resets (R21 to R31, R33, R473, R542, R543). Readings of the spec it rests on: log entries 3, 36, 37, 38, 80, 82, 85, 89. -/
def Obligations.ResetsAndStartsComplete : Prop :=
  (∀ (s : State) (x : StartInfo), s.dev.phase = .coldReset →
    (x.image = false → answers (.startUp x) s (stoppedAt 3 1)) ∧
    (x.image = true → (s.dev.startBegin x).validImage 0 = none → answers (.startUp x) s (stoppedAt 4 2)) ∧
    (x.image = true → (s.dev.startBegin x).validImage 0 ≠ none →
      answers (.startUp x) s (sensedFrom ((s.dev.startBegin x).startSensed x) x))) ∧
  (∀ (s : State) (x : StartInfo), s.dev.phase = .startHold → s.dev.anyAbove 100 = false → answers (.thermalHoldEnd x) s (startedFrom s.dev x)) ∧
  (∀ (s : State) (w : Nat) (x : StartInfo), s.dev.phase = .shutdown → s.dev.getF F.THERM_COMP_STATE = 0 → s.dev.pwrok = true →
    (x.image = false → answers (.thermalRestart w x) s (stoppedAt 3 1)) ∧
    (let b := (s.dev.setF F.THERM_LAST_TRIP_WAIT_S w).thermalBegin
     x.image = true → b.validImage 0 ≠ none → answers (.thermalRestart w x) s (sensedFrom (b.startSensed x) x))) ∧
  (∀ s : State, s.dev.phase = .startHold → answers .thermalHoldTimeout s (stoppedAt 7 4)) ∧
  (∀ s : State, s.dev.therm.tripped = true → answers .coldReset s (fun d => d = s.dev)) ∧
  (∀ s : State, s.dev.therm.tripped = false → answers .coldReset s (fun d => d.phase = .coldReset ∧ d.flash = s.dev.flash ∧ d.evlog = [] ∧ d.fences = [] ∧ d.journal = [])) ∧
  (∀ s : State, answers .coldPowerLoss s (fun d => d.phase = .coldReset ∧ d.flash = s.dev.flash ∧ d.evlog = [] ∧ d.fences = [] ∧ d.journal = [])) ∧
  (∀ s : State, s.dev.therm.tripped = false → answers .pwrokFall s (fun d => d.phase = .coldReset ∧ d.pwrok = false ∧ d.flash = s.dev.flash ∧ d.journal = [])) ∧
  (∀ s : State, s.dev.therm.tripped = true → answers .pwrokFall s (fun d => d.phase = s.dev.phase ∧ d.pwrok = false ∧ d.journal = s.dev.journal)) ∧
  (∀ (s : State) (c : Ctx), s.dev.canRun c (jobWarmReset c) → answers (.warmReset c) s (fun d => d.warmAsk = some c ∧ d.phase = s.dev.phase)) ∧
  (∀ s : State, s.dev.phase = .run → s.dev.warmAsk ≠ none →
    answers .warmResetEntry s (fun d => d.phase = .warmReset ∧ d.warmByCmd = true ∧ d.released = false ∧ d.resumeMode = s.dev.mode)) ∧
  (∀ s : State, s.dev.phase = .run →
    answers .wrstN s (fun d => d.phase = .warmReset ∧ d.warmByCmd = false ∧ d.released = false ∧ d.resumeMode = s.dev.mode)) ∧
  (∀ s : State, s.dev.phase = .warmReset → answers .wrstN s (fun d => d.phase = .warmReset ∧ d.warmByCmd = false ∧ d.released = false ∧
    d.flag F.KEEPER_RESET_CAUSE_WARM_PIN = true)) ∧
  (∀ s : State, s.dev.phase = .warmReset → s.dev.warmByCmd = true → answers .internalRelease s (fun d => d.released = true ∧ d.phase = .warmReset)) ∧
  (∀ (s : State) (x : ResumeInfo), s.dev.phase = .warmReset → (s.dev.warmByCmd = false ∨ s.dev.released = true) → x.damaged = false →
    answers (.warmResume x) s (fun d => d.phase = .run ∧ d.replaying = false))

/-- Temperature: samples, holds, shedding and shutdown (R465, R467, R470, R472, R474). Readings of the spec it rests on: log entry 65. -/
def Obligations.ThermalEventsAct : Prop :=
  (∀ (s : State) (raws : List Int) (comp : Nat), s.dev.thermRuns = true ∨ s.dev.phase = .shutdown →
    answers (.thermalSample raws comp) s (fun d => d.getF F.THERM_COMP_STATE = comp % 2 ^ 13)) ∧
  (∀ (s : State) (raws : List Int) (comp : Nat), s.dev.thermRuns = true → s.dev.therm.raw.length = 38 →
    answers (.thermalSample raws comp) s (fun d => ∀ n < 38, (getAt none d.therm.raw n).map (·.1) = some (getAt 0 raws n))) ∧
  (∀ (s : State) (z : Fin 13) (h : ZoneHold), s.dev.therm.holds.find? (fun h => h.zone = z.val) = some h → h.tick + ticks100ms ≤ s.dev.tick →
    answers (.sensorHoldEnd z) s (fun d => d.therm.holds = s.dev.therm.holds.filter (fun x => x.zone ≠ z.val))) ∧
  (∀ s : State, s.dev.getF F.THERM_SHED_S_TARGET < s.dev.getF F.THERM_SHED_S_T → s.dev.getF F.THERM_SHED_S_T < 16 →
    ticks1ms * s.dev.getF F.THERM_CTRL_STEP_DOWN_MS ≤ s.dev.tick - s.dev.therm.stepTick →
    answers .shedStepDown s (fun d => d.getF F.THERM_SHED_S_T + 1 = s.dev.getF F.THERM_SHED_S_T ∧ d.therm.stepTick = s.dev.tick)) ∧
  (∀ (s : State) (z : Fin 13) (comp : Fin 2), s.dev.compsAct = true → bit (s.dev.getF F.THERM_COMP_FAIL) (2 * z + comp) = false →
    answers (.thermalShutdown z comp) s (fun d => d.phase = .shutdown ∧ d.therm.tripped = true ∧ d.therm.tripTick = s.dev.tick ∧
      d.flash = s.dev.flash ∧ d.fences = s.dev.fences)) ∧
  (∀ (s : State) (t : Nat), s.dev.therm.hotTick = some t → s.dev.compsAct = true → t + ticks1ms ≤ s.dev.tick →
    answers .firmwareTrip s (fun d => d.phase = .shutdown ∧ d.therm.tripped = true ∧ d.therm.tripTick = s.dev.tick ∧
      d.flash = s.dev.flash ∧ d.fences = s.dev.fences))

/-- The links to the host and the life record (R24, R88, R550). Readings of the spec it rests on: log entries 24, 67. -/
def Obligations.HostLinkAndLifeRecord : Prop :=
  (∀ (s : State) (speed width lanes : Nat), s.dev.phase = .run → 5 ≤ s.dev.getF F.KEEPER_START_STEP_STEP →
    answers (.perstNRelease speed width lanes) s (fun d => d.flag F.PCIE_LINK_DL_UP = true ∧ d.getF F.PCIE_LINK_SPEED = speed % 8 ∧
      d.getF F.PCIE_LINK_WIDTH = width % 32 ∧ ∀ i < 16, d.flag F.PCIE_LANE_LOCK i = bit lanes i)) ∧
  (∀ (s : State) (speed width lanes : Nat), s.dev.pcieReady = false →
    answers (.perstNRelease speed width lanes) s (fun d => d = { s.dev with perst := some (speed, width, lanes) })) ∧
  (∀ s : State, s.dev.pcieReady = true → answers .busMasterEnable s (fun d => d.awaitBme = false ∧ d.flag F.PCIE_LINK_BME = true)) ∧
  (∀ s : State, s.dev.pcieReady = false → answers .busMasterEnable s (fun d => d = s.dev)) ∧
  (∀ (s : State) (mean : Int) (slow : Nat), s.dev.phase = .run → s.dev.flashTempOk = true →
    answers (.lifeRecord mean slow) s (fun d => d.life.hours = s.dev.life.hours + 24 ∧ d.life.mean = mean ∧ d.life.slow = slow))

/-- Snapshots, steps and the era of the timebase (R397, R398, R399, R401). Readings of the spec it rests on: log entries 2, 28. -/
def Obligations.TimebaseIsReadAndStepped : Prop :=
  (∀ (s : State) (p : Path), s.dev.awake → answers (.take p) s (fun d =>
    d.getF F.TB_SNAP_NS = s.dev.ns % 2 ^ 32 ∧ d.getF F.TB_SNAP_TAG = s.dev.snapTag % 2 ^ 32)) ∧
  (∀ (s : State) (p : Path) (offset : Nat), s.dev.awake →
    s.dev.stepAllowed (sext 48 (s.dev.getF F.TB_STEP_LO + 2 ^ 32 * (offset % 65536))) = true →
    answers (.stepHiGo p offset) s (fun d => wroteStep s.dev d (sext 48 (s.dev.getF F.TB_STEP_LO + 2 ^ 32 * (offset % 65536))))) ∧
  (∀ (s : State) (c : Ctx) (offset : Int), s.dev.canRun c (jobTimeStep c offset) →
    answers (.timeStep c offset) s (fun d => Dev.replied s.dev d c 0x0603 .ok 0 [] ∧ wroteStep s.dev d offset)) ∧
  (∀ (s : State) (c : Ctx) (inc : Nat), s.dev.canRun c (jobTimeSetIncrement c inc) →
    answers (.timeSetIncrement c inc) s (fun d => Dev.replied s.dev d c 0x0602 .ok 0 [] ∧ d.getF F.TB_INC = inc % 2 ^ 32)) ∧
  (∀ s : State, answers .eraUpdate s (fun d => d.time.eraWraps = s.dev.getF F.TB_WRAP_WRAPS ∧
    d.era = wrapInt 32 ((s.dev.era : Int) + sext 16 (s.dev.getF F.TB_WRAP_WRAPS + 2 ^ 16 - s.dev.time.eraWraps))))

/-- The pulse generators are loaded, read and fired (R407, R409). Readings of the spec it rests on: log entry 28. -/
def Obligations.PulseGeneratorsFire : Prop :=
  (∀ (s : State) (p : Path) (k : Fin 8), s.dev.awake → s.dev.time.gens.length = 8 →
    answers (.load p k) s (fun d => (d.gen k).start = s.dev.getF F.TB_PG_START ∧ (d.gen k).period = s.dev.getF F.TB_PG_PERIOD ∧
      (d.gen k).mode = s.dev.getF F.TB_PG_CTRL_MODE ∧ (d.gen k).width = s.dev.getF F.TB_PG_CTRL_WIDTH ∧
      (d.gen k).pin = s.dev.flag F.TB_PG_CTRL_PIN ∧ (d.gen k).invert = s.dev.flag F.TB_PG_CTRL_INVERT ∧
      d.genArmed k = decide (s.dev.getF F.TB_PG_CTRL_MODE ≠ 0))) ∧
  (∀ (s : State) (p : Path) (k : Fin 8), s.dev.awake →
    answers (.fetch p k) s (fun d => d.getF F.TB_PG_START = (s.dev.gen k).start % 2 ^ 32 ∧
      d.getF F.TB_PG_PERIOD = (s.dev.gen k).period % 2 ^ 32 ∧ d.getF F.TB_PG_CTRL_MODE = (s.dev.gen k).mode % 4 ∧
      d.flag F.TB_PG_CTRL_PIN = (s.dev.gen k).pin ∧ d.flag F.TB_PG_CTRL_INVERT = (s.dev.gen k).invert)) ∧
  (∀ (s : State) (c : Ctx) (k : Fin 8) (flags width start period frac : Nat),
    s.dev.canRun c (jobPulseProgram c k 1 flags width start period frac) → s.dev.time.gens.length = 8 →
    answers (.pulseProgram c k 1 flags width start period frac) s (fun d => Dev.replied s.dev d c 0x0604 .ok 0 [] ∧
      (d.gen k).mode = 1 ∧ (d.gen k).start = start % 2 ^ 32 ∧ (d.gen k).pin = bit flags 0 ∧ d.genArmed k = true)) ∧
  (∀ (s : State) (k : Fin 8), s.dev.genDue k = true → (s.dev.gen k).mode = 1 → s.dev.time.gens.length = 8 →
    answers (.pulseFire k) s (fun d => bit (d.getF F.TB_PG_STATUS_FIRED) k = true ∧ d.genArmed k = false ∧ (d.gen k).mode = 0 ∧
      (d.gen k).last = some (s.dev.gen k).target ∧ ((s.dev.gen k).pin = true → Out.pulse k (s.dev.gen k).width (s.dev.gen k).invert ∈ d.out)))

/-- References and transmit timestamps (R402, R403, R405). Readings of the spec it rests on: log entry 28. -/
def Obligations.ReferencesAreJudged : Prop :=
  (∀ (s : State) (r : Fin 2), s.dev.time.refs.length = 2 →
    answers (.refEdge r) s (fun d => (getAt {} d.time.refs r).last = some s.dev.ns)) ∧
  (∀ (s : State) (g : Nat), s.dev.getF F.TB_DISC_SRC = 1 ∨ s.dev.getF F.TB_DISC_SRC = 2 → s.dev.getF F.TB_DISC_STATE = 2 →
    (getAt {} s.dev.time.refs (s.dev.getF F.TB_DISC_SRC - 1)).good = some g →
    s.dev.refWindow.2 < (((s.dev.ns + 2 ^ 32 - g) % 2 ^ 32 : Nat) : Int) * 1000000 →
    answers .refStopped s (fun d => d.flag F.TB_STATUS_HOLDOVER = true ∧ d.getF F.TB_DISC_STATE = 3)) ∧
  (∀ (s : State) (p : Path), s.dev.awake → s.dev.getF F.TB_DISC_STATE = 4 → s.dev.getF F.TB_DISC_SRC < 4 →
    s.dev.getF F.TB_DISC_ACCEPT < 2 →
    s.dev.getF F.TB_DISC_WINDOW_PPM < 256 → s.dev.getF F.TB_DISC_REF_DIV < 65536 →
    answers (.accept p) s (fun d => d.getF F.TB_DISC_STATE = 3 ∧ d.getF F.TB_REF_NOM = s.dev.rateMean % 2 ^ 32)) ∧
  (∀ (s : State) (p : Path) (k : Fin 2), s.dev.awake → s.dev.flag F.TB_CTRL_TSQ_OWNER = true → s.dev.time.tsq.length = 2 →
    answers (.pop p k) s (fun d => getAt [] d.time.tsq k = (getAt [] s.dev.time.tsq k).drop 1 ∧
      d.flag F.TB_TSQ_HEAD_VALID k = !((getAt [] s.dev.time.tsq k).drop 1).isEmpty))

/-- The check-value units (R443 to R448): started with the initial value and the guard, fed, finished, and their values replaced. Readings of the spec
it rests on: log entry 68. -/
def Obligations.CheckUnitsCompute : Prop :=
  (∀ (s : State) (p : Path) (u : Fin 8) (poly guardLen : Fin 4), s.dev.awake → u ≠ 7 → guardLen ≠ 3 →
    s.dev.getF F.CRC_CTRL_EXP_SEL u < 2 → s.dev.getF F.CRC_CTRL_INT_EN u < 2 →
    answers (.start p u poly guardLen) s (fun d => d.flag F.CRC_CTRL_FINISHED u = false ∧
      d.getF F.CRC_CTRL_ACTIVE_POLY u = poly ∧
      let v := crcFeed poly (crcInit poly) ((leBytes 4 (s.dev.getF F.CRC_GUARD u)).take (guardBytes guardLen))
      d.getF F.CRC_VALUE_LO u = v % 2 ^ 32 ∧ d.getF F.CRC_VALUE_HI u = v / 2 ^ 32 % 2 ^ 32)) ∧
  (∀ (s : State) (p : Path) (u : Fin 8), s.dev.awake → u ≠ 7 → s.dev.getF F.CRC_CTRL_POLY u < 4 → s.dev.getF F.CRC_CTRL_GUARD_LEN u < 3 →
    s.dev.getF F.CRC_CTRL_EXP_SEL u < 2 → s.dev.getF F.CRC_CTRL_INT_EN u < 2 →
    answers (.finish p u) s (fun d => d.flag F.CRC_CTRL_FINISHED u = true ∧
      let v := s.dev.crcValue u ^^^ crcFinal (s.dev.getF F.CRC_CTRL_ACTIVE_POLY u)
      d.getF F.CRC_VALUE_LO u = v % 2 ^ 32 ∧ d.getF F.CRC_VALUE_HI u = v / 2 ^ 32 % 2 ^ 32 ∧
      let w := 2 ^ crcWidth (s.dev.getF F.CRC_CTRL_ACTIVE_POLY u)
      (v % w = s.dev.crcExpected u % w → d.flag F.CRC_CTRL_MATCH u = true) ∧
      (v % w ≠ s.dev.crcExpected u % w → d.flag F.CRC_CTRL_MISMATCH u = true))) ∧
  (∀ (s : State) (p : Path) (u : Fin 8) (size : FeedSize) (x : Nat), s.dev.awake → u ≠ 7 → s.dev.flag F.CRC_CTRL_FINISHED u = false →
    answers (.data32 p u size x) s (fun d =>
      let v := crcFeed (s.dev.getF F.CRC_CTRL_ACTIVE_POLY u) (s.dev.crcValue u) (leBytes (match size with | .b8 => 1 | .b16 => 2 | .b32 => 4) (x % 2 ^ 32))
      d.getF F.CRC_VALUE_LO u = v % 2 ^ 32 ∧ d.getF F.CRC_VALUE_HI u = v / 2 ^ 32 % 2 ^ 32)) ∧
  (∀ (s : State) (p : Path) (u : Fin 8) (size : FeedSize) (x : Nat), s.dev.awake → u ≠ 7 → s.dev.flag F.CRC_CTRL_FINISHED u = true →
    answers (.data32 p u size x) s (fun d => d.flag F.CRC_CTRL_ORDER_ERR u = true ∧ d.crcValue u = s.dev.crcValue u)) ∧
  (∀ (s : State) (p : Path) (u : Fin 8) (hi : Bool) (x : Nat), s.dev.awake → u ≠ 7 →
    answers (.valueLo p u hi x) s (fun d => d.flag F.CRC_CTRL_FINISHED u = false ∧
      let old := s.dev.crcValue u
      let v := (if hi then old % 2 ^ 32 + 2 ^ 32 * (x % 2 ^ 32) else x % 2 ^ 32 + 2 ^ 32 * (old / 2 ^ 32)) %
        2 ^ crcWidth (s.dev.getF F.CRC_CTRL_ACTIVE_POLY u)
      d.getF F.CRC_VALUE_LO u = v % 2 ^ 32 ∧ d.getF F.CRC_VALUE_HI u = v / 2 ^ 32 % 2 ^ 32))

/-- Images are staged, committed and reverted (R53, R55, R56, R475). Readings of the spec it rests on: log entries 40, 78, 79, 81, 84. -/
def Obligations.AlmanacImagesAreStagedAndCommitted : Prop :=
  (∀ (s : State) (c : Ctx) (offset length : Nat), s.dev.canRun c (jobAlmanacStage c true offset length) → c.rd.fault = none →
    answers (.almanacStage c true offset length) s (fun d => Dev.replied s.dev d c 0x0102 .ok 0 (leBytes 4 (offset + length)) ∧
      d.getF F.ALMANAC_STAGE_LEN = offset + length ∧
      ∀ a, d.stageByte a = if offset ≤ a ∧ a < offset + length then getAt 0xFF c.rd.bytes (a - offset) else 0xFF)) ∧
  (∀ (s : State) (c : Ctx) (length crc : Nat), s.dev.canRun c (jobAlmanacCommit c length crc) →
    answers (.almanacCommit c length crc) s (fun d => d.flag F.ALMANAC_STATUS_IN_PROGRESS = true ∧ d.flash = s.dev.flash ∧
      ∃ j, d.flashJob = some j ∧ j.client = c.client ∧ j.tag = c.tag ∧ j.commit = true ∧ j.generation = s.dev.topGeneration + 1 ∧
        j.target = (if chosenCopy (s.dev.validImage 1) (s.dev.validImage 2) = 1 then 2 else 1))) ∧
  (∀ (s : State) (c : Ctx), s.dev.canRun c (jobAlmanacRevert c 1) →
    answers (.almanacRevert c 1) s (fun d => d.flag F.ALMANAC_STATUS_IN_PROGRESS = true ∧ d.flash = s.dev.flash ∧
      ∃ j, d.flashJob = some j ∧ j.client = c.client ∧ j.tag = c.tag ∧ j.commit = false ∧ j.ops = [.retire 1, .retire 2])) ∧
  (∀ (s : State) (c : Ctx), s.dev.canRun c (jobAlmanacRevert c 0) →
    answers (.almanacRevert c 0) s (fun d => d.flag F.ALMANAC_STATUS_IN_PROGRESS = true ∧ d.flash = s.dev.flash ∧
      ∃ j, d.flashJob = some j ∧ j.client = c.client ∧ j.tag = c.tag ∧ j.commit = false ∧
        j.ops = [.retire (chosenCopy (s.dev.validImage 1) (s.dev.validImage 2))])) ∧
  (∀ (s : State) (j : FlashJob) (cp n m : Nat) (rest : List FlashOp), s.dev.flashJob = some j → j.ops = .erase cp n :: .erase cp m :: rest →
    s.dev.flashTempOk = true → s.dev.modeWait = [] →
    answers .flashOperationDone s (fun d => d.flashJob = some { j with ops := .erase cp m :: rest } ∧
      d.flash = s.dev.flash.filter (fun e => ¬ (slotBase cp + 65536 * n ≤ e.1 ∧ e.1 < slotBase cp + 65536 * n + 65536)))) ∧
  (∀ (s : State) (j : FlashJob) (cp : Nat), s.dev.flashJob = some j → j.ops = [.retire cp] → j.commit = false → j.client < 64 →
    s.dev.modeWait = [] →
    answers .flashOperationDone s (fun d => d.flashJob = none ∧ d.flash = (s.dev.flashProgram (slotBase cp + imageMax) (leBytes 4 0)).flash ∧
      d.flag F.ALMANAC_STATUS_IN_PROGRESS = false))

/-- Perturbation kinds are armed, begin, expire and are cleared (R493, R494, R495). Readings of the spec it rests on: log entries 23, 41. -/
def Obligations.PerturbationsAreArmedAndCleared : Prop :=
  (∀ (s : State) (c : Ctx) (p : List Byte), s.dev.canRun c (rawJob (jobPerturbSet c p) p) → psEnable p = true →
    answers (.perturbSet c p) s (fun d => Dev.replied s.dev d c 0x0901 .ok 0 [] ∧ d.flag F.PERTURB_K_CFG_EN (psKind p) = true ∧
      d.getF F.PERTURB_K_TARGET (psKind p) = psTarget p ∧ d.getF F.PERTURB_K_SEED (psKind p) = psSeed p % 2 ^ 31 ∧
      (psStart p = 0 → d.flag F.PERTURB_K_CFG_ACTIVE (psKind p) = true))) ∧
  (∀ (s : State) (c : Ctx) (p : List Byte), s.dev.canRun c (rawJob (jobPerturbSet c p) p) → psEnable p = false →
    answers (.perturbSet c p) s (fun d => Dev.replied s.dev d c 0x0901 .ok 0 [] ∧ d.flag F.PERTURB_K_CFG_EN (psKind p) = false)) ∧
  (∀ (s : State) (c : Ctx) (kinds : Nat), s.dev.canRun c (jobPerturbClear c kinds) →
    answers (.perturbClear c kinds) s (fun d => Dev.replied s.dev d c 0x0902 .ok 0 [] ∧
      ∀ k < 7, d.flag F.PERTURB_K_CFG_EN k = (s.dev.flag F.PERTURB_K_CFG_EN k && !bit kinds k))) ∧
  (∀ (s : State) (p : Path) (mask : Nat), s.dev.awake → s.dev.mode = 5 →
    answers (.kill p mask) s (fun d => ∀ k < 7, d.flag F.PERTURB_K_CFG_EN k = (s.dev.flag F.PERTURB_K_CFG_EN k && !bit mask k))) ∧
  (∀ (s : State) (p : Path) (k : Fin 7), s.dev.awake → s.dev.mode = 5 →
    pertRangesOk k (s.dev.pertTarget k) (s.dev.pertP0 k) (s.dev.pertP1 k) = true →
    answers (.cfgEn p k true) s (fun d => d.flag F.PERTURB_K_CFG_EN k = true)) ∧
  (∀ (s : State) (p : Path) (k : Fin 7), s.dev.awake → s.dev.mode = 5 →
    answers (.cfgEn p k false) s (fun d => d.flag F.PERTURB_K_CFG_EN k = false)) ∧
  (∀ (s : State) (k : Fin 7), s.dev.flag F.PERTURB_K_CFG_EN k = true → s.dev.injecting k = false → s.dev.perts.length = 7 →
    0 ≤ diff32 s.dev.ns (s.dev.getF F.PERTURB_K_START k) →
    answers (.injectionStart k) s (fun d => d.flag F.PERTURB_K_CFG_ACTIVE k = true ∧ d.pert k = { since := s.dev.tick, draws := 0 })) ∧
  (∀ (s : State) (k : Fin 7), s.dev.injecting k = true → s.dev.getF F.PERTURB_K_DURATION k ≠ 0 →
    (s.dev.pert k).since + 250 * s.dev.getF F.PERTURB_K_DURATION k ≤ s.dev.tick →
    answers (.perturbExpiry k) s (fun d => d.flag F.PERTURB_K_CFG_EN k = false))

/-- Record queues are bound, written, committed, resumed and unbound (R360, R361, R363). Readings of the spec it rests on: log entries 18, 57, 100. -/
def Obligations.RecordQueuesCarrySegments : Prop :=
  (∀ (s : State) (c : Ctx) (p : List Byte), s.dev.canRun c (rawJob (jobRecordBind c p) p) → rbAppend p = false →
    answers (.recordBind c p) s (fun d => Dev.replied s.dev d c 0x0501 .ok 0 [] ∧ d.recqBound (rbQueue p) = true ∧
      d.getF F.XLAT_RECQ_HEAD (rbQueue p) = 0 ∧ d.getF F.XLAT_RECQ_TAIL (rbQueue p) = 0 ∧ (d.recq (rbQueue p)).params = p ∧
      ∀ x ∈ rbStreams p, (d.segStream x.1 x.2).map (·.queue) = some (rbQueue p))) ∧
  (∀ (s : State) (c : Ctx) (q : Nat), s.dev.canRun c (jobRecordUnbind c q) → (∀ x ∈ s.dev.segs, x.queue ≠ q) → (s.dev.recq q).segs = [] →
    s.dev.flag F.XLAT_RECQ_STATE_FAULTED q = false →
    answers (.recordUnbind c q) s (fun d => Dev.replied s.dev d c 0x0502 .ok 0 (leBytes 8 (s.dev.recq q).tail) ∧ d.recqBound q = false)) ∧
  (∀ (s : State) (c : Ctx) (q : Nat), s.dev.canRun c (jobRecordUnbind c q) → (∀ x ∈ s.dev.segs, x.queue ≠ q) → (s.dev.recq q).segs ≠ [] →
    s.dev.flag F.XLAT_RECQ_STATE_FAULTED q = false →
    answers (.recordUnbind c q) s (fun d => (d.recq q).drain = some c ∧ d.flag F.XLAT_RECQ_STATE_DRAINING q = true)) ∧
  (∀ (s : State) (p : Path) (q : Fin 16), s.dev.awake → s.dev.flag F.XLAT_RECQ_STATE_FAULTED q = true →
    answers (.resume p q) s (fun d => d.flag F.XLAT_RECQ_STATE_FAULTED q = false)) ∧
  (∀ (s : State) (p : Path) (q : Fin 16) (v : Nat), s.dev.awake → answers (.head p q v) s (fun d => d.getF F.XLAT_RECQ_HEAD q = v % 2 ^ 32)) ∧
  (∀ (s : State) (q : Fin 16), s.dev.phase = .run → s.dev.recqReady q = true → s.dev.recqNext q = true → s.dev.recqBusy = [] →
    s.dev.stalled 2 q = false → answers (.segmentWrite q none) s (fun d => (d.recq q).written = true ∧ d.dmaLast = q)) ∧
  (∀ (s : State) (q : Fin 16) (x : Segment) (rest : List Segment), s.dev.phase = .run → (s.dev.recq q).segs = x :: rest →
    (s.dev.recq q).written = true → s.dev.recqBusy = [q.val] → (s.dev.recq q).drain = none →
    answers (.segmentCommit q) s (fun d => (d.recq q).segs = rest ∧ (d.recq q).written = false ∧
      d.getF F.XLAT_RECQ_TAIL q = ((s.dev.recq q).tail + x.padded) % 2 ^ 32 ∧ ∃ b, Out.hostWrite (rbProgress (s.dev.recq q).params) b ∈ d.out))

/-- Domains, PLLs and references (R453, R455, R457, R459, R461, R462), and units that return to service (R32). Readings of the spec it rests on: log
entries 50, 63, 64, 90. -/
def Obligations.PowerAndClocksFollowTheirEvents : Prop :=
  (∀ (s : State) (c : Ctx) (kind index : Nat), s.dev.canRun c (jobFenceClear c kind index none) →
    answers (.fenceClear c kind index none) s (fun d => Dev.replied s.dev d c 0x0504 .ok 0 [] ∧ d.fenced kind index = false)) ∧
  (∀ s : State, s.dev.phase = .run → answers .powerDecision s (fun d => ∀ n < 183, s.dev.flag F.PWR_DOM_FENCED n = true → d.domState n = 3)) ∧
  (∀ (s : State) (n : Fin 183) (t : Nat), assoc s.dev.power.alarms n = some t → t ≤ s.dev.tick → s.dev.phase = .run →
    s.dev.flag F.PWR_DOM_FENCED n = false →
    answers (.alarm n) s (fun d => assoc d.power.alarms n = none ∧ d.flag F.PWR_DOM_CHANGING n = true ∧ d.flag F.PWR_DOM_ALARM n = false)) ∧
  (∀ (s : State) (n : Fin 183) (t : Nat), assoc s.dev.power.wakes n = some t → t ≤ s.dev.tick → s.dev.flag F.PWR_DOM_CHANGING n = true →
    answers (.wakeComplete n) s (fun d => d.flag F.PWR_DOM_CHANGING n = false ∧
      d.domState n = if s.dev.flag F.PWR_DOM_FENCED n = true then 3 else 0)) ∧
  (∀ (s : State) (n : Fin 183) (t : Nat) (kind i : Nat), assoc s.dev.power.wakes n = some t → s.dev.flag F.PWR_DOM_CHANGING n = true →
    2 * wakeNs (s.dev.domState n) ≤ 4 * (s.dev.tick - t) → domUnit n = some (kind, i) →
    answers (.wakeFail n) s (fun d => d.fenced kind i = true)) ∧
  (∀ (s : State) (i : Fin 17), s.dev.phase = .run → bit (s.dev.getF F.CLK_PLL_LOCK) i = true → i.val < 2 →
    answers (.pllUnlock i) s (fun d => d.flag F.CLK_PLLS_LOOP_B i = !s.dev.flag F.CLK_PLLS_LOOP_B i)) ∧
  (∀ (s : State) (i : Fin 17), s.dev.phase = .run → bit (s.dev.getF F.CLK_PLL_LOCK) i = true → 2 ≤ i.val → i.val < 16 →
    answers (.pllUnlock i) s (fun d => d.clock.restarts = s.dev.clock.restarts ++ [i.val] ∧ d.fenced 11 i = true)) ∧
  (∀ (s : State) (i : Fin 17) (us : Fin 501), s.dev.clock.restarts.contains i.val = true →
    answers (.pllRestartDone i (some us)) s (fun d => d.flag F.CLK_PLLS_LOCK i = true ∧ d.getF F.CLK_PLLS_LOCK_US i = us ∧
      d.clock.restarts = s.dev.clock.restarts.filter (fun x => x ≠ i.val))) ∧
  (∀ (s : State) (i : Fin 17), s.dev.clock.restarts.contains i.val = true →
    answers (.pllRestartDone i none) s (fun d => d.flag F.CLK_PLLS_FAILED i = true)) ∧
  (∀ (s : State) (m : Int), s.dev.phase = .run → (m < -10000 ∨ 10000 < m) →
    answers (.resonatorFailure m) s (fun d => d.phase = .clockStop)) ∧
  (∀ (s : State) (r : Fin 3) (m : Int), s.dev.phase = .run → s.dev.refEnabled r = true → s.dev.getF F.CLK_QSTATE_STATE r ≠ 0 →
    answers (.qualificationGate r m) s (fun d => d.getF F.CLK_MEAS r = wrapInt 32 m)) ∧
  (∀ (s : State) (r : Fin 3), s.dev.getF F.CLK_QSTATE_STATE r = 1 ∨ s.dev.getF F.CLK_QSTATE_STATE r = 3 →
    getAt 0 s.dev.clock.since r + ticks60s ≤ s.dev.tick → s.dev.flag F.CLK_QSTATE_QUAL_SLOW r = false →
    answers (.qualSlow r) s (fun d => d.flag F.CLK_QSTATE_QUAL_SLOW r = true))

/-- Markers, faults and retraining of the sensor lanes (R95, R96, R98, R114, R117), and the merging of parity groups (R103). Readings of the spec it
rests on: log entries 42, 91, 92. -/
def Obligations.SensorLanesFollowTheirMarkers : Prop :=
  (∀ (s : State) (n : Fin 128) (w : BitVec 64) (gap skew eyeH eyeW : Nat), s.dev.laneListens n = true → markerGood w.toNat = true →
    s.dev.inSlot n gap = true →
    answers (.marker (.sensor n) w gap skew eyeH eyeW) s (fun d => d.getF F.SL_MARKER_MCOUNT n = bits w.toNat 32 16 ∧
      d.getF F.SL_MARKER_SMSG n = bits w.toNat 20 4 ∧ d.getF F.SL_MARKER_SARG n = bits w.toNat 24 8 ∧ d.getF F.SL_MARKER_RATE n = bits w.toNat 18 2)) ∧
  (∀ (s : State) (n : Fin 128), s.dev.laneListens n = true → s.dev.flag F.SL_STATUS_MARKER_LOCK n = true →
    bit (s.dev.bundle (n / 8)).slots (n % 8) = false → s.dev.ctr C.SL_MARKER_ERR n < C.SL_MARKER_ERR.max →
    answers (.markerSlotMissed (.sensor n)) s (fun d => d.ctr C.SL_MARKER_ERR n = s.dev.ctr C.SL_MARKER_ERR n + 1)) ∧
  (∀ (s : State) (n : Fin 128), s.dev.canBeLost n = true → s.dev.flag F.SL_STATUS_FENCED n = false →
    answers (.lossOfSignal (.sensor n)) s (fun d => d.flag F.SL_STATUS_LOST n = true ∧ d.flag F.SL_STATUS_MARKER_LOCK n = false ∧
      d.flag F.SL_STATUS_ALIGNED n = false)) ∧
  (∀ (s : State) (n : Fin 128) (held : Fin 37), s.dev.laneReceives n = true → (s.dev.lane n).violations < 16 →
    answers (.stuffingViolation (.sensor n) held) s (fun d => (d.lane n).violations = (s.dev.lane n).violations + 1 ∧
      (d.lane n).suspect = max (s.dev.lane n).suspect (min held 36))) ∧
  (∀ (s : State) (n : Fin 128), 16 ≤ (s.dev.lane n).violations → s.dev.laneReceives n = true → s.dev.canBeLost n = true →
    answers (.stuffingViolation (.sensor n) 0) s (fun d => d.flag F.SL_STATUS_LOST n = true ∧ d.flag F.SL_STATUS_MARKER_LOCK n = false)) ∧
  (∀ (s : State) (n : Fin 128), s.dev.bundleState (n / 8) = 5 → s.dev.flag F.SL_STATUS_LOST n = true → s.dev.flag F.SL_STATUS_FENCED n = false →
    s.dev.flag F.SL_STATUS_MISWIRED n = false → (s.dev.lane n).attempt = false →
    (((s.dev.bundle (n / 8)).gap = true ∧ (s.dev.bundle (n / 8)).gapTick = s.dev.tick) ∨ s.dev.passed (s.dev.lane n).lostTick 25000000) →
    answers (.retrainAttempt (.sensor n)) s (fun d => (d.lane n).attempt = true ∧ (d.lane n).stage = 1 ∧ (d.lane n).good = 0)) ∧
  (∀ (s : State) (n : Fin 128), (s.dev.lane n).attempt = true → s.dev.passed (s.dev.lane n).attemptTick ticks10ms → s.dev.getF F.SL_STATUS_ATTEMPTS n < 2 →
    answers (.attemptTimeout (.sensor n)) s (fun d => (d.lane n).attempt = false ∧ d.getF F.SL_STATUS_ATTEMPTS n = s.dev.getF F.SL_STATUS_ATTEMPTS n + 1 ∧
      d.fences = s.dev.fences)) ∧
  (∀ (s : State) (n : Fin 128), (s.dev.lane n).attempt = true → s.dev.passed (s.dev.lane n).attemptTick ticks10ms → 2 ≤ s.dev.getF F.SL_STATUS_ATTEMPTS n →
    answers (.attemptTimeout (.sensor n)) s (fun d => d.fenced 1 n = true)) ∧
  (∀ (s : State) (b : Fin 16) (words : List (BitVec 64)), s.dev.bundleState b = 5 →
    answers (.parityGroup b words) s (fun d => assoc d.merged b = some (mergeGroup (positions (s.dev.getF F.BUNDLE_MASKS_STRIPE b))
      (if s.dev.parityActive b then some (s.dev.bundle b).parLane else none) (s.dev.wordLost b) (s.dev.received b (words.map (fun w => w.toNat)))).words ∧
      (d.bundle b).stream = (s.dev.bundle b).stream ++ (mergeGroup (positions (s.dev.getF F.BUNDLE_MASKS_STRIPE b))
      (if s.dev.parityActive b then some (s.dev.bundle b).parLane else none) (s.dev.wordLost b) (s.dev.received b (words.map (fun w => w.toNat)))).words))

/-- What the receiver of a VXL lane recovers is what was sent (R93 to R95): the descrambler undoes the scrambler from the same history, and from any
history after 31 bits; the stuff bits go again, none of them a violation, whatever the run; and no line from a run count of 0 holds 26 equal bits in a
row. -/
def Obligations.LineCodeRoundTrips : Prop :=
  (∀ (h : Nat) (xs : List Bool), descrambleBits h (scrambleBits h xs).1 = (xs, (scrambleBits h xs).2)) ∧
  (∀ (h g : Nat) (xs : List Bool), (descrambleBits g (scrambleBits h xs).1).1.drop 31 = xs.drop 31) ∧
  (∀ (r : LineRun) (xs : List Bool), r.count < 24 → unstuffBits r (stuffBits r xs).1 = (xs, 0, (stuffBits r xs).2)) ∧
  (∀ (r : LineRun) (xs pre post : List Bool) (b : Bool), r.count = 0 → (stuffBits r xs).1 ≠ pre ++ List.replicate 26 b ++ post)

/-- Bundles are configured, trained and held back after a failure (R104, R108, R109, R123, R141, R506). Readings of the spec it rests on: log entries
42, 44, 92, 93. -/
def Obligations.BundlesTrainAndAreConfigured : Prop :=
  (∀ (s : State) (c : Ctx) (b what cfg front fifo : Nat) (m : List Int), s.dev.canRun c (jobBundleConfigure c b what cfg front fifo m) →
    answers (.bundleConfigure c b what cfg front fifo m) s (fun d => Dev.replied s.dev d c 0x0301 .ok 0 [] ∧
      (bit what 0 = true → d.getF F.BUNDLE_CFG_LANE_EN b = bits cfg 0 8 ∧ d.getF F.BUNDLE_CFG_PAR_EN b = bits cfg 8 1 ∧
        d.getF F.BUNDLE_CFG_PAR_LANE b = bits cfg 9 3 ∧ d.getF F.BUNDLE_CFG_MAX_RATE b = bits cfg 12 2) ∧
      (bit what 1 = true → d.getF F.BUNDLE_FRONT_CTRL_CONVERT_EN b = bits front 0 1 ∧ d.getF F.BUNDLE_FRONT_CTRL_MATRIX_SEL b = bits front 1 1 ∧
        d.getF F.BUNDLE_FRONT_CTRL_FILTER b = bits front 2 1) ∧
      (bit what 2 = true → if s.dev.flag F.BUNDLE_FRONT_CTRL_MATRIX_SEL b then (d.bundle b).bank0 = m else (d.bundle b).bank1 = m) ∧
      (bit what 3 = true → d.getF F.BUNDLE_FIFO_CTRL_HIGH_WM b = bits fifo 0 8 ∧ d.getF F.BUNDLE_FIFO_CTRL_LOW_WM b = bits fifo 8 8))) ∧
  (∀ (s : State) (c : Ctx) (b : Nat), s.dev.canRun c (jobBundleTrain c b) →
    answers (.bundleTrain c b) s (fun d => Dev.replied s.dev d c 0x0302 .ok 0 [] ∧ d.bundleState b = 1 ∧ d.getF F.BUNDLE_STATE_RATE b = 0 ∧
      d.getF F.BUNDLE_STATE_FAILS b = 0 ∧ d.getF F.BUNDLE_STATE_CAP b = 3 ∧ (d.bundle b).laneEn = s.dev.getF F.BUNDLE_CFG_LANE_EN b)) ∧
  (∀ (s : State) (b : Fin 16), (s.dev.bundleState b = 2 ∨ s.dev.bundleState b = 3 ∨ s.dev.bundleState b = 4 ∨ s.dev.bundleState b = 7) →
    s.dev.passed (s.dev.bundle b).stateTick ticks10ms →
    answers (.trainingTimeout (.bundle b)) s (fun d => d.bundleState b = 6 ∧ d.getF F.BUNDLE_STATE_RATE b = 0 ∧
      d.getF F.BUNDLE_STATE_FAILS b = min 15 (s.dev.getF F.BUNDLE_STATE_FAILS b + 1) ∧
      d.getF F.BUNDLE_TIMING_NEXT_RETRY b = backoffMs (min 15 (s.dev.getF F.BUNDLE_STATE_FAILS b + 1)))) ∧
  (∀ (s : State) (b : Fin 16), s.dev.bundleState b = 6 → s.dev.passed (s.dev.bundle b).waitTick (250000 * backoffMs (s.dev.getF F.BUNDLE_STATE_FAILS b)) →
    answers (.backoffExpiry (.bundle b)) s (fun d => d.bundleState b = 1)) ∧
  (∀ (s : State) (b : Fin 16), s.dev.talks b = true → s.dev.getF F.BUNDLE_TALKBACK_TYPE b ≠ 0 →
    answers (.talkbackRepeat b) s (fun d => d.out.head? =
      some (Out.talkback b (s.dev.currentTalk b) (payloadLine s.dev.talkHist s.dev.talkRun (s.dev.currentTalk b))) ∧
      (s.dev.tick < (s.dev.bundle b).talkTick + ticksTalkMarker → d.out.tail = s.dev.out))) ∧
  (∀ (s : State) (p : Path) (b : Fin 16) (high low : Nat) (cut : Option CutPacket), s.dev.awake →
    answers (.flush p b high low cut) s (fun d => (d.bundle b).fifo = [] ∧ (d.bundle b).words0 = 0 ∧ (d.bundle b).words1 = 0))

/-- Lines are classified, placed, committed, and pictures closed and accepted (R132, R145, R146). Readings of the spec it rests on: log entries 33,
44, 45, 94. -/
def Obligations.LinesReachTheirPictures : Prop :=
  (∀ (s : State) (b : Fin 16) (words : List LineWord) (j k l : Nat) (bad seq chk : Bool), s.dev.phase = .run → s.dev.bundleState b = 5 →
    headerValid (lineHead words) = true → s.dev.takesLines (bits (lineHead words) 12 7) = true →
    bundleIndex (s.dev.chan (bits (lineHead words) 12 7)).params b = some j → s.dev.packetCase b words = .place k l bad seq chk →
    s.dev.flag F.BUNDLE_FRONT_CTRL_CONVERT_EN b = false →
    (s.dev.bundle b).words0 + (s.dev.bundle b).words1 + words.length + 3 ≤ 2 * bankWords →
    answers (.linePacket b words) s (fun d => ∃ x : FifoLine, (d.bundle b).fifo = (s.dev.bundle b).fifo ++ [x] ∧
      x.channel = bits (lineHead words) 12 7 ∧ x.picture = k ∧ x.line = l ∧
      x.pixels = ((words.map (·.value)).dropLast).drop (2 + bits (lineHead words) 20 7))) ∧
  (∀ (s : State) (b : Fin 16) (x : FifoLine) (rest : List FifoLine) (p : Pic), (s.dev.bundle b).fifo = x :: rest → s.dev.stalled 0 b = false →
    s.dev.chanState x.channel ≠ 0 → x.fragment = false → (s.dev.chan x.channel).pic x.picture = some p → p.committedFirst ≠ none →
    answers (.lineCommit b 0) s (fun d => (d.bundle b).fifo = rest ∧ ((d.chan x.channel).pic x.picture).map (·.lines) =
      some (p.lines.map (fun y => if y.line = x.line ∧ y.placed = true then { y with committed := true } else y)))) ∧
  (∀ (s : State) (b : Fin 16) (x : FifoLine) (rest : List FifoLine), (s.dev.bundle b).fifo = x :: rest → s.dev.stalled 0 b = false →
    s.dev.chanState x.channel = 0 → x.fragment = false → answers (.lineCommit b 0) s (fun d => (d.bundle b).fifo = rest ∧ d.chans = s.dev.chans)) ∧
  (∀ (s : State) (n : Fin 128) (k : Nat), s.dev.mode = 2 → s.dev.twoPeriods n k = true →
    answers (.pictureTimeout n k) s (fun d => (∀ e ∈ (d.chan n).expect, e.2.pic ≠ some k) ∧
      (d.chan n).pics = ((pBundleList (s.dev.chan n).params).foldl (fun c b => c.shutShare b k s.dev.ns) (s.dev.chan n)).pics)) ∧
  (∀ (s : State) (n : Fin 128) (k : Nat) (p : Pic), (s.dev.chan n).pic k = some p → p.accepted = false → p.closed = true → p.cut = false →
    (∀ x ∈ p.lines, x.committed = true) → (∀ q ∈ (s.dev.chan n).pics, q.index < k → q.accepted = true ∨ q.cut = true ∨ q.released = true) →
    (s.dev.chan n).stopping = none → (s.dev.chan n).waits k = false →
    answers (.pictureAccept n k) s (fun d => (d.chan n).lastAccepted = some k))

/-- The lanes of the twin link and of the ring train and fail as sensor lanes do (R98, R109, R117, R284, R305). Readings of the spec it rests on: log
entry 43. -/
def Obligations.LinkLanesTrainAlike : Prop :=
  ∀ (s : State) (ring : Bool) (n : Nat), n < linkWidth ring → n < (s.dev.link ring).lanes.length →
    (∀ (w : BitVec 64) (gap skew eyeH eyeW : Nat), s.dev.linkListens ring n = true → markerGood w.toNat = true → bits w.toNat 10 7 = n →
      bit (s.dev.link ring).slots n = false → s.dev.linkLocked ring = 0 → gap ≠ 8192 →
      answers (.marker (linkLaneOf ring n) w gap skew eyeH eyeW) s (fun d => ((d.link ring).lane n).last = some (bits w.toNat 32 16) ∧
        (d.link ring).counts = (s.dev.link ring).counts ++ [(n, bits w.toNat 32 16)])) ∧
    (s.dev.linkListens ring n = true → bit (s.dev.linkLocked ring) n = true → bit (s.dev.link ring).slots n = false →
      setBit (s.dev.link ring).slots n &&& s.dev.linkLocked ring ≠ s.dev.linkLocked ring → ((s.dev.link ring).lane n).miss < 3 →
      answers (.markerSlotMissed (linkLaneOf ring n)) s (fun d => ((d.link ring).lane n).miss = ((s.dev.link ring).lane n).miss + 1)) ∧
    (s.dev.linkListens ring n = true → bit (s.dev.linkLocked ring) n = true →
      answers (.lossOfSignal (linkLaneOf ring n)) s (fun d => bit (d.linkLocked ring) n = false)) ∧
    (∀ held : Fin 37, s.dev.linkListens ring n = true → ((s.dev.link ring).lane n).violations < 16 →
      answers (.stuffingViolation (linkLaneOf ring n) held) s (fun d => ((d.link ring).lane n).violations = ((s.dev.link ring).lane n).violations + 1)) ∧
    (s.dev.linkState ring = 2 ∨ s.dev.linkState ring = 3 → s.dev.passed (s.dev.link ring).stateTick ticks10ms →
      answers (.trainingTimeout (if ring then .ring else .twin)) s (fun d => d.linkState ring = 6 ∧ (d.link ring).fails = min 15 ((s.dev.link ring).fails + 1))) ∧
    (s.dev.linkState ring = 6 → s.dev.passed (s.dev.link ring).waitTick (250000 * backoffMs (s.dev.link ring).fails) → answers (.backoffExpiry (if ring then .ring else .twin)) s (fun d => d.linkState ring = 1)) ∧
    (s.dev.linkState ring = 5 → bit (s.dev.link ring).lost n = true → ((s.dev.link ring).lane n).attempt = false →
      getAt 0 (s.dev.link ring).attempts n < 3 → ((s.dev.link ring).lane n).lostTick + 25000000 ≤ s.dev.tick →
      answers (.retrainAttempt (linkLaneOf ring n)) s (fun d => ((d.link ring).lane n).attempt = true)) ∧
    (((s.dev.link ring).lane n).attempt = true → s.dev.passed ((s.dev.link ring).lane n).attemptTick ticks10ms →
      answers (.attemptTimeout (linkLaneOf ring n)) s (fun d => ((d.link ring).lane n).attempt = false ∧ bit (d.linkLocked ring) n = false))

/-- The channel commands carry out what the catalogue says (R159, R163, R166, R179, R180). Readings of the spec it rests on: log entries 46, 96. -/
def Obligations.ChannelCommandsAct : Prop :=
  (∀ (s : State) (c : Ctx) (block : List Byte), s.dev.canRun c (rawJob (jobOpenChannel c block) block) →
    answers (.openChannel c block) s (fun d => Dev.replied s.dev d c 0x0201 .ok 0 (s.dev.openResults block) ∧
      d.chanState (pChannel block) = 1 ∧ (d.chan (pChannel block)).params = block)) ∧
  (∀ (s : State) (c : Ctx) (n : Nat), s.dev.canRun c (jobCloseChannel c n) → s.dev.chanState n = 1 →
    answers (.closeChannel c n) s (fun d => Dev.replied s.dev d c 0x0202 .ok 0 [] ∧ d.chanState n = 0 ∧ (d.chan n).params = [])) ∧
  (∀ (s : State) (c : Ctx) (n : Nat), s.dev.canRun c (jobCloseChannel c n) → s.dev.chanState n = 2 → s.dev.proposes n = false →
    (s.dev.chan n).pics = [] → answers (.closeChannel c n) s (fun d => d.chanState n = 0 ∧ (d.chan n).params = [])) ∧
  (∀ (s : State) (c : Ctx) (n : Nat), s.dev.canRun c (jobStartChannel c n) → (s.dev.chan n).harvest = none →
    pMosaic (s.dev.chan n).params = 0 → s.dev.isPaired = false →
    answers (.startChannel c n) s (fun d => d.chanState n = 2 ∧ (d.chan n).pics = [] ∧
      (d.chan n).lineage = (if (s.dev.chan n).everStarted then ((s.dev.chan n).lineage + 1) % 2 ^ 32 else 1) ∧
      Dev.replied s.dev d c 0x0203 .ok 0
        (leBytes 4 (d.chan n).lineage ++ leBytes 4 (if pClass (s.dev.chan n).params = 1 then 0 else d.getF F.CHAN_DMIN_D_MIN_US n)))) ∧
  (∀ (s : State) (c : Ctx) (n : Nat), s.dev.canRun c (jobStopChannel c n 0) → s.dev.proposes n = false →
    (∀ p ∈ (s.dev.chan n).pics, p.accepted = true) → (s.dev.chan n).drained = false →
    answers (.stopChannel c n 0) s (fun d => d.chanState n = 3 ∧
      (d.chan n).stopping = some { drain := true, close := false, client := c.client, tag := c.tag, reply := true })) ∧
  (∀ (s : State) (c : Ctx) (n mode : Nat), s.dev.canRun c (jobStopChannel c n mode) → s.dev.proposes n = false → (s.dev.chan n).pics = [] →
    answers (.stopChannel c n mode) s (fun d => d.chanState n = 1 ∧ (d.chan n).stopping = none)) ∧
  (∀ (s : State) (c : Ctx) (block : List Byte), s.dev.canRun c (rawJob (jobReconfigure c block) block) → s.dev.chanState (pChannel block) = 1 →
    answers (.reconfigureChannel c block) s (fun d => Dev.replied s.dev d c 0x0205 .ok 0 (s.dev.openResults (cleanBlock block)) ∧
      d.chanState (pChannel block) = 1 ∧ (d.chan (pChannel block)).params = cleanBlock block)) ∧
  (∀ (s : State) (c : Ctx) (block : List Byte), s.dev.canRun c (rawJob (jobReconfigure c block) block) → s.dev.chanState (pChannel block) = 2 →
    s.dev.proposes (pChannel block) = false →
    answers (.reconfigureChannel c block) s (fun d => Dev.replied s.dev d c 0x0205 .ok 0 (s.dev.openResults block) ∧
      (d.chan (pChannel block)).next = some (cleanBlock block) ∧ (d.chan (pChannel block)).params = (s.dev.chan (pChannel block)).params)) ∧
  (∀ (s : State) (c : Ctx) (n : Nat), s.dev.canRun c (jobForceEquinox c n) → s.dev.proposes n = false →
    answers (.forceEquinox c n) s (fun d => (d.chan n).equinox = some (s.dev.nextUnissued n) ∧
      Dev.replied s.dev d c 0x0206 .ok 0 (leBytes 8 (s.dev.nextUnissued n))))

/-- The Harvest commands and SELFTEST carry out what the catalogue says (R149, R150, R151, R207). Readings of the spec it rests on: log entries 13,
45, 95. -/
def Obligations.CapturesAndSelftestsAct : Prop :=
  (∀ (s : State) (c : Ctx) (n triggers gen slots pre post : Nat), s.dev.canRun c (jobHarvestArm c n 0 triggers gen slots pre post) →
    answers (.harvestArm c n 0 triggers gen slots pre post) s (fun d =>
      (∃ base stripes, (d.chan n).harvest =
        some { phase := .armed, slots := slots, pre := pre, post := post, triggers := triggers, gen := gen, base := base, stripes := stripes }) ∧
      Dev.replied s.dev d c 0x0304 .ok 0 (leBytes 8 (slots * slotBytesOf (s.dev.chan n).params)))) ∧
  (∀ (s : State) (c : Ctx) (n triggers gen slots pre post : Nat) (h : Harvest) (ps : List Pic),
    s.dev.canRun c (jobHarvestArm c n 1 triggers gen slots pre post) → s.dev.kept n = some (h, ps) →
    answers (.harvestArm c n 1 triggers gen slots pre post) s (fun d =>
      (d.chan n).harvest = some { h with triggers := triggers, gen := gen } ∧ (d.chan n).pics = ps)) ∧
  (∀ (s : State) (c : Ctx) (n : Nat) (h : Harvest), s.dev.canRun c (jobHarvestTrigger c n) → (s.dev.chan n).harvest = some h →
    h.phase = .armed → s.dev.replaying = false →
    answers (.harvestTrigger c n) s (fun d =>
      (d.chan n).harvest = some { h with phase := .triggered, moment := some s.dev.tick, trigTime := s.dev.ns } ∧
      Dev.replied s.dev d c 0x0305 .ok 0 (leBytes 4 s.dev.ns))) ∧
  (∀ (s : State) (c : Ctx) (n : Nat), s.dev.canRun c (jobHarvestRelease c n) →
    answers (.harvestRelease c n) s (fun d => (d.chan n).harvest = none)) ∧
  (∀ (s : State) (c : Ctx) (n : Nat), s.dev.canRun c (jobHarvestRelease c n) → (s.dev.chan n).drained = true → (s.dev.chan n).stopping = none →
    answers (.harvestRelease c n) s (fun d => (d.chan n).harvest = none ∧ Dev.replied s.dev d c 0x0306 .ok 0 [])) ∧
  (∀ (s : State) (c : Ctx) (mask delta : Nat), s.dev.canRun c (jobSelftest c mask 0 delta) → (∀ e ∈ engineMask mask, s.dev.runOf e = none) →
    answers (.selftest c mask 0 delta) s (fun d => Dev.replied s.dev d c 0x0903 .ok 0
      (leBytes 16 (((engineMask mask).filter (fun e => !s.dev.fenced 3 e && !s.dev.fenced 4 (e / 16) && decide (s.dev.domState e = 0))).foldl setBit 0) ++
        leBytes 2 (Config.selftestSignature % 2 ^ 16) ++ leBytes 2 0) ∧ d.fences = s.dev.fences)) ∧
  (∀ (s : State) (c : Ctx) (mask wrong delta e : Nat), s.dev.canRun c (jobSelftest c mask wrong delta) → (∀ x ∈ engineMask mask, s.dev.runOf x = none) →
    e ∈ engineMask mask → bit wrong e = true → s.dev.fenced 4 (e / 16) = false → s.dev.domState e = 0 →
    answers (.selftest c mask wrong delta) s (fun d => d.fenced 3 e = true))

/-- Engines take, steal, ask for and publish row tasks; a task is pre-empted and its context saved (R207, R215, R220 to R224, R370). Readings of the
spec it rests on: log entries 49, 76, 98. -/
def Obligations.EnginesTakeAndPublishTasks : Prop :=
  (∀ (s : State) (p : Path) (e : Fin 128), s.dev.awake → s.dev.getF F.ENG_CTRL_HOLD e < 2 →
    answers (.cacheInval p e) s (fun d => d.cacheOf e = [] ∧ d.getF F.ENG_CACHE_VALID e = 0)) ∧
  (∀ (s : State) (p : Path) (e : Fin 128) (on : Bool), s.dev.awake → s.dev.mode = 5 →
    answers (.hold p e on) s (fun d => d.flag F.ENG_CTRL_HOLD e = on ∧ d.tasks = s.dev.tasks)) ∧
  (∀ (s : State) (p : Path) (c : Fin 8) (k : Fin 16), s.dev.awake → s.dev.mode = 5 → s.dev.flag F.ENG_CTRL_HOLD (16 * c + k) = true →
    s.dev.engineIdle (16 * c + k) = false ∨ s.dev.askChoice (16 * c + k) = none →
    answers (.give p c k true) s (fun d => 16 * (c : Nat) + k ∈ d.given)) ∧
  (∀ (s : State) (p : Path) (c : Fin 8) (k : Fin 16) (t : Task), s.dev.awake → s.dev.mode = 5 → s.dev.flag F.ENG_CTRL_HOLD (16 * c + k) = true →
    s.dev.engineIdle (16 * c + k) = true → s.dev.askChoice (16 * c + k) = some t → (s.dev.tasks.map (·.token)).Nodup → descGood t.desc = true →
    answers (.give p c k true) s (fun d => (d.runOf (16 * c + k)).map (·.token) = some t.token)) ∧
  (∀ (s : State) (e : Fin 128) (t : Task) (good : Bool), s.dev.engineIdle e = true → s.dev.mustAsk e = false → s.dev.flag F.ENG_CTRL_HOLD e = false →
    s.dev.stalled 1 (e / 16) = false → (s.dev.tasks.map (·.token)).Nodup → (s.dev.slotOf e).orElse (fun _ => (s.dev.listOf e).find? s.dev.eligible) = some t →
    descGood t.desc = true →
    answers (.taskTake e true good) s (fun d => (d.runOf e).map (·.token) = some t.token) ∧
    answers (.taskTake e false good) s (fun d => d.fenced 3 e = true)) ∧
  (∀ (s : State) (e : Fin 128) (t : Task) (cross good : Bool), s.dev.engineIdle e = true → s.dev.mustAsk e = false → s.dev.flag F.ENG_CTRL_HOLD e = false →
    s.dev.slotOf e = none → (s.dev.listOf e).any s.dev.eligible = false → s.dev.stealChoice e = some (t, cross) →
    s.dev.stalled 1 (s.dev.stealFrom e) = false → (s.dev.tasks.map (·.token)).Nodup → descGood t.desc = true →
    answers (.steal e true good) s (fun d => (d.runOf e).map (·.token) = some t.token) ∧
    answers (.steal e false good) s (fun d => d.fenced 3 e = true)) ∧
  (∀ (s : State) (e : Fin 128) (t : Task) (good : Bool), s.dev.mayAsk e = true → s.dev.askChoice e = some t →
    s.dev.stalled 1 (e / 16) = false → (s.dev.tasks.map (·.token)).Nodup → descGood t.desc = true →
    answers (.ask e true good) s (fun d => (d.runOf e).map (·.token) = some t.token) ∧
    answers (.ask e false good) s (fun d => d.fenced 3 e = true)) ∧
  (∀ (s : State) (c : Fin 8) (t v : Task), s.dev.anyIdle = false → s.dev.liveWaiting c = some t → s.dev.preemptible t.engine = true →
    s.dev.runOf t.engine = some v → s.dev.ctxUsed < 1024 → (s.dev.tasks.map (·.token)).Nodup →
    answers (.preempt c) s (fun d => (∃ u ∈ d.tasks, u.token = v.token ∧ u.saving = true ∧ u.place = v.place) ∧
      (∃ u ∈ d.tasks, u.token = t.token ∧ u.place = .slot t.engine))) ∧
  (∀ (s : State) (e : Fin 128) (t : Task) (k : Nat), s.dev.runOf e = some t → t.saving = true → s.dev.freeCtx = some k →
    s.dev.listRoom (if s.dev.engineUp t.back then t.back else e) false = true →
    answers (.contextSave e true) s (fun d => ∃ u ∈ d.tasks, u.token = t.token ∧ u.saved = some k ∧ u.saving = false ∧
      u.place = .list (if s.dev.engineUp t.back then t.back else e) ∧
      u.progress = t.progress)) ∧
  (∀ (s : State) (e : Fin 128) (t : Task), s.dev.runOf e = some t → t.saving = true →
    s.dev.listRoom (if s.dev.engineUp t.back then t.back else e) false = true →
    answers (.contextSave e false) s (fun d => ∃ u ∈ d.tasks, u.token = t.token ∧ u.saved = none ∧ u.saving = false ∧
      u.place = .list (if s.dev.engineUp t.back then t.back else e) ∧
      u.progress = 0)) ∧
  (∀ (s : State) (e : Fin 128) (t : Task) (cycles stall refetch : Nat), s.dev.runOf e = some t → t.kind = 0 →
    t.mayPublish true (pCtus (s.dev.chan t.chan).params) = true → cycles ≤ 2 * ctuBound (s.dev.taskBlock t) t.effort t.row t.coarse →
    t.row = 0 ∨ min (t.coarse + 2) (pCtus (s.dev.chan t.chan).params) ≤ s.dev.aboveTokens t true →
    answers (.tokenPublish e true cycles stall refetch) s (fun d => { t with coarse := t.coarse + 1, waits := false } ∈ d.tasks)) ∧
  (∀ (s : State) (e : Fin 128) (t : Task) (cycles stall refetch : Nat), s.dev.runOf e = some t → t.kind = 0 → t.qp ≠ 255 →
    t.mayPublish false (pCtus (s.dev.chan t.chan).params) = true → cycles ≤ 2 * ctuBound (s.dev.taskBlock t) t.effort t.row t.progress →
    t.row = 0 ∨ min (t.progress + 2) (pCtus (s.dev.chan t.chan).params) ≤ s.dev.aboveTokens t false →
    answers (.tokenPublish e false cycles stall refetch) s (fun d => { t with progress := t.progress + 1, waits := false } ∈ d.tasks)) ∧
  (∀ (s : State) (e : Fin 128) (t : Task) (coarse : Bool) (cycles stall refetch : Nat), s.dev.runOf e = some t → t.kind = 0 →
    t.mayPublish coarse (pCtus (s.dev.chan t.chan).params) = true → t.row ≠ 0 →
    s.dev.aboveTokens t coarse < min ((if coarse then t.coarse else t.progress) + 2) (pCtus (s.dev.chan t.chan).params) →
    answers (.tokenPublish e coarse cycles stall refetch) s (fun d => { t with waits := true } ∈ d.tasks ∧ d.chans = s.dev.chans)) ∧
  (∀ (s : State) (e : Fin 128) (t : Task) (coarse : Bool) (cycles stall refetch : Nat), s.dev.runOf e = some t → t.kind = 0 →
    t.mayPublish coarse (pCtus (s.dev.chan t.chan).params) = true → s.dev.fenced 3 e = false → t.gen < 3 →
    t.row = 0 ∨ min ((if coarse then t.coarse else t.progress) + 2) (pCtus (s.dev.chan t.chan).params) ≤ s.dev.aboveTokens t coarse →
    2 * ctuBound (s.dev.taskBlock t) t.effort t.row (if coarse then t.coarse else t.progress) < cycles →
    answers (.tokenPublish e coarse cycles stall refetch) s (fun d => d.fenced 3 e = true ∧ bit (d.getF F.ENG_FAULT e) 1 = true))

/-- Rows are issued, committed, rescued and depart; faulty engines and dispatchers are fenced; twin notes are compared (R164, R188, R210, R228, R229,
R231, R291). Readings of the spec it rests on: log entries 47, 49, 50, 97, 98. -/
def Obligations.RowsAreIssuedCommittedAndDepart : Prop :=
  (∀ (s : State) (n : Fin 128) (p : Pic) (r e : Nat), s.dev.chanState n = 2 ∨ s.dev.chanState n = 3 → s.dev.phase = .run →
    (s.dev.chan n).nextRow = some (p, r) → s.dev.mayIssue n p r = true → (p.row r).gen = 0 →
    s.dev.placeFor n r (assoc (s.dev.chan n).affinity r) (pClass (s.dev.chan n).params == 0) = some e → (s.dev.chan n).lock = .alone →
    s.dev.twin.regAt = [] → (s.dev.chan n).stopAt = none → s.dev.nextToken < 65536 → (∀ t ∈ s.dev.tasks, t.token ≠ s.dev.nextToken) →
    answers (.rowIssue n) s (fun d => (d.rowOf n p.index r).phase = .issued ∧
      ∃ t ∈ d.tasks, t.token = s.dev.nextToken ∧ t.kind = 0 ∧ t.chan = n ∧ t.pic = p.index ∧ t.row = r ∧ t.engine = e)) ∧
  (∀ (s : State) (e : Fin 128) (size : Nat) (mx my : Int) (recon cycles : Nat) (t : Task), s.dev.runOf e = some t → t.kind = 0 → t.saving = false →
    pCtus (s.dev.chan t.chan).params ≤ t.progress → (t.live && !t.resumed && decide (0 ≤ nsDiff s.dev.ns t.rescueAt)) = false →
    (s.dev.chan t.chan).pic t.pic ≠ none → s.dev.taskBits t ≤ (s.dev.rowOf t.chan t.pic t.row).cap →
    answers (.rowCommit e size mx my recon cycles) s (fun d => (∀ u ∈ d.tasks, u.token ≠ t.token) ∧
      (d.rowOf t.chan t.pic t.row).phase = .committed ∧ (d.rowOf t.chan t.pic t.row).bits = s.dev.taskBits t ∧
      (d.rowOf t.chan t.pic t.row).summary = s.dev.summaryOf t ∧
      (d.rowOf t.chan t.pic t.row).items = (s.dev.rowOf t.chan t.pic t.row).items)) ∧
  (∀ (s : State) (e : Fin 128) (cause : Fin 5) (stage : Fin 7), s.dev.fenced 3 e = false →
    (∀ t, s.dev.runOf e = some t → t.gen < 3) →
    answers (.engineFault e cause stage) s (fun d => d.fenced 3 e = true ∧ bit (d.getF F.ENG_FAULT e) cause = true)) ∧
  (∀ (s : State) (e : Fin 128), s.dev.fenced 3 e = false → (s.dev.runOf e).isSome = true →
    answers (.engineSilence e) s (fun d => d.fenced 3 e = true)) ∧
  (∀ (s : State) (missed : Fin 256) (c : Fin 8), s.dev.hbMiss.length = 8 → s.dev.fenced 4 c = false →
    (bit missed c = false → answers (.dispatcherHeartbeat missed) s (fun d => getAt 0 d.hbMiss c = 0)) ∧
    (bit missed c = true → getAt 0 s.dev.hbMiss c < 3 →
      answers (.dispatcherHeartbeat missed) s (fun d => getAt 0 d.hbMiss c = getAt 0 s.dev.hbMiss c + 1)) ∧
    (bit missed c = true → 3 ≤ getAt 0 s.dev.hbMiss c → answers (.dispatcherHeartbeat missed) s (fun d => d.fenced 4 c = true))) ∧
  (∀ (s : State) (n : Fin 128) (k : Nat) (r : Fin 256) (p : Pic), s.dev.rescueDue n k r = true → (s.dev.chan n).pic k = some p → p.plan ≠ none →
    (s.dev.chan n).lock = .alone →
    answers (.rescue n k r) s (fun d => (d.rowOf n k r).lane ≠ none ∧ (d.rowOf n k r).late = true ∧ (d.rowOf n k r).phase = .issued)) ∧
  (∀ (s : State) (n : Fin 128) (k : Nat) (r : Fin 256) (size recon : Nat), (s.dev.rowOf n k r).lane ≠ none → (s.dev.chan n).pic k ≠ none →
    (r : Nat) = 0 ∨ (s.dev.rowOf n k (r - 1)).done = true →
    answers (.rescueCommit n k r size recon) s (fun d => (d.rowOf n k r).phase = .rescued ∧ (d.rowOf n k r).lane = none ∧ (d.rowOf n k r).summary = (0, 0) ∧
      (d.rowOf n k r).items = s.dev.rescueItems (s.dev.laneTask n k r) ∧ (d.rowOf n k r).bits ≤ (s.dev.rowOf n k r).w)) ∧
  (∀ (s : State) (n : Fin 128) (lens : List Nat) (crc : Nat) (p : Pic) (r : Nat), (s.dev.chan n).nextDepart = some (p, r) →
    s.dev.departDue n (p.row r) = true → s.dev.phase = .run → p.plan ≠ none → r + 1 ≠ pRows (s.dev.chan n).params → s.dev.twin.handover = none →
    answers (.rowDepart n lens crc) s (fun d => (d.rowOf n p.index r).departed = true)) ∧
  (∀ (s : State) (n : Fin 128) (lens : List Nat) (crc : Nat) (p : Pic) (r : Nat), (s.dev.chan n).nextDepart = some (p, r) →
    s.dev.departDue n (p.row r) = true → s.dev.phase = .run → p.plan ≠ none → r + 1 = pRows (s.dev.chan n).params → s.dev.twin.handover = none →
    (s.dev.chan n).stopping = none → s.dev.isPaired = false → s.dev.segs = [] → s.dev.binds = [] →
    answers (.rowDepart n lens crc) s (fun d => d.get64 F.CHAN_DEPART_LO F.CHAN_DEPART_HI n = p.index % 2 ^ 64)) ∧
  (∀ (s : State) (n : Fin 128) (k : Nat) (r : Fin 256) (a : Nat), (s.dev.chan n).lock = .locked → (s.dev.rowOf n k r).arrival = some a →
    (s.dev.rowOf n k r).departed = false → 0 ≤ nsDiff (s.dev.ns + 5000) (s.dev.departAt n a) → (∀ m ∈ (s.dev.chan n).peerNotes, m.picture ≠ k) →
    ((∀ m ∈ (s.dev.chan n).notes, ¬ (m.picture = k ∧ m.row = r)) →
      answers (.noteCompare n k r) s (fun d => (d.chan n).lock = .locked ∧ d.chans = s.dev.chans)) ∧
    (∀ (m : Note) (rest : List Note), (s.dev.chan n).notes.filter (fun m => m.picture = k ∧ m.row = (r : Nat)) = m :: rest →
      answers (.noteCompare n k r) s (fun d => (d.chan n).lock = .joining ∧
        d.getF F.TWIN_LAST_DIVERGE = (n + 2 ^ 8 * m.kind + 2 ^ 16 * (k % 65536)) % 2 ^ 32)))

/-- Streams are bound to the network and unbound, their packets leave or are dropped by cause, their destinations are resolved (R376, R377, R384,
R385, R387, R388, R389). Readings of the spec it rests on: log entries 19, 47, 58, 101. -/
def Obligations.NetworkStreamsAreBoundAndSent : Prop :=
  (∀ (s : State) (c : Ctx) (p : List Byte), s.dev.canRun c (rawJob (jobEgressBind c p) p) → ebKind p = 1 ∨ s.dev.proposes (ebStream p) = false →
    answers (.egressBind c p) s (fun d => Dev.replied s.dev d c 0x0208 .ok 0 [] ∧
      ∃ x : Binding, d.binds = s.dev.binds ++ [x] ∧ x.kind = ebKind p ∧ x.stream = ebStream p ∧ x.params = p)) ∧
  (∀ (s : State) (c : Ctx) (kind stream : Nat) (x : Binding), s.dev.canRun c (jobEgressUnbind c kind stream) →
    kind = 1 ∨ s.dev.proposes stream = false ∧ s.dev.chanState stream < 2 → s.dev.binds.filter (fun b => b.kind == kind && b.stream == stream) = [x] →
    (∀ y ∈ s.dev.binds, y.ending = none) → (∀ y ∈ x.paths, y.send = []) →
    answers (.egressUnbind c kind stream) s (fun d => Dev.replied s.dev d c 0x0209 .ok 0 [] ∧
      d.binds = s.dev.binds.filter (fun b => !(b.kind == kind && b.stream == stream)))) ∧
  (∀ (s : State) (c : Ctx) (kind stream : Nat) (x : Binding) (y : PathSend) (u : SendUnit), s.dev.canRun c (jobEgressUnbind c kind stream) →
    kind = 1 ∨ s.dev.proposes stream = false → x ∈ s.dev.binds → x.kind = kind → x.stream = stream → (∀ z ∈ s.dev.binds, z.ending = none) →
    y ∈ x.paths → u ∈ y.send → u.picture ≤ s.dev.currentAu stream →
    answers (.egressUnbind c kind stream) s (fun d => ∃ z ∈ d.binds, z.kind = kind ∧ z.stream = stream ∧
      z.ending = some (s.dev.currentAu stream, some c))) ∧
  (∀ (s : State) (k : Fin 2) (x : Binding) (u : SendUnit) (rest : List SendUnit), s.dev.phase = .run → 2 ≤ s.dev.mode →
    s.dev.nextBinding k = some x → (getAt {} x.paths k).send = u :: rest → s.dev.fenced 7 k = false →
    (s.dev.portUp k = true → (getAt {} x.paths k).ok = true →
      answers (.packetSend k none) s (fun d => ∃ more : List Nat,
        Out.frame k 3 (x.ssrc :: (u.seq + (getAt {} x.paths k).off) % 65536 :: u.ts :: more) ∈ d.out)) ∧
    ((∀ z ∈ s.dev.binds, z.ending = none) → ∀ fault : Option (Fin 9),
      (s.dev.portUp k = false → answers (.packetSend k fault) s (fun d => d.getF F.ETH_LAST_DROP_CAUSE k = 1)) ∧
      (s.dev.portUp k = true → (getAt {} x.paths k).ok = false → answers (.packetSend k fault) s (fun d => d.getF F.ETH_LAST_DROP_CAUSE k = 3)) ∧
      (s.dev.portUp k = true → (getAt {} x.paths k).ok = true → fault ≠ none →
        answers (.packetSend k fault) s (fun d => d.getF F.ETH_LAST_DROP_CAUSE k = 4)))) ∧
  (∀ (s : State) (kind stream : Nat) (k : Fin 2) (answered : Bool) (x : Binding), s.dev.binds.find? (fun x => x.kind = kind ∧ x.stream = stream) = some x →
    s.dev.phase = .run → ebPath x.params k = true → isMulticast (ebV6 x.params) (ebDest x.params k) = false → x.paths.length = 2 →
    (getAt {} x.paths k).asked = false ∨ (if (getAt {} x.paths k).ok then 7500000000 else 250000000) ≤ s.dev.tick - (getAt {} x.paths k).tryTick →
    answers (.addressResolve kind stream k answered) s (fun d => ∃ y ∈ d.binds, y.kind = kind ∧ y.stream = stream ∧
      (getAt {} y.paths k).asked = true ∧ (getAt {} y.paths k).ok = (answered && s.dev.portUp k) ∧ (getAt {} y.paths k).tryTick = s.dev.tick)) ∧
  (∀ (s : State) (k : Fin 2), s.dev.phase = .run → (s.dev.ethSt k).garp ≠ 0 → 250000 ≤ s.dev.tick - (s.dev.ethSt k).garpTick →
    answers (.gratuitousArp k) s (fun d => (d.ethSt k).garp = (s.dev.ethSt k).garp - 1 ∧ (s.dev.portUp k = true → Out.frame k 1 [(k : Nat)] ∈ d.out))) ∧
  (∀ (s : State) (k : Fin 2) (v6 : Bool), s.dev.phase = .run → s.dev.portUp k = true → (s.dev.netGroups k).filter (fun g => g.1 == v6) ≠ [] →
    answers (.groupQuery k v6) s (fun d =>
      Out.frame k (if v6 then 7 else 6) (((s.dev.netGroups k).filter (fun g => g.1 == v6)).map (fun g => leNat g.2)) ∈ d.out))

/-- The Ethernet ports follow their links and count what they receive, and PTP follows its messages (R373, R374, R385, R390, R391, R392). Readings of
the spec it rests on: log entries 16, 58, 59, 101. -/
def Obligations.PortsAndPtpFollowTheirEvents : Prop :=
  (∀ (s : State) (p : Fin 2) (fec : Bool), s.dev.flag F.ETH_STATUS_LINK p = true →
    answers (.portLinkDown p fec) s (fun d => d.flag F.ETH_STATUS_LINK p = false ∧ d.portUp p = false ∧
      (s.dev.ctr C.ETH_LINK_LOSS p < C.ETH_LINK_LOSS.max → d.ctr C.ETH_LINK_LOSS p = s.dev.ctr C.ETH_LINK_LOSS p + 1))) ∧
  (∀ (s : State) (p : Fin 2) (skew : List Nat), s.dev.flag F.ETH_CTRL_EN p = true → s.dev.fenced 7 p = false → s.dev.phase = .run → s.dev.mode ≠ 0 →
    answers (.linkUp p skew) s (fun d => d.portUp p = true ∧ ∀ i : Fin 4, d.flag F.ETH_LANE_LOCK p i = true)) ∧
  (∀ (s : State) (p : Fin 2) (bytes : Nat) (r : FecReport), s.dev.phase = .run → s.dev.portUp p = true →
    (s.dev.ctr C.ETH_RX_FRAMES p < C.ETH_RX_FRAMES.max →
      answers (.frameReceive p .ptp bytes r) s (fun d => d.ctr C.ETH_RX_FRAMES p = s.dev.ctr C.ETH_RX_FRAMES p + 1)) ∧
    (s.dev.ctr C.ETH_FCS_ERR p < C.ETH_FCS_ERR.max →
      answers (.frameReceive p .badFcs bytes r) s (fun d => d.ctr C.ETH_FCS_ERR p = s.dev.ctr C.ETH_FCS_ERR p + 1)) ∧
    (s.dev.ctr C.ETH_RX_DISCARD p < C.ETH_RX_DISCARD.max →
      answers (.frameReceive p .other bytes r) s (fun d => d.ctr C.ETH_RX_DISCARD p = s.dev.ctr C.ETH_RX_DISCARD p + 1)) ∧
    (∀ f : RxFrame, f ≠ .badFcs → 9038 < bytes → s.dev.ctr C.ETH_RX_DISCARD p < C.ETH_RX_DISCARD.max →
      answers (.frameReceive p f bytes r) s (fun d => d.ctr C.ETH_RX_DISCARD p = s.dev.ctr C.ETH_RX_DISCARD p + 1)) ∧
    (bytes ≤ 9038 → s.dev.ctr C.ETH_PAUSE_RX p < C.ETH_PAUSE_RX.max →
      answers (.frameReceive p .pause bytes r) s (fun d => d.ctr C.ETH_PAUSE_RX p = s.dev.ctr C.ETH_PAUSE_RX p + 1)) ∧
    (bytes ≤ 9038 → ((s.dev.ethSt p).echoes.filter (fun t => decide (s.dev.tick - t < 250000000))).length < 100 →
      answers (.frameReceive p .echo bytes r) s (fun d => Out.frame p 8 [] ∈ d.out))) ∧
  (∀ (s : State) (p : Fin 2) (domain : Nat) (v6 : Bool), s.dev.phase = .run → s.dev.portUp p = true → domain = s.dev.getF F.ETH_PTP_CFG_DOMAIN 0 →
    v6 = s.dev.flag F.ETH_PTP_CFG_IPV6 0 →
    (∀ delay, s.dev.ptp.port = some (p : Nat) → s.dev.flag F.TB_CTRL_TSQ_OWNER = false →
      answers (.ptpMessage p domain v6 (.delayResp delay)) s (fun d => d.getF F.ETH_PTP_DELAY 0 = delay % 2 ^ 32 ∧ d.getF F.ETH_PTP_DELAY 1 = delay % 2 ^ 32)) ∧
    (∀ a : Announce, -3 ≤ a.logInterval → a.logInterval ≤ 1 → s.dev.eth.length = 2 → (s.dev.ethSt p).best = none →
      answers (.ptpMessage p domain v6 (.announce a)) s (fun d => (d.ethSt p).best = some a ∧ (d.ethSt p).annTick = s.dev.tick)) ∧
    (∀ (li off : Int) (era : Nat), -7 ≤ li → li ≤ 0 → s.dev.ptp.port = some (p : Nat) →
      answers (.ptpMessage p domain v6 (.sync li off era)) s (fun d => d.getF F.ETH_PTP_OFFSET 0 = wrapInt 32 off ∧ d.getF F.ETH_PTP_OFFSET 1 = wrapInt 32 off))) ∧
  (∀ (s : State) (p : Fin 2), s.dev.ptp.port = some (p : Nat) → s.dev.phase = .run → s.dev.portUp p = true → (s.dev.ethSt p).best ≠ none →
    answers .delayReq s (fun d => Out.frame p 4 [(s.dev.ethSt p).delaySeq] ∈ d.out ∧ (d.ethSt p).delaySeq = ((s.dev.ethSt p).delaySeq + 1) % 65536)) ∧
  (∀ (s : State) (p : Fin 2) (a : Announce), (s.dev.ethSt p).best = some a → 93750000 * 2 ^ (a.logInterval + 3).toNat ≤ s.dev.tick - (s.dev.ethSt p).annTick →
    answers (.announceTimeout p) s (fun d => (d.ethSt p).best = none ∧
      (s.dev.ctr C.ETH_ANNOUNCE_TO p < C.ETH_ANNOUNCE_TO.max → d.ctr C.ETH_ANNOUNCE_TO p = s.dev.ctr C.ETH_ANNOUNCE_TO p + 1))) ∧
  (∀ (s : State) (k t : Nat), s.dev.ptp.want = some (k, t) → 1000000000 ≤ s.dev.tick - t → s.dev.ptpChoice = some k →
    answers .ptpPortChange s (fun d => d.ptp.port = some k ∧ d.ptp.want = none))

/-- Twin units pair, hear each other, and change roles (R277, R279, R282, R286, R287, R288, R293, R300, R301, R303). Readings of the spec it rests on:
log entries 52, 54. -/
def Obligations.TwinUnitsPairAndChangeRoles : Prop :=
  (∀ (s : State) (c : Ctx), s.dev.canRun c (jobTwinConfigure c 1) → s.dev.getF F.TWIN_CFG_ENABLE = 0 →
    answers (.twinConfigure c 1) s (fun d => d.flag F.TWIN_CFG_ENABLE = true ∧ d.role = 1 ∧ d.isPaired = false ∧ d.linkState false = 1)) ∧
  (∀ (s : State) (c : Ctx), s.dev.canRun c (jobTwinConfigure c 0) → s.dev.getF F.TWIN_CFG_ENABLE = 1 →
    answers (.twinConfigure c 0) s (fun d => d.flag F.TWIN_CFG_ENABLE = false ∧ d.role = 0 ∧ d.isPaired = false)) ∧
  (∀ (s : State) (c : Ctx) (e : Nat), s.dev.canRun c (jobTwinConfigure c e) → s.dev.chans = [] ∨ s.dev.getF F.TWIN_CFG_ENABLE = e →
    s.dev.twin.own = none → s.dev.twin.waiting = [] → s.dev.twin.handover = none →
    answers (.twinConfigure c e) s (fun d => Dev.replied s.dev d c 0x0401 .ok 0 [])) ∧
  (∀ (s : State) (c : Ctx), s.dev.canRun c (jobTwinHandover c) →
    (s.dev.twin.lost = false → s.dev.twinUp = true → s.dev.twin.own = none →
      answers (.twinHandover c) s (fun d => ∃ p : Proposal, d.twin.own = some p ∧ p.opcode = 0x0403 ∧ p.phase = .proposed ∧
        p.entries = s.dev.handChans.map (fun n => (n, s.dev.nextUnissued n + 2)) ∧ p.client = c.client ∧ p.tag = c.tag)) ∧
    (s.dev.twin.lost = true ∨ s.dev.twinUp = false →
      answers (.twinHandover c) s (fun d => Dev.replied s.dev d c 0x0403 .twinUnconfirmed 1 []))) ∧
  (∀ (s : State) (m : LinkMsg), s.dev.hears 0x01 m →
    (leAt m.body 0 4 ≠ s.dev.getF F.TWIN_PAIR_ID →
      answers (.hello m) s (fun d => d.role = 5 ∧ d.getF F.TWIN_STATE_REFUSE_WHY = 3 ∧ d.isPaired = false)) ∧
    (leAt m.body 0 4 = s.dev.getF F.TWIN_PAIR_ID → leAt m.body 12 1 = s.dev.getF F.TWIN_VERSION % 256 →
      leAt m.body 24 8 = s.dev.get64 F.TWIN_DIGEST_LO F.TWIN_DIGEST_HI → s.dev.isPaired = false →
      answers (.hello m) s (fun d => d.isPaired = true ∧ d.twin.peerSerial = leAt m.body 4 8 ∧ (d.role = 2 ∨ d.role = 3)))) ∧
  (∀ s : State, s.dev.twinLive = true → s.dev.isPaired = false → s.dev.role = 1 → answers .helloSend s (fun d => sentTwin s.dev d 0x01 s.dev.helloBody)) ∧
  (∀ s : State, s.dev.twinLive = true → s.dev.role = 5 → answers .pairingRetry s (fun d => sentTwin s.dev d 0x01 s.dev.helloBody)) ∧
  (∀ (s : State) (m : LinkMsg), s.dev.hears 0x02 m → (s.dev.injecting 4 && bit (s.dev.pertTarget 4) 1) = false →
    answers (.heartbeat m) s (fun d => d.twin.hbTick = s.dev.tick ∧ d.twin.hbSeen = true ∧ d.twin.lost = false ∧
      d.twin.peerRole = leAt m.body 0 1 ∧ d.flag F.TWIN_STATE_HB_OK = true ∧ d.role = (if s.dev.role = 4 then 3 else s.dev.role))) ∧
  (∀ s : State, s.dev.twinLive = true → (s.dev.injecting 4 && bit (s.dev.pertTarget 4) 0) = false →
    answers .heartbeatSend s (fun d => d.twin.hbCount = (s.dev.twin.hbCount + 1) % 2 ^ 32 ∧ ∃ body, sentTwin s.dev d 0x02 body)) ∧
  (∀ s : State, s.dev.isPaired = true → s.dev.twin.lost = false → 75000 ≤ s.dev.tick - s.dev.twin.hbTick →
    answers .linkLost s (fun d => d.twin.lost = true ∧ d.flag F.TWIN_STATE_HB_OK = false ∧
      ∀ n : Fin 128, (n : Nat) ∈ s.dev.lockChans → (s.dev.chan n).lock = .locked → (d.chan n).lock = .unverified)) ∧
  (∀ s : State, s.dev.role = 3 → 75000 ≤ s.dev.tick - s.dev.twin.hbTick → 75000 ≤ s.dev.tick - s.dev.twin.peerTick → s.dev.phase = .run →
    answers .takeover s (fun d => d.role = 2 ∧ d.twin.holdsOther = true ∧ d.vigilSegs = [] ∧
      d.getF F.TWIN_STATE_EPOCH = (s.dev.twin.peerEpoch + 1) % 256)) ∧
  (∀ s : State, s.dev.role = 2 → s.dev.isPaired = true → s.dev.flag F.TWIN_STATE_OWN_PATH_UP = false ∨ s.dev.fenced 7 s.dev.ownPath = true →
    300000 ≤ s.dev.tick - s.dev.twin.hbTick → answers .demote s (fun d => d.role = 4 ∧ d.twin.holdsOther = false)) ∧
  (∀ s : State, s.dev.role = 1 → s.dev.twin.solo = false → 1250000000 ≤ s.dev.tick - s.dev.twin.aloneTick →
    answers .solo s (fun d => d.twin.solo = true ∧ d.role = 1)) ∧
  (∀ s : State, s.dev.flag F.TWIN_CFG_REVERT_EN = true → s.dev.flag F.TWIN_CFG_PREF = true → s.dev.role = 3 → s.dev.lockChans ≠ [] →
    (∀ n ∈ s.dev.lockChans, (s.dev.chan n).lock = .locked) → s.dev.getF F.TWIN_TIMERS_REVERT_S * 250000000 ≤ s.dev.tick - s.dev.twin.vigilTick →
    s.dev.twin.own = none → s.dev.twin.lost = false → s.dev.twinUp = true →
    answers .revert s (fun d => ∃ p : Proposal, d.twin.own = some p ∧ p.opcode = 0x0403 ∧ p.reply = false)) ∧
  (∀ s : State, s.dev.role = 3 → answers .segmentHoldExpiry s (fun d =>
    d.vigilSegs = s.dev.vigilSegs.filter (fun x => decide (s.dev.tick - x.2.tick < s.dev.getF F.TWIN_TIMERS_HOLD * 25000)))) ∧
  (∀ (s : State) (b : List Byte) (beacon : Bool) (k : Fin 2), s.dev.phase = .run → s.dev.flag F.TWIN_CFG_ENABLE = true → (k : Nat) = s.dev.watchPort →
    s.dev.fenced 7 k = false → beacon = false ∨ crc32c (b.take 16) = leAt b 16 4 ∧ leAt b 0 4 = s.dev.getF F.TWIN_PAIR_ID →
    answers (.pathBeacon k beacon b) s (fun d => d.twin.peerTick = s.dev.tick ∧ d.flag F.TWIN_STATE_PEER_SEEN = true)) ∧
  (∀ (s : State) (k : Fin 2), (s.dev.injecting 4 && bit (s.dev.pertTarget 4) 2) = false → s.dev.phase = .run → s.dev.flag F.TWIN_CFG_ENABLE = true →
    s.dev.pathOn k = true → s.dev.portUp k = true → answers .beaconSend s (fun d => ∃ body, Out.beacon k k body ∈ d.out))

/-- A proposal is made, agreed or refused, committed, acknowledged, aborted, and ends where no answer comes (R289, R290). Readings of the spec it
rests on: log entry 53. -/
def Obligations.ProposalsRunTheirCourse : Prop :=
  (∀ (s : State) (m : LinkMsg), s.dev.hears 0x03 m → s.dev.twin.own = none →
    (s.dev.proposalState (proposed m.body s.dev.tick) = true →
      (∀ e ∈ (proposed m.body s.dev.tick).entries.head?, s.dev.chanDigest e.1 = leAt m.body 12 8) →
      (∀ e ∈ (proposed m.body s.dev.tick).entries, ∀ k, (s.dev.chan e.1).lastPlanned = some k → k < e.2) →
      answers (.propose m) s (fun d => d.twin.peer = some (proposed m.body s.dev.tick) ∧ sentTwin s.dev d 0x04 (leBytes 4 (leAt m.body 0 4)))) ∧
    (s.dev.proposalState (proposed m.body s.dev.tick) = false →
      answers (.propose m) s (fun d => d.twin.peer = s.dev.twin.peer ∧ sentTwin s.dev d 0x05 (leBytes 4 (leAt m.body 0 4) ++ leBytes 1 4)))) ∧
  (∀ (s : State) (m : LinkMsg) (p : Proposal), s.dev.hears 0x04 m → s.dev.twin.own = some p → p.id = leAt m.body 0 4 → p.phase = .proposed →
    answers (.agree m) s (fun d => d.twin.own = some { p with phase := .committed, tick := s.dev.tick } ∧
      Out.twin 0x06 s.dev.twin.seq (bodyWords (leBytes 4 p.id)) ∈ d.out)) ∧
  (∀ (s : State) (m : LinkMsg) (p : Proposal), s.dev.hears 0x05 m → s.dev.twin.own = some p → p.id = leAt m.body 0 4 → p.phase = .proposed →
    (leAt m.body 4 1 = 1 → p.tries < 7 → answers (.refuse m) s (fun d => ∃ q : Proposal, d.twin.own = some q ∧ q.tries = p.tries + 1 ∧
      q.id = s.dev.twin.nextProp ∧ q.entries = p.entries.map (fun e => (e.1, e.2 + 1)))) ∧
    (leAt m.body 4 1 = 3 → s.dev.twin.peer ≠ none →
      answers (.refuse m) s (fun d => d.twin.own = none ∧ d.twin.waiting = p :: s.dev.twin.waiting)) ∧
    (leAt m.body 4 1 = 3 → s.dev.twin.peer = none → s.dev.twin.lost = false →
      answers (.refuse m) s (fun d => d.twin.waiting = s.dev.twin.waiting ∧ ∃ q : Proposal, d.twin.own = some q ∧ q.id = s.dev.twin.nextProp ∧
        q.opcode = p.opcode ∧ q.params = p.params ∧ q.client = p.client ∧ q.tag = p.tag ∧ q.phase = .proposed)) ∧
    (leAt m.body 4 1 ≠ 1 → leAt m.body 4 1 ≠ 3 → s.dev.twin.waiting = [] → answers (.refuse m) s (fun d => d.twin.own = none)) ∧
    (leAt m.body 4 1 = 1 → 7 ≤ p.tries → s.dev.twin.waiting = [] → answers (.refuse m) s (fun d => d.twin.own = none ∧
      (p.reply = true → p.client < 64 → Dev.replied s.dev d { client := p.client, tag := p.tag } p.opcode .busy 0 [])))) ∧
  (∀ (s : State) (m : LinkMsg) (p : Proposal), s.dev.hears 0x06 m → s.dev.twin.peer = some p → p.id = leAt m.body 0 4 →
    (∀ y ∈ s.dev.binds, y.ending = none) →
    answers (.commit m) s (fun d => d.twin.peer = none ∧ ∃ seq, Out.twin 0x07 seq (bodyWords (leBytes 4 p.id)) ∈ d.out)) ∧
  (∀ (s : State) (m : LinkMsg) (p : Proposal), s.dev.hears 0x07 m → s.dev.twin.own = some p → p.id = leAt m.body 0 4 → p.phase = .committed →
    s.dev.twin.waiting = [] →
    answers (.commitAck m) s (fun d => d.twin.own = none ∧ (∀ e rest, p.reply = true → p.client < 64 → p.opcode = 0x0206 → p.entries = e :: rest →
      Dev.replied s.dev d { client := p.client, tag := p.tag } 0x0206 .ok 0 (leBytes 8 e.2)))) ∧
  (∀ (s : State) (m : LinkMsg) (p : Proposal), s.dev.hears 0x08 m → s.dev.twin.peer = some p → p.id = leAt m.body 0 4 →
    answers (.abort m) s (fun d => d.twin.peer = none)) ∧
  (∀ (s : State) (p : Proposal), s.dev.twin.own = some p → s.dev.twin.peer = none → s.dev.twin.waiting = [] →
    (p.phase = .proposed → 25000 ≤ s.dev.tick - p.tick → answers .proposalTimeout s (fun d => d.twin.own = none ∧
      (s.dev.twinUp = true → p.client < 64 → ∃ seq, Out.twin 0x08 seq (bodyWords (leBytes 4 p.id)) ∈ d.out))) ∧
    (p.phase ≠ .proposed → s.dev.holdPassed p = true →
      answers .proposalTimeout s (fun d => d.twin.own = none ∧ d.flag F.TWIN_STATE_IN_DOUBT = true)))

/-- Digests and notes are compared, a channel leaves lockstep and joins again (R291, R292, R294, R297, R298). Readings of the spec it rests on: log
entries 48, 51, 99. -/
def Obligations.LockstepIsComparedAndJoined : Prop :=
  (∀ (s : State) (m : LinkMsg), s.dev.hears 0x09 m → 2 ≤ s.dev.chanState (leAt m.body 0 1 % 128) → s.dev.isPaired = true →
    answers (.picDigest m) s (fun d => (d.chan (leAt m.body 0 1 % 128)).lastPeer = some (leAt m.body 8 8)) ∧
    ((s.dev.chan (leAt m.body 0 1 % 128)).lock = .locked → (s.dev.chan (leAt m.body 0 1 % 128)).peerDigests = [] →
      (s.dev.chan (leAt m.body 0 1 % 128)).digests = [(leAt m.body 8 8, leAt m.body 4 4, leAt m.body 16 4, leAt m.body 20 4)] →
      s.dev.ctr C.TWIN_DIGEST_OK < C.TWIN_DIGEST_OK.max →
      answers (.picDigest m) s (fun d => d.ctr C.TWIN_DIGEST_OK = s.dev.ctr C.TWIN_DIGEST_OK + 1 ∧ (d.chan (leAt m.body 0 1 % 128)).digests = []))) ∧
  (∀ (s : State) (m : LinkMsg), s.dev.hears 0x0A m → (s.dev.chan (leAt m.body 0 1 % 128)).lock = .locked →
    answers (.rowNote m) s (fun d => (d.chan (leAt m.body 0 1 % 128)).peerNotes =
      (s.dev.chan (leAt m.body 0 1 % 128)).peerNotes ++ [⟨leAt m.body 8 8, leAt m.body 1 1, leAt m.body 2 1⟩])) ∧
  (∀ (s : State) (m : LinkMsg), s.dev.hears 0x0B m →
    (s.dev.chan (leAt m.body 0 1 % 128)).lock = .locked ∨ (s.dev.chan (leAt m.body 0 1 % 128)).lock = .unverified →
    answers (.leave m) s (fun d => (d.chan (leAt m.body 0 1 % 128)).lock = .alone ∧ d.twin.vigilTick = s.dev.tick)) ∧
  (∀ (s : State) (m : LinkMsg) (chunks crc : Nat), s.dev.hears 0x0C m → s.dev.chanState (leAt m.body 0 1 % 128) = 2 →
    s.dev.mayTransmit (leAt m.body 0 1 % 128) = true →
    (leAt m.body 1 1 = 1 → answers (.joinReq m chunks crc) s (fun d => (leAt m.body 0 1 % 128, leAt m.body 2 2, none) ∈ d.twin.eqJoin)) ∧
    (∀ k, leAt m.body 1 1 ≠ 1 → (s.dev.chan (leAt m.body 0 1 % 128)).lastWhole = some k →
      answers (.joinReq m chunks crc) s (fun d => d.getF F.TWIN_COPY_PHASE = 1 ∧
        d.twin.copyOut = some { channel := leAt m.body 0 1 % 128, gen := leAt m.body 2 2, snapshot := k, sent := k }))) ∧
  (∀ (s : State) (n : Fin 128), (s.dev.chan n).lock = .joining → s.dev.chanState n = 2 → s.dev.twin.copyIn = none → (s.dev.chan n).normalFrom = none →
    s.dev.mayRejoin n = true → 2500000 ≤ s.dev.tick - (assoc s.dev.twin.joinTick n).getD 0 →
    answers (.joinRetry n) s (fun d => assoc d.twin.joinTick n = some s.dev.tick ∧
      assoc d.twin.joinGen n = some (((assoc s.dev.twin.joinGen n).getD 0 + 1) % 65536) ∧ (s.dev.twinUp = true → ∃ body, sentTwin s.dev d 0x0C body))) ∧
  (∀ (s : State) (m : LinkMsg), s.dev.hears 0x0D m → (s.dev.chan (leAt m.body 0 1 % 128)).lock = .joining →
    leAt m.body 2 2 = (assoc s.dev.twin.joinGen (leAt m.body 0 1 % 128)).getD 0 →
    answers (.copyChunk m) s (fun d => ∃ x : CopyIn, d.twin.copyIn = some x ∧ x.channel = leAt m.body 0 1 % 128 ∧ x.gen = leAt m.body 2 2 ∧
      assoc x.chunks (leAt m.body 4 4) = some ((m.body.drop 8).take 4096))) ∧
  (∀ (s : State) (m : LinkMsg) (snap : Snapshot) (x : CopyIn), s.dev.hears 0x0E m → s.dev.twin.copyIn = some x → x.channel = leAt m.body 0 1 % 128 →
    x.gen = leAt m.body 2 2 → x.applied = false →
    ((∃ i < leAt m.body 4 4, assoc x.chunks i = none) →
      answers (.copyDone m snap) s (fun d => d.twin.copyIn = none ∧ assoc d.twin.joinTick (leAt m.body 0 1 % 128) = some s.dev.tick)) ∧
    ((∀ i < leAt m.body 4 4, assoc x.chunks i ≠ none) →
      crcOf 3 (leBytes 2 (leAt m.body 2 2)) ((List.range (leAt m.body 4 4)).flatMap (fun i => (assoc x.chunks i).getD [])) = leAt m.body 16 8 →
      (s.dev.chan (leAt m.body 0 1 % 128)).normalFrom = none → s.dev.getF F.TWIN_CFG_JOIN_METHOD ≠ 1 →
      answers (.copyDone m snap) s (fun d => (d.chan (leAt m.body 0 1 % 128)).normalFrom = some (s.dev.nextUnissued (leAt m.body 0 1 % 128)) ∧
        d.twin.copyIn = some { x with applied := true, snapshot := leAt m.body 8 8, q := some (s.dev.nextUnissued (leAt m.body 0 1 % 128)), chunks := [] }))) ∧
  (∀ (s : State) (m : LinkMsg) (x : CopyOut), s.dev.hears 0x0F m → s.dev.twin.copyOut = some x → x.channel = leAt m.body 0 1 % 128 → x.gen = leAt m.body 2 2 →
    answers (.switch m) s (fun d => ∃ y : CopyOut, d.twin.copyOut = some y ∧ y.channel = x.channel ∧ y.q = some (leAt m.body 8 8))) ∧
  (∀ (s : State) (m : LinkMsg) (p : Pic) (lens : List Nat) (x : CopyIn), s.dev.hears 0x10 m → s.dev.twin.copyIn = some x →
    x.channel = leAt m.body 0 1 % 128 → x.gen = leAt m.body 2 2 → x.applied = true →
    answers (.tail m (some p) lens) s (fun d => ∃ q ∈ (d.chan (leAt m.body 0 1 % 128)).pics, q.index = leAt m.body 8 8 ∧ q.tail = true ∧ q.complete = true))

/-- Members join and leave the gang ring, follow its Calends, miss slots, and hear of each other (R308 to R317, R320, R325). Readings of the spec it
rests on: log entries 14, 55. -/
def Obligations.RingMembersFollowTheirLeader : Prop :=
  (∀ (s : State) (c : Ctx) (member members id : Nat), s.dev.canRun c (jobGangJoin c member members id) →
    answers (.gangJoin c member members id) s (fun d => d.flag F.RING_CFG_ENABLE = true ∧ d.getF F.RING_STATE_ROLE = 1 ∧ d.linkState true = 1 ∧
      d.ring.bypassWanted = some false ∧ d.ring.job = some (c, true) ∧
      (members ≠ 0 → d.member = member ∧ d.getF F.RING_CFG_MEMBERS = members % 256 ∧ d.getF F.RING_RING_ID = id % 2 ^ 32))) ∧
  (∀ (s : State) (c : Ctx), s.dev.canRun c (jobGangLeave c) →
    answers (.gangLeave c) s (fun d => d.ring.joined = false ∧ d.ring.bypassWanted = some true ∧ d.ring.job = some (c, false))) ∧
  (∀ (s : State) (closed : Bool), s.dev.ring.bypassWanted = some closed →
    answers .bypassChange s (fun d => d.flag F.RING_STATE_BYPASS = closed ∧ d.ring.joined = !closed ∧ d.ring.bypassWanted = none ∧
      (closed = true → s.dev.ring.job = none → d.flag F.RING_CFG_ENABLE = false) ∧
      (∀ c join, s.dev.ring.job = some (c, join) → c.client < 64 → Dev.replied s.dev d c (if join then 0x0411 else 0x0412) .ok 0 []))) ∧
  (∀ (s : State) (sched : List SchedEntry), s.dev.ringLive = true →
    (s.dev.getF F.RING_STATE_ROLE = 3 → (∀ m ∈ s.dev.ring.members, m.claim ≠ some ((s.dev.getF F.RING_CSEQ + 1) % 2 ^ 32)) →
      answers (.calendsSend sched) s (fun d => d.getF F.RING_CSEQ = (s.dev.getF F.RING_CSEQ + 1) % 2 ^ 32 ∧ d.ring.loopLost = s.dev.ring.loopLost + 1 ∧
        ∃ body, Out.ring 0x21 s.dev.ring.seq body ∈ d.out)) ∧
    (s.dev.leadsAlone = true → answers (.calendsSend sched) s (fun d => d.getF F.RING_STATE_ROLE = 3 ∧ d.getF F.RING_STATE_LEADER = s.dev.member))) ∧
  (∀ (s : State) (m : LinkMsg) (residence : Nat), s.dev.ringHears 0x21 m →
    (leAt m.body 0 1 ≠ s.dev.member → s.dev.getF F.RING_STATE_ROLE ≠ 3 →
      answers (.calends m residence) s (fun d => d.getF F.RING_CSEQ = leAt m.body 4 4 ∧ d.getF F.RING_MASKS = leAt m.body 34 3 ∧
        d.getF F.RING_LAST_CALENDS = s.dev.ns ∧ d.ring.lastBody = m.body)) ∧
    (leAt m.body 0 1 = s.dev.member → s.dev.getF F.RING_STATE_ROLE = 3 →
      answers (.calends m residence) s (fun d => d.ring.loopLost = 0 ∧ d.ring.loopErr = (s.dev.calendsOffset m.body).1)) ∧
    (s.dev.member < leAt m.body 0 1 → s.dev.getF F.RING_STATE_ROLE = 3 → leAt m.body 1 1 ≠ 7 →
      answers (.calends m residence) s (fun d => ∃ body, Out.ring 0x21 s.dev.ring.seq body ∈ d.out)) ∧
    (leAt m.body 0 1 < s.dev.member → s.dev.getF F.RING_STATE_ROLE = 3 → (∀ x ∈ s.dev.ring.members, x.claim = none) →
      s.dev.ctr C.RING_MSG_ERR < C.RING_MSG_ERR.max →
      answers (.calends m residence) s (fun d => d.ctr C.RING_MSG_ERR = s.dev.ctr C.RING_MSG_ERR + 1))) ∧
  (∀ s : State, s.dev.ringLive = true → s.dev.getF F.RING_STATE_ROLE = 2 →
    (s.dev.flag F.RING_STATE_INPUT_UP = false →
      answers .slotMissed s (fun d => d.ring.slots = s.dev.ring.slots + 1 ∧ ∃ body, Out.ring 0x22 s.dev.ring.seq body ∈ d.out)) ∧
    (s.dev.flag F.RING_STATE_INPUT_UP = true → s.dev.ring.holeSeen = false → s.dev.ring.missRun ≠ 2 → s.dev.ctr C.RING_MISSED < C.RING_MISSED.max →
      answers .slotMissed s (fun d => d.ring.slots = s.dev.ring.slots + 1 ∧ d.ring.missRun = s.dev.ring.missRun + 1 ∧
        d.ctr C.RING_MISSED = s.dev.ctr C.RING_MISSED + 1)) ∧
    (s.dev.flag F.RING_STATE_INPUT_UP = true → s.dev.ring.holeSeen = false → s.dev.ring.missRun = 2 → s.dev.successor = some s.dev.member →
      s.dev.ring.dupAge = none → answers .slotMissed s (fun d => d.getF F.RING_STATE_ROLE = 3 ∧ d.getF F.RING_STATE_LEADER = s.dev.member))) ∧
  (∀ (s : State) (m : LinkMsg), s.dev.ringHears 0x22 m →
    answers (.hole m) s (fun d => d.ring.holeSeen = true ∧
      (leAt m.body 0 1 ≠ s.dev.member → leAt m.body 1 1 ≠ 7 → ∃ body, Out.ring 0x22 s.dev.ring.seq body ∈ d.out))) ∧
  (∀ (s : State) (m : LinkMsg), s.dev.ringHears 0x23 m →
    (leAt m.body 0 1 % 8 ≠ s.dev.member → (∀ x ∈ s.dev.ring.members, x.number = leAt m.body 0 1 % 8 → x.serial = leAt m.body 22 8) →
      answers (.status m) s (fun d => d.getF F.RING_MEMBER_OFFSET_NS (leAt m.body 0 1 % 8) = leAt m.body 14 4 ∧
        d.ring.members.filter (fun x => x.number = leAt m.body 0 1 % 8) =
          [{ number := leAt m.body 0 1 % 8, serial := leAt m.body 22 8, synced := bit (leAt m.body 3 1) 0, fenced := bit (leAt m.body 3 1) 1,
             claim := if bit (leAt m.body 3 1) 2 then some (leAt m.body 18 4) else none }])) ∧
    (leAt m.body 0 1 % 8 = s.dev.member → leAt m.body 22 8 ≠ s.dev.alm.serial → s.dev.ring.dupAge = none → s.dev.ring.memberSlots < 8 →
      answers (.status m) s (fun d => d.ring.dupAge = some 0 ∧ d.ring.claimAt = none))) ∧
  (∀ (s : State) (m : LinkMsg) (i : Nat), s.dev.ringHears 0x24 m → leAt m.body 0 1 % 8 ≠ s.dev.member → i < leAt m.body 2 1 →
    answers (.stats m) s (fun d => ∃ f ∈ d.ring.figs, f.member = leAt m.body 0 1 % 8 ∧ f.mosaic = leAt m.body (8 + 32 * i) 2 ∧
      f.pane = leAt m.body (10 + 32 * i) 1 ∧ f.picture = leAt m.body (16 + 32 * i) 8 ∧ f.sumN = leAt m.body (24 + 32 * i) 8 ∧
      f.planned = leAt m.body (32 + 32 * i) 8))

/-- The memory is laid out in regions, its pseudo-channels serve requests and refresh, and failing units are fenced (R330, R334, R335, R340 to R345,
R347, R349 to R352). Readings of the spec it rests on: log entries 6, 56, 100. -/
def Obligations.MemoryServesRefreshesAndFails : Prop :=
  (∀ (s : State) (c : Ctx) (es : List (Nat × Nat)), s.dev.canRun c (jobMemRegions c es) →
    answers (.memRegions c es) s (fun d => Dev.replied s.dev d c 0x0503 .ok 0 [] ∧
      ∀ (k : Fin 4) (r : Fin 16) (m g : Nat), es[(r : Nat)]? = some (m, g) → s.dev.entryNow r ≠ (m, g) →
        d.getF F.MEM_REGION_MAP_PC_OFF k r = mapOff m ∧ d.getF F.MEM_REGION_MAP_PC_LEN k r = mapLen m ∧ d.getF F.MEM_REGION_MAP_BASE k r = mapBase m ∧
        d.getF F.MEM_REGION_CFG_MASK k r = cfgMask g ∧ d.getF F.MEM_REGION_CFG_ORDER k r = cfgOrder g ∧ d.flag F.MEM_REGION_CFG_PROTECT k r = cfgProtect g ∧
        d.getF F.MEM_REGION_CFG_PURPOSE k r = cfgPurpose g ∧ d.flag F.MEM_REGION_CFG_VALID k r = cfgValid g)) ∧
  (∀ (s : State) (n : Fin 128), s.dev.pcServes n = true → (s.dev.pc n).refreshing = false →
    ((s.dev.pc n).catchup = true ∨ (s.dev.pc n).forced = true ∨ 1 ≤ s.dev.owed n ∧ s.dev.postpones n = false →
      answers (.memoryRequest n []) s (fun d => (d.pc n).refreshing = true ∧ d.hbm = s.dev.hbm)) ∧
    (∀ (q : MemReq) (r : Nat), (s.dev.pc n).catchup = false → (s.dev.pc n).forced = false → s.dev.owed n < 1 ∨ s.dev.postpones n = true →
      s.dev.bestReq n = some q → s.dev.regionAt q.addr = some r →
      (q.data = none → answers (.memoryRequest n []) s (fun d => (d.pc n).issued = (s.dev.pc n).issued ++ [q] ∧ d.hbm = s.dev.hbm)) ∧
      (∀ bs, q.data = some bs → bs.length = 32 → q.addr < 2 ^ 37 →
        answers (.memoryRequest n []) s (fun d => d.hbmBytes (q.addr / 32 * 32) 32 = bs ∧
          (s.dev.regProtect r = false → ∀ a < 2 ^ 37, a < q.addr / 32 * 32 ∨ q.addr / 32 * 32 + 32 ≤ a → d.hbmByte a = s.dev.hbmByte a))))) ∧
  (∀ (s : State) (n : Fin 128) (q : MemReq), s.dev.regionAt q.addr = none → q.data = none →
    answers (.memoryRequest n [q]) s (fun d => Out.sector q.port q.addr [] true ∈ d.out)) ∧
  (∀ (s : State) (n : Fin 128) (q : MemReq) (rest : List MemReq), (s.dev.pc n).issued = q :: rest → s.dev.flag F.MEM_REBUILD_ACTIVE (n / 32) = false →
    (sectorCheck (q.addr / 32 * 32) (s.dev.hbmBytes (q.addr / 32 * 32) 32) = leNat (s.dev.hbmBytes (checkAddr (q.addr / 32 * 32)) 2) →
      answers (.memoryRead n {}) s (fun d => (d.pc n).issued = rest ∧ Out.sector q.port q.addr (s.dev.hbmBytes (q.addr / 32 * 32) 32) false ∈ d.out)) ∧
    (s.dev.regionAt (q.addr / 32 * 32) ≠ none →
      answers (.memoryRead n { uncorrectable := true, rebuildBad := true }) s (fun d => ∃ bs, Out.sector q.port q.addr bs true ∈ d.out))) ∧
  (∀ (s : State) (n : Fin 128), answers (.requestUrgency n) s (fun d => (d.pc n).reqs.length = (s.dev.pc n).reqs.length ∧
    ∀ q ∈ (s.dev.pc n).reqs, s.dev.getF F.MEM_QOS_TARGET (n / 32) q.port ≤ 4 * (s.dev.tick - q.tick) → { q with urg := max q.urg 3 } ∈ (d.pc n).reqs)) ∧
  (∀ (s : State) (n : Fin 128), s.dev.pcServes n = true → s.dev.pressured n = false → s.dev.owedU n < 127 →
    answers (.refreshTick n) s (fun d => d.owedU n = s.dev.owedU n + 1 ∧
      (9 ≤ owedOf (s.dev.pc n).hot (s.dev.owedU n + 1) → (d.pc n).forced = true ∨ (d.pc n).catchup = true))) ∧
  (∀ (s : State) (n : Fin 128), (s.dev.pc n).refreshing = true → -126 ≤ s.dev.owedU n →
    answers (.refreshDone n) s (fun d => (d.pc n).refreshing = false ∧ d.owedU n = s.dev.owedU n - (if (s.dev.pc n).hot then 1 else 2))) ∧
  (∀ (s : State) (k : Fin 4) (reading : Int), answers (.stackTempRead k reading) s (fun d => d.getF F.MEM_TEMP_TJ k = wrapInt 8 reading ∧
    d.flag F.MEM_STATUS_HOT k = s.dev.hotNow k (sext 8 (wrapInt 8 reading)))) ∧
  (∀ (s : State) (n : Fin 128), (s.dev.pc n).hot ≠ s.dev.flag F.MEM_STATUS_HOT (n / 32) →
    answers (.hotStateChange n) s (fun d => (d.pc n).hot = s.dev.flag F.MEM_STATUS_HOT (n / 32) ∧ d.owedU n = s.dev.owedU n)) ∧
  (∀ (s : State) (n : Fin 128), s.dev.pcServes n = true → s.dev.getF F.MEM_PD_CTRL_TIMER (n / 32) ≠ 0 → (s.dev.pc n).reqs = [] → (s.dev.pc n).issued = [] →
    (s.dev.pc n).refreshing = false → s.dev.owed n < 1 → bit (s.dev.getF F.MEM_PC_PD (n / 32)) (n % 32) = false →
    10 * s.dev.getF F.MEM_PD_CTRL_TIMER (n / 32) ≤ 4 * (s.dev.tick - (s.dev.pc n).idleTick) →
    answers (.powerDownEntry n) s (fun d => bit (d.getF F.MEM_PC_PD (n / 32)) (n % 32) = true)) ∧
  (∀ (s : State) (n : Fin 128) (q : MemReq) (rest : List MemReq), (s.dev.pc n).issued = q :: rest → 2500 ≤ s.dev.tick - q.tick → s.dev.fenced 5 n = false →
    answers (.accessTimeout n) s (fun d => d.fenced 5 n = true ∧ (d.pc n).issued = [] ∧ (d.pc n).reqs = [])) ∧
  (∀ (s : State) (k : Fin 4), s.dev.fenced 6 k = false → answers (.phyUnlock k) s (fun d => d.fenced 6 k = true)) ∧
  (∀ (s : State) (n : Fin 128), s.dev.flag F.MEM_REBUILD_ACTIVE (n / 32) = true → s.dev.getF F.MEM_REBUILD_PC (n / 32) = n % 32 →
    answers (.rebuildDone n) s (fun d => d.flag F.MEM_REBUILD_ACTIVE (n / 32) = false ∧ d.getF F.MEM_REBUILD_PROGRESS (n / 32) = 1000))


/-- The audio block's commands configure ports, start and stop streams and latch mutes whose DONE follows the fade (R432, R436, R438, R441). That a
DONE waits for a fade of which no other command awaits the same point is the premise `fadesApart`. Readings of the spec it rests on: log entry 62. -/
def Obligations.AudioCommandsAct : Prop :=
  (∀ (s : State) (c : Ctx) (p : List Byte), s.dev.canRun c (rawJob (jobAudioConfigure c p) p) →
    answers (.audioConfigure c p) s (fun d => Dev.replied s.dev d c 0x0701 .ok 0 [] ∧
      (leAt p 0 1 = 4 → d.getF F.AUDIO_PDM_CTRL_RATE = leAt p 1 1 ∧ d.getF F.AUDIO_PDM_CTRL_CLK_EN = leAt p 2 1 ∧ d.getF F.AUDIO_PDM_CTRL_IN_EN = leAt p 4 2) ∧
      (∀ n < 4, leAt p 0 1 = n → d.getF F.AUDIO_P_CFG_ROLE n = leAt p 1 1 ∧ d.getF F.AUDIO_P_CFG_RATE n = leAt p 2 1 ∧
        (leAt p 1 1 ≠ 0 → d.getF F.AUDIO_P_CFG_SLOTS n = leAt p 3 1) ∧ d.getF F.AUDIO_P_CFG_FS_FORM n = leAt p 4 1 ∧
        d.getF F.AUDIO_P_CFG_DELAY n = leAt p 5 1 ∧ d.getF F.AUDIO_P_CFG_INVERT n = leAt p 6 1 ∧ d.getF F.AUDIO_P_CFG_CLK_SRC n = leAt p 7 1 ∧
        d.getF F.AUDIO_P_RX_MASK_PENDING n = leAt p 8 2 ∧ d.getF F.AUDIO_P_TX_MASK_PENDING n = leAt p 10 2))) ∧
  (∀ (s : State) (c : Ctx) (p : List Byte) (k : Nat), s.dev.canRun c (rawJob (jobAudioRoute c p) p) → s.dev.audio.streams.length = 16 → leAt p 0 1 = k →
    s.dev.fadesApart 2 k 0 →
    (leAt p 1 1 = 0 → answers (.audioRoute c p) s (fun d => d.flag F.AUDIO_STREAM_STARTED k = true ∧ d.getF F.AUDIO_STREAM_RATE k = leAt p 2 1 ∧
      d.getF F.AUDIO_STREAM_COUNT k = leAt p 3 1 ∧ (d.astream k).sources = (List.range (leAt p 3 1)).map (fun i => leAt p (8 + i) 1) ∧
      (d.astream k).lineage = ((s.dev.astream k).lineage + 1) % 2 ^ 32 ∧
      (d.astream k).chans = List.replicate (leAt p 3 1) { gain := 0, on := true, phase := 1, since := s.dev.tick } ∧
      { client := c.client, tag := c.tag, op := 0x0702, kind := 2, index := k } ∈ d.audio.jobs)) ∧
    (leAt p 1 1 = 1 → (s.dev.astream k).chans.any (fun f => f.phase == 2 || f.gain != 0) = true →
      answers (.audioRoute c p) s (fun d => (d.astream k).stopping = true ∧ d.flag F.AUDIO_STREAM_STARTED k = true ∧
        (d.astream k).chans = (s.dev.astream k).chans.map (fun f => f.target false s.dev.tick) ∧
        { client := c.client, tag := c.tag, op := 0x0702, kind := 2, index := k } ∈ d.audio.jobs))) ∧
  (∀ (s : State) (c : Ctx) (kind index slot action : Nat), s.dev.canRun c (jobAudioMute c kind index slot action) → s.dev.audio.mics.length = 32 →
    s.dev.audio.ports.length = 4 → (∀ p < 4, (s.dev.aport p).din.length = 16) → s.dev.audio.streams.length = 16 →
    s.dev.fadesApart kind index slot →
    let on := action == 1 && !(kind == 0 && s.dev.flag F.AUDIO_MIC_STUCK index) && !(kind == 2 && (s.dev.astream index).stopping)
    let after := (s.dev.mutePoints kind index slot).map (fun f => f.target on s.dev.tick)
    answers (.audioMute c kind index slot action) s (fun d => d.mutePoints kind index slot = after ∧
      (kind = 0 → d.flag F.AUDIO_MIC_MUTED index = (action == 0)) ∧ (kind = 2 → d.flag F.AUDIO_STREAM_MUTED index = (action == 0)) ∧
      (after.all (fun f => f.phase == 0) = true → Dev.replied s.dev d c 0x0703 .ok 0 []) ∧
      (after.all (fun f => f.phase == 0) = false →
        { client := c.client, tag := c.tag, op := 0x0703, kind := kind, index := index, slot := slot } ∈ d.audio.jobs)))

/-- Sample frames and TDM frames pass through the fades, microphones stick, clocks are lost, rates are reported and fades time out (R424, R425, R427
to R436, R439). Readings of the spec it rests on: log entries 21, 22, 62, 73. -/
def Obligations.AudioSignalsPass : Prop :=
  (∀ (s : State) (rate : Fin 2) (mics din : List Int) (changed : Nat), s.dev.audioRuns = true → s.dev.audio.mics.length = 32 → s.dev.audio.jobs = [] →
    answers (.sampleFrame rate mics din changed) s (fun d =>
      (s.dev.getF F.AUDIO_PDM_CTRL_RATE = rate → ∀ m < 32,
        let f := ((getAt {} s.dev.audio.mics m : Fade).sample (s.dev.micSample m (getAt 0 mics m)) (rampStep rate)).1
        getAt 0 d.audio.sig m = f.out (s.dev.micSample m (getAt 0 mics m)) ∧ (s.dev.flag F.AUDIO_MIC_STUCK m = false → getAt {} d.audio.mics m = f)) ∧
      (∀ k < 16, s.dev.audio.streams.length = 16 → s.dev.flag F.AUDIO_STREAM_STARTED k = true → s.dev.getF F.AUDIO_STREAM_RATE k = rate →
        (∀ j < 16, j ≠ k → s.dev.flag F.AUDIO_STREAM_STARTED j = false) →
        (d.astream k).inBlock = if (s.dev.astream k).inBlock + 1 = (if rate = 0 then 48 else 96) then 0 else (s.dev.astream k).inBlock + 1))) ∧
  (∀ (s : State) (p : Fin 4) (clocks : Nat), s.dev.audioRuns = true → s.dev.audio.ports.length = 4 → s.dev.getF F.AUDIO_P_CFG_ROLE p ≠ 0 →
    (s.dev.getF F.AUDIO_P_CFG_ROLE p = 1 ∨ clocks = 32 * s.dev.getF F.AUDIO_P_CFG_SLOTS p ∨ (s.dev.aport p).good = 0 →
      answers (.frameStart p clocks) s (fun d => (d.aport p).lastFrame = s.dev.tick ∧ (d.aport p).good = min 64 ((s.dev.aport p).good + 1) ∧
        d.getF F.AUDIO_P_RX_MASK_ACTIVE p = s.dev.getF (if s.dev.maskDue p (s.dev.aport p).rxTick then F.AUDIO_P_RX_MASK_PENDING else F.AUDIO_P_RX_MASK_ACTIVE) p ∧
        d.getF F.AUDIO_P_TX_MASK_ACTIVE p = s.dev.getF (if s.dev.maskDue p (s.dev.aport p).txTick then F.AUDIO_P_TX_MASK_PENDING else F.AUDIO_P_TX_MASK_ACTIVE) p ∧
        (s.dev.ctr C.AUDIO_P_FRAMES p < C.AUDIO_P_FRAMES.max → d.ctr C.AUDIO_P_FRAMES p = s.dev.ctr C.AUDIO_P_FRAMES p + 1) ∧
        ∃ slots, slots.length = s.dev.getF F.AUDIO_P_CFG_SLOTS p ∧ Out.tdm p slots ∈ d.out)) ∧
    (s.dev.getF F.AUDIO_P_CFG_ROLE p ≠ 1 → clocks ≠ 32 * s.dev.getF F.AUDIO_P_CFG_SLOTS p → (s.dev.aport p).good ≠ 0 →
      (s.dev.aport p).glitchPos ≠ clocks ∨ (s.dev.aport p).glitchRun < 2 →
      answers (.frameStart p clocks) s (fun d => (d.aport p).lastFrame = (s.dev.aport p).lastFrame ∧ (d.aport p).glitchPos = clocks ∧
        (s.dev.ctr C.AUDIO_P_GLITCH p < C.AUDIO_P_GLITCH.max → d.ctr C.AUDIO_P_GLITCH p = s.dev.ctr C.AUDIO_P_GLITCH p + 1)))) ∧
  (∀ (s : State) (m : Fin 32), s.dev.audioRuns = true → s.dev.flag F.AUDIO_MIC_STUCK m = false → s.dev.audio.mics.length = 32 →
    answers (.micStuck m) s (fun d => d.flag F.AUDIO_MIC_STUCK m = true ∧ (getAt {} d.audio.mics m : Fade).on = false ∧
      (getAt {} d.audio.mics m : Fade).phase = (if (getAt {} s.dev.audio.mics m : Fade).gain = 0 then 0 else 2) ∧
      (s.dev.ctr C.AUDIO_PDM_STUCK < C.AUDIO_PDM_STUCK.max → d.ctr C.AUDIO_PDM_STUCK = s.dev.ctr C.AUDIO_PDM_STUCK + 1))) ∧
  (∀ (s : State) (p : Fin 4), s.dev.audioRuns = true → s.dev.getF F.AUDIO_P_CFG_ROLE p = 2 → s.dev.flag F.AUDIO_P_STATUS_LOST p = false →
    (s.dev.aport p).good ≠ 0 → 2000000000 ≤ 4 * (s.dev.tick - (s.dev.aport p).lastFrame) * (if s.dev.getF F.AUDIO_P_CFG_RATE p = 0 then 48000 else 96000) →
    answers (.clockLoss p) s (fun d => d.flag F.AUDIO_P_STATUS_LOST p = true ∧ d.flag F.AUDIO_P_STATUS_CLK_GOOD p = false ∧ d.portSilent p = true ∧
      (s.dev.ctr C.AUDIO_P_CLK_LOSS p < C.AUDIO_P_CLK_LOSS.max → d.ctr C.AUDIO_P_CLK_LOSS p = s.dev.ctr C.AUDIO_P_CLK_LOSS p + 1))) ∧
  (∀ s : State, s.dev.getF F.AUDIO_STATUS_AMCLK_STATE = 2 →
    answers (.amclkLoss false) s (fun d => d.getF F.AUDIO_STATUS_AMCLK_STATE = 3 ∧
      (s.dev.ctr C.AUDIO_AMCLK_LOSS < C.AUDIO_AMCLK_LOSS.max → d.ctr C.AUDIO_AMCLK_LOSS = s.dev.ctr C.AUDIO_AMCLK_LOSS + 1)) ∧
    answers (.amclkLoss true) s (fun d => d.getF F.AUDIO_STATUS_AMCLK_STATE = 2 ∧
      (s.dev.ctr C.AUDIO_AMCLK_GLITCH < C.AUDIO_AMCLK_GLITCH.max → d.ctr C.AUDIO_AMCLK_GLITCH = s.dev.ctr C.AUDIO_AMCLK_GLITCH + 1))) ∧
  (∀ (s : State) (p : Fin 4) (mhz : Nat), s.dev.audioRuns = true → s.dev.getF F.AUDIO_P_CFG_ROLE p ≠ 0 → mhz < 2 ^ 32 →
    answers (.rateMeasurement p mhz) s (fun d => d.getF F.AUDIO_P_RATE_MEAS p = mhz ∧
      (∀ l, (s.dev.aport p).meas = l ++ [mhz, mhz, mhz] →
        200 * s.dev.getF F.AUDIO_P_RATE_REP p < 1000000 * ((mhz : Int) - s.dev.getF F.AUDIO_P_RATE_REP p).natAbs →
        d.getF F.AUDIO_P_RATE_REP p = mhz ∧
        (d.flag F.AUDIO_P_STATUS_OFF_RATE p = true ↔
          1000 * (if s.dev.getF F.AUDIO_P_CFG_RATE p = 0 then 48000000 else 96000000) <
            1000000 * ((mhz : Int) - (if s.dev.getF F.AUDIO_P_CFG_RATE p = 0 then 48000000 else 96000000)).natAbs)))) ∧
  (∀ (s : State) (m : Fin 32) (f : Fade), s.dev.audio.mics[(m : Nat)]? = some f → f.phase = 1 → 5000000 ≤ s.dev.tick - f.since →
    answers (.fadeTimeout (.mic m)) s (fun d => getAt {} d.audio.mics m = { f with phase := 2 })) ∧
  (∀ (s : State) (p : Fin 4) (k : Fin 16) (f : Fade), s.dev.audio.ports.length = 4 → (s.dev.aport p).din[(k : Nat)]? = some f → f.phase = 1 →
    5000000 ≤ s.dev.tick - f.since → answers (.fadeTimeout (.din p k)) s (fun d => getAt {} (d.aport p).din k = { f with phase := 2 })) ∧
  (∀ (s : State) (k : Fin 16) (c : Fin 64) (f : Fade), s.dev.audio.streams.length = 16 → (s.dev.astream k).chans[(c : Nat)]? = some f → f.phase = 1 →
    5000000 ≤ s.dev.tick - f.since → answers (.fadeTimeout (.stream k c)) s (fun d => getAt {} (d.astream k).chans c = { f with phase := 2 }))

/-- Preview settings, arrays and the Lantern's position are recorded, to be latched at a start tick (R418, R419). Readings of the spec it rests on:
log entry 61. -/
def Obligations.PreviewCommandsRecord : Prop :=
  (∀ (s : State) (c : Ctx) (p : List Byte), s.dev.canRun c (rawJob (jobPreviewConfigure c p) p) →
    answers (.previewConfigure c p) s (fun d => Dev.replied s.dev d c 0x0801 .ok 0 [] ∧ d.prev = { s.dev.prev with latest := { s.dev.prev.latest with block := p } })) ∧
  (∀ (s : State) (c : Ctx) (p : List Byte), s.dev.canRun c (rawJob (jobLutLoad c p) p) → s.dev.prev.arrays.length = 9 →
    answers (.lutLoad c p) s (fun d => loadedArray s.dev d c 0x0802 (leAt p 0 1) (leAt p 2 2) (entriesFrom p 8 2 (leAt p 4 2)) (bit (leAt p 1 1) 0))) ∧
  (∀ (s : State) (c : Ctx) (p : List Byte), s.dev.canRun c (rawJob (jobScalerLoad c p) p) → s.dev.prev.arrays.length = 9 →
    answers (.scalerLoad c p) s (fun d => loadedArray s.dev d c 0x0803 6 0 (entriesFrom p 8 2 1792) (bit (leAt p 0 1) 0))) ∧
  (∀ (s : State) (c : Ctx) (flags hx hy : Nat), s.dev.canRun c (jobLanternLoad c flags hx hy) → s.dev.prev.arrays.length = 9 →
    (c.rd.fault = none → c.rd.bytes.length = 65536 → answers (.lanternLoad c flags hx hy) s (fun d =>
      loadedArray s.dev d c 0x0804 7 0 (entriesFrom c.rd.bytes 0 4 16384) (bit flags 0) ∧ d.prev.pendHx = hx ∧ d.prev.pendHy = hy)) ∧
    (c.rd.fault ≠ none → answers (.lanternLoad c flags hx hy) s (fun d => Dev.replied s.dev d c 0x0804 .fault 0 [] ∧ (d.array 7).swap = false ∧
      (d.array 7).active = (s.dev.array 7).active))) ∧
  (∀ (s : State) (c : Ctx) (x y : Int) (flags : Nat), s.dev.canRun c (jobLanternMove c x y flags) →
    answers (.lanternMove c x y flags) s (fun d => Dev.replied s.dev d c 0x0805 .ok 0 [] ∧
      d.prev = { s.dev.prev with latest := { s.dev.prev.latest with x := x, y := y, visible := bit flags 0 } })) ∧
  (∀ (s : State) (c : Ctx) (flags row rows : Nat), s.dev.canRun c (jobPlaneLoad c flags row rows) → s.dev.prev.arrays.length = 9 →
    vGfxW s.dev.prev.latest.block ≤ 3840 →
    (c.rd.fault = none → c.rd.bytes.length = rows * vGfxW s.dev.prev.latest.block * 4 → answers (.planeLoad c flags row rows) s (fun d =>
      (∀ r < rows, ∀ x < vGfxW s.dev.prev.latest.block, Cells.get (arrayReset 8) (d.array 8).pending ((row + r) * 3840 + x) =
        leAt c.rd.bytes (4 * (r * vGfxW s.dev.prev.latest.block + x)) 4) ∧ (d.array 8).active = (s.dev.array 8).active ∧
      (d.array 8).swap = bit flags 0 ∧ Dev.replied s.dev d c 0x0806 .ok 0 (leBytes 4 (d.getF F.PREVIEW_ARRAY_CRC 8)))) ∧
    (c.rd.fault ≠ none → answers (.planeLoad c flags row rows) s (fun d => Dev.replied s.dev d c 0x0806 .fault 0 [] ∧ (d.array 8).swap = false ∧
      (d.array 8).active = (s.dev.array 8).active)))

/-- A start tick latches the settings, swaps the banks and chooses the base picture; every line of the picture is then composed and sent (R416, R417,
R420, R421). Readings of the spec it rests on: log entries 61, 102. -/
def Obligations.PreviewPicturesAreProduced : Prop :=
  (∀ s : State, s.dev.phase = .run → 2 ≤ s.dev.mode → s.dev.startDue = true → s.dev.prev.running = false →
    answers .startTick s (fun d => d.prev.running = true ∧ d.prev.line = 0 ∧ d.prev.act.block = s.dev.prev.latest.block ∧ d.prev.act.x = s.dev.prev.latest.x ∧
      d.prev.act.y = s.dev.prev.latest.y ∧ d.prev.act.visible = s.dev.prev.latest.visible ∧ d.prev.act.background = s.dev.getF F.PREVIEW_BACKGROUND ∧
      d.getF F.PREVIEW_LAST_START = s.dev.ns ∧ d.get64 F.PREVIEW_PIC_LO F.PREVIEW_PIC_HI = (s.dev.get64 F.PREVIEW_PIC_LO F.PREVIEW_PIC_HI + 1) % 2 ^ 64 ∧
      (∀ (k : Nat) (a : ArrayBank), s.dev.prev.arrays[k]? = some a →
        d.prev.arrays[k]? = some (if a.swap then { a with active := a.pending, swap := false } else a)) ∧
      d.prev.base = ({ s.dev with prev := { s.dev.prev with act := s.dev.prev.latest } } : Dev).chooseBase)) ∧
  (∀ (s : State) (ready : Bool) (poison : List Nat), s.dev.phase = .run → 2 ≤ s.dev.mode → s.dev.prev.running = true → s.dev.lineDue s.dev.prev.line = true →
    (s.dev.prev.base.isSome = true → s.dev.baseSrc.isSome = true) →
    answers (.previewLine ready poison) s (fun d => d.prev.line = s.dev.prev.line + 1 ∧
      d.prev.running = decide (s.dev.prev.line + 1 < vOutH s.dev.prev.act.block) ∧
      (bit (vFlags s.dev.prev.act.block) 0 = true → s.dev.fenced 11 13 = false →
        let pic := s.dev.get64 F.PREVIEW_PIC_LO F.PREVIEW_PIC_HI
        Out.line pic s.dev.prev.line (previewPacket (vId s.dev.prev.act.block) pic s.dev.prev.line
          (line422 2 (s.dev.composeLine s.dev.baseSrc s.dev.prev.line poison))) ∈ d.out)))

/-- Decode contexts are opened, fed and closed by command (R258 to R260, R267, R273 to R275). Readings of the spec it rests on: log entries 20, 60. -/
def Obligations.DecodeCommandsAct : Prop :=
  (∀ (s : State) (c : Ctx) (p : List Byte), s.dev.canRun c (rawJob (jobDecodeOpen c p) p) →
    answers (.decodeOpen c p) s (fun d => Dev.replied s.dev d c 0x0B01 .ok 0 [] ∧ d.hasCtx (leAt p 0 1) (fun y =>
      y.kind = leAt p 1 1 ∧ y.flags = leAt p 3 1 ∧ y.fill = 0 ∧ y.ended = false ∧ y.pic = none ∧ y.counts = List.replicate 12 0 ∧
      (leAt p 1 1 = 0 → y.maxW = leAt p 4 2 ∧ y.maxH = leAt p 6 2 ∧ y.profile = leAt p 8 1 ∧ y.slots = leAt p 9 1 ∧ y.outSlots = leAt p 10 1 ∧ y.ringKib = leAt p 16 4) ∧
      (leAt p 1 1 = 1 → y.channel = leAt p 2 1 ∧ y.sample = leAt p 11 1 ∧ y.window = leAt p 12 1 ∧ y.maxW = pWidth (s.dev.chan (leAt p 2 1)).params ∧
        y.maxH = pHeight (s.dev.chan (leAt p 2 1)).params)))) ∧
  (∀ (s : State) (c : Ctx) (p : List Byte) (x : DecCtx), s.dev.canRun c (rawJob (jobDecodeFeed c p) p) → assoc s.dev.decs (leAt p 0 1) = some x →
    let n := leAt p 4 4
    let free := fun (got : Nat) => leBytes 4 (x.ringKib * 1024 - (x.fill + got))
    (n = 0 → bit (leAt p 1 1) 0 = false ∨ x.ended = true ∨ x.kind = 1 →
      answers (.decodeFeed c p) s (fun d => Dev.replied s.dev d c 0x0B02 .ok 0 x.record ∧ assoc d.decs (leAt p 0 1) = some x)) ∧
    (n ≠ 0 → bit (leAt p 1 1) 0 = false → c.rd.fault = none → answers (.decodeFeed c p) s (fun d =>
      Dev.replied s.dev d c 0x0B02 .ok 0 (leBytes 4 n ++ free n) ∧ d.hasCtx (leAt p 0 1) (fun y => y.fill = x.fill + n ∧ y.atEnd = x.atEnd))) ∧
    (n ≠ 0 ∨ (x.ended = false ∧ x.kind ≠ 1 ∧ x.fill ≠ 0) → bit (leAt p 1 1) 0 = true → c.rd.fault = none → answers (.decodeFeed c p) s (fun d =>
      d.hasCtx (leAt p 0 1) (fun y => y.fill = x.fill + n ∧ y.atEnd = true ∧ y.feedEnd = some c ∧ y.promised = n))) ∧
    (n ≠ 0 → c.rd.fault ≠ none → let got := min n (c.rd.bytes.length / 64 * 64)
      answers (.decodeFeed c p) s (fun d => Dev.replied s.dev d c 0x0B02 .fault 0 (leBytes 4 got ++ free got) ∧
        d.hasCtx (leAt p 0 1) (fun y => y.fill = x.fill + got)))) ∧
  (∀ (s : State) (c : Ctx) (k : Nat) (x : DecCtx), s.dev.canRun c (jobDecodeClose c k) → assoc s.dev.decs k = some x →
    answers (.decodeClose c k) s (fun d => assoc d.decs k = none ∧ assoc d.winTabs (128 + k) = none ∧
      d.tasks.filter (fun t => t.kind = 1 ∧ t.chan = k) = [] ∧
      (s.dev.tasks.filter (fun t => t.kind = 1 ∧ t.chan = k) = [] → x.feedEnd = none → Dev.replied s.dev d c 0x0B03 .ok 0 x.record)))

/-- Entropy units parse what stands in the rings, decode tasks commit rows, and work that is too long or too late is abandoned (R261 to R267, R269 to
R271, R275). Readings of the spec it rests on: log entry 60. -/
def Obligations.StreamsAreDecoded : Prop :=
  (∀ (s : State) (k : Fin 16) (item : ParseItem) (used cycles u : Nat) (x : DecCtx), s.dev.parses k u x item used →
    answers (.entropyParse k item used cycles) s (fun d => d.hasCtx k (fun y => y.fill = x.fill - used) ∧
      (x.feedEnd = none → d.getF F.DECODE_STATE_CONTEXT u = k))) ∧
  (∀ (s : State) (k : Fin 16) (t used cycles u : Nat) (x : DecCtx) (c : Ctx), s.dev.parses k u x (.nal t) used → x.pic = none → x.feedEnd = some c →
    c.client < 64 → x.fill = used → x.promised ≠ 0 →
    answers (.entropyParse k (.nal t) used cycles) s (fun d => d.hasCtx k (fun y => y.feedEnd = none) ∧
      Dev.replied s.dev d c 0x0B02 .ok 0 (leBytes 4 x.promised ++ leBytes 4 (x.ringKib * 1024)))) ∧
  (∀ (s : State) (k : Fin 16) (f : SpsFacts) (used cycles u : Nat) (x : DecCtx), s.dev.parses k u x (.sps f) used → x.pic = none →
    answers (.entropyParse k (.sps f) used cycles) s (fun d => d.hasCtx k (fun y => y.refused = !(x.accepts f)))) ∧
  (∀ (s : State) (k : Fin 16) (rows missing used cycles u : Nat) (irap sync : Bool) (x : DecCtx), s.dev.parses k u x (.picture rows irap missing sync) used →
    x.pic = none → x.kind = 0 → (x.out.filter (fun n => x.shown ≠ some n)).length < x.outSlots →
    (x.refused = false → x.waitIrap = false ∨ irap = true → answers (.entropyParse k (.picture rows irap missing sync) used cycles) s (fun d =>
      d.hasCtx k (fun y => y.waitIrap = false ∧ y.nextNumber = x.nextNumber + 1 ∧ y.pic = some { number := x.nextNumber, rows := rows, sync := sync }))) ∧
    (x.refused = true ∨ (x.waitIrap = true ∧ irap = false) → x.counts.length = 12 → getAt 0 x.counts 6 + 1 < 2 ^ 48 →
      answers (.entropyParse k (.picture rows irap missing sync) used cycles) s (fun d =>
        d.hasCtx k (fun y => y.pic = none ∧ getAt 0 y.counts 6 = getAt 0 x.counts 6 + 1)))) ∧
  (∀ (s : State) (k : Fin 16) (r used cycles u : Nat) (segment : Bool) (x : DecCtx) (p : DecPic), s.dev.parses k u x (.row r segment) used → x.pic = some p →
    r < p.rows → p.parsed.contains r = false → p.done.contains r = false → (r = 0 ∨ p.parsed.contains (r - 1) = true ∨ p.done.contains (r - 1) = true) →
    (s.dev.unitEngine u).isSome = true →
    answers (.entropyParse k (.row r segment) used cycles) s (fun d => (∃ t ∈ d.tasks, t.kind = 1 ∧ t.chan = k ∧ t.row = r ∧ t.pic = p.number) ∧
      d.hasCtx k (fun y => y.pic = some { p with parsed := p.parsed ++ [r], units := p.units ++ [(r, u)] }))) ∧
  (∀ (s : State) (k : Fin 16) (cls : ParseError) (rows : List Nat) (used cycles u : Nat) (x : DecCtx), s.dev.parses k u x (.error cls rows) used →
    let i := match cls with | .syntaxError => 2 | .truncated => 3
    x.counts.length = 12 → getAt 0 x.counts i + 1 < 2 ^ 48 →
    answers (.entropyParse k (.error cls rows) used cycles) s (fun d => d.hasCtx k (fun y => getAt 0 y.counts i = getAt 0 x.counts i + 1 ∧
      ∀ p q, x.pic = some p → y.pic = some q → q = p.conceal (rows.filter (fun r => decide (r < p.rows)))))) ∧
  (∀ (s : State) (e : Fin 128) (xlat : Bool) (digest cycles : Nat) (t : Task) (x : DecCtx) (p : DecPic), s.dev.runOf e = some t → t.kind = 1 → t.saving = false →
    assoc s.dev.decs t.chan = some x → x.pic = some p → p.number = t.pic → p.done.contains t.row = false →
    answers (.decodeRowCommit e xlat digest cycles) s (fun d => (∀ t' ∈ d.tasks, t'.token ≠ t.token) ∧
      ((∃ r < p.rows, r ≠ t.row ∧ p.done.contains r = false) →
        d.hasCtx t.chan (fun y => y.pic = some { p with done := t.row :: p.done, xlat := p.xlat || xlat })) ∧
      ((∀ r < p.rows, r = t.row ∨ p.done.contains r = true) → p.expect = none → x.counts.length = 12 → getAt 0 x.counts 0 + 1 < 2 ^ 48 →
        d.hasCtx t.chan (fun y => y.pic = none ∧ getAt 0 y.counts 0 = getAt 0 x.counts 0 + 1 ∧
          (x.kind = 0 → x.ended = false → bit x.flags 1 = true → y.out = x.out.filter (fun n => x.shown ≠ some n) ++ [p.number]))))) ∧
  (∀ (s : State) (u k : Fin 16) (x : DecCtx), assoc s.dev.decs k = some x → x.counts.length = 12 → getAt 0 x.counts 4 + 1 < 2 ^ 48 →
    answers (.budgetExpiry u k .header) s (fun d => d.hasCtx k (fun y => y = { x with counts := setAt x.counts 4 (getAt 0 x.counts 4 + 1) }) ∧
      (s.dev.ctr C.DECODE_BUDGET_ERR u < C.DECODE_BUDGET_ERR.max → d.ctr C.DECODE_BUDGET_ERR u = s.dev.ctr C.DECODE_BUDGET_ERR u + 1)) ∧
    ∀ (rows : List Nat) (p : DecPic), x.pic = some p → (∃ r < p.rows, p.done.contains r = false ∧ (rows.contains r = false ∨ p.parsed.contains r = true)) →
      answers (.budgetExpiry u k (.ctu rows)) s (fun d => d.hasCtx k (fun y => y =
        { x with counts := setAt x.counts 4 (getAt 0 x.counts 4 + 1), pic := some (p.conceal (rows.filter (fun r => decide (r < p.rows)))) }))) ∧
  (∀ (s : State) (u k : Fin 16) (e : Fin 128) (t : Task), (assoc s.dev.decs k).isSome = true → s.dev.runOf e = some t → t.kind = 1 → t.chan = k →
    s.dev.fenced 3 e = false → answers (.budgetExpiry u k (.task e)) s (fun d => d.fenced 3 e = true)) ∧
  (∀ (s : State) (k : Fin 16) (x : DecCtx) (o : RetainedAu) (rest : List RetainedAu), assoc s.dev.decs k = some x → x.kind = 1 → x.pic = none →
    x.retained = o :: rest → o.left = 0 → x.passOver = 0 → x.waitIrap = false ∨ x.counting = true → x.counts.length = 12 → getAt 0 x.counts 11 + 1 < 2 ^ 48 →
    answers (.retentionExpiry k) s (fun d => d.hasCtx k (fun y => y = { x with
      retained := rest, waitIrap := true, counting := true, counts := setAt x.counts 11 (getAt 0 x.counts 11 + 1) })))

/-! ### The block as a whole -/

/-- A step runs the command at the front of the queue, on a state whose queue holds what is left. Readings of the spec it rests on: log entries 1, 3. -/
def Obligations.AStepRunsTheFrontCommand : Prop :=
  ∀ (i : Instr) (s : State), step { s with pending := i :: s.pending } = exec i s

/-- With no command waiting a step is one tick of 4 ns: the timebase takes TB.INC, WRAPS the carry (R394, R395). That an idle step is a tick is the
model's choice (log entry 2). Readings of the spec it rests on: log entries 2, 28. -/
def Obligations.AnIdleStepIsATick : Prop :=
  ∀ s : State, s.pending = [] → ∃ t : State, step s = .next t ∧ t.pending = [] ∧ t.dev.tick = s.dev.tick + 1 ∧
    (s.dev.phase = .run →
      let acc := s.dev.getF F.TB_NS * 2 ^ 24 + s.dev.time.frac + s.dev.getF F.TB_INC
      t.dev.getF F.TB_NS = acc / 2 ^ 24 % 2 ^ 32 ∧ t.dev.time.frac = acc % 2 ^ 24 ∧
      (acc < 2 ^ 56 → t.dev.getF F.TB_WRAP_WRAPS = s.dev.getF F.TB_WRAP_WRAPS) ∧
      (2 ^ 56 ≤ acc → t.dev.getF F.TB_WRAP_WRAPS = (s.dev.getF F.TB_WRAP_WRAPS + 1) % 2 ^ 16))

/-- Every command answers a next state in every state, and leaves the commands behind it waiting. Readings of the spec it rests on: log entry 69. -/
def Obligations.EveryCommandAnswers : Prop :=
  ∀ (i : Instr) (s : State), ∃ t : State, exec i s = .next t ∧ t.pending = s.pending

/-- After reset nothing waits, the tables list nothing that an unlisted key reads as, and what follows from the state agrees with it. Readings of the
spec it rests on: log entry 25. -/
def Obligations.ResetIsSettled : Prop := State.reset.pending = [] ∧ State.reset.dev.wf = true ∧ State.reset.Settled ∧ State.reset.dev.phase = .coldReset

/-- Hardware reset values of every group of registers (R8, R9 and the register tables). Readings of the spec it rests on: log entry 26. -/
def Obligations.ResetGivesTheHardwareValues : Prop :=
  let d := State.reset.dev
  (d.getF F.KEEPER_MODE_MODE = 0 ∧ d.flag F.KEEPER_MODE_BUSY = true ∧ d.getF F.KEEPER_MODE_BOOT_TARGET = 1 ∧ d.flag F.KEEPER_RESET_CAUSE_COLD = true) ∧
  (d.getF F.CMD_CTRL_INFLIGHT_LIMIT = 64 ∧ d.flag F.CMD_CTRL_SPI_EN = true ∧ d.getF F.CMD_JOURNAL_FREE = 16384 ∧
    ∀ n < 64, d.getF F.CMD_Q_CTRL_SQ_LOG2 n = 4 ∧ d.getF F.CMD_Q_CTRL_RQ_LOG2 n = 5) ∧
  (∀ b < 16, d.getF F.BUNDLE_CFG_LANE_EN b = 0xFF ∧ d.getF F.BUNDLE_CFG_PAR_LANE b = 7 ∧ d.getF F.BUNDLE_CFG_MAX_RATE b = 3 ∧
    d.getF F.BUNDLE_FIFO_CTRL_HIGH_WM b = 96 ∧ d.getF F.BUNDLE_FIFO_CTRL_LOW_WM b = 32 ∧ d.flag F.BUNDLE_FIFO_STATUS_HOLD b = true) ∧
  (∀ e < 128, d.getF F.ENG_STATE_CLUSTER e = e / 16 ∧ d.getF F.ENG_STATE_DIE e = e / 64 ∧ d.getF F.ENG_TASK_KIND e = 3 ∧ d.getF F.ENG_SHED_E_CAP e = 15) ∧
  (∀ c < 8, d.getF F.DISPATCH_TIMERS_STEAL_DLY c = 20 ∧ d.getF F.DISPATCH_TIMERS_XSTEAL_DLY c = 200 ∧ d.getF F.DISPATCH_RESCUE_MARGIN_US c = 50) ∧
  (d.getF F.TWIN_TIMERS_REVERT_S = 10 ∧ d.getF F.TWIN_TIMERS_HOLD = 20 ∧ d.flag F.RING_STATE_BYPASS = true) ∧
  (∀ k < 4, d.getF F.MEM_CTRL_WQ_DRAIN k = 24 ∧ d.getF F.MEM_REFRESH_TREFI_NS k = 3900 ∧ d.getF F.MEM_PD_CTRL_TIMER k = 100) ∧
  (d.flag F.XLAT_CTRL_PREEMPT_EN = true ∧ ∀ p < 2, d.flag F.ETH_CTRL_EN p = true ∧ d.getF F.ETH_PTP_CFG_DOMAIN p = 127) ∧
  (d.getF F.TB_INC = 0x04000000 ∧ d.getF F.TB_HOLD_INC = 0x04000000 ∧ d.getF F.TB_INC_LIMIT_PPM = 100 ∧ d.getF F.TB_REF_NOM = 1000000000) ∧
  (d.getF F.AUDIO_FADE_TIMEOUT_US = 20000 ∧ d.getF F.AUDIO_FADE_RAMP_US = 1000 ∧ ∀ p < 4, d.getF F.AUDIO_P_TX_SRC_0 p = 0xFEFEFEFE) ∧
  (d.getF F.PWR_CTRL_GUARD = 20 ∧ d.getF F.PWR_BE_OFF = 200000 ∧ (∀ n < 183, d.getF F.PWR_DOM_STATE n = 3) ∧
    (∀ r < 3, d.getF F.CLK_QCFG_QUAL_PPM r = 100) ∧ d.flag F.THERM_CTRL_THROTTLE_EN = true ∧ d.getF F.PERTURB_KEY_ID = 0xFFFF)

/-- Every step leaves the registers and pins that follow from the state in agreement with it, and the event log within its capacity (R77, R80, R304,
R396, R482). Readings of the spec it rests on: log entries 25, 29. -/
def Obligations.EveryStepSettlesTheState : Prop :=
  ∀ s t : State, s.Settled → step s = .next t → t.Settled

/-- Every step keeps the register file, the flash, the staging area and the HBM in canonical form. Readings of the spec it rests on: log entries 6,
25, 26. -/
def Obligations.EveryStepKeepsTheTablesCanonical : Prop :=
  ∀ s t : State, s.dev.wf = true → step s = .next t → t.dev.wf = true

/-- ALERT_N is asserted outside every reset exactly while an SPI reply is pending or an event of vector 64 is unread (R80): an enabled bit of KEEPER's
or PREVIEW's INT_STATUS, the event log's own bit, or a bit that raised the vector and is still set; and a bit that is unread after a step and stays
set is unread after the next, whatever INT_EN then holds. -/
def Obligations.AlertMirrorsRepliesAndEvents : Prop :=
  ∀ (i : Instr) (s t : State), exec i s = .next t → (t.dev.alert = true ↔
    (t.dev.phase = .run ∨ t.dev.phase = .startHold ∨ t.dev.phase = .stopped) ∧
    (t.dev.spiOut ≠ [] ∨ t.dev.getF F.KEEPER_INT_STATUS &&& (t.dev.getF F.KEEPER_INT_EN ||| 8 ||| t.dev.unread.1) ≠ 0 ∨
      t.dev.getF F.PREVIEW_INT_STATUS &&& (t.dev.getF F.PREVIEW_INT_EN ||| t.dev.unread.2) ≠ 0)) ∧
    (t.dev.getF F.KEEPER_INT_STATUS &&& (t.dev.getF F.KEEPER_INT_EN ||| 8)) &&& t.dev.unread.1 =
      t.dev.getF F.KEEPER_INT_STATUS &&& (t.dev.getF F.KEEPER_INT_EN ||| 8)

/-- An access outside every valid region is not performed: a read returns poison, a write is discarded, and FAULT records kind 4, the port and the
address. Readings of the spec it rests on: log entry 56. -/
def Obligations.AccessesOutsideEveryRegionAreNotPerformed : Prop :=
  ∀ (s : State) (n : Fin 128) (q : MemReq), s.dev.regionAt q.addr = none → q.addr < 2 ^ 37 → (s.dev.pc n).reqs = [] →
    answers (.memoryRequest n [q]) s (fun d => d.hbm = s.dev.hbm ∧ (q.data = none → Out.sector q.port q.addr [] true ∈ d.out) ∧
      d.getF F.MEM_FAULT_KIND (n / 32) = 4 ∧ d.getF F.MEM_FAULT_PORT (n / 32) = q.port ∧
      d.getF F.MEM_FAULT_ADDR_LO (n / 32) + 2 ^ 32 * d.getF F.MEM_FAULT_ADDR_HI (n / 32) = q.addr)

/-- TIME-SET-INCREMENT writes TB.INC, and completes with BUSY when STEER is not 0, else with BAD_PARAM when the value lies outside the limit of R396:
4 ns × 2^24 give or take INC_LIMIT.PPM millionths of it. -/
def Obligations.TimeSetIncrementWritesTheIncrement : Prop :=
  ∀ (s : State) (c : Ctx) (inc : Nat), s.dev.serving = true → s.dev.mode ∈ notStandby → c.client < 64 →
    let off : Int := (inc : Int) - 2 ^ 26
    (s.dev.getF F.TB_STATUS_STEER = 0 → 1000000 * off.natAbs ≤ s.dev.getF F.TB_INC_LIMIT_PPM * 2 ^ 26 → inc < 2 ^ 32 →
      answers (.timeSetIncrement c inc) s (fun d => Dev.replied s.dev d c 0x0602 .ok 0 [] ∧ d.getF F.TB_INC = inc)) ∧
    (s.dev.getF F.TB_STATUS_STEER ≠ 0 →
      answers (.timeSetIncrement c inc) s (fun d => Dev.replied s.dev d c 0x0602 .busy 0x08 [] ∧ d.getF F.TB_INC = s.dev.getF F.TB_INC)) ∧
    (s.dev.getF F.TB_STATUS_STEER = 0 → s.dev.getF F.TB_INC_LIMIT_PPM * 2 ^ 26 < 1000000 * off.natAbs →
      answers (.timeSetIncrement c inc) s (fun d => Dev.replied s.dev d c 0x0602 .badParam 0x08 [] ∧ d.getF F.TB_INC = s.dev.getF F.TB_INC))

/-- EXPECT reaches the low half of a unit's expected value while EXP_SEL is 0 and the high half while it is 1, in writing and in reading, and both may
be written before FINISH. -/
def Obligations.ExpectReachesTheHalfThatExpSelNames : Prop :=
  ∀ (s : State) (p : Path) (u : Fin 8) (v : Nat), s.dev.awake → u ≠ 7 → s.dev.crcExpect.length = 8 →
    let half := fun (d : Dev) => if d.flag F.CRC_CTRL_EXP_SEL u then d.crcExpected u / 2 ^ 32 % 2 ^ 32 else d.crcExpected u % 2 ^ 32
    answers (.registerWrite p (F.CRC_EXPECT.addr u 0) v 15) s (fun d => d.flag F.CRC_CTRL_EXP_SEL u = s.dev.flag F.CRC_CTRL_EXP_SEL u ∧
      d.crcExpected u = (if s.dev.flag F.CRC_CTRL_EXP_SEL u then s.dev.crcExpected u % 2 ^ 32 + 2 ^ 32 * (v % 2 ^ 32)
        else v % 2 ^ 32 + 2 ^ 32 * (s.dev.crcExpected u / 2 ^ 32)) ∧ d.getF F.CRC_EXPECT u = half d) ∧
    (bit v 4 = false → bit v 5 = false → answers (.registerWrite p (F.CRC_CTRL_POLY.addr u 0) v 15) s (fun d =>
      d.flag F.CRC_CTRL_EXP_SEL u = bit v 6 ∧ d.crcExpected u = s.dev.crcExpected u ∧ d.getF F.CRC_EXPECT u = half d))

/-- Only SET-MODE, the boot-target step of start-up, a reset and thermal shutdown change the mode, and no register write does. What starts an accepted
command or ends a flash operation changes it only where a SET-MODE waits. -/
def Obligations.OnlySetModeStartsResetsAndShutdownChangeTheMode : Prop :=
  ∀ (i : Instr) (s t : State), exec i s = .next t →
    (match i with
      | .setMode .. | .modeTransitionEnd .. | .engineGroupPower .. | .startUp .. | .thermalRestart .. | .thermalHoldEnd .. | .coldReset .. | .coldPowerLoss ..
      | .pwrokFall .. | .wrstN .. | .warmResetEntry .. | .warmResume .. | .thermalShutdown .. | .firmwareTrip .. => False
      | .commandStart .. => ∀ e ∈ s.dev.journal, e.opcode ≠ 0x0002
      | .flashOperationDone .. => s.dev.modeWait = []
      | _ => True) → t.dev.mode = s.dev.mode

/-- A command that comes while none are served leaves the block as it was; one in a mode not its own is turned away with WRONG_MODE and has no effect
beyond its reply (R65 steps 7 and 8); one whose checks fail gets the status that they give. Readings of the spec it rests on: log entries 34, 69. -/
def Obligations.CommandsAreTurnedAway : Prop :=
  ∀ (i : Instr) (s : State) (c : Ctx) (j : CmdJob), carried i = some (c, j) →
    (s.dev.serving = false → exec i s = .next { s with dev := s.dev.settle }) ∧
    (s.dev.serving = true → c.client < 64 → (j.modes s.dev).contains s.dev.mode = false →
      answers i s (fun d => Dev.replied s.dev d c j.op .wrongMode 0x07 [] ∧ (∀ p, p ≠ .transport → s.dev.keeps d p))) ∧
    (∀ (st : Status) (detail : Nat), s.dev.serving = true → c.client < 64 → (j.modes s.dev).contains s.dev.mode = true → j.chk s.dev = some (st, detail) →
      (j.data s.dev).length ≤ 96 → answers i s (fun d => Dev.replied s.dev d c j.op st detail (j.data s.dev)))

/-- What commands leave of memory, flash, the Almanac, and the life of the device: everything but what `changes` lists for them. Readings of the spec
it rests on: log entry 29. -/
def Obligations.CommandsLeaveStoresAndLifecycle : Prop :=
  ∀ (i : Instr) (s t : State), exec i s = .next t →
    ∀ p ∈ [Part.memory, .pseudoChannels, .flash, .staging, .settings, .lifecycle, .modeJobs, .life, .windowTables], p ∉ changes i → s.dev.keeps t.dev p

/-- What commands leave of lanes, bundles, channels, engines, the twin and the ring. Readings of the spec it rests on: log entry 29. -/
def Obligations.CommandsLeaveVideoAndLinks : Prop :=
  ∀ (i : Instr) (s t : State), exec i s = .next t →
    ∀ p ∈ [Part.lanes, .bundles, .channels, .engines, .twin, .ring, .fences], p ∉ changes i → s.dev.keeps t.dev p

/-- What commands leave of the transport, the network, records, decoding, preview, audio, time, power and the test blocks. Readings of the spec it
rests on: log entry 29. -/
def Obligations.CommandsLeaveStreamsAndServices : Prop :=
  ∀ (i : Instr) (s t : State), exec i s = .next t →
    ∀ p ∈ [Part.transport, .network, .records, .decoding, .preview, .audio, .time, .thermal, .power, .perturb, .checks, .shadows],
      p ∉ changes i → s.dev.keeps t.dev p

/-- Every register outside the blocks that `regBlocks` lists for a command stays, those apart that follow the state. Readings of the spec it rests on:
log entry 26. -/
def Obligations.CommandsLeaveOtherRegisters : Prop :=
  ∀ (i : Instr) (s t : State) (bs : List Block), i.wf = true → regBlocks i = some bs → exec i s = .next t → s.dev.keepsRegs t.dev bs

/-- An event enters the log with the next SEQ; a full log discards its oldest record and EVLOG_DROPPED counts it; vector 64 is signalled (R482).
Readings of the spec it rests on: log entry 15. -/
def Obligations.EventsAreLogged : Prop :=
  ∀ (d : Dev) (b : Block) (code inst arg0 arg1 unitKind flags : Nat), d.evlog.length ≤ evCapacity →
    d.get64 F.KEEPER_EVLOG_SEQ_LO F.KEEPER_EVLOG_SEQ_HI + 2 < 2 ^ 64 →
    let e := d.logEvent b code inst arg0 arg1 unitKind flags
    e.evlog.length = min evCapacity (d.evlog.length + 1) ∧ bit (e.getF F.KEEPER_INT_STATUS) 3 = true ∧ Out.msix 64 ∈ e.out ∧
    (d.evlog.length < evCapacity → e.evlog = evInsert (d.evRec b code inst flags unitKind arg0 arg1) d.evlog ∧
      e.get64 F.KEEPER_EVLOG_SEQ_LO F.KEEPER_EVLOG_SEQ_HI = d.get64 F.KEEPER_EVLOG_SEQ_LO F.KEEPER_EVLOG_SEQ_HI + 1 ∧
      e.getF F.KEEPER_EVLOG_DROPPED = d.getF F.KEEPER_EVLOG_DROPPED) ∧
    (d.evlog.length = evCapacity → d.getF F.KEEPER_EVLOG_DROPPED + 1 < 2 ^ 32 → e.getF F.KEEPER_EVLOG_DROPPED = d.getF F.KEEPER_EVLOG_DROPPED + 1)

/-- Every counter outside KEEPER counts up to all-ones, stays there with its SAT flag set and one COUNTER_SAT event logged, and then changes and logs
nothing more (R125, R486, R488). Readings of the spec it rests on: log entry 15. -/
def Obligations.CountersSaturate : Prop :=
  ∀ r ∈ ctrRows, r.block ≠ .keeper → ∀ (d : Dev) (i j n : Nat), i < r.n1 → j < r.n2 → d.evlog.length + 2 ≤ evCapacity →
    (d.ctr r.ctr i j + n ≤ r.ctr.max → (d.count r.ctr i j n).ctr r.ctr i j = d.ctr r.ctr i j + n ∧ (d.count r.ctr i j n).evlog = d.evlog) ∧
    (r.ctr.max < d.ctr r.ctr i j + n → d.ctrSat r.ctr i j = true → d.count r.ctr i j n = d) ∧
    (r.ctr.max < d.ctr r.ctr i j + n → d.ctrSat r.ctr i j = false →
      (d.count r.ctr i j n).ctr r.ctr i j = r.ctr.max ∧ (d.count r.ctr i j n).ctrSat r.ctr i j = true ∧
      ∃ e ∈ (d.count r.ctr i j n).evlog, e.code = 0xF2 ∧ e.arg0 = r.ctr.lo.addr i j ∧ e.tick = d.tick)
end

