-- ==== Sys2Proof/Laws/Cells.lean ====
section
/-! SUPPORT. Laws of the sparse tables: what reads after a write, and that writes keep the canonical form. -/
namespace Sys2Proof

theorem Cells.get_erase_same {α : Type} (f : Nat → α) (l : List (Nat × α)) (k : Nat) :
    Cells.get f (Cells.erase l k) k = f k := by
  induction l with
  | nil => rfl
  | cons x r ih =>
    obtain ⟨a, v⟩ := x
    by_cases h : a = k <;> simp [Cells.erase, Cells.get, h, ih]

theorem Cells.get_erase_other {α : Type} (f : Nat → α) (l : List (Nat × α)) {k k' : Nat} (h : k' ≠ k) :
    Cells.get f (Cells.erase l k) k' = Cells.get f l k' := by
  induction l with
  | nil => rfl
  | cons x r ih =>
    obtain ⟨a, v⟩ := x
    by_cases ha : a = k
    · subst ha
      simp [Cells.erase, Cells.get, ih, Ne.symm h]
    · by_cases hk : a = k' <;> simp [Cells.erase, Cells.get, ha, hk, ih]
      subst hk; simp [ha, Cells.get]

theorem Cells.get_insert_same {α : Type} (f : Nat → α) (l : List (Nat × α)) (k : Nat) (v : α) :
    Cells.get f (Cells.insert l k v) k = v := by
  induction l with
  | nil => simp [Cells.insert, Cells.get]
  | cons x r ih =>
    obtain ⟨a, w⟩ := x
    by_cases h1 : k < a
    · simp [Cells.insert, Cells.get, h1]
    · by_cases h2 : a = k <;> simp [Cells.insert, Cells.get, h1, h2, ih]

theorem Cells.get_insert_other {α : Type} (f : Nat → α) (l : List (Nat × α)) {k k' : Nat} (v : α) (h : k' ≠ k) :
    Cells.get f (Cells.insert l k v) k' = Cells.get f l k' := by
  induction l with
  | nil => simp [Cells.insert, Cells.get, Ne.symm h]
  | cons x r ih =>
    obtain ⟨a, w⟩ := x
    by_cases h1 : k < a
    · simp [Cells.insert, Cells.get, h1, Ne.symm h]
    · by_cases h2 : a = k
      · subst h2; simp [Cells.insert, Cells.get, Ne.symm h]
      · by_cases h3 : a = k'
        · subst h3; simp [Cells.insert, Cells.get, h1, h2]
        · simp [Cells.insert, Cells.get, h1, h2, h3, ih]

/-- A cell reads the value just written. -/
@[simp] theorem Cells.get_set_same {α : Type} [DecidableEq α] (f : Nat → α) (l : List (Nat × α)) (k : Nat) (v : α) :
    Cells.get f (Cells.set f l k v) k = v := by
  unfold Cells.set
  split
  · rename_i h; rw [Cells.get_erase_same, h]
  · exact Cells.get_insert_same f l k v

/-- A write leaves every other cell alone. -/
theorem Cells.get_set_other {α : Type} [DecidableEq α] (f : Nat → α) (l : List (Nat × α)) {k k' : Nat} (v : α) (h : k' ≠ k) :
    Cells.get f (Cells.set f l k v) k' = Cells.get f l k' := by
  unfold Cells.set
  split
  · exact Cells.get_erase_other f l h
  · exact Cells.get_insert_other f l v h

theorem Cells.above_mono {α : Type} {l : List (Nat × α)} {j k : Nat} (h : j ≤ k) (ha : Cells.above k l = true) :
    Cells.above j l = true := by
  induction l with
  | nil => rfl
  | cons x r ih =>
    obtain ⟨a, v⟩ := x
    simp only [Cells.above, Bool.and_eq_true, decide_eq_true_eq] at *
    exact ⟨by omega, ih ha.2⟩

theorem Cells.above_erase {α : Type} {l : List (Nat × α)} {j : Nat} (k : Nat) (ha : Cells.above j l = true) :
    Cells.above j (Cells.erase l k) = true := by
  induction l with
  | nil => rfl
  | cons x r ih =>
    obtain ⟨a, v⟩ := x
    simp only [Cells.above, Bool.and_eq_true, decide_eq_true_eq] at ha
    by_cases h : a = k
    · simpa [Cells.erase, h] using ih ha.2
    · simp [Cells.erase, h, Cells.above, ha.1, ih ha.2]

theorem Cells.above_insert {α : Type} {l : List (Nat × α)} {j k : Nat} (v : α) (hj : j < k) (ha : Cells.above j l = true) :
    Cells.above j (Cells.insert l k v) = true := by
  induction l with
  | nil => simp [Cells.insert, Cells.above, hj]
  | cons x r ih =>
    obtain ⟨a, w⟩ := x
    simp only [Cells.above, Bool.and_eq_true, decide_eq_true_eq] at ha
    by_cases h1 : k < a
    · simp [Cells.insert, Cells.above, h1, hj, ha.1, ha.2]
    · by_cases h2 : a = k
      · simp [Cells.insert, Cells.above, h1, h2, hj, ha.2]
      · simp [Cells.insert, Cells.above, h1, h2, ha.1, ih ha.2]

theorem Cells.wf_erase {α : Type} [DecidableEq α] {f : Nat → α} {l : List (Nat × α)} (k : Nat) (h : Cells.wf f l = true) :
    Cells.wf f (Cells.erase l k) = true := by
  induction l with
  | nil => rfl
  | cons x r ih =>
    obtain ⟨a, v⟩ := x
    simp only [Cells.wf, Bool.and_eq_true, decide_eq_true_eq] at h
    by_cases ha : a = k
    · simpa [Cells.erase, ha] using ih h.2
    · simp [Cells.erase, ha, Cells.wf, Cells.above_erase k h.1.1, h.1.2, ih h.2]

theorem Cells.wf_insert {α : Type} [DecidableEq α] {f : Nat → α} {l : List (Nat × α)} {k : Nat} {v : α} (hv : v ≠ f k)
    (h : Cells.wf f l = true) : Cells.wf f (Cells.insert l k v) = true := by
  induction l with
  | nil => simp [Cells.insert, Cells.wf, Cells.above, hv]
  | cons x r ih =>
    obtain ⟨a, w⟩ := x
    have h0 := h
    simp only [Cells.wf, Bool.and_eq_true, decide_eq_true_eq] at h
    by_cases h1 : k < a
    · simp [Cells.insert, h1, Cells.wf, Cells.above, hv, h.1.2, h.2, h.1.1, Cells.above_mono (Nat.le_of_lt h1) h.1.1]
    · by_cases h2 : a = k
      · subst h2; simp [Cells.insert, Cells.wf, hv, h.1.1, h.2]
      · have : a < k := by omega
        simp [Cells.insert, h1, h2, Cells.wf, Cells.above_insert v this h.1.1, h.1.2, ih h.2]

/-- A write keeps the canonical form. -/
theorem Cells.wf_set {α : Type} [DecidableEq α] {f : Nat → α} {l : List (Nat × α)} (k : Nat) (v : α) (h : Cells.wf f l = true) :
    Cells.wf f (Cells.set f l k v) = true := by
  unfold Cells.set
  split
  · exact Cells.wf_erase k h
  · rename_i hv; exact Cells.wf_insert hv h

theorem Cells.above_filter {α : Type} {l : List (Nat × α)} {j : Nat} (p : Nat × α → Bool) (ha : Cells.above j l = true) :
    Cells.above j (l.filter p) = true := by
  induction l with
  | nil => rfl
  | cons x r ih =>
    obtain ⟨a, v⟩ := x
    simp only [Cells.above, Bool.and_eq_true, decide_eq_true_eq] at ha
    by_cases hp : p (a, v) = true <;> simp [List.filter, hp, Cells.above, ha.1, ih ha.2]

/-- Dropping entries keeps the canonical form. -/
theorem Cells.wf_filter {α : Type} [DecidableEq α] {f : Nat → α} {l : List (Nat × α)} (p : Nat × α → Bool) (h : Cells.wf f l = true) :
    Cells.wf f (l.filter p) = true := by
  induction l with
  | nil => rfl
  | cons x r ih =>
    obtain ⟨a, v⟩ := x
    simp only [Cells.wf, Bool.and_eq_true, decide_eq_true_eq] at h
    by_cases hp : p (a, v) = true <;> simp [List.filter, hp, Cells.wf, Cells.above_filter p h.1.1, h.1.2, ih h.2]

end Sys2Proof
end

