-- ==== Sys2Proof/Laws/Data.lean ====
section
/-! SUPPORT. The plain data the state is made of: little-endian bytes, association lists, lists as arrays, bits. -/
namespace Sys2Proof

theorem leBytes_length (n v : Nat) : (leBytes n v).length = n := by
  induction n generalizing v with
  | zero => rfl
  | succ n ih => simp [leBytes, ih]

/-- The number that the bytes of `v` spell is `v`, cut to their width. -/
theorem leNat_leBytes (n v : Nat) : leNat (leBytes n v) = v % 256 ^ n := by
  induction n generalizing v with
  | zero => simp [leBytes, leNat]; omega
  | succ n ih =>
    simp only [leBytes, leNat, ih]
    simp [Nat.pow_succ]
    rw [Nat.mul_comm (256 ^ n) 256, Nat.mod_mul]

theorem leBytes_mod (n v : Nat) : leBytes n (v % 256 ^ n) = leBytes n v := by
  induction n generalizing v with
  | zero => rfl
  | succ n ih =>
    simp only [leBytes]
    have e : v % 256 ^ (n + 1) / 256 = v / 256 % 256 ^ n := by
      rw [Nat.pow_succ, Nat.mul_comm (256 ^ n) 256, Nat.mod_mul_right_div_self]
    rw [e, ih]
    congr 1
    apply BitVec.eq_of_toNat_eq
    simp [Nat.pow_succ, Nat.mul_comm, Nat.mod_mul]

@[simp] theorem assoc_assocPut_same {α : Type} (l : List (Nat × α)) (k : Nat) (v : α) : assoc (assocPut l k v) k = some v := by
  induction l with
  | nil => simp [assocPut, assoc]
  | cons x r ih =>
    obtain ⟨a, w⟩ := x
    unfold assocPut; split
    · simp [assoc]
    · rename_i h; simp only [assoc]; rw [if_neg h]; exact ih

theorem assoc_assocPut_other {α : Type} (l : List (Nat × α)) (k m : Nat) (v : α) (h : m ≠ k) : assoc (assocPut l k v) m = assoc l m := by
  induction l with
  | nil => simp [assocPut, assoc]; exact fun e => h e.symm
  | cons x r ih =>
    obtain ⟨a, w⟩ := x
    unfold assocPut; split
    · rename_i e; subst e; simp only [assoc]; rw [if_neg (fun e => h e.symm), if_neg (fun e => h e.symm)]
    · simp only [assoc]; split
      · rfl
      · exact ih

@[simp] theorem assoc_assocDel {α : Type} (l : List (Nat × α)) (k : Nat) : assoc (assocDel l k) k = none := by
  unfold assocDel
  induction l with
  | nil => rfl
  | cons x r ih =>
    obtain ⟨a, w⟩ := x
    rw [List.filter_cons]; split
    · rename_i h
      simp only [ne_eq, decide_not, Bool.not_eq_true', decide_eq_false_iff_not] at h
      simp only [assoc]; rw [if_neg h]; exact ih
    · exact ih

theorem getAt_setAt_same {α : Type} (d : α) (l : List α) (k : Nat) (v : α) (h : k < l.length) : getAt d (setAt l k v) k = v := by
  simp [getAt, setAt, List.getD, h]

theorem getAt_setAt_other {α : Type} (d : α) (l : List α) (k m : Nat) (v : α) (h : m ≠ k) : getAt d (setAt l k v) m = getAt d l m := by
  simp [getAt, setAt, List.getD, Ne.symm h]

@[simp] theorem setAt_length {α : Type} (l : List α) (k : Nat) (v : α) : (setAt l k v).length = l.length := by simp [setAt]

theorem bit_setBit_same (v k : Nat) : bit (setBit v k) k = true := by simp [bit, setBit, Nat.testBit_two_pow_self]

theorem bit_clearBit_same (v k : Nat) : bit (clearBit v k) k = false := by
  unfold bit clearBit
  split
  · rename_i h; simp [Nat.testBit_xor, h, Nat.testBit_two_pow_self]
  · rename_i h; simpa using h

theorem bit_putBit_same (v k : Nat) (b : Bool) : bit (putBit v k b) k = b := by
  unfold putBit; cases b
  · exact bit_clearBit_same v k
  · exact bit_setBit_same v k

/-- A bit below a width outlives the cut to that width. -/
theorem bit_mod (v w k : Nat) (h : k < w) : bit (v % 2 ^ w) k = bit v k := by simp [bit, Nat.testBit_mod_two_pow, h]

end Sys2Proof
end

