-- ==== Sys2Proof/Laws/Checks.lean ====
section
/-! SUPPORT. The checks of R443: their values stay within their widths, and feeding goes in pieces. -/
namespace Sys2Proof.Machine

theorem crcShiftR_lt (poly n v : Nat) (hp : poly < 2 ^ 32) (hv : v < 2 ^ 32) : crcShiftR poly n v < 2 ^ 32 := by
  induction n generalizing v with
  | zero => exact hv
  | succ n ih =>
    unfold crcShiftR; split
    · exact ih _ (Nat.xor_lt_two_pow (by omega) hp)
    · exact ih _ (by omega)

/-- A byte fed to CRC-32 or CRC-32C leaves 32 bits. -/
theorem crcByte_lt (poly v : Nat) (b : Byte) (hp : poly ≤ 1) (hv : v < 2 ^ 32) : crcByte poly v b < 2 ^ 32 := by
  have hb : b.toNat < 2 ^ 32 := by have := b.isLt; omega
  obtain rfl | rfl : poly = 0 ∨ poly = 1 := by omega
  · exact crcShiftR_lt _ _ _ (by decide) (Nat.xor_lt_two_pow hv hb)
  · exact crcShiftR_lt _ _ _ (by decide) (Nat.xor_lt_two_pow hv hb)

theorem crcFeed_lt (poly v : Nat) (bs : List Byte) (hp : poly ≤ 1) (hv : v < 2 ^ 32) : crcFeed poly v bs < 2 ^ 32 := by
  unfold crcFeed
  induction bs generalizing v with
  | nil => exact hv
  | cons b r ih => exact ih _ (crcByte_lt poly v b hp hv)

/-- CRC-32 and CRC-32C are 32 bits wide (R443). -/
theorem crcOf_lt (poly : Nat) (guard bs : List Byte) (hp : poly ≤ 1) : crcOf poly guard bs < 2 ^ 32 := by
  have h1 : crcInit poly < 2 ^ 32 := by obtain rfl | rfl : poly = 0 ∨ poly = 1 := by omega
                                        all_goals decide
  have h2 : crcFinal poly < 2 ^ 32 := by obtain rfl | rfl : poly = 0 ∨ poly = 1 := by omega
                                         all_goals decide
  exact Nat.xor_lt_two_pow (crcFeed_lt _ _ _ hp (crcFeed_lt _ _ _ hp h1)) h2

theorem crc32c_lt (bs : List Byte) : crc32c bs < 2 ^ 32 := crcOf_lt 1 [] bs (by decide)

/-- Bytes fed in two pieces leave what they leave fed at once (R445). -/
theorem crcFeed_append (poly v : Nat) (a b : List Byte) : crcFeed poly v (a ++ b) = crcFeed poly (crcFeed poly v a) b := by simp [crcFeed]

/-- A check written as four bytes reads back whole. -/
theorem leNat_crc32c (bs : List Byte) : leNat (leBytes 4 (crc32c bs)) = crc32c bs := by
  rw [leNat_leBytes]; exact Nat.mod_eq_of_lt (by simpa using crc32c_lt bs)
theorem leNat_crcOf (poly : Nat) (guard bs : List Byte) (hp : poly ≤ 1) : leNat (leBytes 4 (crcOf poly guard bs)) = crcOf poly guard bs := by
  rw [leNat_leBytes]; exact Nat.mod_eq_of_lt (by simpa using crcOf_lt poly guard bs hp)

end Sys2Proof.Machine
end

