-- ==== Sys2Proof/Laws/Fields.lean ====
section
/-! SUPPORT. Laws of the register file: what a field reads after a write, and which cells the shared operations leave alone. -/
namespace Sys2Proof.Machine

/-- The cell of the register file with key `k`. -/
def Dev.cell (d : Dev) (k : Nat) : Nat := Cells.get resetField d.regs k

theorem Dev.getF_cell (d : Dev) (f : Field) (i j : Nat) : d.getF f i j = d.cell (f.key i j) := rfl

/-- A field reads the low bits of the value just written. -/
@[simp] theorem Dev.getF_setF_same (d : Dev) (f : Field) (v i j : Nat) : (d.setF f v i j).getF f i j = v % 2 ^ f.width := by
  simp [Dev.getF, Dev.setF]

theorem Dev.cell_setF_same (d : Dev) (f : Field) (v i j : Nat) : (d.setF f v i j).cell (f.key i j) = v % 2 ^ f.width := by
  simp [Dev.cell, Dev.setF]

/-- A write leaves every other cell alone. -/
theorem Dev.cell_setF_ne (d : Dev) (f : Field) (v i j : Nat) {k : Nat} (h : k ≠ f.key i j) : (d.setF f v i j).cell k = d.cell k := by
  simp [Dev.cell, Dev.setF, Cells.get_set_other resetField d.regs _ h]

theorem Dev.cell_setFlag_ne (d : Dev) (f : Field) (b : Bool) (i j : Nat) {k : Nat} (h : k ≠ f.key i j) :
    (d.setFlag f b i j).cell k = d.cell k := Dev.cell_setF_ne d f _ i j h

/-- A field of another key reads as before. -/
theorem Dev.getF_setF_ne (d : Dev) (f g : Field) (v i j a b : Nat) (h : g.key a b ≠ f.key i j) :
    (d.setF f v i j).getF g a b = d.getF g a b := Dev.cell_setF_ne d f v i j h

theorem Dev.getF_setFlag_ne (d : Dev) (f g : Field) (v : Bool) (i j a b : Nat) (h : g.key a b ≠ f.key i j) :
    (d.setFlag f v i j).getF g a b = d.getF g a b := Dev.cell_setF_ne d f _ i j h

theorem b2n_le (b : Bool) : b2n b ≤ 1 := by cases b <;> decide

/-- A one-bit field reads the flag just written. -/
theorem Dev.flag_setFlag_same (d : Dev) (f : Field) (b : Bool) (i j : Nat) (h : f.width = 1) : (d.setFlag f b i j).flag f i j = b := by
  cases b <;> simp [Dev.flag, Dev.setFlag, h, b2n]

theorem Dev.getF_setFlag_same (d : Dev) (f : Field) (b : Bool) (i j : Nat) (h : f.width = 1) : (d.setFlag f b i j).getF f i j = b2n b := by
  cases b <;> simp [Dev.setFlag, h, b2n]

theorem Dev.flag_setF_ne (d : Dev) (f g : Field) (v i j a b : Nat) (h : g.key a b ≠ f.key i j) :
    (d.setF f v i j).flag g a b = d.flag g a b := by simp [Dev.flag, Dev.getF_setF_ne d f g v i j a b h]

theorem Dev.flag_setFlag_ne (d : Dev) (f g : Field) (v : Bool) (i j a b : Nat) (h : g.key a b ≠ f.key i j) :
    (d.setFlag f v i j).flag g a b = d.flag g a b := by simp [Dev.flag, Dev.getF_setFlag_ne d f g v i j a b h]

/-- A value over a LO and a HI field of 32 bits reads as written. -/
theorem Dev.get64_set64 (d : Dev) (lo hi : Field) (v i j : Nat) (hlo : lo.width = 32) (hhi : hi.width = 32) (hv : v < 2 ^ 64)
    (hne : lo.key i j ≠ hi.key i j) : (d.set64 lo hi v i j).get64 lo hi i j = v := by
  unfold Dev.get64 Dev.set64
  rw [Dev.getF_setF_ne _ hi lo _ i j i j hne, Dev.getF_setF_same, Dev.getF_setF_same, hlo, hhi]
  omega

theorem Dev.cell_set64_ne (d : Dev) (lo hi : Field) (v i j : Nat) {k : Nat} (h1 : k ≠ lo.key i j) (h2 : k ≠ hi.key i j) :
    (d.set64 lo hi v i j).cell k = d.cell k := by
  unfold Dev.set64
  rw [Dev.cell_setF_ne _ _ _ _ _ h2, Dev.cell_setF_ne _ _ _ _ _ h1]

/-! ### Operations that leave the register file alone -/

@[simp] theorem Dev.cell_emit (d : Dev) (o : Out) (k : Nat) : (d.emit o).cell k = d.cell k := rfl
@[simp] theorem Dev.getF_emit (d : Dev) (o : Out) (f : Field) (i j : Nat) : (d.emit o).getF f i j = d.getF f i j := rfl
@[simp] theorem Dev.flag_emit (d : Dev) (o : Out) (f : Field) (i j : Nat) : (d.emit o).flag f i j = d.flag f i j := rfl
@[simp] theorem Dev.cell_drawn (d : Dev) (k : Nat) : d.drawn.cell k = d.cell k := rfl
@[simp] theorem Dev.getF_drawn (d : Dev) (f : Field) (i j : Nat) : d.drawn.getF f i j = d.getF f i j := rfl
@[simp] theorem Dev.flag_drawn (d : Dev) (f : Field) (i j : Nat) : d.drawn.flag f i j = d.flag f i j := rfl

/-! ### The event log, interrupts and counters -/

/-- The cells that logging an event may write (R482): EVLOG_SEQ, EVLOG_OLDEST, EVLOG_DROPPED, INT_STATUS and SAT of KEEPER. -/
def logKeys : List Nat := [2048, 2176, 1280, 1408, 2304, 768, 1152]

theorem logKeys_eq : logKeys = [F.KEEPER_EVLOG_SEQ_LO.key 0 0, F.KEEPER_EVLOG_SEQ_HI.key 0 0, F.KEEPER_EVLOG_OLDEST_LO.key 0 0,
    F.KEEPER_EVLOG_OLDEST_HI.key 0 0, F.KEEPER_EVLOG_DROPPED.key 0 0, F.KEEPER_INT_STATUS.key 0 0, F.KEEPER_SAT.key 0 0] := by decide

theorem Dev.cell_putEvent (d : Dev) (r : EvRec) {k : Nat} (h : k ∉ logKeys) : (d.putEvent r).cell k = d.cell k := by
  simp only [logKeys_eq, List.mem_cons, List.not_mem_nil, not_or, or_false] at h
  obtain ⟨h1, h2, h3, h4, h5, h6, h7⟩ := h
  unfold Dev.putEvent
  simp only [Dev.cell_emit]
  rw [Dev.cell_setF_ne _ _ _ _ _ h6, Dev.cell_set64_ne _ _ _ _ _ _ h3 h4, Dev.cell_set64_ne _ _ _ _ _ _ h1 h2]
  rfl

theorem Dev.cell_setInt (d : Dev) (b : Block) (i n : Nat) {k : Nat} (h : ∀ st en, b.ints = some (st, en) → k ≠ st.key i 0) :
    (d.setInt b i n).cell k = d.cell k := by
  unfold Dev.setInt
  split
  · rfl
  · rename_i st en he
    have := h st en he
    dsimp only
    split
    · rw [Dev.cell_emit, Dev.cell_setF_ne _ _ _ _ _ this]
    · rw [Dev.cell_setF_ne _ _ _ _ _ this]

theorem Dev.cell_countDropped (d : Dev) {k : Nat} (h : k ∉ logKeys) : d.countDropped.cell k = d.cell k := by
  have h0 := h
  simp only [logKeys_eq, List.mem_cons, List.not_mem_nil, not_or, or_false] at h
  obtain ⟨h1, h2, h3, h4, h5, h6, h7⟩ := h
  unfold Dev.countDropped
  dsimp only
  split
  · rw [Dev.cell_setF_ne _ _ _ _ _ h5]
  · split
    · rfl
    · rw [Dev.cell_setInt, Dev.cell_putEvent _ _ h0, Dev.cell_setF_ne _ _ _ _ _ h7]
      intro st en he
      simp only [Block.ints, Option.some.injEq, Prod.mk.injEq] at he
      rw [← he.1]; exact h6

/-- An event leaves every cell but those of the log alone. -/
theorem Dev.cell_logEvent (d : Dev) (b : Block) (code inst a0 a1 u fl : Nat) {k : Nat} (h : k ∉ logKeys) :
    (d.logEvent b code inst a0 a1 u fl).cell k = d.cell k := by
  unfold Dev.logEvent
  dsimp only
  split
  · rw [Dev.cell_countDropped _ h, Dev.cell_putEvent _ _ h]
  · rw [Dev.cell_putEvent _ _ h]

/-- The cell of the block's INT_STATUS of instance `i`. -/
def intKeys (b : Block) (i : Nat) : List Nat := match b.ints with | some (st, _) => [st.key i 0] | none => []

theorem Dev.cell_setInt' (d : Dev) (b : Block) (i n : Nat) {k : Nat} (h : k ∉ intKeys b i) : (d.setInt b i n).cell k = d.cell k := by
  apply Dev.cell_setInt
  intro st en he
  simpa [intKeys, he] using h

/-- Raising an interrupt leaves every cell alone but those of the log and the block's INT_STATUS. -/
theorem Dev.cell_raise (d : Dev) (b : Block) (i n : Nat) {k : Nat} (h : k ∉ logKeys) (hi : k ∉ intKeys b i) :
    (d.raise b i n).cell k = d.cell k := by
  unfold Dev.raise
  rw [Dev.cell_setInt' _ _ _ _ hi, Dev.cell_logEvent _ _ _ _ _ _ _ _ h]

/-- The cells of a counter: its count and its SAT flag. -/
def ctrKeys (c : Ctr) (i j : Nat) : List Nat :=
  (match c with | .wide lo hi => [lo.key i j, hi.key i j] | .narrow f _ _ _ => [f.key i j]) ++
  (match c.satPlace i j with | some (f, a, b, _) => [f.key a b] | none => [])

/-- The cells that a counter of a block may write when it saturates, beside its own. -/
def satKeys (b : Block) (i : Nat) : List Nat :=
  logKeys ++ (if b = .sl then intKeys .bundle (i / 8)
    else intKeys b (if b = .bundle ∨ b = .dispatch ∨ b = .mem ∨ b = .eth then i else 0))

theorem Dev.cell_putCtr (d : Dev) (c : Ctr) (v i j : Nat) {k : Nat} (h : k ∉ ctrKeys c i j) : (d.putCtr c v i j).cell k = d.cell k := by
  unfold Dev.putCtr
  cases c with
  | wide lo hi =>
    simp only [ctrKeys, List.mem_append, List.mem_cons, List.not_mem_nil, or_false, not_or] at h
    simp only
    rw [Dev.cell_setF_ne _ _ _ _ _ h.1.2, Dev.cell_setF_ne _ _ _ _ _ h.1.1]
  | narrow f s b st =>
    simp only [ctrKeys, List.mem_append, List.mem_cons, List.not_mem_nil, or_false, not_or] at h
    simp only
    rw [Dev.cell_setF_ne _ _ _ _ _ h.1]

theorem Dev.cell_putSat (d : Dev) (c : Ctr) (b : Bool) (i j : Nat) {k : Nat} (h : k ∉ ctrKeys c i j) :
    (d.putSat c b i j).cell k = d.cell k := by
  unfold Dev.putSat
  split
  · rename_i f a b' n he
    simp only [ctrKeys, he, List.mem_append, List.mem_cons, List.not_mem_nil, or_false, not_or] at h
    rw [Dev.cell_setF_ne _ _ _ _ _ h.2]
  · rfl

theorem Dev.cell_satInt (d : Dev) (b : Block) (i : Nat) {k : Nat} (h : k ∉ satKeys b i) : (d.satInt b i).cell k = d.cell k := by
  simp only [satKeys, List.mem_append, not_or] at h
  unfold Dev.satInt
  split
  · exact Dev.cell_raise _ _ _ _ h.1 (by simpa using h.2)
  · split
    · rfl
    · rename_i hb _ _ _
      apply Dev.cell_raise _ _ _ _ h.1
      have h2 := h.2
      rw [if_neg hb] at h2
      exact h2

/-- Counting leaves every cell alone but those of the counter, the log and the block's INT_STATUS. -/
theorem Dev.cell_count (d : Dev) (c : Ctr) (i j n : Nat) {k : Nat} (h : k ∉ ctrKeys c i j) (hs : k ∉ satKeys (blockOf (c.lo.addr i j)) i) :
    (d.count c i j n).cell k = d.cell k := by
  have hl : k ∉ logKeys := by simp only [satKeys, List.mem_append, not_or] at hs; exact hs.1
  unfold Dev.count
  simp only
  split
  · rw [Dev.cell_putCtr _ _ _ _ _ h]
  · split
    · rfl
    · rw [Dev.cell_satInt _ _ _ hs, Dev.cell_logEvent _ _ _ _ _ _ _ _ hl, Dev.cell_putSat _ _ _ _ _ h, Dev.cell_putCtr _ _ _ _ _ h]

/-- A count below its largest value leaves every cell but the count's alone, SAT included. -/
theorem Dev.count_below (d : Dev) (c : Ctr) (i j n : Nat) (h : d.ctr c i j + n ≤ c.max) :
    d.count c i j n = d.putCtr c (d.ctr c i j + n) i j := by
  unfold Dev.count; simp [h]

/-- A 32-bit counter below its largest value counts (R486). -/
theorem Dev.getF_count_narrow (d : Dev) (f : Field) (s : Option Field) (b st i j n : Nat) (hw : f.width = 32)
    (h : d.getF f i j + n < 2 ^ 32) : (d.count (.narrow f s b st) i j n).getF f i j = d.getF f i j + n := by
  have : d.ctr (.narrow f s b st) i j + n ≤ (Ctr.narrow f s b st).max := by simp only [Dev.ctr, Ctr.max]; omega
  rw [Dev.count_below _ _ _ _ _ this]
  simp only [Dev.putCtr, Dev.ctr, Dev.getF_setF_same, hw]
  omega

end Sys2Proof.Machine
end

