-- ==== Sys2Proof/Laws/Core.lean ====
section
/-! SUPPORT. What the shared operations leave alone beside the register file: everything that is neither a register, nor the event log,
nor driven outwards, nor (for a reply) the transport. -/
namespace Sys2Proof.Machine

/-- The device with its registers, log, outputs and free-value counter blanked: what a write, an event or an output leaves alone. -/
def Dev.core (d : Dev) : Dev := { d with regs := [], evlog := [], satNoted := [], out := [], free := 0, alert := false, unread := (0, 0) }

/-- The core with the transport blanked too: what a reply leaves alone. -/
def Dev.body (d : Dev) : Dev := { d.core with queues := [], windows := [], journal := [], held := [], spiOut := [] }

theorem Dev.body_of_core {d e : Dev} (h : d.core = e.core) : d.body = e.body := by simp [Dev.body, h]

@[simp] theorem Dev.core_setF (d : Dev) (f : Field) (v i j : Nat) : (d.setF f v i j).core = d.core := rfl
@[simp] theorem Dev.core_resetF (d : Dev) (f : Field) (i j : Nat) : (d.resetF f i j).core = d.core := rfl
@[simp] theorem Dev.core_setFlag (d : Dev) (f : Field) (b : Bool) (i j : Nat) : (d.setFlag f b i j).core = d.core := rfl
@[simp] theorem Dev.core_set64 (d : Dev) (lo hi : Field) (v i j : Nat) : (d.set64 lo hi v i j).core = d.core := rfl
@[simp] theorem Dev.core_emit (d : Dev) (o : Out) : (d.emit o).core = d.core := rfl
@[simp] theorem Dev.core_drawn (d : Dev) : d.drawn.core = d.core := rfl

@[simp] theorem Dev.core_maxF (d : Dev) (f : Field) (v i j : Nat) : (d.maxF f v i j).core = d.core := by
  unfold Dev.maxF; split <;> rfl

@[simp] theorem Dev.core_putEvent (d : Dev) (r : EvRec) : (d.putEvent r).core = d.core := rfl

@[simp] theorem Dev.core_setInt (d : Dev) (b : Block) (i k : Nat) : (d.setInt b i k).core = d.core := by
  unfold Dev.setInt
  cases b.ints with
  | none => rfl
  | some p => obtain ⟨st, en⟩ := p; dsimp only; split <;> rfl

@[simp] theorem Dev.core_countDropped (d : Dev) : d.countDropped.core = d.core := by
  unfold Dev.countDropped; dsimp only
  split
  · rfl
  · split
    · rfl
    · rw [Dev.core_setInt]; rfl

@[simp] theorem Dev.core_logEvent (d : Dev) (b : Block) (code inst a0 a1 u fl : Nat) : (d.logEvent b code inst a0 a1 u fl).core = d.core := by
  unfold Dev.logEvent; dsimp only
  split <;> simp

@[simp] theorem Dev.core_raise (d : Dev) (b : Block) (i k : Nat) : (d.raise b i k).core = d.core := by
  unfold Dev.raise; simp

@[simp] theorem Dev.core_putCtr (d : Dev) (c : Ctr) (v i j : Nat) : (d.putCtr c v i j).core = d.core := by
  unfold Dev.putCtr; cases c <;> rfl

@[simp] theorem Dev.core_putSat (d : Dev) (c : Ctr) (b : Bool) (i j : Nat) : (d.putSat c b i j).core = d.core := by
  unfold Dev.putSat; split <;> rfl

@[simp] theorem Dev.core_satInt (d : Dev) (b : Block) (i : Nat) : (d.satInt b i).core = d.core := by
  unfold Dev.satInt
  split
  · simp
  · split <;> simp

@[simp] theorem Dev.core_count (d : Dev) (c : Ctr) (i j n : Nat) : (d.count c i j n).core = d.core := by
  unfold Dev.count; dsimp only
  split
  · simp
  · split <;> simp

@[simp] theorem Dev.core_clearCtr (d : Dev) (c : Ctr) (i j : Nat) : (d.clearCtr c i j).core = d.core := by
  unfold Dev.clearCtr; simp

@[simp] theorem Dev.core_settle (d : Dev) : d.settle.core = d.core := rfl

/-- A fold over instances leaves the core alone where each step does. -/
theorem Dev.core_upto (n : Nat) (f : Nat → Dev → Dev) (d : Dev) (h : ∀ i d, (f i d).core = d.core) : (Dev.upto n f d).core = d.core := by
  unfold Dev.upto
  generalize List.range n = l
  induction l generalizing d with
  | nil => rfl
  | cons a r ih => simp [List.foldl, ih, h]

/-- A fold over a list leaves the core alone where each step does. -/
theorem Dev.core_each {α : Type} (l : List α) (f : α → Dev → Dev) (d : Dev) (h : ∀ a d, (f a d).core = d.core) :
    (Dev.each l f d).core = d.core := by
  unfold Dev.each
  induction l generalizing d with
  | nil => rfl
  | cons a r ih => simp [List.foldl, ih, h]

theorem Dev.core_when (c : Bool) (f : Dev → Dev) (d : Dev) (h : (f d).core = d.core) : (Dev.when c f d).core = d.core := by
  unfold Dev.when; cases c <;> simp [h]

/-! ### The same of single cells -/

theorem Dev.cell_upto (n : Nat) (f : Nat → Dev → Dev) (d : Dev) (k : Nat) (h : ∀ i d, i < n → (f i d).cell k = d.cell k) :
    (Dev.upto n f d).cell k = d.cell k := by
  unfold Dev.upto
  have h' : ∀ i ∈ List.range n, ∀ d, (f i d).cell k = d.cell k := fun i hi d => h i d (List.mem_range.1 hi)
  revert h'
  generalize List.range n = l
  intro h'
  induction l generalizing d with
  | nil => rfl
  | cons a r ih =>
    simp only [List.foldl]
    rw [ih _ (fun i hi d => h' i (List.mem_cons_of_mem _ hi) d), h' a (List.mem_cons_self) d]

theorem Dev.cell_each {α : Type} (l : List α) (f : α → Dev → Dev) (d : Dev) (k : Nat) (h : ∀ a ∈ l, ∀ d, (f a d).cell k = d.cell k) :
    (Dev.each l f d).cell k = d.cell k := by
  unfold Dev.each
  induction l generalizing d with
  | nil => rfl
  | cons a r ih =>
    simp only [List.foldl]
    rw [ih _ (fun b hb d => h b (List.mem_cons_of_mem _ hb) d), h a (List.mem_cons_self) d]

/-- The cells that a settled state keeps up to date (R77, R304, R396). -/
def settleKeys : List Nat :=
  [F.CMD_STATUS_SPI_PENDING.key 0 0, F.TB_STATUS_STEER.key 0 0, F.TWIN_LOCKED.key 0 0, F.TWIN_LOCKED.key 1 0, F.TWIN_LOCKED.key 2 0,
    F.TWIN_LOCKED.key 3 0]

theorem Dev.cell_settle (d : Dev) {k : Nat} (h : k ∉ settleKeys) : d.settle.cell k = d.cell k := by
  simp only [settleKeys, List.mem_cons, List.not_mem_nil, not_or, or_false] at h
  obtain ⟨h1, h2, h3, h4, h5, h6⟩ := h
  have e : d.settle.cell k = (((((({ d with evlog := d.evlog.take evCapacity } : Dev).setF F.CMD_STATUS_SPI_PENDING
      (min 64 d.spiOut.length)).setF F.TB_STATUS_STEER ({ d with evlog := d.evlog.take evCapacity } : Dev).steerNow).setF F.TWIN_LOCKED
      (({ d with evlog := d.evlog.take evCapacity } : Dev).lockedWord 0) 0).setF F.TWIN_LOCKED (({ d with evlog := d.evlog.take evCapacity } : Dev).lockedWord 1) 1).setF
      F.TWIN_LOCKED (({ d with evlog := d.evlog.take evCapacity } : Dev).lockedWord 2) 2 |>.setF F.TWIN_LOCKED
      (({ d with evlog := d.evlog.take evCapacity } : Dev).lockedWord 3) 3).cell k := rfl
  rw [e, Dev.cell_setF_ne _ _ _ _ _ h6, Dev.cell_setF_ne _ _ _ _ _ h5, Dev.cell_setF_ne _ _ _ _ _ h4, Dev.cell_setF_ne _ _ _ _ _ h3,
    Dev.cell_setF_ne _ _ _ _ _ h2, Dev.cell_setF_ne _ _ _ _ _ h1]
  rfl

@[simp] theorem Dev.settle_spiOut (d : Dev) : d.settle.spiOut = d.spiOut := rfl
@[simp] theorem Dev.settle_out (d : Dev) : d.settle.out = d.out := rfl
@[simp] theorem Dev.settle_free (d : Dev) : d.settle.free = d.free := rfl

theorem Dev.getF_settle (d : Dev) (f : Field) (i j : Nat) (h : f.key i j ∉ settleKeys) : d.settle.getF f i j = d.getF f i j :=
  Dev.cell_settle d h

theorem Dev.flag_settle (d : Dev) (f : Field) (i j : Nat) (h : f.key i j ∉ settleKeys) : d.settle.flag f i j = d.flag f i j := by
  simp [Dev.flag, Dev.getF_settle d f i j h]

/-- Every meaning answers a next state: its effect, settled. -/
@[simp] theorem State.act_eq (s : State) (f : Dev → Dev) : s.act f = .next { s with dev := (f s.dev).settle } := rfl

end Sys2Proof.Machine
end

