-- ==== Sys2Proof/Laws/Reply.lean ====
section
/-! SUPPORT. What a reply does and what it leaves alone (R63 to R66, R72, R77). -/
namespace Sys2Proof.Machine

@[simp] theorem Dev.body_setF (d : Dev) (f : Field) (v i j : Nat) : (d.setF f v i j).body = d.body := rfl
@[simp] theorem Dev.body_setFlag (d : Dev) (f : Field) (b : Bool) (i j : Nat) : (d.setFlag f b i j).body = d.body := rfl
@[simp] theorem Dev.body_set64 (d : Dev) (lo hi : Field) (v i j : Nat) : (d.set64 lo hi v i j).body = d.body := rfl
@[simp] theorem Dev.body_emit (d : Dev) (o : Out) : (d.emit o).body = d.body := rfl
@[simp] theorem Dev.body_drawn (d : Dev) : d.drawn.body = d.body := rfl
@[simp] theorem Dev.body_count (d : Dev) (c : Ctr) (i j n : Nat) : (d.count c i j n).body = d.body := Dev.body_of_core (by simp)
@[simp] theorem Dev.body_raise (d : Dev) (b : Block) (i n : Nat) : (d.raise b i n).body = d.body := Dev.body_of_core (by simp)
@[simp] theorem Dev.body_logEvent (d : Dev) (b : Block) (code inst a0 a1 u fl : Nat) : (d.logEvent b code inst a0 a1 u fl).body = d.body :=
  Dev.body_of_core (by simp)
@[simp] theorem Dev.body_settle (d : Dev) : d.settle.body = d.body := rfl

@[simp] theorem Dev.core_xlatFault (d : Dev) (a b c e : Nat) (w : Bool) (v : Nat) : (d.xlatFault a b c e w v).core = d.core := by
  simp [Dev.xlatFault]

@[simp] theorem Dev.body_writeReply (d : Dev) (n : Nat) (r : Reply) : (d.writeReply n r).body = d.body := by
  unfold Dev.writeReply; dsimp only; split <;> rfl

@[simp] theorem Dev.body_signalPass (d : Dev) (n : Nat) : (d.signalPass n).body = d.body := by
  unfold Dev.signalPass; split <;> rfl

@[simp] theorem Dev.body_flushReplies (d : Dev) (n : Nat) : (d.flushReplies n).body = d.body := by
  have h : ∀ (l : List (Nat × Reply)) (e : Dev), (l.foldl (Dev.flushOne n) e).body = e.body := by
    intro l
    induction l with
    | nil => intro e; rfl
    | cons a r ih =>
      intro e
      simp only [List.foldl]
      rw [ih]
      unfold Dev.flushOne
      split
      · simp
      · rfl
  unfold Dev.flushReplies
  split
  · rfl
  · rw [Dev.body_signalPass, h]; rfl

@[simp] theorem Dev.body_postReply (d : Dev) (spi : Bool) (n : Nat) (r : Reply) : (d.postReply spi n r).body = d.body := by
  unfold Dev.postReply
  split
  · rfl
  · rw [Dev.body_flushReplies]; rfl

@[simp] theorem Dev.body_doneReply (d : Dev) (c : Ctx) (op : Nat) (st : Status) (a : Nat) (data : List Byte) :
    (d.doneReply c op st a data).1.body = d.body := by
  unfold Dev.doneReply; dsimp only
  split
  · split
    · rfl
    · exact Dev.body_of_core (by simp)
  · rfl

@[simp] theorem Dev.body_dropJournal (d : Dev) (a b : Nat) : (d.dropJournal a b).body = d.body := by
  unfold Dev.dropJournal; split <;> rfl

@[simp] theorem Dev.body_putWindow (d : Dev) (n : Nat) (w : List WinEntry) : (d.putWindow n w).body = d.body := rfl

/-- A completing command changes the transport, the registers, the log and the outputs only. -/
@[simp] theorem Dev.body_finish (d : Dev) (c : Ctx) (op : Nat) (st : Status) (a : Nat) (data : List Byte) :
    (d.finish c op st a data).body = d.body := by
  unfold Dev.finish; dsimp only
  rw [Dev.body_postReply]
  have h : ∀ e : Dev, ((if ((e.dropJournal c.client c.tag).window c.client).isEmpty = true then e.dropJournal c.client c.tag
      else (e.dropJournal c.client c.tag).putWindow c.client (((e.dropJournal c.client c.tag).window c.client).map (fun x =>
        if x.tag = c.tag ∧ x.done = false then { x with done := true, reply := (d.doneReply c op st a data).2 } else x)))).body = e.body := by
    intro e; split <;> simp
  rw [h]
  split <;> simp

@[simp] theorem Dev.body_commitPoint (d : Dev) (c : Ctx) : (d.commitPoint c).body = d.body := rfl

@[simp] theorem Dev.body_reject (d : Dev) (spi : Bool) (n op tag cl : Nat) (st : Status) (a : Nat) (u : Bool) (data : List Byte) (now : Nat) :
    (d.reject spi n op tag cl st a u data now).body = d.body := by
  unfold Dev.reject; simp

@[simp] theorem Dev.body_turnAway (d : Dev) (c : Ctx) (op : Nat) (st : Status) (a : Nat) (data : List Byte) :
    (d.turnAway c op st a data).body = d.body := by
  unfold Dev.turnAway; split <;> simp

@[simp] theorem Dev.body_bufFault (d : Dev) (c : Ctx) : (d.bufFault c).body = d.body := by
  unfold Dev.bufFault; split
  · exact Dev.body_of_core (by simp)
  · rfl

/-! ### Cells that a reply may write -/

/-- The cells a reply may write: the log's, CMD's and XLAT's. -/
def replyCell (k : Nat) : Prop := k ∈ logKeys ∨ (0x20000 * 32 ≤ k ∧ k < 0x40000 * 32) ∨ (0x680000 * 32 ≤ k ∧ k < 0x700000 * 32)

theorem Dev.cell_setF_cmd (d : Dev) (f : Field) (v i j : Nat) {k : Nat} (h : ¬ replyCell k) (h1 : 0x20000 * 32 ≤ f.key i j)
    (h2 : f.key i j < 0x40000 * 32) : (d.setF f v i j).cell k = d.cell k := by
  apply Dev.cell_setF_ne
  intro e; apply h; right; left; omega

theorem Dev.cell_setFlag_cmd (d : Dev) (f : Field) (v : Bool) (i j : Nat) {k : Nat} (h : ¬ replyCell k) (h1 : 0x20000 * 32 ≤ f.key i j)
    (h2 : f.key i j < 0x40000 * 32) : (d.setFlag f v i j).cell k = d.cell k := Dev.cell_setF_cmd d f _ i j h h1 h2

theorem Dev.cell_setF_xlat (d : Dev) (f : Field) (v i j : Nat) {k : Nat} (h : ¬ replyCell k) (h1 : 0x680000 * 32 ≤ f.key i j)
    (h2 : f.key i j < 0x700000 * 32) : (d.setF f v i j).cell k = d.cell k := by
  apply Dev.cell_setF_ne
  intro e; apply h; right; right; omega

theorem replyCell_log {k : Nat} (h : ¬ replyCell k) : k ∉ logKeys := fun e => h (Or.inl e)

theorem replyCell_raise_xlat {k : Nat} (h : ¬ replyCell k) (i : Nat) (hi : i = 0) : k ∉ intKeys .xlat i := by
  subst hi
  intro e
  simp only [intKeys, Block.ints, List.mem_cons, List.not_mem_nil, or_false] at e
  apply h; right; right
  rw [e]; decide

theorem Dev.cell_xlatFault (d : Dev) (a b c e : Nat) (w : Bool) (v : Nat) {k : Nat} (h : ¬ replyCell k) :
    (d.xlatFault a b c e w v).cell k = d.cell k := by
  have hl := replyCell_log h
  have hi := replyCell_raise_xlat h 0 rfl
  unfold Dev.xlatFault; dsimp only
  rw [Dev.cell_raise _ _ _ _ hl hi, Dev.cell_count]
  · unfold Dev.set64 Dev.setFlag
    rw [Dev.cell_setF_xlat _ _ _ _ _ h (by decide) (by decide), Dev.cell_setF_xlat _ _ _ _ _ h (by decide) (by decide),
      Dev.cell_setF_xlat _ _ _ _ _ h (by decide) (by decide), Dev.cell_setF_xlat _ _ _ _ _ h (by decide) (by decide),
      Dev.cell_setF_xlat _ _ _ _ _ h (by decide) (by decide), Dev.cell_setF_xlat _ _ _ _ _ h (by decide) (by decide),
      Dev.cell_setF_xlat _ _ _ _ _ h (by decide) (by decide)]
  · intro hk
    have : ∀ x ∈ ctrKeys C.XLAT_FAULTS 0 0, 0x680000 * 32 ≤ x ∧ x < 0x700000 * 32 := by decide
    exact h (Or.inr (Or.inr (this k hk)))
  · intro hk
    have : ∀ x ∈ satKeys (blockOf (C.XLAT_FAULTS.lo.addr 0 0)) 0, x ∈ logKeys ∨ (0x680000 * 32 ≤ x ∧ x < 0x700000 * 32) := by decide
    rcases this k hk with h' | h'
    · exact hl h'
    · exact h (Or.inr (Or.inr h'))

theorem Dev.cell_count_cmd (d : Dev) (c : Ctr) (n : Nat) {k : Nat} (h : ¬ replyCell k)
    (h1 : ∀ x ∈ ctrKeys c 0 0, 0x20000 * 32 ≤ x ∧ x < 0x40000 * 32) (h2 : blockOf (c.lo.addr 0 0) = .cmd) :
    (d.count c 0 0 n).cell k = d.cell k := by
  apply Dev.cell_count
  · intro hk; exact h (Or.inr (Or.inl (h1 k hk)))
  · intro hk
    have : satKeys .cmd 0 = logKeys := by decide
    rw [h2, this] at hk
    exact replyCell_log h hk

theorem Dev.cell_writeReply (d : Dev) (n : Nat) (r : Reply) {k : Nat} (h : ¬ replyCell k) (hn : n < 64) :
    (d.writeReply n r).cell k = d.cell k := by
  unfold Dev.writeReply; dsimp only
  have e : ∀ (x : Dev) (v : Nat), (x.setF F.CMD_Q_RQ_TAIL v n).cell k = x.cell k := fun x v =>
    Dev.cell_setF_cmd _ _ _ _ _ h (by simp [Field.key, Field.addr, F.CMD_Q_RQ_TAIL]; omega) (by simp [Field.key, Field.addr, F.CMD_Q_RQ_TAIL]; omega)
  rw [e]; rfl

theorem Dev.cell_flushReplies (d : Dev) (n : Nat) {k : Nat} (h : ¬ replyCell k) (hn : n < 64) : (d.flushReplies n).cell k = d.cell k := by
  have g : ∀ (l : List (Nat × Reply)) (e : Dev), (l.foldl (Dev.flushOne n) e).cell k = e.cell k := by
    intro l
    induction l with
    | nil => intro e; rfl
    | cons a r ih =>
      intro e
      simp only [List.foldl]
      rw [ih]
      unfold Dev.flushOne
      split
      · rw [Dev.cell_writeReply _ _ _ h hn]
      · rfl
  unfold Dev.flushReplies
  split
  · rfl
  · have e : ∀ x : Dev, (x.signalPass n).cell k = x.cell k := fun x => by unfold Dev.signalPass; split <;> rfl
    rw [e, g]; rfl

theorem Dev.cell_postReply (d : Dev) (spi : Bool) (n : Nat) (r : Reply) {k : Nat} (h : ¬ replyCell k) (hn : n < 64) :
    (d.postReply spi n r).cell k = d.cell k := by
  unfold Dev.postReply
  split
  · unfold Dev.putSpiOut
    rw [Dev.cell_setF_cmd _ _ _ _ _ h (by decide) (by decide)]; rfl
  · rw [Dev.cell_flushReplies _ _ h hn]; rfl

theorem Dev.cell_doneReply (d : Dev) (c : Ctx) (op : Nat) (st : Status) (a : Nat) (data : List Byte) {k : Nat} (h : ¬ replyCell k) :
    (d.doneReply c op st a data).1.cell k = d.cell k := by
  unfold Dev.doneReply; dsimp only
  split
  · split
    · rfl
    · rw [Dev.cell_xlatFault _ _ _ _ _ _ _ h]; rfl
  · rfl

theorem inflightField_range (n : Nat) (hn : n < 64) : 0x20000 * 32 ≤ (inflightField n).key (n / 4) 0 ∧ (inflightField n).key (n / 4) 0 < 0x40000 * 32 := by
  unfold inflightField
  split <;> simp [Field.key, Field.addr, F.CMD_INFLIGHT_B0, F.CMD_INFLIGHT_B1, F.CMD_INFLIGHT_B2, F.CMD_INFLIGHT_B3] <;> omega

theorem windowField_range (n : Nat) (hn : n < 64) : 0x20000 * 32 ≤ (windowField n).key (n / 2) 0 ∧ (windowField n).key (n / 2) 0 < 0x40000 * 32 := by
  unfold windowField
  split <;> simp [Field.key, Field.addr, F.CMD_WINDOW_W0, F.CMD_WINDOW_W1] <;> omega

theorem Dev.cell_dropJournal (d : Dev) (n b : Nat) {k : Nat} (h : ¬ replyCell k) (hn : n < 64) : (d.dropJournal n b).cell k = d.cell k := by
  unfold Dev.dropJournal
  split
  · rfl
  · dsimp only
    obtain ⟨h1, h2⟩ := inflightField_range n hn
    rw [Dev.cell_setF_cmd _ _ _ _ _ h h1 h2, Dev.cell_setF_cmd _ _ _ _ _ h (by decide) (by decide)]; rfl

theorem Dev.cell_putWindow (d : Dev) (n : Nat) (w : List WinEntry) {k : Nat} (h : ¬ replyCell k) (hn : n < 64) :
    (d.putWindow n w).cell k = d.cell k := by
  unfold Dev.putWindow
  obtain ⟨h1, h2⟩ := windowField_range n hn
  rw [Dev.cell_setF_cmd _ _ _ _ _ h h1 h2]; rfl

/-- A completing command writes no register outside CMD, XLAT and the log's. -/
theorem Dev.cell_finish (d : Dev) (c : Ctx) (op : Nat) (st : Status) (a : Nat) (data : List Byte) {k : Nat} (h : ¬ replyCell k)
    (hc : c.client < 64) : (d.finish c op st a data).cell k = d.cell k := by
  unfold Dev.finish; dsimp only
  rw [Dev.cell_postReply _ _ _ _ h hc]
  have g : ∀ e : Dev, ((if ((e.dropJournal c.client c.tag).window c.client).isEmpty = true then e.dropJournal c.client c.tag
      else (e.dropJournal c.client c.tag).putWindow c.client (((e.dropJournal c.client c.tag).window c.client).map (fun x =>
        if x.tag = c.tag ∧ x.done = false then { x with done := true, reply := (d.doneReply c op st a data).2 } else x)))).cell k = e.cell k := by
    intro e; split
    · exact Dev.cell_dropJournal _ _ _ h hc
    · rw [Dev.cell_putWindow _ _ _ h hc, Dev.cell_dropJournal _ _ _ h hc]
  rw [g]
  split
  · rw [Dev.cell_count_cmd _ _ _ h (by decide) (by decide), Dev.cell_doneReply _ _ _ _ _ _ h]
  · rw [Dev.cell_doneReply _ _ _ _ _ _ h]

@[simp] theorem Dev.cell_commitPoint (d : Dev) (c : Ctx) (k : Nat) : (d.commitPoint c).cell k = d.cell k := rfl
@[simp] theorem Dev.getF_commitPoint (d : Dev) (c : Ctx) (f : Field) (i j : Nat) : (d.commitPoint c).getF f i j = d.getF f i j := rfl
@[simp] theorem Dev.flag_commitPoint (d : Dev) (c : Ctx) (f : Field) (i j : Nat) : (d.commitPoint c).flag f i j = d.flag f i j := rfl

/-- A field outside the transport's registers, after a completing command. -/
theorem Dev.getF_finish (d : Dev) (c : Ctx) (op : Nat) (st : Status) (a : Nat) (data : List Byte) (f : Field) (i j : Nat)
    (h : ¬ replyCell (f.key i j)) (hc : c.client < 64) : (d.finish c op st a data).getF f i j = d.getF f i j :=
  Dev.cell_finish d c op st a data h hc

/-! ### The reply itself, over the SPI -/

/-- The SPI-binding flag of a client stands through the completion of a command. -/
theorem spiBound_key (n : Nat) : (F.CMD_Q_CTRL_SPI_BOUND.key n 0) = (0x20100 + n * 0x100) * 32 + 5 := by
  simp [Field.key, Field.addr, F.CMD_Q_CTRL_SPI_BOUND]

theorem Dev.spiBound_dropJournal (d : Dev) (n b : Nat) (hn : n < 64) : (d.dropJournal n b).spiBound n = d.spiBound n := by
  unfold Dev.dropJournal
  split
  · rfl
  · dsimp only
    unfold Dev.spiBound
    rw [Dev.flag_setF_ne, Dev.flag_setF_ne]
    · rfl
    · rw [spiBound_key n]; simp [Field.key, Field.addr, F.CMD_JOURNAL_FREE]; omega
    · rw [spiBound_key n]; unfold inflightField
      split <;> simp [Field.key, Field.addr, F.CMD_INFLIGHT_B0, F.CMD_INFLIGHT_B1, F.CMD_INFLIGHT_B2, F.CMD_INFLIGHT_B3] <;> omega

theorem Dev.spiBound_putWindow (d : Dev) (n : Nat) (w : List WinEntry) : (d.putWindow n w).spiBound n = d.spiBound n := by
  unfold Dev.putWindow Dev.spiBound
  rw [Dev.flag_setF_ne]
  · rfl
  · rw [spiBound_key n]; unfold windowField
    split <;> simp [Field.key, Field.addr, F.CMD_WINDOW_W0, F.CMD_WINDOW_W1] <;> omega

theorem Dev.spiBound_resumed (d : Dev) (n : Nat) (hn : n < 64) : (d.count C.CMD_RESUMED).spiBound n = d.spiBound n := by
  unfold Dev.spiBound Dev.flag
  rw [Dev.getF_cell, Dev.getF_cell, Dev.cell_count]
  · rw [spiBound_key n]
    have : ctrKeys C.CMD_RESUMED 0 0 = [4195584, 4195712, 4195712] := by decide
    rw [this]; simp; omega
  · rw [spiBound_key n]
    have : satKeys (blockOf (C.CMD_RESUMED.lo.addr 0 0)) 0 = logKeys := by decide
    rw [this]; simp [logKeys]; omega

theorem Dev.dropJournal_spiOut (d : Dev) (n b : Nat) : (d.dropJournal n b).spiOut = d.spiOut := by
  unfold Dev.dropJournal; split <;> rfl

theorem Dev.count_spiOut (d : Dev) (c : Ctr) (i j n : Nat) : (d.count c i j n).spiOut = d.spiOut := by
  have h := congrArg Dev.spiOut (Dev.core_count d c i j n)
  exact h

theorem Dev.spiBound_xlatFault (d : Dev) (a b c e : Nat) (w : Bool) (v n : Nat) (hn : n < 64) :
    (d.xlatFault a b c e w v).spiBound n = d.spiBound n := by
  unfold Dev.spiBound Dev.flag Dev.xlatFault; dsimp only
  rw [Dev.getF_cell, Dev.getF_cell, spiBound_key n, Dev.cell_raise, Dev.cell_count]
  · unfold Dev.set64 Dev.setFlag
    rw [Dev.cell_setF_ne, Dev.cell_setF_ne, Dev.cell_setF_ne, Dev.cell_setF_ne, Dev.cell_setF_ne, Dev.cell_setF_ne, Dev.cell_setF_ne] <;>
      simp [Field.key, Field.addr, F.XLAT_LAST_FAULT_KIND, F.XLAT_LAST_FAULT_CLIENT, F.XLAT_LAST_FAULT_TABLE, F.XLAT_LAST_FAULT_WINDOW,
        F.XLAT_LAST_FAULT_WRITE, F.XLAT_FAULT_VA_LO, F.XLAT_FAULT_VA_HI] <;> omega
  · intro hk
    have : ∀ x ∈ ctrKeys C.XLAT_FAULTS 0 0, 0x680000 * 32 ≤ x := by decide
    have := this _ hk; omega
  · intro hk
    have : ∀ x ∈ satKeys (blockOf (C.XLAT_FAULTS.lo.addr 0 0)) 0, x < 3000 ∨ 0x680000 * 32 ≤ x := by decide
    have := this _ hk; omega
  · intro hk
    have : ∀ x ∈ logKeys, x < 3000 := by decide
    have := this _ hk; omega
  · intro hk
    have : ∀ x ∈ intKeys .xlat 0, 0x680000 * 32 ≤ x := by decide
    have := this _ hk; omega

/-- Over the SPI a completing command leaves exactly one reply, the newest of those that READ-REPLY returns (R66, R77). -/
theorem Dev.finish_spi (d : Dev) (c : Ctx) (op : Nat) (st : Status) (a : Nat) (data : List Byte) (hc : c.client < 64)
    (hs : d.spiBound c.client = true) :
    (d.finish c op st a data).spiOut = d.spiOut ++ [(d.doneReply c op st a data).2] := by
  have hd : (d.doneReply c op st a data).1 = d := by
    unfold Dev.doneReply; dsimp only; rw [hs]; simp
  unfold Dev.finish; dsimp only
  rw [hd]
  have key : ∀ e : Dev, e.spiBound c.client = true → e.spiOut = d.spiOut →
      (((if ((e.dropJournal c.client c.tag).window c.client).isEmpty = true then e.dropJournal c.client c.tag
      else (e.dropJournal c.client c.tag).putWindow c.client (((e.dropJournal c.client c.tag).window c.client).map (fun x =>
        if x.tag = c.tag ∧ x.done = false then { x with done := true, reply := (d.doneReply c op st a data).2 } else x))))).spiBound c.client = true ∧
      (((if ((e.dropJournal c.client c.tag).window c.client).isEmpty = true then e.dropJournal c.client c.tag
      else (e.dropJournal c.client c.tag).putWindow c.client (((e.dropJournal c.client c.tag).window c.client).map (fun x =>
        if x.tag = c.tag ∧ x.done = false then { x with done := true, reply := (d.doneReply c op st a data).2 } else x))))).spiOut = d.spiOut := by
    intro e h1 h2
    split
    · exact ⟨by rw [Dev.spiBound_dropJournal _ _ _ hc, h1], by rw [Dev.dropJournal_spiOut, h2]⟩
    · exact ⟨by rw [Dev.spiBound_putWindow, Dev.spiBound_dropJournal _ _ _ hc, h1], by
        show (e.dropJournal c.client c.tag).spiOut = d.spiOut
        rw [Dev.dropJournal_spiOut, h2]⟩
  have k2 := key (if d.replayed c = true then d.count C.CMD_RESUMED else d)
    (by split
        · rw [Dev.spiBound_resumed _ _ hc, hs]
        · exact hs)
    (by split
        · rw [Dev.count_spiOut]
        · rfl)
  obtain ⟨k3, k4⟩ := k2
  unfold Dev.postReply
  rw [k3]
  simp only [if_true]
  show _ ++ _ = _
  rw [k4]

/-- What a completing command's reply carries. -/
theorem Dev.doneReply_spi (d : Dev) (c : Ctx) (op : Nat) (st : Status) (a : Nat) (data : List Byte) (hs : d.spiBound c.client = true) :
    (d.doneReply c op st a data).2.done = true ∧ (d.doneReply c op st a data).2.opcode = op ∧ (d.doneReply c op st a data).2.tag = c.tag ∧
    (d.doneReply c op st a data).2.client = c.client ∧ (d.doneReply c op st a data).2.status = st.code ∧
    (d.doneReply c op st a data).2.detail = detailOf st a ∧ (d.doneReply c op st a data).2.data = data := by
  unfold Dev.doneReply; dsimp only; rw [hs]; simp

end Sys2Proof.Machine
end

