-- ==== Sys2Proof/Laws/Command.lean ====
section
/-! SUPPORT. What every command row does (R65, R66): carried out where it can run, and answered by one reply. -/
namespace Sys2Proof.Machine

/-- A command that can run is carried out. -/
theorem Dev.issue_run (d : Dev) (c : Ctx) (j : CmdJob) (h : d.canRun c j) : d.issue c j = j.run d := by
  obtain ⟨h1, h2, h3, -⟩ := h
  unfold Dev.issue
  rw [h1, h2, h3]
  simp

/-- A command in a mode that the catalogue does not list for it is turned away with WRONG_MODE (R65 step 7). -/
theorem Dev.issue_mode (d : Dev) (c : Ctx) (j : CmdJob) (hs : d.serving = true) (hm : (j.modes d).contains d.mode = false) :
    d.issue c j = d.turnAway c j.op .wrongMode 0x07 := by
  unfold Dev.issue
  rw [hs, hm]
  simp

/-- A command that a check refuses is turned away with the status and the reason of the check (R65 step 8). -/
theorem Dev.issue_check (d : Dev) (c : Ctx) (j : CmdJob) (st : Status) (a : Nat) (hs : d.serving = true)
    (hm : (j.modes d).contains d.mode = true) (hc : j.chk d = some (st, a)) :
    d.issue c j = (j.refused d).turnAway c j.op st a (j.data d) := by
  unfold Dev.issue
  rw [hs, hm, hc]
  simp

/-- Where commands are not served nothing happens. -/
theorem Dev.issue_idle (d : Dev) (c : Ctx) (j : CmdJob) (hs : d.serving = false) : d.issue c j = d := by
  unfold Dev.issue
  rw [hs]
  simp

/-- An effect on the device answers a next state. -/
theorem answers_act {i : Instr} {s : State} {f : Dev → Dev} {P : Dev → Prop} (h : exec i s = s.act f) (hp : P (f s.dev).settle) :
    answers i s P := ⟨_, h, rfl, hp⟩

/-! ### What has been driven out stays driven out -/

/-- `e` has driven out what `d` has, and perhaps more. -/
def Dev.outputs (d e : Dev) : Prop := ∃ l, e.out = l ++ d.out

theorem Dev.outputs_refl (d : Dev) : d.outputs d := ⟨[], rfl⟩
theorem Dev.outputs_of_eq {d e : Dev} (h : e.out = d.out) : d.outputs e := ⟨[], h⟩
theorem Dev.outputs_trans {d e f : Dev} (h : d.outputs e) (g : e.outputs f) : d.outputs f := by
  obtain ⟨l, hl⟩ := h; obtain ⟨m, hm⟩ := g
  exact ⟨m ++ l, by rw [hm, hl, List.append_assoc]⟩
theorem Dev.outputs_emit (d : Dev) (o : Out) : d.outputs (d.emit o) := ⟨[o], rfl⟩
theorem Dev.outputs_mem {d e : Dev} (h : d.outputs e) {o : Out} (ho : o ∈ d.out) : o ∈ e.out := by
  obtain ⟨l, hl⟩ := h; rw [hl]; exact List.mem_append_right _ ho

theorem Dev.outputs_putEvent (d : Dev) (r : EvRec) : d.outputs (d.putEvent r) := ⟨[.msix 64], rfl⟩

theorem Dev.outputs_setF (d : Dev) (f : Field) (v i j : Nat) : d.outputs (d.setF f v i j) := ⟨[], rfl⟩
theorem Dev.outputs_setFlag (d : Dev) (f : Field) (v : Bool) (i j : Nat) : d.outputs (d.setFlag f v i j) := ⟨[], rfl⟩
theorem Dev.outputs_set64 (d : Dev) (lo hi : Field) (v i j : Nat) : d.outputs (d.set64 lo hi v i j) := ⟨[], rfl⟩

theorem Dev.outputs_setInt (d : Dev) (b : Block) (i k : Nat) : d.outputs (d.setInt b i k) := by
  unfold Dev.setInt
  split
  · exact Dev.outputs_refl d
  · dsimp only; split
    · exact Dev.outputs_trans (Dev.outputs_setF _ _ _ _ _) (Dev.outputs_emit _ _)
    · exact Dev.outputs_setF _ _ _ _ _

theorem Dev.outputs_countDropped (d : Dev) : d.outputs d.countDropped := by
  unfold Dev.countDropped; dsimp only
  split
  · exact Dev.outputs_setF _ _ _ _ _
  · split
    · exact Dev.outputs_refl d
    · refine Dev.outputs_trans ?_ (Dev.outputs_setInt _ _ _ _)
      refine Dev.outputs_trans ?_ (Dev.outputs_putEvent _ _)
      exact Dev.outputs_setF _ _ _ _ _

theorem Dev.outputs_logEvent (d : Dev) (b : Block) (code inst a0 a1 u fl : Nat) : d.outputs (d.logEvent b code inst a0 a1 u fl) := by
  unfold Dev.logEvent; dsimp only
  split
  · exact Dev.outputs_trans (Dev.outputs_putEvent _ _) (Dev.outputs_countDropped _)
  · exact Dev.outputs_putEvent _ _

theorem Dev.outputs_raise (d : Dev) (b : Block) (i k : Nat) : d.outputs (d.raise b i k) := by
  unfold Dev.raise
  exact Dev.outputs_trans (Dev.outputs_logEvent _ _ _ _ _ _ _ _) (Dev.outputs_setInt _ _ _ _)

theorem Dev.outputs_putCtr (d : Dev) (c : Ctr) (v i j : Nat) : d.outputs (d.putCtr c v i j) := by
  unfold Dev.putCtr; cases c
  · exact Dev.outputs_trans (Dev.outputs_setF _ _ _ _ _) (Dev.outputs_setF _ _ _ _ _)
  · exact Dev.outputs_setF _ _ _ _ _

theorem Dev.outputs_putSat (d : Dev) (c : Ctr) (b : Bool) (i j : Nat) : d.outputs (d.putSat c b i j) := by
  unfold Dev.putSat; split
  · exact Dev.outputs_setF _ _ _ _ _
  · exact ⟨[], rfl⟩

theorem Dev.outputs_satInt (d : Dev) (b : Block) (i : Nat) : d.outputs (d.satInt b i) := by
  unfold Dev.satInt
  split
  · exact Dev.outputs_raise _ _ _ _
  · split
    · exact Dev.outputs_refl _
    · exact Dev.outputs_raise _ _ _ _

theorem Dev.outputs_count (d : Dev) (c : Ctr) (i j n : Nat) : d.outputs (d.count c i j n) := by
  unfold Dev.count; dsimp only
  split
  · exact Dev.outputs_putCtr _ _ _ _ _
  · split
    · exact Dev.outputs_refl d
    · refine Dev.outputs_trans ?_ (Dev.outputs_satInt _ _ _)
      refine Dev.outputs_trans ?_ (Dev.outputs_logEvent _ _ _ _ _ _ _ _)
      exact Dev.outputs_trans (Dev.outputs_putCtr _ _ _ _ _) (Dev.outputs_putSat _ _ _ _ _)

theorem Dev.outputs_xlatFault (d : Dev) (a b c e : Nat) (w : Bool) (v : Nat) : d.outputs (d.xlatFault a b c e w v) := by
  unfold Dev.xlatFault; dsimp only
  refine Dev.outputs_trans ?_ (Dev.outputs_raise _ _ _ _)
  refine Dev.outputs_trans ?_ (Dev.outputs_count _ _ _ _ _)
  refine Dev.outputs_trans ?_ (Dev.outputs_set64 _ _ _ _ _ _)
  refine Dev.outputs_trans ?_ (Dev.outputs_setFlag _ _ _ _ _)
  refine Dev.outputs_trans ?_ (Dev.outputs_setF _ _ _ _ _)
  refine Dev.outputs_trans ?_ (Dev.outputs_setF _ _ _ _ _)
  exact Dev.outputs_trans (Dev.outputs_setF _ _ _ _ _) (Dev.outputs_setF _ _ _ _ _)

theorem Dev.outputs_putQueue (d : Dev) (n : Nat) (q : Queue) : d.outputs (d.putQueue n q) := ⟨[], rfl⟩

theorem Dev.outputs_writeReply (d : Dev) (n : Nat) (r : Reply) : d.outputs (d.writeReply n r) := by
  unfold Dev.writeReply; dsimp only
  refine Dev.outputs_trans ?_ (Dev.outputs_setF _ _ _ _ _)
  refine Dev.outputs_trans ?_ (Dev.outputs_putQueue _ _ _)
  exact Dev.outputs_trans (Dev.outputs_emit _ _) (Dev.outputs_emit _ _)

theorem Dev.outputs_signalPass (d : Dev) (n : Nat) : d.outputs (d.signalPass n) := by
  unfold Dev.signalPass; split
  · exact Dev.outputs_emit _ _
  · exact Dev.outputs_refl d

@[simp] theorem Dev.held_signalPass (d : Dev) (n : Nat) : (d.signalPass n).held = d.held := by
  unfold Dev.signalPass; split <;> rfl

theorem Dev.outputs_doneReply (d : Dev) (c : Ctx) (op : Nat) (st : Status) (a : Nat) (data : List Byte) :
    d.outputs (d.doneReply c op st a data).1 := by
  unfold Dev.doneReply; dsimp only
  split
  · split
    · exact Dev.outputs_emit _ _
    · exact Dev.outputs_trans (Dev.outputs_emit _ _) (Dev.outputs_xlatFault _ _ _ _ _ _ _)
  · exact Dev.outputs_refl d

theorem Dev.outputs_dropJournal (d : Dev) (a b : Nat) : d.outputs (d.dropJournal a b) := by
  unfold Dev.dropJournal; split
  · exact Dev.outputs_refl d
  · dsimp only
    refine Dev.outputs_trans ?_ (Dev.outputs_setF _ _ _ _ _)
    refine Dev.outputs_trans ?_ (Dev.outputs_setF _ _ _ _ _)
    exact ⟨[], rfl⟩

/-- A flush keeps every waiting reply, in the list or in the ring, and what has been driven out. -/
theorem Dev.flushReplies_keeps (d : Dev) (n : Nat) :
    (∀ x ∈ d.held, x ∈ (d.flushReplies n).held ∨ (x.1 = n ∧ ∃ slot ph, Out.reply n slot ph x.2 ∈ (d.flushReplies n).out)) ∧
    d.outputs (d.flushReplies n) := by
  have g : ∀ (l : List (Nat × Reply)) (e : Dev),
      (∀ y, y ∈ l ∨ y ∈ e.held → y ∈ (l.foldl (Dev.flushOne n) e).held ∨
        (y.1 = n ∧ ∃ slot ph, Out.reply n slot ph y.2 ∈ (l.foldl (Dev.flushOne n) e).out)) ∧ e.outputs (l.foldl (Dev.flushOne n) e) := by
    intro l
    induction l with
    | nil =>
      intro e; simp only [List.foldl]
      exact ⟨fun y hy => Or.inl (by rcases hy with hy | hy; · cases hy
                                    · exact hy), Dev.outputs_refl e⟩
    | cons a r ih =>
      intro e
      simp only [List.foldl]
      unfold Dev.flushOne
      split
      · rename_i hc
        obtain ⟨h1, h2⟩ := ih (e.writeReply n a.2)
        have hh : (e.writeReply n a.2).held = e.held := rfl
        have hr : ∃ slot ph, Out.reply n slot ph a.2 ∈ (e.writeReply n a.2).out := by
          refine ⟨e.getF F.CMD_Q_RQ_TAIL n, (e.queue n).ringPhase, ?_⟩
          unfold Dev.writeReply
          simp [Dev.emit, Dev.putQueue, Dev.setF]
        refine ⟨fun y hy => ?_, Dev.outputs_trans (Dev.outputs_writeReply _ _ _) h2⟩
        rcases hy with hy | hy
        · rcases List.mem_cons.1 hy with rfl | hy
          · obtain ⟨sl, ph, hm⟩ := hr
            exact Or.inr ⟨hc.1, sl, ph, Dev.outputs_mem h2 hm⟩
          · exact h1 y (Or.inl hy)
        · exact h1 y (Or.inr (by rw [hh]; exact hy))
      · obtain ⟨h1, h2⟩ := ih { e with held := e.held ++ [a] }
        refine ⟨fun y hy => ?_, Dev.outputs_trans ⟨[], rfl⟩ h2⟩
        apply h1
        rcases hy with hy | hy
        · rcases List.mem_cons.1 hy with rfl | hy
          · right; exact List.mem_append_right _ (List.mem_singleton.2 rfl)
          · exact Or.inl hy
        · right; exact List.mem_append_left _ hy
  unfold Dev.flushReplies
  split
  · exact ⟨fun x hx => Or.inl hx, Dev.outputs_refl d⟩
  · obtain ⟨g1, g2⟩ := g d.held ({ d with held := [] }.putQueue n { d.queue n with pass := [] })
    refine ⟨fun x hx => ?_, Dev.outputs_trans ⟨[], rfl⟩ (Dev.outputs_trans g2 (Dev.outputs_signalPass _ _))⟩
    rcases g1 x (Or.inl hx) with h | ⟨h, sl, ph, hm⟩
    · exact Or.inl (by simpa using h)
    · exact Or.inr ⟨h, sl, ph, Dev.outputs_mem (Dev.outputs_signalPass _ _) hm⟩

/-- A reply that is posted stands among the replies of its transport; what has been driven out stays. -/
theorem Dev.postReply_keeps (d : Dev) (n : Nat) (r : Reply) :
    ((n, r) ∈ (d.postReply false n r).held ∨ ∃ slot ph, Out.reply n slot ph r ∈ (d.postReply false n r).out) := by
  unfold Dev.postReply
  simp only [Bool.false_eq_true, if_false]
  have h := (Dev.flushReplies_keeps { d with held := d.held ++ [(n, r)] } n).1 (n, r) (by simp)
  rcases h with h | ⟨-, h⟩
  · exact Or.inl h
  · exact Or.inr h

theorem Dev.outputs_postReply (d : Dev) (spi : Bool) (n : Nat) (r : Reply) : d.outputs (d.postReply spi n r) := by
  unfold Dev.postReply
  split
  · exact ⟨[], rfl⟩
  · exact Dev.outputs_trans ⟨[], rfl⟩ (Dev.flushReplies_keeps _ n).2

theorem Dev.outputs_finish_from (d : Dev) (c : Ctx) (op : Nat) (st : Status) (a : Nat) (data : List Byte) :
    (d.doneReply c op st a data).1.outputs (d.finish c op st a data) := by
  unfold Dev.finish; dsimp only
  refine Dev.outputs_trans ?_ (Dev.outputs_postReply _ _ _ _)
  have g : ∀ e : Dev, e.outputs (if ((e.dropJournal c.client c.tag).window c.client).isEmpty = true then e.dropJournal c.client c.tag
      else (e.dropJournal c.client c.tag).putWindow c.client (((e.dropJournal c.client c.tag).window c.client).map (fun x =>
        if x.tag = c.tag ∧ x.done = false then { x with done := true, reply := (d.doneReply c op st a data).2 } else x))) := by
    intro e; split
    · exact Dev.outputs_dropJournal _ _ _
    · exact Dev.outputs_trans (Dev.outputs_dropJournal _ _ _) ⟨[], rfl⟩
  refine Dev.outputs_trans ?_ (g _)
  split
  · exact Dev.outputs_count _ _ _ _ _
  · exact Dev.outputs_refl _

theorem Dev.outputs_finish (d : Dev) (c : Ctx) (op : Nat) (st : Status) (a : Nat) (data : List Byte) : d.outputs (d.finish c op st a data) :=
  Dev.outputs_trans (Dev.outputs_doneReply _ _ _ _ _ _) (Dev.outputs_finish_from _ _ _ _ _ _)

theorem Dev.finish_ring (d : Dev) (c : Ctx) (op : Nat) (st : Status) (a : Nat) (data : List Byte) (hc : c.client < 64)
    (hs : d.spiBound c.client = false) :
    (c.client, (d.doneReply c op st a data).2) ∈ (d.finish c op st a data).held ∨
    ∃ slot ph, Out.reply c.client slot ph (d.doneReply c op st a data).2 ∈ (d.finish c op st a data).out := by
  unfold Dev.finish; dsimp only
  have b0 : (d.doneReply c op st a data).1.spiBound c.client = false := by
    unfold Dev.doneReply; dsimp only
    split
    · split
      · exact hs
      · rw [Dev.spiBound_xlatFault _ _ _ _ _ _ _ _ hc]; exact hs
    · exact hs
  have b1 : (if d.replayed c = true then (d.doneReply c op st a data).1.count C.CMD_RESUMED
      else (d.doneReply c op st a data).1).spiBound c.client = false := by
    split
    · rw [Dev.spiBound_resumed _ _ hc, b0]
    · exact b0
  have g : ∀ e : Dev, e.spiBound c.client = false → (if ((e.dropJournal c.client c.tag).window c.client).isEmpty = true then e.dropJournal c.client c.tag
      else (e.dropJournal c.client c.tag).putWindow c.client (((e.dropJournal c.client c.tag).window c.client).map (fun x =>
        if x.tag = c.tag ∧ x.done = false then { x with done := true, reply := (d.doneReply c op st a data).2 } else x))).spiBound c.client = false := by
    intro e he; split
    · rw [Dev.spiBound_dropJournal _ _ _ hc, he]
    · rw [Dev.spiBound_putWindow, Dev.spiBound_dropJournal _ _ _ hc, he]
  rw [g _ b1]
  exact Dev.postReply_keeps _ _ _

/-- A completing command has received its one DONE reply. -/
theorem Dev.finish_replied (d : Dev) (c : Ctx) (op : Nat) (st : Status) (a : Nat) (data : List Byte) (hc : c.client < 64) :
    Dev.replied d (d.finish c op st a data) c op st a data := by
  refine ⟨(d.doneReply c op st a data).2, rfl, rfl, rfl, rfl, rfl, rfl, rfl, ?_, ?_, ?_, ?_⟩
  · intro h
    unfold Dev.doneReply; dsimp only
    split
    · rename_i hl
      simp only [Bool.and_eq_true, decide_eq_true_eq, Bool.not_eq_true'] at hl
      rcases h with h | h
      · rw [h] at hl; simp at hl
      · omega
    · rfl
  · intro hs hl
    refine ⟨((d.journalOf c.client c.tag).map (·.buf)).getD c.buf, ?_⟩
    apply Dev.outputs_mem (Dev.outputs_finish_from d c op st a data)
    unfold Dev.doneReply; dsimp only; rw [hs]; simp only [hl, decide_true, Bool.not_false, Bool.and_self, if_true]
    split
    · simp [Dev.emit]
    · exact Dev.outputs_mem (Dev.outputs_xlatFault _ _ _ _ _ _ _) (by simp [Dev.emit])
  · exact fun hs => Dev.finish_spi d c op st a data hc hs
  · exact fun hs => Dev.finish_ring d c op st a data hc hs

/-- The same, where what comes before the completion has left the transport alone. -/
theorem Dev.finish_replied_of {d e : Dev} (c : Ctx) (op : Nat) (st : Status) (a : Nat) (data : List Byte) (hc : c.client < 64)
    (hb : e.spiBound c.client = d.spiBound c.client) (ho : e.spiOut = d.spiOut) :
    Dev.replied d (e.finish c op st a data) c op st a data := by
  have h := Dev.finish_replied e c op st a data hc
  unfold Dev.replied at *
  rw [hb, ho] at h
  exact h

/-- A settled state keeps what a reply claims. -/
theorem Dev.replied_settle {d e : Dev} {c : Ctx} {op : Nat} {st : Status} {a : Nat} {data : List Byte} (h : Dev.replied d e c op st a data) :
    Dev.replied d e.settle c op st a data := h

/-- A command row that can run answers with what its job leaves. -/
theorem answers_issue {i : Instr} {c : Ctx} {j : CmdJob} {s : State} {P : Dev → Prop} (hi : exec i s = s.act (fun d => d.issue c j))
    (h : s.dev.canRun c j) (hp : P (j.run s.dev).settle) : answers i s P := by
  refine ⟨_, hi, rfl, ?_⟩
  show P (s.dev.issue c j).settle
  rw [Dev.issue_run _ _ _ h]; exact hp

/-- A command row that can run and whose job ends in a completion answers with its one DONE reply. -/
theorem answers_reply {i : Instr} {c : Ctx} {j : CmdJob} {s : State} (e : Dev) {op : Nat} {st : Status} {a : Nat} {data : List Byte}
    (hi : exec i s = s.act (fun d => d.issue c j)) (h : s.dev.canRun c j) (hr : j.run s.dev = e.finish c op st a data)
    (hb : e.spiBound c.client = s.dev.spiBound c.client) (ho : e.spiOut = s.dev.spiOut) :
    answers i s (fun d => Dev.replied s.dev d c op st a data) := by
  refine answers_issue hi h ?_
  rw [hr]
  exact Dev.replied_settle (Dev.finish_replied_of c op st a data h.2.2.2 hb ho)

end Sys2Proof.Machine
end

