-- ==== Sys2Proof/Laws/Direct.lean ====
section
/-! SUPPORT. What a direct access does where every register is powered (R515, R516). -/
namespace Sys2Proof.Machine

theorem Dev.wakeDirect_awake (d : Dev) (h : d.awake) : d.wakeDirect = d := by
  unfold Dev.wakeDirect; rw [if_neg]; exact fun x => h.2 x.2

theorem Dev.reachable_awake (d : Dev) (h : d.awake) : d.reachable = true := by
  unfold Dev.reachable; rw [h.1]

/-- A direct write of all four bytes to a register that exists passes its gate. -/
theorem Dev.gated_awake (d : Dev) (p : Path) (a : Nat) (f : RegPlace → Dev → Dev) (r : RegPlace) (h : d.awake) (h4 : a % 4 = 0)
    (hr : regPlace a = some r) : d.gated p a 15 f = f r d := by
  have ha : a / 4 * 4 = a := by omega
  have hf : d.refusal a 15 = none := by
    unfold Dev.refusal; rw [ha, hr]; dsimp only
    rw [if_neg (by simp [h.1]), if_neg (by simp [h.2]), if_neg (by simp [h4])]
  unfold Dev.gated
  rw [Dev.reachable_awake d h, Dev.wakeDirect_awake d h]
  dsimp only
  rw [hf, hr]; rfl

/-- Without a restricted field the value passes whole. -/
theorem Dev.restrain_free (d : Dev) (a : Nat) (r : RegPlace) (v : Nat)
    (h : ∀ f ∈ r.row.fields, d.fieldRestricted (blockOf a) r.row.base r.i f.1 f.2.2.1 = false) : d.restrain a r v = (v, false) := by
  unfold Dev.restrain
  have g : ∀ (l : List (Nat × Nat × Access × Bool)) (x : Nat × Bool),
      (∀ f ∈ l, d.fieldRestricted (blockOf a) r.row.base r.i f.1 f.2.2.1 = false) →
      l.foldl (fun (x : Nat × Bool) f =>
        if d.fieldRestricted (blockOf a) r.row.base r.i f.1 f.2.2.1 then
          let held := Cells.get resetField d.regs (a * 32 + f.1)
          let keep := match f.2.2.1 with | .rw | .ro | .rc => held | .wo | .w1c | .w1s | .sc => 0
          (putField x.1 f.1 f.2.1 keep, x.2 || wouldChange f.2.2.1 (d.fieldRead a f) (bits v f.1 f.2.1))
        else x) x = x := by
    intro l
    induction l with
    | nil => intro x _; rfl
    | cons y r ih =>
      intro x hx
      simp only [List.foldl]
      rw [hx y (List.mem_cons_self ..), if_neg (by simp)]
      exact ih x (fun z hz => hx z (List.mem_cons_of_mem _ hz))
  exact g _ _ h

/-- A direct write to a register none of whose fields is restricted now. -/
theorem Dev.directField_awake (d : Dev) (p : Path) (f : Field) (v i j : Nat) (r : RegPlace) (h : d.awake) (h4 : f.addr i j % 4 = 0)
    (hr : regPlace (f.addr i j) = some r)
    (hf : ∀ x ∈ r.row.fields, d.fieldRestricted (blockOf (f.addr i j)) r.row.base r.i x.1 x.2.2.1 = false) :
    d.directField p f v i j = d.applyWrite (p == .spi) true (f.addr i j) r (v % 2 ^ 32) := by
  unfold Dev.directField Dev.directWrite
  rw [Dev.gated_awake d p _ _ r h h4 hr, Dev.restrain_free _ _ _ _ hf]
  rfl

/-! ### BAR2 -/

theorem strideIndex_none {d s n : Nat} (hs : s ≠ 0) (hn : 1 < n) (h : s * n ≤ d) : strideIndex d s n = none := by
  have : ¬ d / s < n := by
    intro hc; have := (Nat.div_lt_iff_lt_mul (Nat.pos_of_ne_zero hs)).1 hc; rw [Nat.mul_comm] at this; omega
  unfold strideIndex; rw [if_neg (by omega), if_neg hs]; simp [this]

theorem rowAt_none {a : Nat} : ∀ (l : List RegRow), (∀ r ∈ l, r.base ≤ a ∧ instanceAt (a - r.base) r.n1 r.s1 r.n2 r.s2 = none) → rowAt a l = none
  | [], _ => rfl
  | r :: rest, h => by
    obtain ⟨h1, h2⟩ := h r (List.mem_cons_self ..)
    unfold rowAt
    rw [if_neg (by omega), h2]
    exact rowAt_none rest (fun x hx => h x (List.mem_cons_of_mem _ hx))

/-- No register lies where a direct access by BAR0 stands for one by BAR2. -/
theorem regPlace_bar2 {a : Nat} (h : bar2Base ≤ a) : regPlace a = none := by
  have h' : 0x4000000 ≤ a := h
  have hb : blockOf a = .decode := by unfold blockOf; rw [if_pos (by omega)]
  unfold regPlace
  split
  · rw [hb]
    have g : ∀ r ∈ Block.decode.rows, r.base < 0x800000 ∧ r.n1 = 16 ∧ r.n2 ≤ 1 ∧ r.s1 = 0x40 := by decide
    refine rowAt_none _ (fun r hr => ?_)
    obtain ⟨g1, g2, g3, g4⟩ := g r hr
    refine ⟨by omega, ?_⟩
    unfold instanceAt
    rw [if_neg (by omega), if_pos g3, strideIndex_none (by omega) (by omega) (by rw [g4, g2]; omega)]
    rfl
  · rfl

end Sys2Proof.Machine
end

