-- ==== Sys2Proof/Laws/LineCode.lean ====
section
/-! SUPPORT. The small lemmas of the VXL line code: how long what each function gives is, and the bounds of a history and of a run count. -/
namespace Sys2Proof.Machine

@[simp] theorem wordBits_length (w : Nat) : (wordBits w).length = 64 := by simp [wordBits]

/-- A history holds 31 bits. -/
theorem histPush_lt (h : Nat) (s : Bool) : histPush h s < 2 ^ 31 := Nat.mod_lt _ (by decide)

@[simp] theorem scrambleBits_length (h : Nat) (xs : List Bool) : (scrambleBits h xs).1.length = xs.length := by
  induction xs generalizing h with
  | nil => rfl
  | cons x xs ih => simp [scrambleBits, ih]

@[simp] theorem descrambleBits_length (h : Nat) (xs : List Bool) : (descrambleBits h xs).1.length = xs.length := by
  induction xs generalizing h with
  | nil => rfl
  | cons x xs ih => simp [descrambleBits, ih]

theorem bitsWord_lt (xs : List Bool) : bitsWord xs < 2 ^ xs.length := by
  induction xs with
  | nil => decide
  | cons x xs ih =>
    have hx : b2n x ≤ 1 := by cases x <;> decide
    simp only [bitsWord, List.foldr_cons, List.length_cons, Nat.pow_succ] at *
    omega

/-- A descrambled word has 64 bits. -/
theorem descrambleWord_lt (h w : Nat) : (descrambleWord h w).1 < 2 ^ 64 := by
  have := bitsWord_lt (descrambleBits h (wordBits w)).1
  simpa [descrambleWord] using this

theorem LineRun.next_count_pos (r : LineRun) (x : Bool) : 0 < (r.next x).count := by unfold LineRun.next; split <;> simp

/-- After a bit below a run of 24 the run is at most 24. -/
theorem LineRun.next_count_le (r : LineRun) (x : Bool) (h : r.count < 24) : (r.next x).count ≤ 24 := by
  unfold LineRun.next; split
  · simp
  · simp; omega

/-- Stuffing only adds bits. -/
theorem length_le_stuffBits (r : LineRun) (xs : List Bool) : xs.length ≤ (stuffBits r xs).1.length := by
  induction xs generalizing r with
  | nil => simp
  | cons x xs ih =>
    have := ih
    simp only [stuffBits]
    split
    · have h1 := ih { (r.next x) with count := 0 }; simp only [List.length_cons] at *; omega
    · have h1 := ih (r.next x); simp only [List.length_cons] at *; omega

end Sys2Proof.Machine
end

