-- ==== Sys2Proof/Laws/Memory.lean ====
section
/-! SUPPORT. Reading after writing in the in-package memory, and that every operation over the tables keeps their canonical form. -/
namespace Sys2Proof.Machine

/-- Bytes written from an address on read back; every other byte reads as before. -/
theorem Cells.get_writes (f : Nat → Byte) (a : Nat) : ∀ (bs : List Byte) (k : Nat) (l : List (Nat × Byte)) (j : Nat),
    Cells.get f ((bs.zipIdx k).foldl (fun l x => Cells.set f l (a + x.2) x.1) l) j =
      if a + k ≤ j ∧ j < a + k + bs.length then bs.getD (j - (a + k)) 0 else Cells.get f l j
  | [], k, l, j => by
    rw [if_neg (by simp)]; rfl
  | b :: r, k, l, j => by
    rw [List.zipIdx_cons, List.foldl_cons, Cells.get_writes f a r (k + 1)]
    by_cases h1 : a + (k + 1) ≤ j ∧ j < a + (k + 1) + r.length
    · rw [if_pos h1, if_pos (by simp only [List.length_cons]; omega)]
      obtain ⟨m, rfl⟩ : ∃ m, j = a + (k + 1) + m := ⟨j - (a + (k + 1)), by omega⟩
      rw [show a + (k + 1) + m - (a + (k + 1)) = m by omega, show a + (k + 1) + m - (a + k) = m + 1 by omega, List.getD_cons_succ]
    · rw [if_neg h1]
      by_cases h2 : j = a + k
      · subst h2; rw [if_pos (by simp only [List.length_cons]; omega)]; simp
      · rw [if_neg (by simp only [List.length_cons]; omega), Cells.get_set_other f l _ h2]

/-- A byte read after a write of bytes. -/
theorem Dev.hbmByte_hbmWrite (d : Dev) (a : Nat) (bs : List Byte) (j : Nat) :
    (d.hbmWrite a bs).hbmByte j = if a ≤ j ∧ j < a + bs.length then bs.getD (j - a) 0 else d.hbmByte j := by
  have := Cells.get_writes hbmUnlisted a bs 0 d.hbm j
  simpa [Dev.hbmByte, Dev.hbmWrite] using this

/-- The bytes written read back. -/
theorem Dev.hbmBytes_hbmWrite_same (d : Dev) (a : Nat) (bs : List Byte) : (d.hbmWrite a bs).hbmBytes a bs.length = bs := by
  apply List.ext_getElem
  · simp [Dev.hbmBytes]
  · intro i h1 h2
    simp [Dev.hbmBytes, Dev.hbmByte_hbmWrite, h2]

/-- Bytes apart from the written ones read as before. -/
theorem Dev.hbmBytes_hbmWrite_apart (d : Dev) (a b n : Nat) (bs : List Byte) (h : b + n ≤ a ∨ a + bs.length ≤ b) :
    (d.hbmWrite a bs).hbmBytes b n = d.hbmBytes b n := by
  apply List.map_congr_left
  intro i hi
  rw [List.mem_range] at hi
  rw [Dev.hbmByte_hbmWrite, if_neg (by omega)]

/-- Writing cells one after another keeps the canonical form. -/
theorem Cells.wf_writes {α β : Type} [DecidableEq α] {f : Nat → α} (key : β → Nat) (val : β → α) : ∀ (xs : List β) (l : List (Nat × α)),
    Cells.wf f l = true → Cells.wf f (xs.foldl (fun l x => Cells.set f l (key x) (val x)) l) = true
  | [], _, h => h
  | x :: r, _, h => Cells.wf_writes key val r _ (Cells.wf_set (key x) (val x) h)

/-- The same for the memory as a whole. -/
theorem Dev.wf_hbmWrite (d : Dev) (a : Nat) (bs : List Byte) (h : Cells.wf hbmUnlisted d.hbm = true) :
    Cells.wf hbmUnlisted (d.hbmWrite a bs).hbm = true := Cells.wf_writes (fun x : Byte × Nat => a + x.2) (fun x => x.1) _ _ h

/-- A sector written keeps the canonical form, and so does its parity. -/
theorem Dev.wf_writeSector (d : Dev) (a : Nat) (bs : List Byte) (h : Cells.wf hbmUnlisted d.hbm = true) :
    Cells.wf hbmUnlisted (d.writeSector a bs).hbm = true := Dev.wf_hbmWrite _ _ _ (Dev.wf_hbmWrite _ _ _ h)

theorem Dev.wf_storeSector (d : Dev) (a : Nat) (bs : List Byte) (h : Cells.wf hbmUnlisted d.hbm = true) :
    Cells.wf hbmUnlisted (d.storeSector a bs).hbm = true := by
  unfold Dev.storeSector
  split
  · exact h
  · dsimp only
    split
    · split
      · exact Dev.wf_writeSector _ _ _ h
      · exact Dev.wf_writeSector _ _ _ (Dev.wf_writeSector _ _ _ h)
    · exact Dev.wf_writeSector _ _ _ h

/-- Bytes written into a slot keep the memory canonical, sector by sector (R145). -/
theorem Dev.wf_slotWrite (d : Dev) (x : SlotPlace) (off : Nat) (bs : List Byte) (h : Cells.wf hbmUnlisted d.hbm = true) :
    Cells.wf hbmUnlisted (d.slotWrite x off bs).hbm = true := by
  unfold Dev.slotWrite
  dsimp only
  generalize List.range _ = l
  induction l generalizing d with
  | nil => exact h
  | cons k l ih => exact ih _ (Dev.wf_storeSector _ _ _ h)

/-- A line in its slot keeps the memory canonical (R145). -/
theorem Dev.wf_storeLine (d : Dev) (c : Chan) (slot line : Nat) (side pixels : List Nat) (damaged : Bool) (h : Cells.wf hbmUnlisted d.hbm = true) :
    Cells.wf hbmUnlisted (d.storeLine c slot line side pixels damaged).hbm = true := by
  unfold Dev.storeLine
  split
  · exact h
  · exact Dev.wf_slotWrite _ _ _ _ (Dev.wf_slotWrite _ _ _ _ h)

/-- A commit record in its slot keeps the memory canonical (R146). -/
theorem Dev.wf_storeCommit (d : Dev) (c : Chan) (slot : Nat) (r : CommitRec) (h : Cells.wf hbmUnlisted d.hbm = true) :
    Cells.wf hbmUnlisted (d.storeCommit c slot r).hbm = true := by
  unfold Dev.storeCommit
  split
  · exact h
  · exact Dev.wf_slotWrite _ _ _ _ h

/-- A field set keeps the canonical form of the registers. -/
theorem Dev.wf_setF (d : Dev) (f : Field) (v i j : Nat) (h : Cells.wf resetField d.regs = true) :
    Cells.wf resetField (d.setF f v i j).regs = true := Cells.wf_set _ _ h

/-- Erasing the flash keeps the canonical form. -/
theorem Dev.wf_flashErase (d : Dev) (a n : Nat) (h : Cells.wf flashUnlisted d.flash = true) : Cells.wf flashUnlisted (d.flashErase a n).flash = true :=
  Cells.wf_filter _ h

/-- Programming the flash keeps the canonical form. -/
theorem Dev.wf_flashProgram (d : Dev) (a : Nat) (bs : List Byte) (h : Cells.wf flashUnlisted d.flash = true) :
    Cells.wf flashUnlisted (d.flashProgram a bs).flash = true := by
  have key : ∀ (bs : List Byte) (p : Dev × Nat), Cells.wf flashUnlisted p.1.flash = true → Cells.wf flashUnlisted (bs.foldl (fun (p : Dev × Nat) b =>
      ({ p.1 with flash := Cells.set flashUnlisted p.1.flash p.2 (p.1.flashByte p.2 &&& b) }, p.2 + 1)) p).1.flash = true := by
    intro bs
    induction bs with
    | nil => intro p h; exact h
    | cons b r ih => intro p h; exact ih _ (Cells.wf_set _ _ h)
  exact key bs (d, a) h

end Sys2Proof.Machine
end

