-- ==== Sys2Proof/Laws/PerInstr.lean ====
section
/-! SUPPORT. A well-formed command of the catalogue names a client below 64 and a tag of 32 bits, and its buffer by a 64-bit address (R61,
R71), so that its reply's words hold them: one lemma per row. -/
namespace Sys2Proof.Laws.ReplyWidth
set_option Elab.async false
open Machine

/-- The context of a row that comes as a command of the catalogue (R500 to R510); the other rows have none. -/
def ctxOf : Instr → Option Ctx
  | .nop c => some c
  | .getInfo c => some c
  | .setMode c _ => some c
  | .getStatus c => some c
  | .warmReset c => some c
  | .snapshotCounters c _ _ _ _ => some c
  | .readEvents c _ _ => some c
  | .spiRelease c => some c
  | .almanacRead c _ _ _ => some c
  | .almanacStage c _ _ _ => some c
  | .almanacCommit c _ _ => some c
  | .almanacRevert c _ => some c
  | .openChannel c _ => some c
  | .closeChannel c _ => some c
  | .startChannel c _ => some c
  | .stopChannel c _ _ => some c
  | .reconfigureChannel c _ => some c
  | .forceEquinox c _ => some c
  | .queryChannel c _ => some c
  | .egressBind c _ => some c
  | .egressUnbind c _ _ => some c
  | .bundleConfigure c _ _ _ _ _ _ => some c
  | .bundleTrain c _ => some c
  | .laneStatus c _ => some c
  | .harvestArm c _ _ _ _ _ _ _ => some c
  | .harvestTrigger c _ => some c
  | .harvestRelease c _ => some c
  | .twinConfigure c _ => some c
  | .twinStatus c => some c
  | .twinHandover c => some c
  | .gangJoin c _ _ _ => some c
  | .gangLeave c => some c
  | .gangStatus c => some c
  | .recordBind c _ => some c
  | .recordUnbind c _ => some c
  | .memRegions c _ => some c
  | .fenceClear c _ _ _ => some c
  | .timeGet c => some c
  | .timeSetIncrement c _ => some c
  | .timeStep c _ => some c
  | .pulseProgram c _ _ _ _ _ _ _ => some c
  | .audioConfigure c _ => some c
  | .audioRoute c _ => some c
  | .audioMute c _ _ _ _ => some c
  | .previewConfigure c _ => some c
  | .lutLoad c _ => some c
  | .scalerLoad c _ => some c
  | .lanternLoad c _ _ _ => some c
  | .lanternMove c _ _ _ => some c
  | .planeLoad c _ _ _ => some c
  | .perturbSet c _ => some c
  | .perturbClear c _ => some c
  | .selftest c _ _ _ => some c
  | .checkRun c _ _ _ _ _ _ => some c
  | .regRead c _ _ => some c
  | .regWrite c _ _ => some c
  | .regModify c _ _ _ => some c
  | .decodeOpen c _ => some c
  | .decodeFeed c _ => some c
  | .decodeClose c _ => some c
  | .writePacket _ => none
  | .readReply => none
  | .readReg _ => none
  | .writeReg _ _ => none
  | .spiStatus => none
  | .sqDb _ _ => none
  | .rqDb _ _ => none
  | .queueOpen _ _ _ => none
  | .queueClose _ _ _ => none
  | .queueCloseEnd _ => none
  | .slotFetch _ _ _ _ => none
  | .slotReadRetry _ _ _ _ => none
  | .commandStart _ _ => none
  | .take _ => none
  | .stepHiGo _ _ => none
  | .accept _ => none
  | .pop _ _ => none
  | .load _ _ => none
  | .fetch _ _ => none
  | .flush _ _ _ _ _ => none
  | .cacheInval _ _ => none
  | .hold _ _ _ => none
  | .give _ _ _ _ => none
  | .start _ _ _ _ => none
  | .finish _ _ => none
  | .data32 _ _ _ _ => none
  | .valueLo _ _ _ _ => none
  | .resume _ _ => none
  | .head _ _ _ => none
  | .kill _ _ => none
  | .cfgEn _ _ _ => none
  | .registerWrite _ _ _ _ => none
  | .directRead _ _ _ => none
  | .startUp _ => none
  | .thermalHoldEnd _ => none
  | .thermalHoldTimeout => none
  | .coldReset => none
  | .pwrokFall => none
  | .wrstN => none
  | .warmResetEntry => none
  | .internalRelease => none
  | .warmResume _ => none
  | .modeTransitionEnd => none
  | .engineGroupPower => none
  | .thermalSample _ _ => none
  | .sensorHoldEnd _ => none
  | .shedStepDown => none
  | .thermalShutdown _ _ => none
  | .firmwareTrip => none
  | .thermalRestart _ _ => none
  | .marker _ _ _ _ _ _ => none
  | .markerSlotMissed _ => none
  | .lossOfSignal _ => none
  | .stuffingViolation _ _ => none
  | .parityGroup _ _ => none
  | .trainingTimeout _ => none
  | .backoffExpiry _ => none
  | .retrainAttempt _ => none
  | .attemptTimeout _ => none
  | .talkbackRepeat _ => none
  | .linePacket _ _ => none
  | .lineCommit _ _ => none
  | .pictureTimeout _ _ => none
  | .pictureAccept _ _ => none
  | .rowIssue _ => none
  | .taskTake _ _ _ => none
  | .steal _ _ _ => none
  | .ask _ _ _ => none
  | .preempt _ => none
  | .contextSave _ _ => none
  | .tokenPublish _ _ _ _ _ => none
  | .rowCommit _ _ _ _ _ _ => none
  | .engineFault _ _ _ => none
  | .engineSilence _ => none
  | .dispatcherHeartbeat _ => none
  | .rescue _ _ _ => none
  | .rescueCommit _ _ _ _ _ => none
  | .rowDepart _ _ _ => none
  | .noteCompare _ _ _ => none
  | .entropyParse _ _ _ _ => none
  | .decodeRowCommit _ _ _ _ => none
  | .budgetExpiry _ _ _ => none
  | .retentionExpiry _ => none
  | .hello _ => none
  | .helloSend => none
  | .heartbeat _ => none
  | .heartbeatSend => none
  | .propose _ => none
  | .agree _ => none
  | .refuse _ => none
  | .commit _ => none
  | .commitAck _ => none
  | .abort _ => none
  | .proposalTimeout => none
  | .picDigest _ => none
  | .rowNote _ => none
  | .leave _ => none
  | .joinReq _ _ _ => none
  | .joinRetry _ => none
  | .copyChunk _ => none
  | .copyDone _ _ => none
  | .switch _ => none
  | .tail _ _ _ => none
  | .pathBeacon _ _ _ => none
  | .beaconSend => none
  | .linkLost => none
  | .takeover => none
  | .demote => none
  | .solo => none
  | .pairingRetry => none
  | .revert => none
  | .segmentHoldExpiry => none
  | .calends _ _ => none
  | .calendsSend _ => none
  | .slotMissed => none
  | .hole _ => none
  | .status _ => none
  | .stats _ => none
  | .bypassChange => none
  | .memoryRequest _ _ => none
  | .memoryRead _ _ => none
  | .requestUrgency _ => none
  | .refreshTick _ => none
  | .refreshDone _ => none
  | .stackTempRead _ _ => none
  | .hotStateChange _ => none
  | .powerDownEntry _ => none
  | .accessTimeout _ => none
  | .phyUnlock _ => none
  | .rebuildDone _ => none
  | .segmentWrite _ _ => none
  | .segmentCommit _ => none
  | .packetSend _ _ => none
  | .portLinkDown _ _ => none
  | .linkUp _ _ => none
  | .frameReceive _ _ _ _ => none
  | .ptpMessage _ _ _ _ => none
  | .delayReq => none
  | .announceTimeout _ => none
  | .ptpPortChange => none
  | .addressResolve _ _ _ _ => none
  | .gratuitousArp _ => none
  | .groupQuery _ _ => none
  | .pulseFire _ => none
  | .refEdge _ => none
  | .refStopped => none
  | .eraUpdate => none
  | .startTick => none
  | .previewLine _ _ => none
  | .sampleFrame _ _ _ _ => none
  | .frameStart _ _ => none
  | .micStuck _ => none
  | .clockLoss _ => none
  | .amclkLoss _ => none
  | .rateMeasurement _ _ => none
  | .fadeTimeout _ => none
  | .powerDecision => none
  | .alarm _ => none
  | .wakeComplete _ => none
  | .wakeFail _ => none
  | .pllUnlock _ => none
  | .resonatorFailure _ => none
  | .qualificationGate _ _ => none
  | .qualSlow _ => none
  | .lifeRecord _ _ => none
  | .injectionStart _ => none
  | .perturbExpiry _ => none
  | .coldPowerLoss => none
  | .perstNRelease _ _ _ => none
  | .busMasterEnable => none
  | .flashOperationDone => none
  | .pllRestartDone _ _ => none

/-- What a well-formed context holds. -/
def Fits (c : Ctx) : Prop := c.client < 64 ∧ c.tag < 2 ^ 32 ∧ c.buf < 2 ^ 64

/-- The context of a well-formed command fits its widths. -/
def Statement (i : Instr) : Prop := i.wf = true → ∀ c, ctxOf i = some c → Fits c

theorem fits_of_wf {c : Ctx} (h : c.wf = true) : Fits c := by
  simp only [Ctx.wf, u32, u64, Bool.and_eq_true, decide_eq_true_eq] at h
  exact ⟨h.1.1, h.1.2, h.2⟩

/-- A row whose well-formedness asks for that of its context. -/
theorem of_wf {i : Instr} {c : Ctx} (hc : ctxOf i = some c) (h : i.wf = true → c.wf = true) : Statement i := by
  intro hw e he
  rw [hc] at he
  exact Option.some.inj he ▸ fits_of_wf (h hw)

/-- A row without a context. -/
theorem of_none {i : Instr} (hc : ctxOf i = none) : Statement i := fun _ _ he => by rw [hc] at he; cases he

theorem nop (c : Ctx) : Statement (.nop c) := of_wf rfl (fun h => h)
theorem getInfo (c : Ctx) : Statement (.getInfo c) := of_wf rfl (fun h => h)
theorem setMode (c : Ctx) (target : Nat) : Statement (.setMode c target) :=
  of_wf rfl (fun h => by simp only [Instr.wf, Bool.and_eq_true] at h; simp only [h])
theorem getStatus (c : Ctx) : Statement (.getStatus c) := of_wf rfl (fun h => h)
theorem warmReset (c : Ctx) : Statement (.warmReset c) := of_wf rfl (fun h => h)
theorem snapshotCounters (c : Ctx) (scope flags length scatter : Nat) : Statement (.snapshotCounters c scope flags length scatter) :=
  of_wf rfl (fun h => by simp only [Instr.wf, Bool.and_eq_true] at h; simp only [h])
theorem readEvents (c : Ctx) (from_ most : Nat) : Statement (.readEvents c from_ most) :=
  of_wf rfl (fun h => by simp only [Instr.wf, Bool.and_eq_true] at h; simp only [h])
theorem spiRelease (c : Ctx) : Statement (.spiRelease c) := of_wf rfl (fun h => h)
theorem almanacRead (c : Ctx) (source offset length : Nat) : Statement (.almanacRead c source offset length) :=
  of_wf rfl (fun h => by simp only [Instr.wf, Bool.and_eq_true] at h; simp only [h])
theorem almanacStage (c : Ctx) (begin : Bool) (offset length : Nat) : Statement (.almanacStage c begin offset length) :=
  of_wf rfl (fun h => by simp only [Instr.wf, Bool.and_eq_true] at h; simp only [h])
theorem almanacCommit (c : Ctx) (length crc : Nat) : Statement (.almanacCommit c length crc) :=
  of_wf rfl (fun h => by simp only [Instr.wf, Bool.and_eq_true] at h; simp only [h])
theorem almanacRevert (c : Ctx) (form : Nat) : Statement (.almanacRevert c form) :=
  of_wf rfl (fun h => by simp only [Instr.wf, Bool.and_eq_true] at h; simp only [h])
theorem openChannel (c : Ctx) (block : List Byte) : Statement (.openChannel c block) :=
  of_wf rfl (fun h => by simp only [Instr.wf, Bool.and_eq_true] at h; simp only [h])
theorem closeChannel (c : Ctx) (channel : Nat) : Statement (.closeChannel c channel) :=
  of_wf rfl (fun h => by simp only [Instr.wf, Bool.and_eq_true] at h; simp only [h])
theorem startChannel (c : Ctx) (channel : Nat) : Statement (.startChannel c channel) :=
  of_wf rfl (fun h => by simp only [Instr.wf, Bool.and_eq_true] at h; simp only [h])
theorem stopChannel (c : Ctx) (channel mode : Nat) : Statement (.stopChannel c channel mode) :=
  of_wf rfl (fun h => by simp only [Instr.wf, Bool.and_eq_true] at h; simp only [h])
theorem reconfigureChannel (c : Ctx) (block : List Byte) : Statement (.reconfigureChannel c block) :=
  of_wf rfl (fun h => by simp only [Instr.wf, Bool.and_eq_true] at h; simp only [h])
theorem forceEquinox (c : Ctx) (channel : Nat) : Statement (.forceEquinox c channel) :=
  of_wf rfl (fun h => by simp only [Instr.wf, Bool.and_eq_true] at h; simp only [h])
theorem queryChannel (c : Ctx) (channel : Nat) : Statement (.queryChannel c channel) :=
  of_wf rfl (fun h => by simp only [Instr.wf, Bool.and_eq_true] at h; simp only [h])
theorem egressBind (c : Ctx) (block : List Byte) : Statement (.egressBind c block) :=
  of_wf rfl (fun h => by simp only [Instr.wf, Bool.and_eq_true] at h; simp only [h])
theorem egressUnbind (c : Ctx) (kind stream : Nat) : Statement (.egressUnbind c kind stream) :=
  of_wf rfl (fun h => by simp only [Instr.wf, Bool.and_eq_true] at h; simp only [h])
theorem bundleConfigure (c : Ctx) (bundle what cfg front fifo : Nat) (matrix : List Int) : Statement (.bundleConfigure c bundle what cfg front fifo matrix) :=
  of_wf rfl (fun h => by simp only [Instr.wf, Bool.and_eq_true] at h; simp only [h])
theorem bundleTrain (c : Ctx) (bundle : Nat) : Statement (.bundleTrain c bundle) :=
  of_wf rfl (fun h => by simp only [Instr.wf, Bool.and_eq_true] at h; simp only [h])
theorem laneStatus (c : Ctx) (bundle : Nat) : Statement (.laneStatus c bundle) :=
  of_wf rfl (fun h => by simp only [Instr.wf, Bool.and_eq_true] at h; simp only [h])
theorem harvestArm (c : Ctx) (channel flags triggers gen slots pre post : Nat) : Statement (.harvestArm c channel flags triggers gen slots pre post) :=
  of_wf rfl (fun h => by simp only [Instr.wf, Bool.and_eq_true] at h; simp only [h])
theorem harvestTrigger (c : Ctx) (channel : Nat) : Statement (.harvestTrigger c channel) :=
  of_wf rfl (fun h => by simp only [Instr.wf, Bool.and_eq_true] at h; simp only [h])
theorem harvestRelease (c : Ctx) (channel : Nat) : Statement (.harvestRelease c channel) :=
  of_wf rfl (fun h => by simp only [Instr.wf, Bool.and_eq_true] at h; simp only [h])
theorem twinConfigure (c : Ctx) (enable : Nat) : Statement (.twinConfigure c enable) :=
  of_wf rfl (fun h => by simp only [Instr.wf, Bool.and_eq_true] at h; simp only [h])
theorem twinStatus (c : Ctx) : Statement (.twinStatus c) := of_wf rfl (fun h => h)
theorem twinHandover (c : Ctx) : Statement (.twinHandover c) := of_wf rfl (fun h => h)
theorem gangJoin (c : Ctx) (member members ringId : Nat) : Statement (.gangJoin c member members ringId) :=
  of_wf rfl (fun h => by simp only [Instr.wf, Bool.and_eq_true] at h; simp only [h])
theorem gangLeave (c : Ctx) : Statement (.gangLeave c) := of_wf rfl (fun h => h)
theorem gangStatus (c : Ctx) : Statement (.gangStatus c) := of_wf rfl (fun h => h)
theorem recordBind (c : Ctx) (block : List Byte) : Statement (.recordBind c block) :=
  of_wf rfl (fun h => by simp only [Instr.wf, Bool.and_eq_true] at h; simp only [h])
theorem recordUnbind (c : Ctx) (queue : Nat) : Statement (.recordUnbind c queue) :=
  of_wf rfl (fun h => by simp only [Instr.wf, Bool.and_eq_true] at h; simp only [h])
theorem memRegions (c : Ctx) (entries : List (Nat × Nat)) : Statement (.memRegions c entries) :=
  of_wf rfl (fun h => by simp only [Instr.wf, Bool.and_eq_true] at h; simp only [h])
theorem fenceClear (c : Ctx) (kind index : Nat) (struck : Option Nat) : Statement (.fenceClear c kind index struck) :=
  of_wf rfl (fun h => by simp only [Instr.wf, Bool.and_eq_true] at h; simp only [h])
theorem timeGet (c : Ctx) : Statement (.timeGet c) := of_wf rfl (fun h => h)
theorem timeSetIncrement (c : Ctx) (inc : Nat) : Statement (.timeSetIncrement c inc) :=
  of_wf rfl (fun h => by simp only [Instr.wf, Bool.and_eq_true] at h; simp only [h])
theorem timeStep (c : Ctx) (offset : Int) : Statement (.timeStep c offset) :=
  of_wf rfl (fun h => by simp only [Instr.wf, Bool.and_eq_true] at h; simp only [h])
theorem pulseProgram (c : Ctx) (gen mode flags width first period frac : Nat) : Statement (.pulseProgram c gen mode flags width first period frac) :=
  of_wf rfl (fun h => by simp only [Instr.wf, Bool.and_eq_true] at h; simp only [h])
theorem audioConfigure (c : Ctx) (block : List Byte) : Statement (.audioConfigure c block) :=
  of_wf rfl (fun h => by simp only [Instr.wf, Bool.and_eq_true] at h; simp only [h])
theorem audioRoute (c : Ctx) (block : List Byte) : Statement (.audioRoute c block) :=
  of_wf rfl (fun h => by simp only [Instr.wf, Bool.and_eq_true] at h; simp only [h])
theorem audioMute (c : Ctx) (kind index slot action : Nat) : Statement (.audioMute c kind index slot action) :=
  of_wf rfl (fun h => by simp only [Instr.wf, Bool.and_eq_true] at h; simp only [h])
theorem previewConfigure (c : Ctx) (block : List Byte) : Statement (.previewConfigure c block) :=
  of_wf rfl (fun h => by simp only [Instr.wf, Bool.and_eq_true] at h; simp only [h])
theorem lutLoad (c : Ctx) (block : List Byte) : Statement (.lutLoad c block) :=
  of_wf rfl (fun h => by simp only [Instr.wf, Bool.and_eq_true] at h; simp only [h])
theorem scalerLoad (c : Ctx) (block : List Byte) : Statement (.scalerLoad c block) :=
  of_wf rfl (fun h => by simp only [Instr.wf, Bool.and_eq_true] at h; simp only [h])
theorem lanternLoad (c : Ctx) (flags hx hy : Nat) : Statement (.lanternLoad c flags hx hy) :=
  of_wf rfl (fun h => by simp only [Instr.wf, Bool.and_eq_true] at h; simp only [h])
theorem lanternMove (c : Ctx) (x y : Int) (flags : Nat) : Statement (.lanternMove c x y flags) :=
  of_wf rfl (fun h => by simp only [Instr.wf, Bool.and_eq_true] at h; simp only [h])
theorem planeLoad (c : Ctx) (flags row rows : Nat) : Statement (.planeLoad c flags row rows) :=
  of_wf rfl (fun h => by simp only [Instr.wf, Bool.and_eq_true] at h; simp only [h])
theorem perturbSet (c : Ctx) (block : List Byte) : Statement (.perturbSet c block) :=
  of_wf rfl (fun h => by simp only [Instr.wf, Bool.and_eq_true] at h; simp only [h])
theorem perturbClear (c : Ctx) (kinds : Nat) : Statement (.perturbClear c kinds) :=
  of_wf rfl (fun h => by simp only [Instr.wf, Bool.and_eq_true] at h; simp only [h])
theorem selftest (c : Ctx) (engines wrong delta : Nat) : Statement (.selftest c engines wrong delta) :=
  of_wf rfl (fun h => by simp only [Instr.wf, Bool.and_eq_true] at h; simp only [h])
theorem checkRun (c : Ctx) (unit poly guardLen guard expect length : Nat) : Statement (.checkRun c unit poly guardLen guard expect length) :=
  of_wf rfl (fun h => by simp only [Instr.wf, Bool.and_eq_true] at h; simp only [h])
theorem regRead (c : Ctx) (addr count : Nat) : Statement (.regRead c addr count) :=
  of_wf rfl (fun h => by simp only [Instr.wf, Bool.and_eq_true] at h; simp only [h])
theorem regWrite (c : Ctx) (addr value : Nat) : Statement (.regWrite c addr value) :=
  of_wf rfl (fun h => by simp only [Instr.wf, Bool.and_eq_true] at h; simp only [h])
theorem regModify (c : Ctx) (addr mask value : Nat) : Statement (.regModify c addr mask value) :=
  of_wf rfl (fun h => by simp only [Instr.wf, Bool.and_eq_true] at h; simp only [h])
theorem decodeOpen (c : Ctx) (block : List Byte) : Statement (.decodeOpen c block) :=
  of_wf rfl (fun h => by simp only [Instr.wf, Bool.and_eq_true] at h; simp only [h])
theorem decodeFeed (c : Ctx) (block : List Byte) : Statement (.decodeFeed c block) :=
  of_wf rfl (fun h => by simp only [Instr.wf, Bool.and_eq_true] at h; simp only [h])
theorem decodeClose (c : Ctx) (context : Nat) : Statement (.decodeClose c context) :=
  of_wf rfl (fun h => by simp only [Instr.wf, Bool.and_eq_true] at h; simp only [h])
theorem writePacket (bytes : List Byte) : Statement (.writePacket bytes) := of_none rfl
theorem readReply : Statement (.readReply) := of_none rfl
theorem readReg (addr : Nat) : Statement (.readReg addr) := of_none rfl
theorem writeReg (addr value : Nat) : Statement (.writeReg addr value) := of_none rfl
theorem spiStatus : Statement (.spiStatus) := of_none rfl
theorem sqDb (client : Fin 64) (value : Nat) : Statement (.sqDb client value) := of_none rfl
theorem rqDb (client : Fin 64) (value : Nat) : Statement (.rqDb client value) := of_none rfl
theorem queueOpen (path : Path) (client : Fin 64) (value : Nat) : Statement (.queueOpen path client value) := of_none rfl
theorem queueClose (path : Path) (client : Fin 64) (value : Nat) : Statement (.queueClose path client value) := of_none rfl
theorem queueCloseEnd (client : Fin 64) : Statement (.queueCloseEnd client) := of_none rfl
theorem slotFetch (source : Option (Fin 64)) (bytes : Option (List Byte)) (rd host : HostRead) : Statement (.slotFetch source bytes rd host) := of_none rfl
theorem slotReadRetry (client : Fin 64) (bytes : Option (List Byte)) (rd host : HostRead) : Statement (.slotReadRetry client bytes rd host) := of_none rfl
theorem commandStart (order : Nat) (extra : CmdExtra) : Statement (.commandStart order extra) := of_none rfl
theorem take (path : Path) : Statement (.take path) := of_none rfl
theorem stepHiGo (path : Path) (offset : Nat) : Statement (.stepHiGo path offset) := of_none rfl
theorem accept (path : Path) : Statement (.accept path) := of_none rfl
theorem pop (path : Path) (port : Fin 2) : Statement (.pop path port) := of_none rfl
theorem load (path : Path) (gen : Fin 8) : Statement (.load path gen) := of_none rfl
theorem fetch (path : Path) (gen : Fin 8) : Statement (.fetch path gen) := of_none rfl
theorem flush (path : Path) (bundle : Fin 16) (high low : Nat) (cut : Option CutPacket) : Statement (.flush path bundle high low cut) := of_none rfl
theorem cacheInval (path : Path) (engine : Fin 128) : Statement (.cacheInval path engine) := of_none rfl
theorem hold (path : Path) (engine : Fin 128) (on : Bool) : Statement (.hold path engine on) := of_none rfl
theorem give (path : Path) (cluster : Fin 8) (engine : Fin 16) (go : Bool) : Statement (.give path cluster engine go) := of_none rfl
theorem start (path : Path) (unit : Fin 8) (poly guardLen : Fin 4) : Statement (.start path unit poly guardLen) := of_none rfl
theorem finish (path : Path) (unit : Fin 8) : Statement (.finish path unit) := of_none rfl
theorem data32 (path : Path) (unit : Fin 8) (size : FeedSize) (value : Nat) : Statement (.data32 path unit size value) := of_none rfl
theorem valueLo (path : Path) (unit : Fin 8) (hi : Bool) (value : Nat) : Statement (.valueLo path unit hi value) := of_none rfl
theorem resume (path : Path) (queue : Fin 16) : Statement (.resume path queue) := of_none rfl
theorem head (path : Path) (queue : Fin 16) (value : Nat) : Statement (.head path queue value) := of_none rfl
theorem kill (path : Path) (mask : Nat) : Statement (.kill path mask) := of_none rfl
theorem cfgEn (path : Path) (kind : Fin 7) (on : Bool) : Statement (.cfgEn path kind on) := of_none rfl
theorem registerWrite (path : Path) (addr value enables : Nat) : Statement (.registerWrite path addr value enables) := of_none rfl
theorem directRead (path : Path) (addr bytes : Nat) : Statement (.directRead path addr bytes) := of_none rfl
theorem startUp (info : StartInfo) : Statement (.startUp info) := of_none rfl
theorem thermalHoldEnd (info : StartInfo) : Statement (.thermalHoldEnd info) := of_none rfl
theorem thermalHoldTimeout : Statement (.thermalHoldTimeout) := of_none rfl
theorem coldReset : Statement (.coldReset) := of_none rfl
theorem pwrokFall : Statement (.pwrokFall) := of_none rfl
theorem wrstN : Statement (.wrstN) := of_none rfl
theorem warmResetEntry : Statement (.warmResetEntry) := of_none rfl
theorem internalRelease : Statement (.internalRelease) := of_none rfl
theorem warmResume (info : ResumeInfo) : Statement (.warmResume info) := of_none rfl
theorem modeTransitionEnd : Statement (.modeTransitionEnd) := of_none rfl
theorem engineGroupPower : Statement (.engineGroupPower) := of_none rfl
theorem thermalSample (raws : List Int) (comp : Nat) : Statement (.thermalSample raws comp) := of_none rfl
theorem sensorHoldEnd (zone : Fin 13) : Statement (.sensorHoldEnd zone) := of_none rfl
theorem shedStepDown : Statement (.shedStepDown) := of_none rfl
theorem thermalShutdown (zone : Fin 13) (comp : Fin 2) : Statement (.thermalShutdown zone comp) := of_none rfl
theorem firmwareTrip : Statement (.firmwareTrip) := of_none rfl
theorem thermalRestart (waitS : Nat) (info : StartInfo) : Statement (.thermalRestart waitS info) := of_none rfl
theorem marker (lane : LinkLane) (word : BitVec 64) (gap skew eyeH eyeW : Nat) : Statement (.marker lane word gap skew eyeH eyeW) := of_none rfl
theorem markerSlotMissed (lane : LinkLane) : Statement (.markerSlotMissed lane) := of_none rfl
theorem lossOfSignal (lane : LinkLane) : Statement (.lossOfSignal lane) := of_none rfl
theorem stuffingViolation (lane : LinkLane) (held : Fin 37) : Statement (.stuffingViolation lane held) := of_none rfl
theorem parityGroup (bundle : Fin 16) (words : List (BitVec 64)) : Statement (.parityGroup bundle words) := of_none rfl
theorem trainingTimeout (unit : LinkUnit) : Statement (.trainingTimeout unit) := of_none rfl
theorem backoffExpiry (unit : LinkUnit) : Statement (.backoffExpiry unit) := of_none rfl
theorem retrainAttempt (lane : LinkLane) : Statement (.retrainAttempt lane) := of_none rfl
theorem attemptTimeout (lane : LinkLane) : Statement (.attemptTimeout lane) := of_none rfl
theorem talkbackRepeat (bundle : Fin 16) : Statement (.talkbackRepeat bundle) := of_none rfl
theorem linePacket (bundle : Fin 16) (words : List LineWord) : Statement (.linePacket bundle words) := of_none rfl
theorem lineCommit (bundle : Fin 16) (bad : Nat) : Statement (.lineCommit bundle bad) := of_none rfl
theorem pictureTimeout (channel : Fin 128) (picture : Nat) : Statement (.pictureTimeout channel picture) := of_none rfl
theorem pictureAccept (channel : Fin 128) (picture : Nat) : Statement (.pictureAccept channel picture) := of_none rfl
theorem rowIssue (channel : Fin 128) : Statement (.rowIssue channel) := of_none rfl
theorem taskTake (engine : Fin 128) (dchk ctxGood : Bool) : Statement (.taskTake engine dchk ctxGood) := of_none rfl
theorem steal (engine : Fin 128) (dchk ctxGood : Bool) : Statement (.steal engine dchk ctxGood) := of_none rfl
theorem ask (engine : Fin 128) (dchk ctxGood : Bool) : Statement (.ask engine dchk ctxGood) := of_none rfl
theorem preempt (cluster : Fin 8) : Statement (.preempt cluster) := of_none rfl
theorem contextSave (engine : Fin 128) (ok : Bool) : Statement (.contextSave engine ok) := of_none rfl
theorem tokenPublish (engine : Fin 128) (coarse : Bool) (cycles stall refetch : Nat) : Statement (.tokenPublish engine coarse cycles stall refetch) := of_none rfl
theorem rowCommit (engine : Fin 128) (size : Nat) (mx my : Int) (recon cycles : Nat) : Statement (.rowCommit engine size mx my recon cycles) := of_none rfl
theorem engineFault (engine : Fin 128) (cause : Fin 5) (stage : Fin 7) : Statement (.engineFault engine cause stage) := of_none rfl
theorem engineSilence (engine : Fin 128) : Statement (.engineSilence engine) := of_none rfl
theorem dispatcherHeartbeat (missed : Fin 256) : Statement (.dispatcherHeartbeat missed) := of_none rfl
theorem rescue (channel : Fin 128) (picture : Nat) (row : Fin 256) : Statement (.rescue channel picture row) := of_none rfl
theorem rescueCommit (channel : Fin 128) (picture : Nat) (row : Fin 256) (size recon : Nat) : Statement (.rescueCommit channel picture row size recon) := of_none rfl
theorem rowDepart (channel : Fin 128) (lens : List Nat) (crc : Nat) : Statement (.rowDepart channel lens crc) := of_none rfl
theorem noteCompare (channel : Fin 128) (picture : Nat) (row : Fin 256) : Statement (.noteCompare channel picture row) := of_none rfl
theorem entropyParse (context : Fin 16) (item : ParseItem) (used cycles : Nat) : Statement (.entropyParse context item used cycles) := of_none rfl
theorem decodeRowCommit (engine : Fin 128) (xlat : Bool) (digest cycles : Nat) : Statement (.decodeRowCommit engine xlat digest cycles) := of_none rfl
theorem budgetExpiry (unit context : Fin 16) (work : DecodeWork) : Statement (.budgetExpiry unit context work) := of_none rfl
theorem retentionExpiry (context : Fin 16) : Statement (.retentionExpiry context) := of_none rfl
theorem hello (m : LinkMsg) : Statement (.hello m) := of_none rfl
theorem helloSend : Statement (.helloSend) := of_none rfl
theorem heartbeat (m : LinkMsg) : Statement (.heartbeat m) := of_none rfl
theorem heartbeatSend : Statement (.heartbeatSend) := of_none rfl
theorem propose (m : LinkMsg) : Statement (.propose m) := of_none rfl
theorem agree (m : LinkMsg) : Statement (.agree m) := of_none rfl
theorem refuse (m : LinkMsg) : Statement (.refuse m) := of_none rfl
theorem commit (m : LinkMsg) : Statement (.commit m) := of_none rfl
theorem commitAck (m : LinkMsg) : Statement (.commitAck m) := of_none rfl
theorem abort (m : LinkMsg) : Statement (.abort m) := of_none rfl
theorem proposalTimeout : Statement (.proposalTimeout) := of_none rfl
theorem picDigest (m : LinkMsg) : Statement (.picDigest m) := of_none rfl
theorem rowNote (m : LinkMsg) : Statement (.rowNote m) := of_none rfl
theorem leave (m : LinkMsg) : Statement (.leave m) := of_none rfl
theorem joinReq (m : LinkMsg) (chunks crc : Nat) : Statement (.joinReq m chunks crc) := of_none rfl
theorem joinRetry (channel : Fin 128) : Statement (.joinRetry channel) := of_none rfl
theorem copyChunk (m : LinkMsg) : Statement (.copyChunk m) := of_none rfl
theorem copyDone (m : LinkMsg) (snap : Snapshot) : Statement (.copyDone m snap) := of_none rfl
theorem switch (m : LinkMsg) : Statement (.switch m) := of_none rfl
theorem tail (m : LinkMsg) (pic : Option Pic) (lens : List Nat) : Statement (.tail m pic lens) := of_none rfl
theorem pathBeacon (port : Fin 2) (beacon : Bool) (payload : List Byte) : Statement (.pathBeacon port beacon payload) := of_none rfl
theorem beaconSend : Statement (.beaconSend) := of_none rfl
theorem linkLost : Statement (.linkLost) := of_none rfl
theorem takeover : Statement (.takeover) := of_none rfl
theorem demote : Statement (.demote) := of_none rfl
theorem solo : Statement (.solo) := of_none rfl
theorem pairingRetry : Statement (.pairingRetry) := of_none rfl
theorem revert : Statement (.revert) := of_none rfl
theorem segmentHoldExpiry : Statement (.segmentHoldExpiry) := of_none rfl
theorem calends (m : LinkMsg) (residence : Nat) : Statement (.calends m residence) := of_none rfl
theorem calendsSend (sched : List SchedEntry) : Statement (.calendsSend sched) := of_none rfl
theorem slotMissed : Statement (.slotMissed) := of_none rfl
theorem hole (m : LinkMsg) : Statement (.hole m) := of_none rfl
theorem status (m : LinkMsg) : Statement (.status m) := of_none rfl
theorem stats (m : LinkMsg) : Statement (.stats m) := of_none rfl
theorem bypassChange : Statement (.bypassChange) := of_none rfl
theorem memoryRequest (pc : Fin 128) (arrivals : List MemReq) : Statement (.memoryRequest pc arrivals) := of_none rfl
theorem memoryRead (pc : Fin 128) (read : SectorRead) : Statement (.memoryRead pc read) := of_none rfl
theorem requestUrgency (pc : Fin 128) : Statement (.requestUrgency pc) := of_none rfl
theorem refreshTick (pc : Fin 128) : Statement (.refreshTick pc) := of_none rfl
theorem refreshDone (pc : Fin 128) : Statement (.refreshDone pc) := of_none rfl
theorem stackTempRead (controller : Fin 4) (reading : Int) : Statement (.stackTempRead controller reading) := of_none rfl
theorem hotStateChange (pc : Fin 128) : Statement (.hotStateChange pc) := of_none rfl
theorem powerDownEntry (pc : Fin 128) : Statement (.powerDownEntry pc) := of_none rfl
theorem accessTimeout (pc : Fin 128) : Statement (.accessTimeout pc) := of_none rfl
theorem phyUnlock (controller : Fin 4) : Statement (.phyUnlock controller) := of_none rfl
theorem rebuildDone (pc : Fin 128) : Statement (.rebuildDone pc) := of_none rfl
theorem segmentWrite (queue : Fin 16) (stop : Option (Nat × Nat)) : Statement (.segmentWrite queue stop) := of_none rfl
theorem segmentCommit (queue : Fin 16) : Statement (.segmentCommit queue) := of_none rfl
theorem packetSend (port : Fin 2) (fault : Option (Fin 9)) : Statement (.packetSend port fault) := of_none rfl
theorem portLinkDown (port : Fin 2) (fec : Bool) : Statement (.portLinkDown port fec) := of_none rfl
theorem linkUp (port : Fin 2) (skew : List Nat) : Statement (.linkUp port skew) := of_none rfl
theorem frameReceive (port : Fin 2) (frame : RxFrame) (bytes : Nat) (fec : FecReport) : Statement (.frameReceive port frame bytes fec) := of_none rfl
theorem ptpMessage (port : Fin 2) (domain : Nat) (v6 : Bool) (msg : PtpMsg) : Statement (.ptpMessage port domain v6 msg) := of_none rfl
theorem delayReq : Statement (.delayReq) := of_none rfl
theorem announceTimeout (port : Fin 2) : Statement (.announceTimeout port) := of_none rfl
theorem ptpPortChange : Statement (.ptpPortChange) := of_none rfl
theorem addressResolve (kind stream : Nat) (path : Fin 2) (answered : Bool) : Statement (.addressResolve kind stream path answered) := of_none rfl
theorem gratuitousArp (path : Fin 2) : Statement (.gratuitousArp path) := of_none rfl
theorem groupQuery (port : Fin 2) (v6 : Bool) : Statement (.groupQuery port v6) := of_none rfl
theorem pulseFire (gen : Fin 8) : Statement (.pulseFire gen) := of_none rfl
theorem refEdge (ref : Fin 2) : Statement (.refEdge ref) := of_none rfl
theorem refStopped : Statement (.refStopped) := of_none rfl
theorem eraUpdate : Statement (.eraUpdate) := of_none rfl
theorem startTick : Statement (.startTick) := of_none rfl
theorem previewLine (ready : Bool) (poison : List Nat) : Statement (.previewLine ready poison) := of_none rfl
theorem sampleFrame (rate : Fin 2) (mics din : List Int) (changed : Nat) : Statement (.sampleFrame rate mics din changed) := of_none rfl
theorem frameStart (port : Fin 4) (clocks : Nat) : Statement (.frameStart port clocks) := of_none rfl
theorem micStuck (mic : Fin 32) : Statement (.micStuck mic) := of_none rfl
theorem clockLoss (port : Fin 4) : Statement (.clockLoss port) := of_none rfl
theorem amclkLoss (back : Bool) : Statement (.amclkLoss back) := of_none rfl
theorem rateMeasurement (port : Fin 4) (mhz : Nat) : Statement (.rateMeasurement port mhz) := of_none rfl
theorem fadeTimeout (point : AudioPoint) : Statement (.fadeTimeout point) := of_none rfl
theorem powerDecision : Statement (.powerDecision) := of_none rfl
theorem alarm (domain : Fin 183) : Statement (.alarm domain) := of_none rfl
theorem wakeComplete (domain : Fin 183) : Statement (.wakeComplete domain) := of_none rfl
theorem wakeFail (domain : Fin 183) : Statement (.wakeFail domain) := of_none rfl
theorem pllUnlock (pll : Fin 17) : Statement (.pllUnlock pll) := of_none rfl
theorem resonatorFailure (measured : Int) : Statement (.resonatorFailure measured) := of_none rfl
theorem qualificationGate (ref : Fin 3) (deviation : Int) : Statement (.qualificationGate ref deviation) := of_none rfl
theorem qualSlow (ref : Fin 3) : Statement (.qualSlow ref) := of_none rfl
theorem lifeRecord (mean : Int) (slow : Nat) : Statement (.lifeRecord mean slow) := of_none rfl
theorem injectionStart (kind : Fin 7) : Statement (.injectionStart kind) := of_none rfl
theorem perturbExpiry (kind : Fin 7) : Statement (.perturbExpiry kind) := of_none rfl
theorem coldPowerLoss : Statement (.coldPowerLoss) := of_none rfl
theorem perstNRelease (speed width lanes : Nat) : Statement (.perstNRelease speed width lanes) := of_none rfl
theorem busMasterEnable : Statement (.busMasterEnable) := of_none rfl
theorem flashOperationDone : Statement (.flashOperationDone) := of_none rfl
theorem pllRestartDone (pll : Fin 17) (lockUs : Option (Fin 501)) : Statement (.pllRestartDone pll lockUs) := of_none rfl

end Sys2Proof.Laws.ReplyWidth
end

