-- ==== Sys2Proof/Laws/State.lean ====
section
/-! SUPPORT. Each named update of the device, field by field: what it sets and what it leaves. -/
namespace Sys2Proof.Machine
set_option Elab.async false

/-! ### A register field -/

@[simp] theorem Dev.tick_setF (d : Dev) (f : Field) (v i j : Nat) : (d.setF f v i j).tick = d.tick := rfl
@[simp] theorem Dev.era_setF (d : Dev) (f : Field) (v i j : Nat) : (d.setF f v i j).era = d.era := rfl
@[simp] theorem Dev.free_setF (d : Dev) (f : Field) (v i j : Nat) : (d.setF f v i j).free = d.free := rfl
@[simp] theorem Dev.phase_setF (d : Dev) (f : Field) (v i j : Nat) : (d.setF f v i j).phase = d.phase := rfl
@[simp] theorem Dev.evlog_setF (d : Dev) (f : Field) (v i j : Nat) : (d.setF f v i j).evlog = d.evlog := rfl
@[simp] theorem Dev.satNoted_setF (d : Dev) (f : Field) (v i j : Nat) : (d.setF f v i j).satNoted = d.satNoted := rfl
@[simp] theorem Dev.fences_setF (d : Dev) (f : Field) (v i j : Nat) : (d.setF f v i j).fences = d.fences := rfl
@[simp] theorem Dev.out_setF (d : Dev) (f : Field) (v i j : Nat) : (d.setF f v i j).out = d.out := rfl
@[simp] theorem Dev.queues_setF (d : Dev) (f : Field) (v i j : Nat) : (d.setF f v i j).queues = d.queues := rfl
@[simp] theorem Dev.windows_setF (d : Dev) (f : Field) (v i j : Nat) : (d.setF f v i j).windows = d.windows := rfl
@[simp] theorem Dev.journal_setF (d : Dev) (f : Field) (v i j : Nat) : (d.setF f v i j).journal = d.journal := rfl
@[simp] theorem Dev.held_setF (d : Dev) (f : Field) (v i j : Nat) : (d.setF f v i j).held = d.held := rfl
@[simp] theorem Dev.spiOut_setF (d : Dev) (f : Field) (v i j : Nat) : (d.setF f v i j).spiOut = d.spiOut := rfl
@[simp] theorem Dev.replaying_setF (d : Dev) (f : Field) (v i j : Nat) : (d.setF f v i j).replaying = d.replaying := rfl
@[simp] theorem Dev.crcExpect_setF (d : Dev) (f : Field) (v i j : Nat) : (d.setF f v i j).crcExpect = d.crcExpect := rfl
@[simp] theorem Dev.time_setF (d : Dev) (f : Field) (v i j : Nat) : (d.setF f v i j).time = d.time := rfl
@[simp] theorem Dev.flash_setF (d : Dev) (f : Field) (v i j : Nat) : (d.setF f v i j).flash = d.flash := rfl
@[simp] theorem Dev.stage_setF (d : Dev) (f : Field) (v i j : Nat) : (d.setF f v i j).stage = d.stage := rfl
@[simp] theorem Dev.almCommitted_setF (d : Dev) (f : Field) (v i j : Nat) : (d.setF f v i j).almCommitted = d.almCommitted := rfl
@[simp] theorem Dev.flashJob_setF (d : Dev) (f : Field) (v i j : Nat) : (d.setF f v i j).flashJob = d.flashJob := rfl
@[simp] theorem Dev.therm_setF (d : Dev) (f : Field) (v i j : Nat) : (d.setF f v i j).therm = d.therm := rfl
@[simp] theorem Dev.lanes_setF (d : Dev) (f : Field) (v i j : Nat) : (d.setF f v i j).lanes = d.lanes := rfl
@[simp] theorem Dev.bundles_setF (d : Dev) (f : Field) (v i j : Nat) : (d.setF f v i j).bundles = d.bundles := rfl
@[simp] theorem Dev.merged_setF (d : Dev) (f : Field) (v i j : Nat) : (d.setF f v i j).merged = d.merged := rfl
@[simp] theorem Dev.chans_setF (d : Dev) (f : Field) (v i j : Nat) : (d.setF f v i j).chans = d.chans := rfl
@[simp] theorem Dev.tasks_setF (d : Dev) (f : Field) (v i j : Nat) : (d.setF f v i j).tasks = d.tasks := rfl
@[simp] theorem Dev.alm_setF (d : Dev) (f : Field) (v i j : Nat) : (d.setF f v i j).alm = d.alm := rfl
@[simp] theorem Dev.almUser_setF (d : Dev) (f : Field) (v i j : Nat) : (d.setF f v i j).almUser = d.almUser := rfl
@[simp] theorem Dev.twin_setF (d : Dev) (f : Field) (v i j : Nat) : (d.setF f v i j).twin = d.twin := rfl
@[simp] theorem Dev.ring_setF (d : Dev) (f : Field) (v i j : Nat) : (d.setF f v i j).ring = d.ring := rfl
@[simp] theorem Dev.caches_setF (d : Dev) (f : Field) (v i j : Nat) : (d.setF f v i j).caches = d.caches := rfl
@[simp] theorem Dev.given_setF (d : Dev) (f : Field) (v i j : Nat) : (d.setF f v i j).given = d.given := rfl
@[simp] theorem Dev.keptCaptures_setF (d : Dev) (f : Field) (v i j : Nat) : (d.setF f v i j).keptCaptures = d.keptCaptures := rfl
@[simp] theorem Dev.recqs_setF (d : Dev) (f : Field) (v i j : Nat) : (d.setF f v i j).recqs = d.recqs := rfl
@[simp] theorem Dev.segs_setF (d : Dev) (f : Field) (v i j : Nat) : (d.setF f v i j).segs = d.segs := rfl
@[simp] theorem Dev.vigilSegs_setF (d : Dev) (f : Field) (v i j : Nat) : (d.setF f v i j).vigilSegs = d.vigilSegs := rfl
@[simp] theorem Dev.binds_setF (d : Dev) (f : Field) (v i j : Nat) : (d.setF f v i j).binds = d.binds := rfl
@[simp] theorem Dev.decs_setF (d : Dev) (f : Field) (v i j : Nat) : (d.setF f v i j).decs = d.decs := rfl
@[simp] theorem Dev.hbm_setF (d : Dev) (f : Field) (v i j : Nat) : (d.setF f v i j).hbm = d.hbm := rfl
@[simp] theorem Dev.eth_setF (d : Dev) (f : Field) (v i j : Nat) : (d.setF f v i j).eth = d.eth := rfl
@[simp] theorem Dev.ptp_setF (d : Dev) (f : Field) (v i j : Nat) : (d.setF f v i j).ptp = d.ptp := rfl
@[simp] theorem Dev.prev_setF (d : Dev) (f : Field) (v i j : Nat) : (d.setF f v i j).prev = d.prev := rfl
@[simp] theorem Dev.audio_setF (d : Dev) (f : Field) (v i j : Nat) : (d.setF f v i j).audio = d.audio := rfl
@[simp] theorem Dev.winTabs_setF (d : Dev) (f : Field) (v i j : Nat) : (d.setF f v i j).winTabs = d.winTabs := rfl
@[simp] theorem Dev.dmaLast_setF (d : Dev) (f : Field) (v i j : Nat) : (d.setF f v i j).dmaLast = d.dmaLast := rfl
@[simp] theorem Dev.pcs_setF (d : Dev) (f : Field) (v i j : Nat) : (d.setF f v i j).pcs = d.pcs := rfl
@[simp] theorem Dev.nextOrder_setF (d : Dev) (f : Field) (v i j : Nat) : (d.setF f v i j).nextOrder = d.nextOrder := rfl
@[simp] theorem Dev.nextToken_setF (d : Dev) (f : Field) (v i j : Nat) : (d.setF f v i j).nextToken = d.nextToken := rfl
@[simp] theorem Dev.fresh_setF (d : Dev) (f : Field) (v i j : Nat) : (d.setF f v i j).fresh = d.fresh := rfl
@[simp] theorem Dev.hbMiss_setF (d : Dev) (f : Field) (v i j : Nat) : (d.setF f v i j).hbMiss = d.hbMiss := rfl
@[simp] theorem Dev.power_setF (d : Dev) (f : Field) (v i j : Nat) : (d.setF f v i j).power = d.power := rfl
@[simp] theorem Dev.clock_setF (d : Dev) (f : Field) (v i j : Nat) : (d.setF f v i j).clock = d.clock := rfl
@[simp] theorem Dev.modeJob_setF (d : Dev) (f : Field) (v i j : Nat) : (d.setF f v i j).modeJob = d.modeJob := rfl
@[simp] theorem Dev.modeWait_setF (d : Dev) (f : Field) (v i j : Nat) : (d.setF f v i j).modeWait = d.modeWait := rfl
@[simp] theorem Dev.warmAsk_setF (d : Dev) (f : Field) (v i j : Nat) : (d.setF f v i j).warmAsk = d.warmAsk := rfl
@[simp] theorem Dev.warmByCmd_setF (d : Dev) (f : Field) (v i j : Nat) : (d.setF f v i j).warmByCmd = d.warmByCmd := rfl
@[simp] theorem Dev.released_setF (d : Dev) (f : Field) (v i j : Nat) : (d.setF f v i j).released = d.released := rfl
@[simp] theorem Dev.resumeMode_setF (d : Dev) (f : Field) (v i j : Nat) : (d.setF f v i j).resumeMode = d.resumeMode := rfl
@[simp] theorem Dev.pwrok_setF (d : Dev) (f : Field) (v i j : Nat) : (d.setF f v i j).pwrok = d.pwrok := rfl
@[simp] theorem Dev.awaitBme_setF (d : Dev) (f : Field) (v i j : Nat) : (d.setF f v i j).awaitBme = d.awaitBme := rfl
@[simp] theorem Dev.perst_setF (d : Dev) (f : Field) (v i j : Nat) : (d.setF f v i j).perst = d.perst := rfl
@[simp] theorem Dev.perts_setF (d : Dev) (f : Field) (v i j : Nat) : (d.setF f v i j).perts = d.perts := rfl
@[simp] theorem Dev.life_setF (d : Dev) (f : Field) (v i j : Nat) : (d.setF f v i j).life = d.life := rfl
@[simp] theorem Dev.shadows_setF (d : Dev) (f : Field) (v i j : Nat) : (d.setF f v i j).shadows = d.shadows := rfl
@[simp] theorem Dev.spiIn_setF (d : Dev) (f : Field) (v i j : Nat) : (d.setF f v i j).spiIn = d.spiIn := rfl
@[simp] theorem Dev.spiRefused_setF (d : Dev) (f : Field) (v i j : Nat) : (d.setF f v i j).spiRefused = d.spiRefused := rfl
@[simp] theorem Dev.alert_setF (d : Dev) (f : Field) (v i j : Nat) : (d.setF f v i j).alert = d.alert := rfl
@[simp] theorem Dev.unread_setF (d : Dev) (f : Field) (v i j : Nat) : (d.setF f v i j).unread = d.unread := rfl
@[simp] theorem Dev.msixTable_setF (d : Dev) (f : Field) (v i j : Nat) : (d.setF f v i j).msixTable = d.msixTable := rfl

/-! ### A register field put back to its reset value -/

@[simp] theorem Dev.tick_resetF (d : Dev) (f : Field) (i j : Nat) : (d.resetF f i j).tick = d.tick := rfl
@[simp] theorem Dev.era_resetF (d : Dev) (f : Field) (i j : Nat) : (d.resetF f i j).era = d.era := rfl
@[simp] theorem Dev.free_resetF (d : Dev) (f : Field) (i j : Nat) : (d.resetF f i j).free = d.free := rfl
@[simp] theorem Dev.phase_resetF (d : Dev) (f : Field) (i j : Nat) : (d.resetF f i j).phase = d.phase := rfl
@[simp] theorem Dev.evlog_resetF (d : Dev) (f : Field) (i j : Nat) : (d.resetF f i j).evlog = d.evlog := rfl
@[simp] theorem Dev.satNoted_resetF (d : Dev) (f : Field) (i j : Nat) : (d.resetF f i j).satNoted = d.satNoted := rfl
@[simp] theorem Dev.fences_resetF (d : Dev) (f : Field) (i j : Nat) : (d.resetF f i j).fences = d.fences := rfl
@[simp] theorem Dev.out_resetF (d : Dev) (f : Field) (i j : Nat) : (d.resetF f i j).out = d.out := rfl
@[simp] theorem Dev.queues_resetF (d : Dev) (f : Field) (i j : Nat) : (d.resetF f i j).queues = d.queues := rfl
@[simp] theorem Dev.windows_resetF (d : Dev) (f : Field) (i j : Nat) : (d.resetF f i j).windows = d.windows := rfl
@[simp] theorem Dev.journal_resetF (d : Dev) (f : Field) (i j : Nat) : (d.resetF f i j).journal = d.journal := rfl
@[simp] theorem Dev.held_resetF (d : Dev) (f : Field) (i j : Nat) : (d.resetF f i j).held = d.held := rfl
@[simp] theorem Dev.spiOut_resetF (d : Dev) (f : Field) (i j : Nat) : (d.resetF f i j).spiOut = d.spiOut := rfl
@[simp] theorem Dev.replaying_resetF (d : Dev) (f : Field) (i j : Nat) : (d.resetF f i j).replaying = d.replaying := rfl
@[simp] theorem Dev.crcExpect_resetF (d : Dev) (f : Field) (i j : Nat) : (d.resetF f i j).crcExpect = d.crcExpect := rfl
@[simp] theorem Dev.time_resetF (d : Dev) (f : Field) (i j : Nat) : (d.resetF f i j).time = d.time := rfl
@[simp] theorem Dev.flash_resetF (d : Dev) (f : Field) (i j : Nat) : (d.resetF f i j).flash = d.flash := rfl
@[simp] theorem Dev.stage_resetF (d : Dev) (f : Field) (i j : Nat) : (d.resetF f i j).stage = d.stage := rfl
@[simp] theorem Dev.almCommitted_resetF (d : Dev) (f : Field) (i j : Nat) : (d.resetF f i j).almCommitted = d.almCommitted := rfl
@[simp] theorem Dev.flashJob_resetF (d : Dev) (f : Field) (i j : Nat) : (d.resetF f i j).flashJob = d.flashJob := rfl
@[simp] theorem Dev.therm_resetF (d : Dev) (f : Field) (i j : Nat) : (d.resetF f i j).therm = d.therm := rfl
@[simp] theorem Dev.lanes_resetF (d : Dev) (f : Field) (i j : Nat) : (d.resetF f i j).lanes = d.lanes := rfl
@[simp] theorem Dev.bundles_resetF (d : Dev) (f : Field) (i j : Nat) : (d.resetF f i j).bundles = d.bundles := rfl
@[simp] theorem Dev.merged_resetF (d : Dev) (f : Field) (i j : Nat) : (d.resetF f i j).merged = d.merged := rfl
@[simp] theorem Dev.chans_resetF (d : Dev) (f : Field) (i j : Nat) : (d.resetF f i j).chans = d.chans := rfl
@[simp] theorem Dev.tasks_resetF (d : Dev) (f : Field) (i j : Nat) : (d.resetF f i j).tasks = d.tasks := rfl
@[simp] theorem Dev.alm_resetF (d : Dev) (f : Field) (i j : Nat) : (d.resetF f i j).alm = d.alm := rfl
@[simp] theorem Dev.almUser_resetF (d : Dev) (f : Field) (i j : Nat) : (d.resetF f i j).almUser = d.almUser := rfl
@[simp] theorem Dev.twin_resetF (d : Dev) (f : Field) (i j : Nat) : (d.resetF f i j).twin = d.twin := rfl
@[simp] theorem Dev.ring_resetF (d : Dev) (f : Field) (i j : Nat) : (d.resetF f i j).ring = d.ring := rfl
@[simp] theorem Dev.caches_resetF (d : Dev) (f : Field) (i j : Nat) : (d.resetF f i j).caches = d.caches := rfl
@[simp] theorem Dev.given_resetF (d : Dev) (f : Field) (i j : Nat) : (d.resetF f i j).given = d.given := rfl
@[simp] theorem Dev.keptCaptures_resetF (d : Dev) (f : Field) (i j : Nat) : (d.resetF f i j).keptCaptures = d.keptCaptures := rfl
@[simp] theorem Dev.recqs_resetF (d : Dev) (f : Field) (i j : Nat) : (d.resetF f i j).recqs = d.recqs := rfl
@[simp] theorem Dev.segs_resetF (d : Dev) (f : Field) (i j : Nat) : (d.resetF f i j).segs = d.segs := rfl
@[simp] theorem Dev.vigilSegs_resetF (d : Dev) (f : Field) (i j : Nat) : (d.resetF f i j).vigilSegs = d.vigilSegs := rfl
@[simp] theorem Dev.binds_resetF (d : Dev) (f : Field) (i j : Nat) : (d.resetF f i j).binds = d.binds := rfl
@[simp] theorem Dev.decs_resetF (d : Dev) (f : Field) (i j : Nat) : (d.resetF f i j).decs = d.decs := rfl
@[simp] theorem Dev.hbm_resetF (d : Dev) (f : Field) (i j : Nat) : (d.resetF f i j).hbm = d.hbm := rfl
@[simp] theorem Dev.eth_resetF (d : Dev) (f : Field) (i j : Nat) : (d.resetF f i j).eth = d.eth := rfl
@[simp] theorem Dev.ptp_resetF (d : Dev) (f : Field) (i j : Nat) : (d.resetF f i j).ptp = d.ptp := rfl
@[simp] theorem Dev.prev_resetF (d : Dev) (f : Field) (i j : Nat) : (d.resetF f i j).prev = d.prev := rfl
@[simp] theorem Dev.audio_resetF (d : Dev) (f : Field) (i j : Nat) : (d.resetF f i j).audio = d.audio := rfl
@[simp] theorem Dev.winTabs_resetF (d : Dev) (f : Field) (i j : Nat) : (d.resetF f i j).winTabs = d.winTabs := rfl
@[simp] theorem Dev.dmaLast_resetF (d : Dev) (f : Field) (i j : Nat) : (d.resetF f i j).dmaLast = d.dmaLast := rfl
@[simp] theorem Dev.pcs_resetF (d : Dev) (f : Field) (i j : Nat) : (d.resetF f i j).pcs = d.pcs := rfl
@[simp] theorem Dev.nextOrder_resetF (d : Dev) (f : Field) (i j : Nat) : (d.resetF f i j).nextOrder = d.nextOrder := rfl
@[simp] theorem Dev.nextToken_resetF (d : Dev) (f : Field) (i j : Nat) : (d.resetF f i j).nextToken = d.nextToken := rfl
@[simp] theorem Dev.fresh_resetF (d : Dev) (f : Field) (i j : Nat) : (d.resetF f i j).fresh = d.fresh := rfl
@[simp] theorem Dev.hbMiss_resetF (d : Dev) (f : Field) (i j : Nat) : (d.resetF f i j).hbMiss = d.hbMiss := rfl
@[simp] theorem Dev.power_resetF (d : Dev) (f : Field) (i j : Nat) : (d.resetF f i j).power = d.power := rfl
@[simp] theorem Dev.clock_resetF (d : Dev) (f : Field) (i j : Nat) : (d.resetF f i j).clock = d.clock := rfl
@[simp] theorem Dev.modeJob_resetF (d : Dev) (f : Field) (i j : Nat) : (d.resetF f i j).modeJob = d.modeJob := rfl
@[simp] theorem Dev.modeWait_resetF (d : Dev) (f : Field) (i j : Nat) : (d.resetF f i j).modeWait = d.modeWait := rfl
@[simp] theorem Dev.warmAsk_resetF (d : Dev) (f : Field) (i j : Nat) : (d.resetF f i j).warmAsk = d.warmAsk := rfl
@[simp] theorem Dev.warmByCmd_resetF (d : Dev) (f : Field) (i j : Nat) : (d.resetF f i j).warmByCmd = d.warmByCmd := rfl
@[simp] theorem Dev.released_resetF (d : Dev) (f : Field) (i j : Nat) : (d.resetF f i j).released = d.released := rfl
@[simp] theorem Dev.resumeMode_resetF (d : Dev) (f : Field) (i j : Nat) : (d.resetF f i j).resumeMode = d.resumeMode := rfl
@[simp] theorem Dev.pwrok_resetF (d : Dev) (f : Field) (i j : Nat) : (d.resetF f i j).pwrok = d.pwrok := rfl
@[simp] theorem Dev.awaitBme_resetF (d : Dev) (f : Field) (i j : Nat) : (d.resetF f i j).awaitBme = d.awaitBme := rfl
@[simp] theorem Dev.perst_resetF (d : Dev) (f : Field) (i j : Nat) : (d.resetF f i j).perst = d.perst := rfl
@[simp] theorem Dev.perts_resetF (d : Dev) (f : Field) (i j : Nat) : (d.resetF f i j).perts = d.perts := rfl
@[simp] theorem Dev.life_resetF (d : Dev) (f : Field) (i j : Nat) : (d.resetF f i j).life = d.life := rfl
@[simp] theorem Dev.shadows_resetF (d : Dev) (f : Field) (i j : Nat) : (d.resetF f i j).shadows = d.shadows := rfl
@[simp] theorem Dev.spiIn_resetF (d : Dev) (f : Field) (i j : Nat) : (d.resetF f i j).spiIn = d.spiIn := rfl
@[simp] theorem Dev.spiRefused_resetF (d : Dev) (f : Field) (i j : Nat) : (d.resetF f i j).spiRefused = d.spiRefused := rfl
@[simp] theorem Dev.alert_resetF (d : Dev) (f : Field) (i j : Nat) : (d.resetF f i j).alert = d.alert := rfl
@[simp] theorem Dev.unread_resetF (d : Dev) (f : Field) (i j : Nat) : (d.resetF f i j).unread = d.unread := rfl
@[simp] theorem Dev.msixTable_resetF (d : Dev) (f : Field) (i j : Nat) : (d.resetF f i j).msixTable = d.msixTable := rfl

/-! ### A flag -/

@[simp] theorem Dev.tick_setFlag (d : Dev) (f : Field) (b : Bool) (i j : Nat) : (d.setFlag f b i j).tick = d.tick := rfl
@[simp] theorem Dev.era_setFlag (d : Dev) (f : Field) (b : Bool) (i j : Nat) : (d.setFlag f b i j).era = d.era := rfl
@[simp] theorem Dev.free_setFlag (d : Dev) (f : Field) (b : Bool) (i j : Nat) : (d.setFlag f b i j).free = d.free := rfl
@[simp] theorem Dev.phase_setFlag (d : Dev) (f : Field) (b : Bool) (i j : Nat) : (d.setFlag f b i j).phase = d.phase := rfl
@[simp] theorem Dev.evlog_setFlag (d : Dev) (f : Field) (b : Bool) (i j : Nat) : (d.setFlag f b i j).evlog = d.evlog := rfl
@[simp] theorem Dev.satNoted_setFlag (d : Dev) (f : Field) (b : Bool) (i j : Nat) : (d.setFlag f b i j).satNoted = d.satNoted := rfl
@[simp] theorem Dev.fences_setFlag (d : Dev) (f : Field) (b : Bool) (i j : Nat) : (d.setFlag f b i j).fences = d.fences := rfl
@[simp] theorem Dev.out_setFlag (d : Dev) (f : Field) (b : Bool) (i j : Nat) : (d.setFlag f b i j).out = d.out := rfl
@[simp] theorem Dev.queues_setFlag (d : Dev) (f : Field) (b : Bool) (i j : Nat) : (d.setFlag f b i j).queues = d.queues := rfl
@[simp] theorem Dev.windows_setFlag (d : Dev) (f : Field) (b : Bool) (i j : Nat) : (d.setFlag f b i j).windows = d.windows := rfl
@[simp] theorem Dev.journal_setFlag (d : Dev) (f : Field) (b : Bool) (i j : Nat) : (d.setFlag f b i j).journal = d.journal := rfl
@[simp] theorem Dev.held_setFlag (d : Dev) (f : Field) (b : Bool) (i j : Nat) : (d.setFlag f b i j).held = d.held := rfl
@[simp] theorem Dev.spiOut_setFlag (d : Dev) (f : Field) (b : Bool) (i j : Nat) : (d.setFlag f b i j).spiOut = d.spiOut := rfl
@[simp] theorem Dev.replaying_setFlag (d : Dev) (f : Field) (b : Bool) (i j : Nat) : (d.setFlag f b i j).replaying = d.replaying := rfl
@[simp] theorem Dev.crcExpect_setFlag (d : Dev) (f : Field) (b : Bool) (i j : Nat) : (d.setFlag f b i j).crcExpect = d.crcExpect := rfl
@[simp] theorem Dev.time_setFlag (d : Dev) (f : Field) (b : Bool) (i j : Nat) : (d.setFlag f b i j).time = d.time := rfl
@[simp] theorem Dev.flash_setFlag (d : Dev) (f : Field) (b : Bool) (i j : Nat) : (d.setFlag f b i j).flash = d.flash := rfl
@[simp] theorem Dev.stage_setFlag (d : Dev) (f : Field) (b : Bool) (i j : Nat) : (d.setFlag f b i j).stage = d.stage := rfl
@[simp] theorem Dev.almCommitted_setFlag (d : Dev) (f : Field) (b : Bool) (i j : Nat) : (d.setFlag f b i j).almCommitted = d.almCommitted := rfl
@[simp] theorem Dev.flashJob_setFlag (d : Dev) (f : Field) (b : Bool) (i j : Nat) : (d.setFlag f b i j).flashJob = d.flashJob := rfl
@[simp] theorem Dev.therm_setFlag (d : Dev) (f : Field) (b : Bool) (i j : Nat) : (d.setFlag f b i j).therm = d.therm := rfl
@[simp] theorem Dev.lanes_setFlag (d : Dev) (f : Field) (b : Bool) (i j : Nat) : (d.setFlag f b i j).lanes = d.lanes := rfl
@[simp] theorem Dev.bundles_setFlag (d : Dev) (f : Field) (b : Bool) (i j : Nat) : (d.setFlag f b i j).bundles = d.bundles := rfl
@[simp] theorem Dev.merged_setFlag (d : Dev) (f : Field) (b : Bool) (i j : Nat) : (d.setFlag f b i j).merged = d.merged := rfl
@[simp] theorem Dev.chans_setFlag (d : Dev) (f : Field) (b : Bool) (i j : Nat) : (d.setFlag f b i j).chans = d.chans := rfl
@[simp] theorem Dev.tasks_setFlag (d : Dev) (f : Field) (b : Bool) (i j : Nat) : (d.setFlag f b i j).tasks = d.tasks := rfl
@[simp] theorem Dev.alm_setFlag (d : Dev) (f : Field) (b : Bool) (i j : Nat) : (d.setFlag f b i j).alm = d.alm := rfl
@[simp] theorem Dev.almUser_setFlag (d : Dev) (f : Field) (b : Bool) (i j : Nat) : (d.setFlag f b i j).almUser = d.almUser := rfl
@[simp] theorem Dev.twin_setFlag (d : Dev) (f : Field) (b : Bool) (i j : Nat) : (d.setFlag f b i j).twin = d.twin := rfl
@[simp] theorem Dev.ring_setFlag (d : Dev) (f : Field) (b : Bool) (i j : Nat) : (d.setFlag f b i j).ring = d.ring := rfl
@[simp] theorem Dev.caches_setFlag (d : Dev) (f : Field) (b : Bool) (i j : Nat) : (d.setFlag f b i j).caches = d.caches := rfl
@[simp] theorem Dev.given_setFlag (d : Dev) (f : Field) (b : Bool) (i j : Nat) : (d.setFlag f b i j).given = d.given := rfl
@[simp] theorem Dev.keptCaptures_setFlag (d : Dev) (f : Field) (b : Bool) (i j : Nat) : (d.setFlag f b i j).keptCaptures = d.keptCaptures := rfl
@[simp] theorem Dev.recqs_setFlag (d : Dev) (f : Field) (b : Bool) (i j : Nat) : (d.setFlag f b i j).recqs = d.recqs := rfl
@[simp] theorem Dev.segs_setFlag (d : Dev) (f : Field) (b : Bool) (i j : Nat) : (d.setFlag f b i j).segs = d.segs := rfl
@[simp] theorem Dev.vigilSegs_setFlag (d : Dev) (f : Field) (b : Bool) (i j : Nat) : (d.setFlag f b i j).vigilSegs = d.vigilSegs := rfl
@[simp] theorem Dev.binds_setFlag (d : Dev) (f : Field) (b : Bool) (i j : Nat) : (d.setFlag f b i j).binds = d.binds := rfl
@[simp] theorem Dev.decs_setFlag (d : Dev) (f : Field) (b : Bool) (i j : Nat) : (d.setFlag f b i j).decs = d.decs := rfl
@[simp] theorem Dev.hbm_setFlag (d : Dev) (f : Field) (b : Bool) (i j : Nat) : (d.setFlag f b i j).hbm = d.hbm := rfl
@[simp] theorem Dev.eth_setFlag (d : Dev) (f : Field) (b : Bool) (i j : Nat) : (d.setFlag f b i j).eth = d.eth := rfl
@[simp] theorem Dev.ptp_setFlag (d : Dev) (f : Field) (b : Bool) (i j : Nat) : (d.setFlag f b i j).ptp = d.ptp := rfl
@[simp] theorem Dev.prev_setFlag (d : Dev) (f : Field) (b : Bool) (i j : Nat) : (d.setFlag f b i j).prev = d.prev := rfl
@[simp] theorem Dev.audio_setFlag (d : Dev) (f : Field) (b : Bool) (i j : Nat) : (d.setFlag f b i j).audio = d.audio := rfl
@[simp] theorem Dev.winTabs_setFlag (d : Dev) (f : Field) (b : Bool) (i j : Nat) : (d.setFlag f b i j).winTabs = d.winTabs := rfl
@[simp] theorem Dev.dmaLast_setFlag (d : Dev) (f : Field) (b : Bool) (i j : Nat) : (d.setFlag f b i j).dmaLast = d.dmaLast := rfl
@[simp] theorem Dev.pcs_setFlag (d : Dev) (f : Field) (b : Bool) (i j : Nat) : (d.setFlag f b i j).pcs = d.pcs := rfl
@[simp] theorem Dev.nextOrder_setFlag (d : Dev) (f : Field) (b : Bool) (i j : Nat) : (d.setFlag f b i j).nextOrder = d.nextOrder := rfl
@[simp] theorem Dev.nextToken_setFlag (d : Dev) (f : Field) (b : Bool) (i j : Nat) : (d.setFlag f b i j).nextToken = d.nextToken := rfl
@[simp] theorem Dev.fresh_setFlag (d : Dev) (f : Field) (b : Bool) (i j : Nat) : (d.setFlag f b i j).fresh = d.fresh := rfl
@[simp] theorem Dev.hbMiss_setFlag (d : Dev) (f : Field) (b : Bool) (i j : Nat) : (d.setFlag f b i j).hbMiss = d.hbMiss := rfl
@[simp] theorem Dev.power_setFlag (d : Dev) (f : Field) (b : Bool) (i j : Nat) : (d.setFlag f b i j).power = d.power := rfl
@[simp] theorem Dev.clock_setFlag (d : Dev) (f : Field) (b : Bool) (i j : Nat) : (d.setFlag f b i j).clock = d.clock := rfl
@[simp] theorem Dev.modeJob_setFlag (d : Dev) (f : Field) (b : Bool) (i j : Nat) : (d.setFlag f b i j).modeJob = d.modeJob := rfl
@[simp] theorem Dev.modeWait_setFlag (d : Dev) (f : Field) (b : Bool) (i j : Nat) : (d.setFlag f b i j).modeWait = d.modeWait := rfl
@[simp] theorem Dev.warmAsk_setFlag (d : Dev) (f : Field) (b : Bool) (i j : Nat) : (d.setFlag f b i j).warmAsk = d.warmAsk := rfl
@[simp] theorem Dev.warmByCmd_setFlag (d : Dev) (f : Field) (b : Bool) (i j : Nat) : (d.setFlag f b i j).warmByCmd = d.warmByCmd := rfl
@[simp] theorem Dev.released_setFlag (d : Dev) (f : Field) (b : Bool) (i j : Nat) : (d.setFlag f b i j).released = d.released := rfl
@[simp] theorem Dev.resumeMode_setFlag (d : Dev) (f : Field) (b : Bool) (i j : Nat) : (d.setFlag f b i j).resumeMode = d.resumeMode := rfl
@[simp] theorem Dev.pwrok_setFlag (d : Dev) (f : Field) (b : Bool) (i j : Nat) : (d.setFlag f b i j).pwrok = d.pwrok := rfl
@[simp] theorem Dev.awaitBme_setFlag (d : Dev) (f : Field) (b : Bool) (i j : Nat) : (d.setFlag f b i j).awaitBme = d.awaitBme := rfl
@[simp] theorem Dev.perst_setFlag (d : Dev) (f : Field) (b : Bool) (i j : Nat) : (d.setFlag f b i j).perst = d.perst := rfl
@[simp] theorem Dev.perts_setFlag (d : Dev) (f : Field) (b : Bool) (i j : Nat) : (d.setFlag f b i j).perts = d.perts := rfl
@[simp] theorem Dev.life_setFlag (d : Dev) (f : Field) (b : Bool) (i j : Nat) : (d.setFlag f b i j).life = d.life := rfl
@[simp] theorem Dev.shadows_setFlag (d : Dev) (f : Field) (b : Bool) (i j : Nat) : (d.setFlag f b i j).shadows = d.shadows := rfl
@[simp] theorem Dev.spiIn_setFlag (d : Dev) (f : Field) (b : Bool) (i j : Nat) : (d.setFlag f b i j).spiIn = d.spiIn := rfl
@[simp] theorem Dev.spiRefused_setFlag (d : Dev) (f : Field) (b : Bool) (i j : Nat) : (d.setFlag f b i j).spiRefused = d.spiRefused := rfl
@[simp] theorem Dev.alert_setFlag (d : Dev) (f : Field) (b : Bool) (i j : Nat) : (d.setFlag f b i j).alert = d.alert := rfl
@[simp] theorem Dev.unread_setFlag (d : Dev) (f : Field) (b : Bool) (i j : Nat) : (d.setFlag f b i j).unread = d.unread := rfl
@[simp] theorem Dev.msixTable_setFlag (d : Dev) (f : Field) (b : Bool) (i j : Nat) : (d.setFlag f b i j).msixTable = d.msixTable := rfl

/-! ### A pair of registers -/

@[simp] theorem Dev.tick_set64 (d : Dev) (lo hi : Field) (v i j : Nat) : (d.set64 lo hi v i j).tick = d.tick := rfl
@[simp] theorem Dev.era_set64 (d : Dev) (lo hi : Field) (v i j : Nat) : (d.set64 lo hi v i j).era = d.era := rfl
@[simp] theorem Dev.free_set64 (d : Dev) (lo hi : Field) (v i j : Nat) : (d.set64 lo hi v i j).free = d.free := rfl
@[simp] theorem Dev.phase_set64 (d : Dev) (lo hi : Field) (v i j : Nat) : (d.set64 lo hi v i j).phase = d.phase := rfl
@[simp] theorem Dev.evlog_set64 (d : Dev) (lo hi : Field) (v i j : Nat) : (d.set64 lo hi v i j).evlog = d.evlog := rfl
@[simp] theorem Dev.satNoted_set64 (d : Dev) (lo hi : Field) (v i j : Nat) : (d.set64 lo hi v i j).satNoted = d.satNoted := rfl
@[simp] theorem Dev.fences_set64 (d : Dev) (lo hi : Field) (v i j : Nat) : (d.set64 lo hi v i j).fences = d.fences := rfl
@[simp] theorem Dev.out_set64 (d : Dev) (lo hi : Field) (v i j : Nat) : (d.set64 lo hi v i j).out = d.out := rfl
@[simp] theorem Dev.queues_set64 (d : Dev) (lo hi : Field) (v i j : Nat) : (d.set64 lo hi v i j).queues = d.queues := rfl
@[simp] theorem Dev.windows_set64 (d : Dev) (lo hi : Field) (v i j : Nat) : (d.set64 lo hi v i j).windows = d.windows := rfl
@[simp] theorem Dev.journal_set64 (d : Dev) (lo hi : Field) (v i j : Nat) : (d.set64 lo hi v i j).journal = d.journal := rfl
@[simp] theorem Dev.held_set64 (d : Dev) (lo hi : Field) (v i j : Nat) : (d.set64 lo hi v i j).held = d.held := rfl
@[simp] theorem Dev.spiOut_set64 (d : Dev) (lo hi : Field) (v i j : Nat) : (d.set64 lo hi v i j).spiOut = d.spiOut := rfl
@[simp] theorem Dev.replaying_set64 (d : Dev) (lo hi : Field) (v i j : Nat) : (d.set64 lo hi v i j).replaying = d.replaying := rfl
@[simp] theorem Dev.crcExpect_set64 (d : Dev) (lo hi : Field) (v i j : Nat) : (d.set64 lo hi v i j).crcExpect = d.crcExpect := rfl
@[simp] theorem Dev.time_set64 (d : Dev) (lo hi : Field) (v i j : Nat) : (d.set64 lo hi v i j).time = d.time := rfl
@[simp] theorem Dev.flash_set64 (d : Dev) (lo hi : Field) (v i j : Nat) : (d.set64 lo hi v i j).flash = d.flash := rfl
@[simp] theorem Dev.stage_set64 (d : Dev) (lo hi : Field) (v i j : Nat) : (d.set64 lo hi v i j).stage = d.stage := rfl
@[simp] theorem Dev.almCommitted_set64 (d : Dev) (lo hi : Field) (v i j : Nat) : (d.set64 lo hi v i j).almCommitted = d.almCommitted := rfl
@[simp] theorem Dev.flashJob_set64 (d : Dev) (lo hi : Field) (v i j : Nat) : (d.set64 lo hi v i j).flashJob = d.flashJob := rfl
@[simp] theorem Dev.therm_set64 (d : Dev) (lo hi : Field) (v i j : Nat) : (d.set64 lo hi v i j).therm = d.therm := rfl
@[simp] theorem Dev.lanes_set64 (d : Dev) (lo hi : Field) (v i j : Nat) : (d.set64 lo hi v i j).lanes = d.lanes := rfl
@[simp] theorem Dev.bundles_set64 (d : Dev) (lo hi : Field) (v i j : Nat) : (d.set64 lo hi v i j).bundles = d.bundles := rfl
@[simp] theorem Dev.merged_set64 (d : Dev) (lo hi : Field) (v i j : Nat) : (d.set64 lo hi v i j).merged = d.merged := rfl
@[simp] theorem Dev.chans_set64 (d : Dev) (lo hi : Field) (v i j : Nat) : (d.set64 lo hi v i j).chans = d.chans := rfl
@[simp] theorem Dev.tasks_set64 (d : Dev) (lo hi : Field) (v i j : Nat) : (d.set64 lo hi v i j).tasks = d.tasks := rfl
@[simp] theorem Dev.alm_set64 (d : Dev) (lo hi : Field) (v i j : Nat) : (d.set64 lo hi v i j).alm = d.alm := rfl
@[simp] theorem Dev.almUser_set64 (d : Dev) (lo hi : Field) (v i j : Nat) : (d.set64 lo hi v i j).almUser = d.almUser := rfl
@[simp] theorem Dev.twin_set64 (d : Dev) (lo hi : Field) (v i j : Nat) : (d.set64 lo hi v i j).twin = d.twin := rfl
@[simp] theorem Dev.ring_set64 (d : Dev) (lo hi : Field) (v i j : Nat) : (d.set64 lo hi v i j).ring = d.ring := rfl
@[simp] theorem Dev.caches_set64 (d : Dev) (lo hi : Field) (v i j : Nat) : (d.set64 lo hi v i j).caches = d.caches := rfl
@[simp] theorem Dev.given_set64 (d : Dev) (lo hi : Field) (v i j : Nat) : (d.set64 lo hi v i j).given = d.given := rfl
@[simp] theorem Dev.keptCaptures_set64 (d : Dev) (lo hi : Field) (v i j : Nat) : (d.set64 lo hi v i j).keptCaptures = d.keptCaptures := rfl
@[simp] theorem Dev.recqs_set64 (d : Dev) (lo hi : Field) (v i j : Nat) : (d.set64 lo hi v i j).recqs = d.recqs := rfl
@[simp] theorem Dev.segs_set64 (d : Dev) (lo hi : Field) (v i j : Nat) : (d.set64 lo hi v i j).segs = d.segs := rfl
@[simp] theorem Dev.vigilSegs_set64 (d : Dev) (lo hi : Field) (v i j : Nat) : (d.set64 lo hi v i j).vigilSegs = d.vigilSegs := rfl
@[simp] theorem Dev.binds_set64 (d : Dev) (lo hi : Field) (v i j : Nat) : (d.set64 lo hi v i j).binds = d.binds := rfl
@[simp] theorem Dev.decs_set64 (d : Dev) (lo hi : Field) (v i j : Nat) : (d.set64 lo hi v i j).decs = d.decs := rfl
@[simp] theorem Dev.hbm_set64 (d : Dev) (lo hi : Field) (v i j : Nat) : (d.set64 lo hi v i j).hbm = d.hbm := rfl
@[simp] theorem Dev.eth_set64 (d : Dev) (lo hi : Field) (v i j : Nat) : (d.set64 lo hi v i j).eth = d.eth := rfl
@[simp] theorem Dev.ptp_set64 (d : Dev) (lo hi : Field) (v i j : Nat) : (d.set64 lo hi v i j).ptp = d.ptp := rfl
@[simp] theorem Dev.prev_set64 (d : Dev) (lo hi : Field) (v i j : Nat) : (d.set64 lo hi v i j).prev = d.prev := rfl
@[simp] theorem Dev.audio_set64 (d : Dev) (lo hi : Field) (v i j : Nat) : (d.set64 lo hi v i j).audio = d.audio := rfl
@[simp] theorem Dev.winTabs_set64 (d : Dev) (lo hi : Field) (v i j : Nat) : (d.set64 lo hi v i j).winTabs = d.winTabs := rfl
@[simp] theorem Dev.dmaLast_set64 (d : Dev) (lo hi : Field) (v i j : Nat) : (d.set64 lo hi v i j).dmaLast = d.dmaLast := rfl
@[simp] theorem Dev.pcs_set64 (d : Dev) (lo hi : Field) (v i j : Nat) : (d.set64 lo hi v i j).pcs = d.pcs := rfl
@[simp] theorem Dev.nextOrder_set64 (d : Dev) (lo hi : Field) (v i j : Nat) : (d.set64 lo hi v i j).nextOrder = d.nextOrder := rfl
@[simp] theorem Dev.nextToken_set64 (d : Dev) (lo hi : Field) (v i j : Nat) : (d.set64 lo hi v i j).nextToken = d.nextToken := rfl
@[simp] theorem Dev.fresh_set64 (d : Dev) (lo hi : Field) (v i j : Nat) : (d.set64 lo hi v i j).fresh = d.fresh := rfl
@[simp] theorem Dev.hbMiss_set64 (d : Dev) (lo hi : Field) (v i j : Nat) : (d.set64 lo hi v i j).hbMiss = d.hbMiss := rfl
@[simp] theorem Dev.power_set64 (d : Dev) (lo hi : Field) (v i j : Nat) : (d.set64 lo hi v i j).power = d.power := rfl
@[simp] theorem Dev.clock_set64 (d : Dev) (lo hi : Field) (v i j : Nat) : (d.set64 lo hi v i j).clock = d.clock := rfl
@[simp] theorem Dev.modeJob_set64 (d : Dev) (lo hi : Field) (v i j : Nat) : (d.set64 lo hi v i j).modeJob = d.modeJob := rfl
@[simp] theorem Dev.modeWait_set64 (d : Dev) (lo hi : Field) (v i j : Nat) : (d.set64 lo hi v i j).modeWait = d.modeWait := rfl
@[simp] theorem Dev.warmAsk_set64 (d : Dev) (lo hi : Field) (v i j : Nat) : (d.set64 lo hi v i j).warmAsk = d.warmAsk := rfl
@[simp] theorem Dev.warmByCmd_set64 (d : Dev) (lo hi : Field) (v i j : Nat) : (d.set64 lo hi v i j).warmByCmd = d.warmByCmd := rfl
@[simp] theorem Dev.released_set64 (d : Dev) (lo hi : Field) (v i j : Nat) : (d.set64 lo hi v i j).released = d.released := rfl
@[simp] theorem Dev.resumeMode_set64 (d : Dev) (lo hi : Field) (v i j : Nat) : (d.set64 lo hi v i j).resumeMode = d.resumeMode := rfl
@[simp] theorem Dev.pwrok_set64 (d : Dev) (lo hi : Field) (v i j : Nat) : (d.set64 lo hi v i j).pwrok = d.pwrok := rfl
@[simp] theorem Dev.awaitBme_set64 (d : Dev) (lo hi : Field) (v i j : Nat) : (d.set64 lo hi v i j).awaitBme = d.awaitBme := rfl
@[simp] theorem Dev.perst_set64 (d : Dev) (lo hi : Field) (v i j : Nat) : (d.set64 lo hi v i j).perst = d.perst := rfl
@[simp] theorem Dev.perts_set64 (d : Dev) (lo hi : Field) (v i j : Nat) : (d.set64 lo hi v i j).perts = d.perts := rfl
@[simp] theorem Dev.life_set64 (d : Dev) (lo hi : Field) (v i j : Nat) : (d.set64 lo hi v i j).life = d.life := rfl
@[simp] theorem Dev.shadows_set64 (d : Dev) (lo hi : Field) (v i j : Nat) : (d.set64 lo hi v i j).shadows = d.shadows := rfl
@[simp] theorem Dev.spiIn_set64 (d : Dev) (lo hi : Field) (v i j : Nat) : (d.set64 lo hi v i j).spiIn = d.spiIn := rfl
@[simp] theorem Dev.spiRefused_set64 (d : Dev) (lo hi : Field) (v i j : Nat) : (d.set64 lo hi v i j).spiRefused = d.spiRefused := rfl
@[simp] theorem Dev.alert_set64 (d : Dev) (lo hi : Field) (v i j : Nat) : (d.set64 lo hi v i j).alert = d.alert := rfl
@[simp] theorem Dev.unread_set64 (d : Dev) (lo hi : Field) (v i j : Nat) : (d.set64 lo hi v i j).unread = d.unread := rfl
@[simp] theorem Dev.msixTable_set64 (d : Dev) (lo hi : Field) (v i j : Nat) : (d.set64 lo hi v i j).msixTable = d.msixTable := rfl

/-! ### An output -/

@[simp] theorem Dev.regs_emit (d : Dev) (o : Out) : (d.emit o).regs = d.regs := rfl
@[simp] theorem Dev.tick_emit (d : Dev) (o : Out) : (d.emit o).tick = d.tick := rfl
@[simp] theorem Dev.era_emit (d : Dev) (o : Out) : (d.emit o).era = d.era := rfl
@[simp] theorem Dev.free_emit (d : Dev) (o : Out) : (d.emit o).free = d.free := rfl
@[simp] theorem Dev.phase_emit (d : Dev) (o : Out) : (d.emit o).phase = d.phase := rfl
@[simp] theorem Dev.evlog_emit (d : Dev) (o : Out) : (d.emit o).evlog = d.evlog := rfl
@[simp] theorem Dev.satNoted_emit (d : Dev) (o : Out) : (d.emit o).satNoted = d.satNoted := rfl
@[simp] theorem Dev.fences_emit (d : Dev) (o : Out) : (d.emit o).fences = d.fences := rfl
@[simp] theorem Dev.queues_emit (d : Dev) (o : Out) : (d.emit o).queues = d.queues := rfl
@[simp] theorem Dev.windows_emit (d : Dev) (o : Out) : (d.emit o).windows = d.windows := rfl
@[simp] theorem Dev.journal_emit (d : Dev) (o : Out) : (d.emit o).journal = d.journal := rfl
@[simp] theorem Dev.held_emit (d : Dev) (o : Out) : (d.emit o).held = d.held := rfl
@[simp] theorem Dev.spiOut_emit (d : Dev) (o : Out) : (d.emit o).spiOut = d.spiOut := rfl
@[simp] theorem Dev.replaying_emit (d : Dev) (o : Out) : (d.emit o).replaying = d.replaying := rfl
@[simp] theorem Dev.crcExpect_emit (d : Dev) (o : Out) : (d.emit o).crcExpect = d.crcExpect := rfl
@[simp] theorem Dev.time_emit (d : Dev) (o : Out) : (d.emit o).time = d.time := rfl
@[simp] theorem Dev.flash_emit (d : Dev) (o : Out) : (d.emit o).flash = d.flash := rfl
@[simp] theorem Dev.stage_emit (d : Dev) (o : Out) : (d.emit o).stage = d.stage := rfl
@[simp] theorem Dev.almCommitted_emit (d : Dev) (o : Out) : (d.emit o).almCommitted = d.almCommitted := rfl
@[simp] theorem Dev.flashJob_emit (d : Dev) (o : Out) : (d.emit o).flashJob = d.flashJob := rfl
@[simp] theorem Dev.therm_emit (d : Dev) (o : Out) : (d.emit o).therm = d.therm := rfl
@[simp] theorem Dev.lanes_emit (d : Dev) (o : Out) : (d.emit o).lanes = d.lanes := rfl
@[simp] theorem Dev.bundles_emit (d : Dev) (o : Out) : (d.emit o).bundles = d.bundles := rfl
@[simp] theorem Dev.merged_emit (d : Dev) (o : Out) : (d.emit o).merged = d.merged := rfl
@[simp] theorem Dev.chans_emit (d : Dev) (o : Out) : (d.emit o).chans = d.chans := rfl
@[simp] theorem Dev.tasks_emit (d : Dev) (o : Out) : (d.emit o).tasks = d.tasks := rfl
@[simp] theorem Dev.alm_emit (d : Dev) (o : Out) : (d.emit o).alm = d.alm := rfl
@[simp] theorem Dev.almUser_emit (d : Dev) (o : Out) : (d.emit o).almUser = d.almUser := rfl
@[simp] theorem Dev.twin_emit (d : Dev) (o : Out) : (d.emit o).twin = d.twin := rfl
@[simp] theorem Dev.ring_emit (d : Dev) (o : Out) : (d.emit o).ring = d.ring := rfl
@[simp] theorem Dev.caches_emit (d : Dev) (o : Out) : (d.emit o).caches = d.caches := rfl
@[simp] theorem Dev.given_emit (d : Dev) (o : Out) : (d.emit o).given = d.given := rfl
@[simp] theorem Dev.keptCaptures_emit (d : Dev) (o : Out) : (d.emit o).keptCaptures = d.keptCaptures := rfl
@[simp] theorem Dev.recqs_emit (d : Dev) (o : Out) : (d.emit o).recqs = d.recqs := rfl
@[simp] theorem Dev.segs_emit (d : Dev) (o : Out) : (d.emit o).segs = d.segs := rfl
@[simp] theorem Dev.vigilSegs_emit (d : Dev) (o : Out) : (d.emit o).vigilSegs = d.vigilSegs := rfl
@[simp] theorem Dev.binds_emit (d : Dev) (o : Out) : (d.emit o).binds = d.binds := rfl
@[simp] theorem Dev.decs_emit (d : Dev) (o : Out) : (d.emit o).decs = d.decs := rfl
@[simp] theorem Dev.hbm_emit (d : Dev) (o : Out) : (d.emit o).hbm = d.hbm := rfl
@[simp] theorem Dev.eth_emit (d : Dev) (o : Out) : (d.emit o).eth = d.eth := rfl
@[simp] theorem Dev.ptp_emit (d : Dev) (o : Out) : (d.emit o).ptp = d.ptp := rfl
@[simp] theorem Dev.prev_emit (d : Dev) (o : Out) : (d.emit o).prev = d.prev := rfl
@[simp] theorem Dev.audio_emit (d : Dev) (o : Out) : (d.emit o).audio = d.audio := rfl
@[simp] theorem Dev.winTabs_emit (d : Dev) (o : Out) : (d.emit o).winTabs = d.winTabs := rfl
@[simp] theorem Dev.dmaLast_emit (d : Dev) (o : Out) : (d.emit o).dmaLast = d.dmaLast := rfl
@[simp] theorem Dev.pcs_emit (d : Dev) (o : Out) : (d.emit o).pcs = d.pcs := rfl
@[simp] theorem Dev.nextOrder_emit (d : Dev) (o : Out) : (d.emit o).nextOrder = d.nextOrder := rfl
@[simp] theorem Dev.nextToken_emit (d : Dev) (o : Out) : (d.emit o).nextToken = d.nextToken := rfl
@[simp] theorem Dev.fresh_emit (d : Dev) (o : Out) : (d.emit o).fresh = d.fresh := rfl
@[simp] theorem Dev.hbMiss_emit (d : Dev) (o : Out) : (d.emit o).hbMiss = d.hbMiss := rfl
@[simp] theorem Dev.power_emit (d : Dev) (o : Out) : (d.emit o).power = d.power := rfl
@[simp] theorem Dev.clock_emit (d : Dev) (o : Out) : (d.emit o).clock = d.clock := rfl
@[simp] theorem Dev.modeJob_emit (d : Dev) (o : Out) : (d.emit o).modeJob = d.modeJob := rfl
@[simp] theorem Dev.modeWait_emit (d : Dev) (o : Out) : (d.emit o).modeWait = d.modeWait := rfl
@[simp] theorem Dev.warmAsk_emit (d : Dev) (o : Out) : (d.emit o).warmAsk = d.warmAsk := rfl
@[simp] theorem Dev.warmByCmd_emit (d : Dev) (o : Out) : (d.emit o).warmByCmd = d.warmByCmd := rfl
@[simp] theorem Dev.released_emit (d : Dev) (o : Out) : (d.emit o).released = d.released := rfl
@[simp] theorem Dev.resumeMode_emit (d : Dev) (o : Out) : (d.emit o).resumeMode = d.resumeMode := rfl
@[simp] theorem Dev.pwrok_emit (d : Dev) (o : Out) : (d.emit o).pwrok = d.pwrok := rfl
@[simp] theorem Dev.awaitBme_emit (d : Dev) (o : Out) : (d.emit o).awaitBme = d.awaitBme := rfl
@[simp] theorem Dev.perst_emit (d : Dev) (o : Out) : (d.emit o).perst = d.perst := rfl
@[simp] theorem Dev.perts_emit (d : Dev) (o : Out) : (d.emit o).perts = d.perts := rfl
@[simp] theorem Dev.life_emit (d : Dev) (o : Out) : (d.emit o).life = d.life := rfl
@[simp] theorem Dev.shadows_emit (d : Dev) (o : Out) : (d.emit o).shadows = d.shadows := rfl
@[simp] theorem Dev.spiIn_emit (d : Dev) (o : Out) : (d.emit o).spiIn = d.spiIn := rfl
@[simp] theorem Dev.spiRefused_emit (d : Dev) (o : Out) : (d.emit o).spiRefused = d.spiRefused := rfl
@[simp] theorem Dev.alert_emit (d : Dev) (o : Out) : (d.emit o).alert = d.alert := rfl
@[simp] theorem Dev.unread_emit (d : Dev) (o : Out) : (d.emit o).unread = d.unread := rfl
@[simp] theorem Dev.msixTable_emit (d : Dev) (o : Out) : (d.emit o).msixTable = d.msixTable := rfl

@[simp] theorem Dev.out_emit (d : Dev) (o : Out) : (d.emit o).out = o :: d.out := rfl

/-! ### A free value -/

@[simp] theorem Dev.regs_drawn (d : Dev) : (d.drawn).regs = d.regs := rfl
@[simp] theorem Dev.tick_drawn (d : Dev) : (d.drawn).tick = d.tick := rfl
@[simp] theorem Dev.era_drawn (d : Dev) : (d.drawn).era = d.era := rfl
@[simp] theorem Dev.phase_drawn (d : Dev) : (d.drawn).phase = d.phase := rfl
@[simp] theorem Dev.evlog_drawn (d : Dev) : (d.drawn).evlog = d.evlog := rfl
@[simp] theorem Dev.satNoted_drawn (d : Dev) : (d.drawn).satNoted = d.satNoted := rfl
@[simp] theorem Dev.fences_drawn (d : Dev) : (d.drawn).fences = d.fences := rfl
@[simp] theorem Dev.out_drawn (d : Dev) : (d.drawn).out = d.out := rfl
@[simp] theorem Dev.queues_drawn (d : Dev) : (d.drawn).queues = d.queues := rfl
@[simp] theorem Dev.windows_drawn (d : Dev) : (d.drawn).windows = d.windows := rfl
@[simp] theorem Dev.journal_drawn (d : Dev) : (d.drawn).journal = d.journal := rfl
@[simp] theorem Dev.held_drawn (d : Dev) : (d.drawn).held = d.held := rfl
@[simp] theorem Dev.spiOut_drawn (d : Dev) : (d.drawn).spiOut = d.spiOut := rfl
@[simp] theorem Dev.replaying_drawn (d : Dev) : (d.drawn).replaying = d.replaying := rfl
@[simp] theorem Dev.crcExpect_drawn (d : Dev) : (d.drawn).crcExpect = d.crcExpect := rfl
@[simp] theorem Dev.time_drawn (d : Dev) : (d.drawn).time = d.time := rfl
@[simp] theorem Dev.flash_drawn (d : Dev) : (d.drawn).flash = d.flash := rfl
@[simp] theorem Dev.stage_drawn (d : Dev) : (d.drawn).stage = d.stage := rfl
@[simp] theorem Dev.almCommitted_drawn (d : Dev) : (d.drawn).almCommitted = d.almCommitted := rfl
@[simp] theorem Dev.flashJob_drawn (d : Dev) : (d.drawn).flashJob = d.flashJob := rfl
@[simp] theorem Dev.therm_drawn (d : Dev) : (d.drawn).therm = d.therm := rfl
@[simp] theorem Dev.lanes_drawn (d : Dev) : (d.drawn).lanes = d.lanes := rfl
@[simp] theorem Dev.bundles_drawn (d : Dev) : (d.drawn).bundles = d.bundles := rfl
@[simp] theorem Dev.merged_drawn (d : Dev) : (d.drawn).merged = d.merged := rfl
@[simp] theorem Dev.chans_drawn (d : Dev) : (d.drawn).chans = d.chans := rfl
@[simp] theorem Dev.tasks_drawn (d : Dev) : (d.drawn).tasks = d.tasks := rfl
@[simp] theorem Dev.alm_drawn (d : Dev) : (d.drawn).alm = d.alm := rfl
@[simp] theorem Dev.almUser_drawn (d : Dev) : (d.drawn).almUser = d.almUser := rfl
@[simp] theorem Dev.twin_drawn (d : Dev) : (d.drawn).twin = d.twin := rfl
@[simp] theorem Dev.ring_drawn (d : Dev) : (d.drawn).ring = d.ring := rfl
@[simp] theorem Dev.caches_drawn (d : Dev) : (d.drawn).caches = d.caches := rfl
@[simp] theorem Dev.given_drawn (d : Dev) : (d.drawn).given = d.given := rfl
@[simp] theorem Dev.keptCaptures_drawn (d : Dev) : (d.drawn).keptCaptures = d.keptCaptures := rfl
@[simp] theorem Dev.recqs_drawn (d : Dev) : (d.drawn).recqs = d.recqs := rfl
@[simp] theorem Dev.segs_drawn (d : Dev) : (d.drawn).segs = d.segs := rfl
@[simp] theorem Dev.vigilSegs_drawn (d : Dev) : (d.drawn).vigilSegs = d.vigilSegs := rfl
@[simp] theorem Dev.binds_drawn (d : Dev) : (d.drawn).binds = d.binds := rfl
@[simp] theorem Dev.decs_drawn (d : Dev) : (d.drawn).decs = d.decs := rfl
@[simp] theorem Dev.hbm_drawn (d : Dev) : (d.drawn).hbm = d.hbm := rfl
@[simp] theorem Dev.eth_drawn (d : Dev) : (d.drawn).eth = d.eth := rfl
@[simp] theorem Dev.ptp_drawn (d : Dev) : (d.drawn).ptp = d.ptp := rfl
@[simp] theorem Dev.prev_drawn (d : Dev) : (d.drawn).prev = d.prev := rfl
@[simp] theorem Dev.audio_drawn (d : Dev) : (d.drawn).audio = d.audio := rfl
@[simp] theorem Dev.winTabs_drawn (d : Dev) : (d.drawn).winTabs = d.winTabs := rfl
@[simp] theorem Dev.dmaLast_drawn (d : Dev) : (d.drawn).dmaLast = d.dmaLast := rfl
@[simp] theorem Dev.pcs_drawn (d : Dev) : (d.drawn).pcs = d.pcs := rfl
@[simp] theorem Dev.nextOrder_drawn (d : Dev) : (d.drawn).nextOrder = d.nextOrder := rfl
@[simp] theorem Dev.nextToken_drawn (d : Dev) : (d.drawn).nextToken = d.nextToken := rfl
@[simp] theorem Dev.fresh_drawn (d : Dev) : (d.drawn).fresh = d.fresh := rfl
@[simp] theorem Dev.hbMiss_drawn (d : Dev) : (d.drawn).hbMiss = d.hbMiss := rfl
@[simp] theorem Dev.power_drawn (d : Dev) : (d.drawn).power = d.power := rfl
@[simp] theorem Dev.clock_drawn (d : Dev) : (d.drawn).clock = d.clock := rfl
@[simp] theorem Dev.modeJob_drawn (d : Dev) : (d.drawn).modeJob = d.modeJob := rfl
@[simp] theorem Dev.modeWait_drawn (d : Dev) : (d.drawn).modeWait = d.modeWait := rfl
@[simp] theorem Dev.warmAsk_drawn (d : Dev) : (d.drawn).warmAsk = d.warmAsk := rfl
@[simp] theorem Dev.warmByCmd_drawn (d : Dev) : (d.drawn).warmByCmd = d.warmByCmd := rfl
@[simp] theorem Dev.released_drawn (d : Dev) : (d.drawn).released = d.released := rfl
@[simp] theorem Dev.resumeMode_drawn (d : Dev) : (d.drawn).resumeMode = d.resumeMode := rfl
@[simp] theorem Dev.pwrok_drawn (d : Dev) : (d.drawn).pwrok = d.pwrok := rfl
@[simp] theorem Dev.awaitBme_drawn (d : Dev) : (d.drawn).awaitBme = d.awaitBme := rfl
@[simp] theorem Dev.perst_drawn (d : Dev) : (d.drawn).perst = d.perst := rfl
@[simp] theorem Dev.perts_drawn (d : Dev) : (d.drawn).perts = d.perts := rfl
@[simp] theorem Dev.life_drawn (d : Dev) : (d.drawn).life = d.life := rfl
@[simp] theorem Dev.shadows_drawn (d : Dev) : (d.drawn).shadows = d.shadows := rfl
@[simp] theorem Dev.spiIn_drawn (d : Dev) : (d.drawn).spiIn = d.spiIn := rfl
@[simp] theorem Dev.spiRefused_drawn (d : Dev) : (d.drawn).spiRefused = d.spiRefused := rfl
@[simp] theorem Dev.alert_drawn (d : Dev) : (d.drawn).alert = d.alert := rfl
@[simp] theorem Dev.unread_drawn (d : Dev) : (d.drawn).unread = d.unread := rfl
@[simp] theorem Dev.msixTable_drawn (d : Dev) : (d.drawn).msixTable = d.msixTable := rfl

@[simp] theorem Dev.free_drawn (d : Dev) : d.drawn.free = d.free + 1 := rfl

/-! ### What follows from the state -/

@[simp] theorem Dev.tick_settle (d : Dev) : (d.settle).tick = d.tick := rfl
@[simp] theorem Dev.era_settle (d : Dev) : (d.settle).era = d.era := rfl
@[simp] theorem Dev.free_settle (d : Dev) : (d.settle).free = d.free := rfl
@[simp] theorem Dev.phase_settle (d : Dev) : (d.settle).phase = d.phase := rfl
@[simp] theorem Dev.satNoted_settle (d : Dev) : (d.settle).satNoted = d.satNoted := rfl
@[simp] theorem Dev.fences_settle (d : Dev) : (d.settle).fences = d.fences := rfl
@[simp] theorem Dev.out_settle (d : Dev) : (d.settle).out = d.out := rfl
@[simp] theorem Dev.queues_settle (d : Dev) : (d.settle).queues = d.queues := rfl
@[simp] theorem Dev.windows_settle (d : Dev) : (d.settle).windows = d.windows := rfl
@[simp] theorem Dev.journal_settle (d : Dev) : (d.settle).journal = d.journal := rfl
@[simp] theorem Dev.held_settle (d : Dev) : (d.settle).held = d.held := rfl
@[simp] theorem Dev.spiOut_settle (d : Dev) : (d.settle).spiOut = d.spiOut := rfl
@[simp] theorem Dev.replaying_settle (d : Dev) : (d.settle).replaying = d.replaying := rfl
@[simp] theorem Dev.crcExpect_settle (d : Dev) : (d.settle).crcExpect = d.crcExpect := rfl
@[simp] theorem Dev.time_settle (d : Dev) : (d.settle).time = d.time := rfl
@[simp] theorem Dev.flash_settle (d : Dev) : (d.settle).flash = d.flash := rfl
@[simp] theorem Dev.stage_settle (d : Dev) : (d.settle).stage = d.stage := rfl
@[simp] theorem Dev.almCommitted_settle (d : Dev) : (d.settle).almCommitted = d.almCommitted := rfl
@[simp] theorem Dev.flashJob_settle (d : Dev) : (d.settle).flashJob = d.flashJob := rfl
@[simp] theorem Dev.therm_settle (d : Dev) : (d.settle).therm = d.therm := rfl
@[simp] theorem Dev.lanes_settle (d : Dev) : (d.settle).lanes = d.lanes := rfl
@[simp] theorem Dev.bundles_settle (d : Dev) : (d.settle).bundles = d.bundles := rfl
@[simp] theorem Dev.merged_settle (d : Dev) : (d.settle).merged = d.merged := rfl
@[simp] theorem Dev.chans_settle (d : Dev) : (d.settle).chans = d.chans := rfl
@[simp] theorem Dev.tasks_settle (d : Dev) : (d.settle).tasks = d.tasks := rfl
@[simp] theorem Dev.alm_settle (d : Dev) : (d.settle).alm = d.alm := rfl
@[simp] theorem Dev.almUser_settle (d : Dev) : (d.settle).almUser = d.almUser := rfl
@[simp] theorem Dev.twin_settle (d : Dev) : (d.settle).twin = d.twin := rfl
@[simp] theorem Dev.ring_settle (d : Dev) : (d.settle).ring = d.ring := rfl
@[simp] theorem Dev.caches_settle (d : Dev) : (d.settle).caches = d.caches := rfl
@[simp] theorem Dev.given_settle (d : Dev) : (d.settle).given = d.given := rfl
@[simp] theorem Dev.keptCaptures_settle (d : Dev) : (d.settle).keptCaptures = d.keptCaptures := rfl
@[simp] theorem Dev.recqs_settle (d : Dev) : (d.settle).recqs = d.recqs := rfl
@[simp] theorem Dev.segs_settle (d : Dev) : (d.settle).segs = d.segs := rfl
@[simp] theorem Dev.vigilSegs_settle (d : Dev) : (d.settle).vigilSegs = d.vigilSegs := rfl
@[simp] theorem Dev.binds_settle (d : Dev) : (d.settle).binds = d.binds := rfl
@[simp] theorem Dev.decs_settle (d : Dev) : (d.settle).decs = d.decs := rfl
@[simp] theorem Dev.hbm_settle (d : Dev) : (d.settle).hbm = d.hbm := rfl
@[simp] theorem Dev.eth_settle (d : Dev) : (d.settle).eth = d.eth := rfl
@[simp] theorem Dev.ptp_settle (d : Dev) : (d.settle).ptp = d.ptp := rfl
@[simp] theorem Dev.prev_settle (d : Dev) : (d.settle).prev = d.prev := rfl
@[simp] theorem Dev.audio_settle (d : Dev) : (d.settle).audio = d.audio := rfl
@[simp] theorem Dev.winTabs_settle (d : Dev) : (d.settle).winTabs = d.winTabs := rfl
@[simp] theorem Dev.dmaLast_settle (d : Dev) : (d.settle).dmaLast = d.dmaLast := rfl
@[simp] theorem Dev.pcs_settle (d : Dev) : (d.settle).pcs = d.pcs := rfl
@[simp] theorem Dev.nextOrder_settle (d : Dev) : (d.settle).nextOrder = d.nextOrder := rfl
@[simp] theorem Dev.nextToken_settle (d : Dev) : (d.settle).nextToken = d.nextToken := rfl
@[simp] theorem Dev.fresh_settle (d : Dev) : (d.settle).fresh = d.fresh := rfl
@[simp] theorem Dev.hbMiss_settle (d : Dev) : (d.settle).hbMiss = d.hbMiss := rfl
@[simp] theorem Dev.power_settle (d : Dev) : (d.settle).power = d.power := rfl
@[simp] theorem Dev.clock_settle (d : Dev) : (d.settle).clock = d.clock := rfl
@[simp] theorem Dev.modeJob_settle (d : Dev) : (d.settle).modeJob = d.modeJob := rfl
@[simp] theorem Dev.modeWait_settle (d : Dev) : (d.settle).modeWait = d.modeWait := rfl
@[simp] theorem Dev.warmAsk_settle (d : Dev) : (d.settle).warmAsk = d.warmAsk := rfl
@[simp] theorem Dev.warmByCmd_settle (d : Dev) : (d.settle).warmByCmd = d.warmByCmd := rfl
@[simp] theorem Dev.released_settle (d : Dev) : (d.settle).released = d.released := rfl
@[simp] theorem Dev.resumeMode_settle (d : Dev) : (d.settle).resumeMode = d.resumeMode := rfl
@[simp] theorem Dev.pwrok_settle (d : Dev) : (d.settle).pwrok = d.pwrok := rfl
@[simp] theorem Dev.awaitBme_settle (d : Dev) : (d.settle).awaitBme = d.awaitBme := rfl
@[simp] theorem Dev.perst_settle (d : Dev) : (d.settle).perst = d.perst := rfl
@[simp] theorem Dev.perts_settle (d : Dev) : (d.settle).perts = d.perts := rfl
@[simp] theorem Dev.life_settle (d : Dev) : (d.settle).life = d.life := rfl
@[simp] theorem Dev.shadows_settle (d : Dev) : (d.settle).shadows = d.shadows := rfl
@[simp] theorem Dev.spiIn_settle (d : Dev) : (d.settle).spiIn = d.spiIn := rfl
@[simp] theorem Dev.spiRefused_settle (d : Dev) : (d.settle).spiRefused = d.spiRefused := rfl
@[simp] theorem Dev.msixTable_settle (d : Dev) : (d.settle).msixTable = d.msixTable := rfl

/-! ### `putAudio` -/

@[simp] theorem Dev.regs_putAudio (d : Dev) (x : AudioSt) : (d.putAudio x).regs = d.regs := rfl
@[simp] theorem Dev.tick_putAudio (d : Dev) (x : AudioSt) : (d.putAudio x).tick = d.tick := rfl
@[simp] theorem Dev.era_putAudio (d : Dev) (x : AudioSt) : (d.putAudio x).era = d.era := rfl
@[simp] theorem Dev.free_putAudio (d : Dev) (x : AudioSt) : (d.putAudio x).free = d.free := rfl
@[simp] theorem Dev.phase_putAudio (d : Dev) (x : AudioSt) : (d.putAudio x).phase = d.phase := rfl
@[simp] theorem Dev.evlog_putAudio (d : Dev) (x : AudioSt) : (d.putAudio x).evlog = d.evlog := rfl
@[simp] theorem Dev.satNoted_putAudio (d : Dev) (x : AudioSt) : (d.putAudio x).satNoted = d.satNoted := rfl
@[simp] theorem Dev.fences_putAudio (d : Dev) (x : AudioSt) : (d.putAudio x).fences = d.fences := rfl
@[simp] theorem Dev.out_putAudio (d : Dev) (x : AudioSt) : (d.putAudio x).out = d.out := rfl
@[simp] theorem Dev.queues_putAudio (d : Dev) (x : AudioSt) : (d.putAudio x).queues = d.queues := rfl
@[simp] theorem Dev.windows_putAudio (d : Dev) (x : AudioSt) : (d.putAudio x).windows = d.windows := rfl
@[simp] theorem Dev.journal_putAudio (d : Dev) (x : AudioSt) : (d.putAudio x).journal = d.journal := rfl
@[simp] theorem Dev.held_putAudio (d : Dev) (x : AudioSt) : (d.putAudio x).held = d.held := rfl
@[simp] theorem Dev.spiOut_putAudio (d : Dev) (x : AudioSt) : (d.putAudio x).spiOut = d.spiOut := rfl
@[simp] theorem Dev.replaying_putAudio (d : Dev) (x : AudioSt) : (d.putAudio x).replaying = d.replaying := rfl
@[simp] theorem Dev.crcExpect_putAudio (d : Dev) (x : AudioSt) : (d.putAudio x).crcExpect = d.crcExpect := rfl
@[simp] theorem Dev.time_putAudio (d : Dev) (x : AudioSt) : (d.putAudio x).time = d.time := rfl
@[simp] theorem Dev.flash_putAudio (d : Dev) (x : AudioSt) : (d.putAudio x).flash = d.flash := rfl
@[simp] theorem Dev.stage_putAudio (d : Dev) (x : AudioSt) : (d.putAudio x).stage = d.stage := rfl
@[simp] theorem Dev.almCommitted_putAudio (d : Dev) (x : AudioSt) : (d.putAudio x).almCommitted = d.almCommitted := rfl
@[simp] theorem Dev.flashJob_putAudio (d : Dev) (x : AudioSt) : (d.putAudio x).flashJob = d.flashJob := rfl
@[simp] theorem Dev.therm_putAudio (d : Dev) (x : AudioSt) : (d.putAudio x).therm = d.therm := rfl
@[simp] theorem Dev.lanes_putAudio (d : Dev) (x : AudioSt) : (d.putAudio x).lanes = d.lanes := rfl
@[simp] theorem Dev.bundles_putAudio (d : Dev) (x : AudioSt) : (d.putAudio x).bundles = d.bundles := rfl
@[simp] theorem Dev.merged_putAudio (d : Dev) (x : AudioSt) : (d.putAudio x).merged = d.merged := rfl
@[simp] theorem Dev.chans_putAudio (d : Dev) (x : AudioSt) : (d.putAudio x).chans = d.chans := rfl
@[simp] theorem Dev.tasks_putAudio (d : Dev) (x : AudioSt) : (d.putAudio x).tasks = d.tasks := rfl
@[simp] theorem Dev.alm_putAudio (d : Dev) (x : AudioSt) : (d.putAudio x).alm = d.alm := rfl
@[simp] theorem Dev.almUser_putAudio (d : Dev) (x : AudioSt) : (d.putAudio x).almUser = d.almUser := rfl
@[simp] theorem Dev.twin_putAudio (d : Dev) (x : AudioSt) : (d.putAudio x).twin = d.twin := rfl
@[simp] theorem Dev.ring_putAudio (d : Dev) (x : AudioSt) : (d.putAudio x).ring = d.ring := rfl
@[simp] theorem Dev.caches_putAudio (d : Dev) (x : AudioSt) : (d.putAudio x).caches = d.caches := rfl
@[simp] theorem Dev.given_putAudio (d : Dev) (x : AudioSt) : (d.putAudio x).given = d.given := rfl
@[simp] theorem Dev.keptCaptures_putAudio (d : Dev) (x : AudioSt) : (d.putAudio x).keptCaptures = d.keptCaptures := rfl
@[simp] theorem Dev.recqs_putAudio (d : Dev) (x : AudioSt) : (d.putAudio x).recqs = d.recqs := rfl
@[simp] theorem Dev.segs_putAudio (d : Dev) (x : AudioSt) : (d.putAudio x).segs = d.segs := rfl
@[simp] theorem Dev.vigilSegs_putAudio (d : Dev) (x : AudioSt) : (d.putAudio x).vigilSegs = d.vigilSegs := rfl
@[simp] theorem Dev.binds_putAudio (d : Dev) (x : AudioSt) : (d.putAudio x).binds = d.binds := rfl
@[simp] theorem Dev.decs_putAudio (d : Dev) (x : AudioSt) : (d.putAudio x).decs = d.decs := rfl
@[simp] theorem Dev.hbm_putAudio (d : Dev) (x : AudioSt) : (d.putAudio x).hbm = d.hbm := rfl
@[simp] theorem Dev.eth_putAudio (d : Dev) (x : AudioSt) : (d.putAudio x).eth = d.eth := rfl
@[simp] theorem Dev.ptp_putAudio (d : Dev) (x : AudioSt) : (d.putAudio x).ptp = d.ptp := rfl
@[simp] theorem Dev.prev_putAudio (d : Dev) (x : AudioSt) : (d.putAudio x).prev = d.prev := rfl
@[simp] theorem Dev.winTabs_putAudio (d : Dev) (x : AudioSt) : (d.putAudio x).winTabs = d.winTabs := rfl
@[simp] theorem Dev.dmaLast_putAudio (d : Dev) (x : AudioSt) : (d.putAudio x).dmaLast = d.dmaLast := rfl
@[simp] theorem Dev.pcs_putAudio (d : Dev) (x : AudioSt) : (d.putAudio x).pcs = d.pcs := rfl
@[simp] theorem Dev.nextOrder_putAudio (d : Dev) (x : AudioSt) : (d.putAudio x).nextOrder = d.nextOrder := rfl
@[simp] theorem Dev.nextToken_putAudio (d : Dev) (x : AudioSt) : (d.putAudio x).nextToken = d.nextToken := rfl
@[simp] theorem Dev.fresh_putAudio (d : Dev) (x : AudioSt) : (d.putAudio x).fresh = d.fresh := rfl
@[simp] theorem Dev.hbMiss_putAudio (d : Dev) (x : AudioSt) : (d.putAudio x).hbMiss = d.hbMiss := rfl
@[simp] theorem Dev.power_putAudio (d : Dev) (x : AudioSt) : (d.putAudio x).power = d.power := rfl
@[simp] theorem Dev.clock_putAudio (d : Dev) (x : AudioSt) : (d.putAudio x).clock = d.clock := rfl
@[simp] theorem Dev.modeJob_putAudio (d : Dev) (x : AudioSt) : (d.putAudio x).modeJob = d.modeJob := rfl
@[simp] theorem Dev.modeWait_putAudio (d : Dev) (x : AudioSt) : (d.putAudio x).modeWait = d.modeWait := rfl
@[simp] theorem Dev.warmAsk_putAudio (d : Dev) (x : AudioSt) : (d.putAudio x).warmAsk = d.warmAsk := rfl
@[simp] theorem Dev.warmByCmd_putAudio (d : Dev) (x : AudioSt) : (d.putAudio x).warmByCmd = d.warmByCmd := rfl
@[simp] theorem Dev.released_putAudio (d : Dev) (x : AudioSt) : (d.putAudio x).released = d.released := rfl
@[simp] theorem Dev.resumeMode_putAudio (d : Dev) (x : AudioSt) : (d.putAudio x).resumeMode = d.resumeMode := rfl
@[simp] theorem Dev.pwrok_putAudio (d : Dev) (x : AudioSt) : (d.putAudio x).pwrok = d.pwrok := rfl
@[simp] theorem Dev.awaitBme_putAudio (d : Dev) (x : AudioSt) : (d.putAudio x).awaitBme = d.awaitBme := rfl
@[simp] theorem Dev.perst_putAudio (d : Dev) (x : AudioSt) : (d.putAudio x).perst = d.perst := rfl
@[simp] theorem Dev.perts_putAudio (d : Dev) (x : AudioSt) : (d.putAudio x).perts = d.perts := rfl
@[simp] theorem Dev.life_putAudio (d : Dev) (x : AudioSt) : (d.putAudio x).life = d.life := rfl
@[simp] theorem Dev.shadows_putAudio (d : Dev) (x : AudioSt) : (d.putAudio x).shadows = d.shadows := rfl
@[simp] theorem Dev.spiIn_putAudio (d : Dev) (x : AudioSt) : (d.putAudio x).spiIn = d.spiIn := rfl
@[simp] theorem Dev.spiRefused_putAudio (d : Dev) (x : AudioSt) : (d.putAudio x).spiRefused = d.spiRefused := rfl
@[simp] theorem Dev.alert_putAudio (d : Dev) (x : AudioSt) : (d.putAudio x).alert = d.alert := rfl
@[simp] theorem Dev.unread_putAudio (d : Dev) (x : AudioSt) : (d.putAudio x).unread = d.unread := rfl
@[simp] theorem Dev.msixTable_putAudio (d : Dev) (x : AudioSt) : (d.putAudio x).msixTable = d.msixTable := rfl

@[simp] theorem Dev.audio_putAudio (d : Dev) (x : AudioSt) : (d.putAudio x).audio = x := rfl
@[simp] theorem Dev.getF_putAudio (d : Dev) (x : AudioSt) (f : Field) (i j : Nat) : (d.putAudio x).getF f i j = d.getF f i j := rfl
@[simp] theorem Dev.flag_putAudio (d : Dev) (x : AudioSt) (f : Field) (i j : Nat) : (d.putAudio x).flag f i j = d.flag f i j := rfl

/-! ### `putPrev` -/

@[simp] theorem Dev.regs_putPrev (d : Dev) (x : PrevSt) : (d.putPrev x).regs = d.regs := rfl
@[simp] theorem Dev.tick_putPrev (d : Dev) (x : PrevSt) : (d.putPrev x).tick = d.tick := rfl
@[simp] theorem Dev.era_putPrev (d : Dev) (x : PrevSt) : (d.putPrev x).era = d.era := rfl
@[simp] theorem Dev.free_putPrev (d : Dev) (x : PrevSt) : (d.putPrev x).free = d.free := rfl
@[simp] theorem Dev.phase_putPrev (d : Dev) (x : PrevSt) : (d.putPrev x).phase = d.phase := rfl
@[simp] theorem Dev.evlog_putPrev (d : Dev) (x : PrevSt) : (d.putPrev x).evlog = d.evlog := rfl
@[simp] theorem Dev.satNoted_putPrev (d : Dev) (x : PrevSt) : (d.putPrev x).satNoted = d.satNoted := rfl
@[simp] theorem Dev.fences_putPrev (d : Dev) (x : PrevSt) : (d.putPrev x).fences = d.fences := rfl
@[simp] theorem Dev.out_putPrev (d : Dev) (x : PrevSt) : (d.putPrev x).out = d.out := rfl
@[simp] theorem Dev.queues_putPrev (d : Dev) (x : PrevSt) : (d.putPrev x).queues = d.queues := rfl
@[simp] theorem Dev.windows_putPrev (d : Dev) (x : PrevSt) : (d.putPrev x).windows = d.windows := rfl
@[simp] theorem Dev.journal_putPrev (d : Dev) (x : PrevSt) : (d.putPrev x).journal = d.journal := rfl
@[simp] theorem Dev.held_putPrev (d : Dev) (x : PrevSt) : (d.putPrev x).held = d.held := rfl
@[simp] theorem Dev.spiOut_putPrev (d : Dev) (x : PrevSt) : (d.putPrev x).spiOut = d.spiOut := rfl
@[simp] theorem Dev.replaying_putPrev (d : Dev) (x : PrevSt) : (d.putPrev x).replaying = d.replaying := rfl
@[simp] theorem Dev.crcExpect_putPrev (d : Dev) (x : PrevSt) : (d.putPrev x).crcExpect = d.crcExpect := rfl
@[simp] theorem Dev.time_putPrev (d : Dev) (x : PrevSt) : (d.putPrev x).time = d.time := rfl
@[simp] theorem Dev.flash_putPrev (d : Dev) (x : PrevSt) : (d.putPrev x).flash = d.flash := rfl
@[simp] theorem Dev.stage_putPrev (d : Dev) (x : PrevSt) : (d.putPrev x).stage = d.stage := rfl
@[simp] theorem Dev.almCommitted_putPrev (d : Dev) (x : PrevSt) : (d.putPrev x).almCommitted = d.almCommitted := rfl
@[simp] theorem Dev.flashJob_putPrev (d : Dev) (x : PrevSt) : (d.putPrev x).flashJob = d.flashJob := rfl
@[simp] theorem Dev.therm_putPrev (d : Dev) (x : PrevSt) : (d.putPrev x).therm = d.therm := rfl
@[simp] theorem Dev.lanes_putPrev (d : Dev) (x : PrevSt) : (d.putPrev x).lanes = d.lanes := rfl
@[simp] theorem Dev.bundles_putPrev (d : Dev) (x : PrevSt) : (d.putPrev x).bundles = d.bundles := rfl
@[simp] theorem Dev.merged_putPrev (d : Dev) (x : PrevSt) : (d.putPrev x).merged = d.merged := rfl
@[simp] theorem Dev.chans_putPrev (d : Dev) (x : PrevSt) : (d.putPrev x).chans = d.chans := rfl
@[simp] theorem Dev.tasks_putPrev (d : Dev) (x : PrevSt) : (d.putPrev x).tasks = d.tasks := rfl
@[simp] theorem Dev.alm_putPrev (d : Dev) (x : PrevSt) : (d.putPrev x).alm = d.alm := rfl
@[simp] theorem Dev.almUser_putPrev (d : Dev) (x : PrevSt) : (d.putPrev x).almUser = d.almUser := rfl
@[simp] theorem Dev.twin_putPrev (d : Dev) (x : PrevSt) : (d.putPrev x).twin = d.twin := rfl
@[simp] theorem Dev.ring_putPrev (d : Dev) (x : PrevSt) : (d.putPrev x).ring = d.ring := rfl
@[simp] theorem Dev.caches_putPrev (d : Dev) (x : PrevSt) : (d.putPrev x).caches = d.caches := rfl
@[simp] theorem Dev.given_putPrev (d : Dev) (x : PrevSt) : (d.putPrev x).given = d.given := rfl
@[simp] theorem Dev.keptCaptures_putPrev (d : Dev) (x : PrevSt) : (d.putPrev x).keptCaptures = d.keptCaptures := rfl
@[simp] theorem Dev.recqs_putPrev (d : Dev) (x : PrevSt) : (d.putPrev x).recqs = d.recqs := rfl
@[simp] theorem Dev.segs_putPrev (d : Dev) (x : PrevSt) : (d.putPrev x).segs = d.segs := rfl
@[simp] theorem Dev.vigilSegs_putPrev (d : Dev) (x : PrevSt) : (d.putPrev x).vigilSegs = d.vigilSegs := rfl
@[simp] theorem Dev.binds_putPrev (d : Dev) (x : PrevSt) : (d.putPrev x).binds = d.binds := rfl
@[simp] theorem Dev.decs_putPrev (d : Dev) (x : PrevSt) : (d.putPrev x).decs = d.decs := rfl
@[simp] theorem Dev.hbm_putPrev (d : Dev) (x : PrevSt) : (d.putPrev x).hbm = d.hbm := rfl
@[simp] theorem Dev.eth_putPrev (d : Dev) (x : PrevSt) : (d.putPrev x).eth = d.eth := rfl
@[simp] theorem Dev.ptp_putPrev (d : Dev) (x : PrevSt) : (d.putPrev x).ptp = d.ptp := rfl
@[simp] theorem Dev.audio_putPrev (d : Dev) (x : PrevSt) : (d.putPrev x).audio = d.audio := rfl
@[simp] theorem Dev.winTabs_putPrev (d : Dev) (x : PrevSt) : (d.putPrev x).winTabs = d.winTabs := rfl
@[simp] theorem Dev.dmaLast_putPrev (d : Dev) (x : PrevSt) : (d.putPrev x).dmaLast = d.dmaLast := rfl
@[simp] theorem Dev.pcs_putPrev (d : Dev) (x : PrevSt) : (d.putPrev x).pcs = d.pcs := rfl
@[simp] theorem Dev.nextOrder_putPrev (d : Dev) (x : PrevSt) : (d.putPrev x).nextOrder = d.nextOrder := rfl
@[simp] theorem Dev.nextToken_putPrev (d : Dev) (x : PrevSt) : (d.putPrev x).nextToken = d.nextToken := rfl
@[simp] theorem Dev.fresh_putPrev (d : Dev) (x : PrevSt) : (d.putPrev x).fresh = d.fresh := rfl
@[simp] theorem Dev.hbMiss_putPrev (d : Dev) (x : PrevSt) : (d.putPrev x).hbMiss = d.hbMiss := rfl
@[simp] theorem Dev.power_putPrev (d : Dev) (x : PrevSt) : (d.putPrev x).power = d.power := rfl
@[simp] theorem Dev.clock_putPrev (d : Dev) (x : PrevSt) : (d.putPrev x).clock = d.clock := rfl
@[simp] theorem Dev.modeJob_putPrev (d : Dev) (x : PrevSt) : (d.putPrev x).modeJob = d.modeJob := rfl
@[simp] theorem Dev.modeWait_putPrev (d : Dev) (x : PrevSt) : (d.putPrev x).modeWait = d.modeWait := rfl
@[simp] theorem Dev.warmAsk_putPrev (d : Dev) (x : PrevSt) : (d.putPrev x).warmAsk = d.warmAsk := rfl
@[simp] theorem Dev.warmByCmd_putPrev (d : Dev) (x : PrevSt) : (d.putPrev x).warmByCmd = d.warmByCmd := rfl
@[simp] theorem Dev.released_putPrev (d : Dev) (x : PrevSt) : (d.putPrev x).released = d.released := rfl
@[simp] theorem Dev.resumeMode_putPrev (d : Dev) (x : PrevSt) : (d.putPrev x).resumeMode = d.resumeMode := rfl
@[simp] theorem Dev.pwrok_putPrev (d : Dev) (x : PrevSt) : (d.putPrev x).pwrok = d.pwrok := rfl
@[simp] theorem Dev.awaitBme_putPrev (d : Dev) (x : PrevSt) : (d.putPrev x).awaitBme = d.awaitBme := rfl
@[simp] theorem Dev.perst_putPrev (d : Dev) (x : PrevSt) : (d.putPrev x).perst = d.perst := rfl
@[simp] theorem Dev.perts_putPrev (d : Dev) (x : PrevSt) : (d.putPrev x).perts = d.perts := rfl
@[simp] theorem Dev.life_putPrev (d : Dev) (x : PrevSt) : (d.putPrev x).life = d.life := rfl
@[simp] theorem Dev.shadows_putPrev (d : Dev) (x : PrevSt) : (d.putPrev x).shadows = d.shadows := rfl
@[simp] theorem Dev.spiIn_putPrev (d : Dev) (x : PrevSt) : (d.putPrev x).spiIn = d.spiIn := rfl
@[simp] theorem Dev.spiRefused_putPrev (d : Dev) (x : PrevSt) : (d.putPrev x).spiRefused = d.spiRefused := rfl
@[simp] theorem Dev.alert_putPrev (d : Dev) (x : PrevSt) : (d.putPrev x).alert = d.alert := rfl
@[simp] theorem Dev.unread_putPrev (d : Dev) (x : PrevSt) : (d.putPrev x).unread = d.unread := rfl
@[simp] theorem Dev.msixTable_putPrev (d : Dev) (x : PrevSt) : (d.putPrev x).msixTable = d.msixTable := rfl

@[simp] theorem Dev.prev_putPrev (d : Dev) (x : PrevSt) : (d.putPrev x).prev = x := rfl
@[simp] theorem Dev.getF_putPrev (d : Dev) (x : PrevSt) (f : Field) (i j : Nat) : (d.putPrev x).getF f i j = d.getF f i j := rfl
@[simp] theorem Dev.flag_putPrev (d : Dev) (x : PrevSt) (f : Field) (i j : Nat) : (d.putPrev x).flag f i j = d.flag f i j := rfl

/-! ### `putRing` -/

@[simp] theorem Dev.regs_putRing (d : Dev) (x : RingSt) : (d.putRing x).regs = d.regs := rfl
@[simp] theorem Dev.tick_putRing (d : Dev) (x : RingSt) : (d.putRing x).tick = d.tick := rfl
@[simp] theorem Dev.era_putRing (d : Dev) (x : RingSt) : (d.putRing x).era = d.era := rfl
@[simp] theorem Dev.free_putRing (d : Dev) (x : RingSt) : (d.putRing x).free = d.free := rfl
@[simp] theorem Dev.phase_putRing (d : Dev) (x : RingSt) : (d.putRing x).phase = d.phase := rfl
@[simp] theorem Dev.evlog_putRing (d : Dev) (x : RingSt) : (d.putRing x).evlog = d.evlog := rfl
@[simp] theorem Dev.satNoted_putRing (d : Dev) (x : RingSt) : (d.putRing x).satNoted = d.satNoted := rfl
@[simp] theorem Dev.fences_putRing (d : Dev) (x : RingSt) : (d.putRing x).fences = d.fences := rfl
@[simp] theorem Dev.out_putRing (d : Dev) (x : RingSt) : (d.putRing x).out = d.out := rfl
@[simp] theorem Dev.queues_putRing (d : Dev) (x : RingSt) : (d.putRing x).queues = d.queues := rfl
@[simp] theorem Dev.windows_putRing (d : Dev) (x : RingSt) : (d.putRing x).windows = d.windows := rfl
@[simp] theorem Dev.journal_putRing (d : Dev) (x : RingSt) : (d.putRing x).journal = d.journal := rfl
@[simp] theorem Dev.held_putRing (d : Dev) (x : RingSt) : (d.putRing x).held = d.held := rfl
@[simp] theorem Dev.spiOut_putRing (d : Dev) (x : RingSt) : (d.putRing x).spiOut = d.spiOut := rfl
@[simp] theorem Dev.replaying_putRing (d : Dev) (x : RingSt) : (d.putRing x).replaying = d.replaying := rfl
@[simp] theorem Dev.crcExpect_putRing (d : Dev) (x : RingSt) : (d.putRing x).crcExpect = d.crcExpect := rfl
@[simp] theorem Dev.time_putRing (d : Dev) (x : RingSt) : (d.putRing x).time = d.time := rfl
@[simp] theorem Dev.flash_putRing (d : Dev) (x : RingSt) : (d.putRing x).flash = d.flash := rfl
@[simp] theorem Dev.stage_putRing (d : Dev) (x : RingSt) : (d.putRing x).stage = d.stage := rfl
@[simp] theorem Dev.almCommitted_putRing (d : Dev) (x : RingSt) : (d.putRing x).almCommitted = d.almCommitted := rfl
@[simp] theorem Dev.flashJob_putRing (d : Dev) (x : RingSt) : (d.putRing x).flashJob = d.flashJob := rfl
@[simp] theorem Dev.therm_putRing (d : Dev) (x : RingSt) : (d.putRing x).therm = d.therm := rfl
@[simp] theorem Dev.lanes_putRing (d : Dev) (x : RingSt) : (d.putRing x).lanes = d.lanes := rfl
@[simp] theorem Dev.bundles_putRing (d : Dev) (x : RingSt) : (d.putRing x).bundles = d.bundles := rfl
@[simp] theorem Dev.merged_putRing (d : Dev) (x : RingSt) : (d.putRing x).merged = d.merged := rfl
@[simp] theorem Dev.chans_putRing (d : Dev) (x : RingSt) : (d.putRing x).chans = d.chans := rfl
@[simp] theorem Dev.tasks_putRing (d : Dev) (x : RingSt) : (d.putRing x).tasks = d.tasks := rfl
@[simp] theorem Dev.alm_putRing (d : Dev) (x : RingSt) : (d.putRing x).alm = d.alm := rfl
@[simp] theorem Dev.almUser_putRing (d : Dev) (x : RingSt) : (d.putRing x).almUser = d.almUser := rfl
@[simp] theorem Dev.twin_putRing (d : Dev) (x : RingSt) : (d.putRing x).twin = d.twin := rfl
@[simp] theorem Dev.caches_putRing (d : Dev) (x : RingSt) : (d.putRing x).caches = d.caches := rfl
@[simp] theorem Dev.given_putRing (d : Dev) (x : RingSt) : (d.putRing x).given = d.given := rfl
@[simp] theorem Dev.keptCaptures_putRing (d : Dev) (x : RingSt) : (d.putRing x).keptCaptures = d.keptCaptures := rfl
@[simp] theorem Dev.recqs_putRing (d : Dev) (x : RingSt) : (d.putRing x).recqs = d.recqs := rfl
@[simp] theorem Dev.segs_putRing (d : Dev) (x : RingSt) : (d.putRing x).segs = d.segs := rfl
@[simp] theorem Dev.vigilSegs_putRing (d : Dev) (x : RingSt) : (d.putRing x).vigilSegs = d.vigilSegs := rfl
@[simp] theorem Dev.binds_putRing (d : Dev) (x : RingSt) : (d.putRing x).binds = d.binds := rfl
@[simp] theorem Dev.decs_putRing (d : Dev) (x : RingSt) : (d.putRing x).decs = d.decs := rfl
@[simp] theorem Dev.hbm_putRing (d : Dev) (x : RingSt) : (d.putRing x).hbm = d.hbm := rfl
@[simp] theorem Dev.eth_putRing (d : Dev) (x : RingSt) : (d.putRing x).eth = d.eth := rfl
@[simp] theorem Dev.ptp_putRing (d : Dev) (x : RingSt) : (d.putRing x).ptp = d.ptp := rfl
@[simp] theorem Dev.prev_putRing (d : Dev) (x : RingSt) : (d.putRing x).prev = d.prev := rfl
@[simp] theorem Dev.audio_putRing (d : Dev) (x : RingSt) : (d.putRing x).audio = d.audio := rfl
@[simp] theorem Dev.winTabs_putRing (d : Dev) (x : RingSt) : (d.putRing x).winTabs = d.winTabs := rfl
@[simp] theorem Dev.dmaLast_putRing (d : Dev) (x : RingSt) : (d.putRing x).dmaLast = d.dmaLast := rfl
@[simp] theorem Dev.pcs_putRing (d : Dev) (x : RingSt) : (d.putRing x).pcs = d.pcs := rfl
@[simp] theorem Dev.nextOrder_putRing (d : Dev) (x : RingSt) : (d.putRing x).nextOrder = d.nextOrder := rfl
@[simp] theorem Dev.nextToken_putRing (d : Dev) (x : RingSt) : (d.putRing x).nextToken = d.nextToken := rfl
@[simp] theorem Dev.fresh_putRing (d : Dev) (x : RingSt) : (d.putRing x).fresh = d.fresh := rfl
@[simp] theorem Dev.hbMiss_putRing (d : Dev) (x : RingSt) : (d.putRing x).hbMiss = d.hbMiss := rfl
@[simp] theorem Dev.power_putRing (d : Dev) (x : RingSt) : (d.putRing x).power = d.power := rfl
@[simp] theorem Dev.clock_putRing (d : Dev) (x : RingSt) : (d.putRing x).clock = d.clock := rfl
@[simp] theorem Dev.modeJob_putRing (d : Dev) (x : RingSt) : (d.putRing x).modeJob = d.modeJob := rfl
@[simp] theorem Dev.modeWait_putRing (d : Dev) (x : RingSt) : (d.putRing x).modeWait = d.modeWait := rfl
@[simp] theorem Dev.warmAsk_putRing (d : Dev) (x : RingSt) : (d.putRing x).warmAsk = d.warmAsk := rfl
@[simp] theorem Dev.warmByCmd_putRing (d : Dev) (x : RingSt) : (d.putRing x).warmByCmd = d.warmByCmd := rfl
@[simp] theorem Dev.released_putRing (d : Dev) (x : RingSt) : (d.putRing x).released = d.released := rfl
@[simp] theorem Dev.resumeMode_putRing (d : Dev) (x : RingSt) : (d.putRing x).resumeMode = d.resumeMode := rfl
@[simp] theorem Dev.pwrok_putRing (d : Dev) (x : RingSt) : (d.putRing x).pwrok = d.pwrok := rfl
@[simp] theorem Dev.awaitBme_putRing (d : Dev) (x : RingSt) : (d.putRing x).awaitBme = d.awaitBme := rfl
@[simp] theorem Dev.perst_putRing (d : Dev) (x : RingSt) : (d.putRing x).perst = d.perst := rfl
@[simp] theorem Dev.perts_putRing (d : Dev) (x : RingSt) : (d.putRing x).perts = d.perts := rfl
@[simp] theorem Dev.life_putRing (d : Dev) (x : RingSt) : (d.putRing x).life = d.life := rfl
@[simp] theorem Dev.shadows_putRing (d : Dev) (x : RingSt) : (d.putRing x).shadows = d.shadows := rfl
@[simp] theorem Dev.spiIn_putRing (d : Dev) (x : RingSt) : (d.putRing x).spiIn = d.spiIn := rfl
@[simp] theorem Dev.spiRefused_putRing (d : Dev) (x : RingSt) : (d.putRing x).spiRefused = d.spiRefused := rfl
@[simp] theorem Dev.alert_putRing (d : Dev) (x : RingSt) : (d.putRing x).alert = d.alert := rfl
@[simp] theorem Dev.unread_putRing (d : Dev) (x : RingSt) : (d.putRing x).unread = d.unread := rfl
@[simp] theorem Dev.msixTable_putRing (d : Dev) (x : RingSt) : (d.putRing x).msixTable = d.msixTable := rfl

@[simp] theorem Dev.ring_putRing (d : Dev) (x : RingSt) : (d.putRing x).ring = x := rfl
@[simp] theorem Dev.getF_putRing (d : Dev) (x : RingSt) (f : Field) (i j : Nat) : (d.putRing x).getF f i j = d.getF f i j := rfl
@[simp] theorem Dev.flag_putRing (d : Dev) (x : RingSt) (f : Field) (i j : Nat) : (d.putRing x).flag f i j = d.flag f i j := rfl

/-! ### `putTherm` -/

@[simp] theorem Dev.regs_putTherm (d : Dev) (x : Therm) : (d.putTherm x).regs = d.regs := rfl
@[simp] theorem Dev.tick_putTherm (d : Dev) (x : Therm) : (d.putTherm x).tick = d.tick := rfl
@[simp] theorem Dev.era_putTherm (d : Dev) (x : Therm) : (d.putTherm x).era = d.era := rfl
@[simp] theorem Dev.free_putTherm (d : Dev) (x : Therm) : (d.putTherm x).free = d.free := rfl
@[simp] theorem Dev.phase_putTherm (d : Dev) (x : Therm) : (d.putTherm x).phase = d.phase := rfl
@[simp] theorem Dev.evlog_putTherm (d : Dev) (x : Therm) : (d.putTherm x).evlog = d.evlog := rfl
@[simp] theorem Dev.satNoted_putTherm (d : Dev) (x : Therm) : (d.putTherm x).satNoted = d.satNoted := rfl
@[simp] theorem Dev.fences_putTherm (d : Dev) (x : Therm) : (d.putTherm x).fences = d.fences := rfl
@[simp] theorem Dev.out_putTherm (d : Dev) (x : Therm) : (d.putTherm x).out = d.out := rfl
@[simp] theorem Dev.queues_putTherm (d : Dev) (x : Therm) : (d.putTherm x).queues = d.queues := rfl
@[simp] theorem Dev.windows_putTherm (d : Dev) (x : Therm) : (d.putTherm x).windows = d.windows := rfl
@[simp] theorem Dev.journal_putTherm (d : Dev) (x : Therm) : (d.putTherm x).journal = d.journal := rfl
@[simp] theorem Dev.held_putTherm (d : Dev) (x : Therm) : (d.putTherm x).held = d.held := rfl
@[simp] theorem Dev.spiOut_putTherm (d : Dev) (x : Therm) : (d.putTherm x).spiOut = d.spiOut := rfl
@[simp] theorem Dev.replaying_putTherm (d : Dev) (x : Therm) : (d.putTherm x).replaying = d.replaying := rfl
@[simp] theorem Dev.crcExpect_putTherm (d : Dev) (x : Therm) : (d.putTherm x).crcExpect = d.crcExpect := rfl
@[simp] theorem Dev.time_putTherm (d : Dev) (x : Therm) : (d.putTherm x).time = d.time := rfl
@[simp] theorem Dev.flash_putTherm (d : Dev) (x : Therm) : (d.putTherm x).flash = d.flash := rfl
@[simp] theorem Dev.stage_putTherm (d : Dev) (x : Therm) : (d.putTherm x).stage = d.stage := rfl
@[simp] theorem Dev.almCommitted_putTherm (d : Dev) (x : Therm) : (d.putTherm x).almCommitted = d.almCommitted := rfl
@[simp] theorem Dev.flashJob_putTherm (d : Dev) (x : Therm) : (d.putTherm x).flashJob = d.flashJob := rfl
@[simp] theorem Dev.lanes_putTherm (d : Dev) (x : Therm) : (d.putTherm x).lanes = d.lanes := rfl
@[simp] theorem Dev.bundles_putTherm (d : Dev) (x : Therm) : (d.putTherm x).bundles = d.bundles := rfl
@[simp] theorem Dev.merged_putTherm (d : Dev) (x : Therm) : (d.putTherm x).merged = d.merged := rfl
@[simp] theorem Dev.chans_putTherm (d : Dev) (x : Therm) : (d.putTherm x).chans = d.chans := rfl
@[simp] theorem Dev.tasks_putTherm (d : Dev) (x : Therm) : (d.putTherm x).tasks = d.tasks := rfl
@[simp] theorem Dev.alm_putTherm (d : Dev) (x : Therm) : (d.putTherm x).alm = d.alm := rfl
@[simp] theorem Dev.almUser_putTherm (d : Dev) (x : Therm) : (d.putTherm x).almUser = d.almUser := rfl
@[simp] theorem Dev.twin_putTherm (d : Dev) (x : Therm) : (d.putTherm x).twin = d.twin := rfl
@[simp] theorem Dev.ring_putTherm (d : Dev) (x : Therm) : (d.putTherm x).ring = d.ring := rfl
@[simp] theorem Dev.caches_putTherm (d : Dev) (x : Therm) : (d.putTherm x).caches = d.caches := rfl
@[simp] theorem Dev.given_putTherm (d : Dev) (x : Therm) : (d.putTherm x).given = d.given := rfl
@[simp] theorem Dev.keptCaptures_putTherm (d : Dev) (x : Therm) : (d.putTherm x).keptCaptures = d.keptCaptures := rfl
@[simp] theorem Dev.recqs_putTherm (d : Dev) (x : Therm) : (d.putTherm x).recqs = d.recqs := rfl
@[simp] theorem Dev.segs_putTherm (d : Dev) (x : Therm) : (d.putTherm x).segs = d.segs := rfl
@[simp] theorem Dev.vigilSegs_putTherm (d : Dev) (x : Therm) : (d.putTherm x).vigilSegs = d.vigilSegs := rfl
@[simp] theorem Dev.binds_putTherm (d : Dev) (x : Therm) : (d.putTherm x).binds = d.binds := rfl
@[simp] theorem Dev.decs_putTherm (d : Dev) (x : Therm) : (d.putTherm x).decs = d.decs := rfl
@[simp] theorem Dev.hbm_putTherm (d : Dev) (x : Therm) : (d.putTherm x).hbm = d.hbm := rfl
@[simp] theorem Dev.eth_putTherm (d : Dev) (x : Therm) : (d.putTherm x).eth = d.eth := rfl
@[simp] theorem Dev.ptp_putTherm (d : Dev) (x : Therm) : (d.putTherm x).ptp = d.ptp := rfl
@[simp] theorem Dev.prev_putTherm (d : Dev) (x : Therm) : (d.putTherm x).prev = d.prev := rfl
@[simp] theorem Dev.audio_putTherm (d : Dev) (x : Therm) : (d.putTherm x).audio = d.audio := rfl
@[simp] theorem Dev.winTabs_putTherm (d : Dev) (x : Therm) : (d.putTherm x).winTabs = d.winTabs := rfl
@[simp] theorem Dev.dmaLast_putTherm (d : Dev) (x : Therm) : (d.putTherm x).dmaLast = d.dmaLast := rfl
@[simp] theorem Dev.pcs_putTherm (d : Dev) (x : Therm) : (d.putTherm x).pcs = d.pcs := rfl
@[simp] theorem Dev.nextOrder_putTherm (d : Dev) (x : Therm) : (d.putTherm x).nextOrder = d.nextOrder := rfl
@[simp] theorem Dev.nextToken_putTherm (d : Dev) (x : Therm) : (d.putTherm x).nextToken = d.nextToken := rfl
@[simp] theorem Dev.fresh_putTherm (d : Dev) (x : Therm) : (d.putTherm x).fresh = d.fresh := rfl
@[simp] theorem Dev.hbMiss_putTherm (d : Dev) (x : Therm) : (d.putTherm x).hbMiss = d.hbMiss := rfl
@[simp] theorem Dev.power_putTherm (d : Dev) (x : Therm) : (d.putTherm x).power = d.power := rfl
@[simp] theorem Dev.clock_putTherm (d : Dev) (x : Therm) : (d.putTherm x).clock = d.clock := rfl
@[simp] theorem Dev.modeJob_putTherm (d : Dev) (x : Therm) : (d.putTherm x).modeJob = d.modeJob := rfl
@[simp] theorem Dev.modeWait_putTherm (d : Dev) (x : Therm) : (d.putTherm x).modeWait = d.modeWait := rfl
@[simp] theorem Dev.warmAsk_putTherm (d : Dev) (x : Therm) : (d.putTherm x).warmAsk = d.warmAsk := rfl
@[simp] theorem Dev.warmByCmd_putTherm (d : Dev) (x : Therm) : (d.putTherm x).warmByCmd = d.warmByCmd := rfl
@[simp] theorem Dev.released_putTherm (d : Dev) (x : Therm) : (d.putTherm x).released = d.released := rfl
@[simp] theorem Dev.resumeMode_putTherm (d : Dev) (x : Therm) : (d.putTherm x).resumeMode = d.resumeMode := rfl
@[simp] theorem Dev.pwrok_putTherm (d : Dev) (x : Therm) : (d.putTherm x).pwrok = d.pwrok := rfl
@[simp] theorem Dev.awaitBme_putTherm (d : Dev) (x : Therm) : (d.putTherm x).awaitBme = d.awaitBme := rfl
@[simp] theorem Dev.perst_putTherm (d : Dev) (x : Therm) : (d.putTherm x).perst = d.perst := rfl
@[simp] theorem Dev.perts_putTherm (d : Dev) (x : Therm) : (d.putTherm x).perts = d.perts := rfl
@[simp] theorem Dev.life_putTherm (d : Dev) (x : Therm) : (d.putTherm x).life = d.life := rfl
@[simp] theorem Dev.shadows_putTherm (d : Dev) (x : Therm) : (d.putTherm x).shadows = d.shadows := rfl
@[simp] theorem Dev.spiIn_putTherm (d : Dev) (x : Therm) : (d.putTherm x).spiIn = d.spiIn := rfl
@[simp] theorem Dev.spiRefused_putTherm (d : Dev) (x : Therm) : (d.putTherm x).spiRefused = d.spiRefused := rfl
@[simp] theorem Dev.alert_putTherm (d : Dev) (x : Therm) : (d.putTherm x).alert = d.alert := rfl
@[simp] theorem Dev.unread_putTherm (d : Dev) (x : Therm) : (d.putTherm x).unread = d.unread := rfl
@[simp] theorem Dev.msixTable_putTherm (d : Dev) (x : Therm) : (d.putTherm x).msixTable = d.msixTable := rfl

@[simp] theorem Dev.therm_putTherm (d : Dev) (x : Therm) : (d.putTherm x).therm = x := rfl
@[simp] theorem Dev.getF_putTherm (d : Dev) (x : Therm) (f : Field) (i j : Nat) : (d.putTherm x).getF f i j = d.getF f i j := rfl
@[simp] theorem Dev.flag_putTherm (d : Dev) (x : Therm) (f : Field) (i j : Nat) : (d.putTherm x).flag f i j = d.flag f i j := rfl

/-! ### `putTime` -/

@[simp] theorem Dev.regs_putTime (d : Dev) (x : TimeState) : (d.putTime x).regs = d.regs := rfl
@[simp] theorem Dev.tick_putTime (d : Dev) (x : TimeState) : (d.putTime x).tick = d.tick := rfl
@[simp] theorem Dev.era_putTime (d : Dev) (x : TimeState) : (d.putTime x).era = d.era := rfl
@[simp] theorem Dev.free_putTime (d : Dev) (x : TimeState) : (d.putTime x).free = d.free := rfl
@[simp] theorem Dev.phase_putTime (d : Dev) (x : TimeState) : (d.putTime x).phase = d.phase := rfl
@[simp] theorem Dev.evlog_putTime (d : Dev) (x : TimeState) : (d.putTime x).evlog = d.evlog := rfl
@[simp] theorem Dev.satNoted_putTime (d : Dev) (x : TimeState) : (d.putTime x).satNoted = d.satNoted := rfl
@[simp] theorem Dev.fences_putTime (d : Dev) (x : TimeState) : (d.putTime x).fences = d.fences := rfl
@[simp] theorem Dev.out_putTime (d : Dev) (x : TimeState) : (d.putTime x).out = d.out := rfl
@[simp] theorem Dev.queues_putTime (d : Dev) (x : TimeState) : (d.putTime x).queues = d.queues := rfl
@[simp] theorem Dev.windows_putTime (d : Dev) (x : TimeState) : (d.putTime x).windows = d.windows := rfl
@[simp] theorem Dev.journal_putTime (d : Dev) (x : TimeState) : (d.putTime x).journal = d.journal := rfl
@[simp] theorem Dev.held_putTime (d : Dev) (x : TimeState) : (d.putTime x).held = d.held := rfl
@[simp] theorem Dev.spiOut_putTime (d : Dev) (x : TimeState) : (d.putTime x).spiOut = d.spiOut := rfl
@[simp] theorem Dev.replaying_putTime (d : Dev) (x : TimeState) : (d.putTime x).replaying = d.replaying := rfl
@[simp] theorem Dev.crcExpect_putTime (d : Dev) (x : TimeState) : (d.putTime x).crcExpect = d.crcExpect := rfl
@[simp] theorem Dev.flash_putTime (d : Dev) (x : TimeState) : (d.putTime x).flash = d.flash := rfl
@[simp] theorem Dev.stage_putTime (d : Dev) (x : TimeState) : (d.putTime x).stage = d.stage := rfl
@[simp] theorem Dev.almCommitted_putTime (d : Dev) (x : TimeState) : (d.putTime x).almCommitted = d.almCommitted := rfl
@[simp] theorem Dev.flashJob_putTime (d : Dev) (x : TimeState) : (d.putTime x).flashJob = d.flashJob := rfl
@[simp] theorem Dev.therm_putTime (d : Dev) (x : TimeState) : (d.putTime x).therm = d.therm := rfl
@[simp] theorem Dev.lanes_putTime (d : Dev) (x : TimeState) : (d.putTime x).lanes = d.lanes := rfl
@[simp] theorem Dev.bundles_putTime (d : Dev) (x : TimeState) : (d.putTime x).bundles = d.bundles := rfl
@[simp] theorem Dev.merged_putTime (d : Dev) (x : TimeState) : (d.putTime x).merged = d.merged := rfl
@[simp] theorem Dev.chans_putTime (d : Dev) (x : TimeState) : (d.putTime x).chans = d.chans := rfl
@[simp] theorem Dev.tasks_putTime (d : Dev) (x : TimeState) : (d.putTime x).tasks = d.tasks := rfl
@[simp] theorem Dev.alm_putTime (d : Dev) (x : TimeState) : (d.putTime x).alm = d.alm := rfl
@[simp] theorem Dev.almUser_putTime (d : Dev) (x : TimeState) : (d.putTime x).almUser = d.almUser := rfl
@[simp] theorem Dev.twin_putTime (d : Dev) (x : TimeState) : (d.putTime x).twin = d.twin := rfl
@[simp] theorem Dev.ring_putTime (d : Dev) (x : TimeState) : (d.putTime x).ring = d.ring := rfl
@[simp] theorem Dev.caches_putTime (d : Dev) (x : TimeState) : (d.putTime x).caches = d.caches := rfl
@[simp] theorem Dev.given_putTime (d : Dev) (x : TimeState) : (d.putTime x).given = d.given := rfl
@[simp] theorem Dev.keptCaptures_putTime (d : Dev) (x : TimeState) : (d.putTime x).keptCaptures = d.keptCaptures := rfl
@[simp] theorem Dev.recqs_putTime (d : Dev) (x : TimeState) : (d.putTime x).recqs = d.recqs := rfl
@[simp] theorem Dev.segs_putTime (d : Dev) (x : TimeState) : (d.putTime x).segs = d.segs := rfl
@[simp] theorem Dev.vigilSegs_putTime (d : Dev) (x : TimeState) : (d.putTime x).vigilSegs = d.vigilSegs := rfl
@[simp] theorem Dev.binds_putTime (d : Dev) (x : TimeState) : (d.putTime x).binds = d.binds := rfl
@[simp] theorem Dev.decs_putTime (d : Dev) (x : TimeState) : (d.putTime x).decs = d.decs := rfl
@[simp] theorem Dev.hbm_putTime (d : Dev) (x : TimeState) : (d.putTime x).hbm = d.hbm := rfl
@[simp] theorem Dev.eth_putTime (d : Dev) (x : TimeState) : (d.putTime x).eth = d.eth := rfl
@[simp] theorem Dev.ptp_putTime (d : Dev) (x : TimeState) : (d.putTime x).ptp = d.ptp := rfl
@[simp] theorem Dev.prev_putTime (d : Dev) (x : TimeState) : (d.putTime x).prev = d.prev := rfl
@[simp] theorem Dev.audio_putTime (d : Dev) (x : TimeState) : (d.putTime x).audio = d.audio := rfl
@[simp] theorem Dev.winTabs_putTime (d : Dev) (x : TimeState) : (d.putTime x).winTabs = d.winTabs := rfl
@[simp] theorem Dev.dmaLast_putTime (d : Dev) (x : TimeState) : (d.putTime x).dmaLast = d.dmaLast := rfl
@[simp] theorem Dev.pcs_putTime (d : Dev) (x : TimeState) : (d.putTime x).pcs = d.pcs := rfl
@[simp] theorem Dev.nextOrder_putTime (d : Dev) (x : TimeState) : (d.putTime x).nextOrder = d.nextOrder := rfl
@[simp] theorem Dev.nextToken_putTime (d : Dev) (x : TimeState) : (d.putTime x).nextToken = d.nextToken := rfl
@[simp] theorem Dev.fresh_putTime (d : Dev) (x : TimeState) : (d.putTime x).fresh = d.fresh := rfl
@[simp] theorem Dev.hbMiss_putTime (d : Dev) (x : TimeState) : (d.putTime x).hbMiss = d.hbMiss := rfl
@[simp] theorem Dev.power_putTime (d : Dev) (x : TimeState) : (d.putTime x).power = d.power := rfl
@[simp] theorem Dev.clock_putTime (d : Dev) (x : TimeState) : (d.putTime x).clock = d.clock := rfl
@[simp] theorem Dev.modeJob_putTime (d : Dev) (x : TimeState) : (d.putTime x).modeJob = d.modeJob := rfl
@[simp] theorem Dev.modeWait_putTime (d : Dev) (x : TimeState) : (d.putTime x).modeWait = d.modeWait := rfl
@[simp] theorem Dev.warmAsk_putTime (d : Dev) (x : TimeState) : (d.putTime x).warmAsk = d.warmAsk := rfl
@[simp] theorem Dev.warmByCmd_putTime (d : Dev) (x : TimeState) : (d.putTime x).warmByCmd = d.warmByCmd := rfl
@[simp] theorem Dev.released_putTime (d : Dev) (x : TimeState) : (d.putTime x).released = d.released := rfl
@[simp] theorem Dev.resumeMode_putTime (d : Dev) (x : TimeState) : (d.putTime x).resumeMode = d.resumeMode := rfl
@[simp] theorem Dev.pwrok_putTime (d : Dev) (x : TimeState) : (d.putTime x).pwrok = d.pwrok := rfl
@[simp] theorem Dev.awaitBme_putTime (d : Dev) (x : TimeState) : (d.putTime x).awaitBme = d.awaitBme := rfl
@[simp] theorem Dev.perst_putTime (d : Dev) (x : TimeState) : (d.putTime x).perst = d.perst := rfl
@[simp] theorem Dev.perts_putTime (d : Dev) (x : TimeState) : (d.putTime x).perts = d.perts := rfl
@[simp] theorem Dev.life_putTime (d : Dev) (x : TimeState) : (d.putTime x).life = d.life := rfl
@[simp] theorem Dev.shadows_putTime (d : Dev) (x : TimeState) : (d.putTime x).shadows = d.shadows := rfl
@[simp] theorem Dev.spiIn_putTime (d : Dev) (x : TimeState) : (d.putTime x).spiIn = d.spiIn := rfl
@[simp] theorem Dev.spiRefused_putTime (d : Dev) (x : TimeState) : (d.putTime x).spiRefused = d.spiRefused := rfl
@[simp] theorem Dev.alert_putTime (d : Dev) (x : TimeState) : (d.putTime x).alert = d.alert := rfl
@[simp] theorem Dev.unread_putTime (d : Dev) (x : TimeState) : (d.putTime x).unread = d.unread := rfl
@[simp] theorem Dev.msixTable_putTime (d : Dev) (x : TimeState) : (d.putTime x).msixTable = d.msixTable := rfl

@[simp] theorem Dev.time_putTime (d : Dev) (x : TimeState) : (d.putTime x).time = x := rfl
@[simp] theorem Dev.getF_putTime (d : Dev) (x : TimeState) (f : Field) (i j : Nat) : (d.putTime x).getF f i j = d.getF f i j := rfl
@[simp] theorem Dev.flag_putTime (d : Dev) (x : TimeState) (f : Field) (i j : Nat) : (d.putTime x).flag f i j = d.flag f i j := rfl

/-! ### `putDec` -/

@[simp] theorem Dev.regs_putDec (d : Dev) (k : Nat) (x : DecCtx) : (d.putDec k x).regs = d.regs := rfl
@[simp] theorem Dev.tick_putDec (d : Dev) (k : Nat) (x : DecCtx) : (d.putDec k x).tick = d.tick := rfl
@[simp] theorem Dev.era_putDec (d : Dev) (k : Nat) (x : DecCtx) : (d.putDec k x).era = d.era := rfl
@[simp] theorem Dev.free_putDec (d : Dev) (k : Nat) (x : DecCtx) : (d.putDec k x).free = d.free := rfl
@[simp] theorem Dev.phase_putDec (d : Dev) (k : Nat) (x : DecCtx) : (d.putDec k x).phase = d.phase := rfl
@[simp] theorem Dev.evlog_putDec (d : Dev) (k : Nat) (x : DecCtx) : (d.putDec k x).evlog = d.evlog := rfl
@[simp] theorem Dev.satNoted_putDec (d : Dev) (k : Nat) (x : DecCtx) : (d.putDec k x).satNoted = d.satNoted := rfl
@[simp] theorem Dev.fences_putDec (d : Dev) (k : Nat) (x : DecCtx) : (d.putDec k x).fences = d.fences := rfl
@[simp] theorem Dev.out_putDec (d : Dev) (k : Nat) (x : DecCtx) : (d.putDec k x).out = d.out := rfl
@[simp] theorem Dev.queues_putDec (d : Dev) (k : Nat) (x : DecCtx) : (d.putDec k x).queues = d.queues := rfl
@[simp] theorem Dev.windows_putDec (d : Dev) (k : Nat) (x : DecCtx) : (d.putDec k x).windows = d.windows := rfl
@[simp] theorem Dev.journal_putDec (d : Dev) (k : Nat) (x : DecCtx) : (d.putDec k x).journal = d.journal := rfl
@[simp] theorem Dev.held_putDec (d : Dev) (k : Nat) (x : DecCtx) : (d.putDec k x).held = d.held := rfl
@[simp] theorem Dev.spiOut_putDec (d : Dev) (k : Nat) (x : DecCtx) : (d.putDec k x).spiOut = d.spiOut := rfl
@[simp] theorem Dev.replaying_putDec (d : Dev) (k : Nat) (x : DecCtx) : (d.putDec k x).replaying = d.replaying := rfl
@[simp] theorem Dev.crcExpect_putDec (d : Dev) (k : Nat) (x : DecCtx) : (d.putDec k x).crcExpect = d.crcExpect := rfl
@[simp] theorem Dev.time_putDec (d : Dev) (k : Nat) (x : DecCtx) : (d.putDec k x).time = d.time := rfl
@[simp] theorem Dev.flash_putDec (d : Dev) (k : Nat) (x : DecCtx) : (d.putDec k x).flash = d.flash := rfl
@[simp] theorem Dev.stage_putDec (d : Dev) (k : Nat) (x : DecCtx) : (d.putDec k x).stage = d.stage := rfl
@[simp] theorem Dev.almCommitted_putDec (d : Dev) (k : Nat) (x : DecCtx) : (d.putDec k x).almCommitted = d.almCommitted := rfl
@[simp] theorem Dev.flashJob_putDec (d : Dev) (k : Nat) (x : DecCtx) : (d.putDec k x).flashJob = d.flashJob := rfl
@[simp] theorem Dev.therm_putDec (d : Dev) (k : Nat) (x : DecCtx) : (d.putDec k x).therm = d.therm := rfl
@[simp] theorem Dev.lanes_putDec (d : Dev) (k : Nat) (x : DecCtx) : (d.putDec k x).lanes = d.lanes := rfl
@[simp] theorem Dev.bundles_putDec (d : Dev) (k : Nat) (x : DecCtx) : (d.putDec k x).bundles = d.bundles := rfl
@[simp] theorem Dev.merged_putDec (d : Dev) (k : Nat) (x : DecCtx) : (d.putDec k x).merged = d.merged := rfl
@[simp] theorem Dev.chans_putDec (d : Dev) (k : Nat) (x : DecCtx) : (d.putDec k x).chans = d.chans := rfl
@[simp] theorem Dev.tasks_putDec (d : Dev) (k : Nat) (x : DecCtx) : (d.putDec k x).tasks = d.tasks := rfl
@[simp] theorem Dev.alm_putDec (d : Dev) (k : Nat) (x : DecCtx) : (d.putDec k x).alm = d.alm := rfl
@[simp] theorem Dev.almUser_putDec (d : Dev) (k : Nat) (x : DecCtx) : (d.putDec k x).almUser = d.almUser := rfl
@[simp] theorem Dev.twin_putDec (d : Dev) (k : Nat) (x : DecCtx) : (d.putDec k x).twin = d.twin := rfl
@[simp] theorem Dev.ring_putDec (d : Dev) (k : Nat) (x : DecCtx) : (d.putDec k x).ring = d.ring := rfl
@[simp] theorem Dev.caches_putDec (d : Dev) (k : Nat) (x : DecCtx) : (d.putDec k x).caches = d.caches := rfl
@[simp] theorem Dev.given_putDec (d : Dev) (k : Nat) (x : DecCtx) : (d.putDec k x).given = d.given := rfl
@[simp] theorem Dev.keptCaptures_putDec (d : Dev) (k : Nat) (x : DecCtx) : (d.putDec k x).keptCaptures = d.keptCaptures := rfl
@[simp] theorem Dev.recqs_putDec (d : Dev) (k : Nat) (x : DecCtx) : (d.putDec k x).recqs = d.recqs := rfl
@[simp] theorem Dev.segs_putDec (d : Dev) (k : Nat) (x : DecCtx) : (d.putDec k x).segs = d.segs := rfl
@[simp] theorem Dev.vigilSegs_putDec (d : Dev) (k : Nat) (x : DecCtx) : (d.putDec k x).vigilSegs = d.vigilSegs := rfl
@[simp] theorem Dev.binds_putDec (d : Dev) (k : Nat) (x : DecCtx) : (d.putDec k x).binds = d.binds := rfl
@[simp] theorem Dev.hbm_putDec (d : Dev) (k : Nat) (x : DecCtx) : (d.putDec k x).hbm = d.hbm := rfl
@[simp] theorem Dev.eth_putDec (d : Dev) (k : Nat) (x : DecCtx) : (d.putDec k x).eth = d.eth := rfl
@[simp] theorem Dev.ptp_putDec (d : Dev) (k : Nat) (x : DecCtx) : (d.putDec k x).ptp = d.ptp := rfl
@[simp] theorem Dev.prev_putDec (d : Dev) (k : Nat) (x : DecCtx) : (d.putDec k x).prev = d.prev := rfl
@[simp] theorem Dev.audio_putDec (d : Dev) (k : Nat) (x : DecCtx) : (d.putDec k x).audio = d.audio := rfl
@[simp] theorem Dev.winTabs_putDec (d : Dev) (k : Nat) (x : DecCtx) : (d.putDec k x).winTabs = d.winTabs := rfl
@[simp] theorem Dev.dmaLast_putDec (d : Dev) (k : Nat) (x : DecCtx) : (d.putDec k x).dmaLast = d.dmaLast := rfl
@[simp] theorem Dev.pcs_putDec (d : Dev) (k : Nat) (x : DecCtx) : (d.putDec k x).pcs = d.pcs := rfl
@[simp] theorem Dev.nextOrder_putDec (d : Dev) (k : Nat) (x : DecCtx) : (d.putDec k x).nextOrder = d.nextOrder := rfl
@[simp] theorem Dev.nextToken_putDec (d : Dev) (k : Nat) (x : DecCtx) : (d.putDec k x).nextToken = d.nextToken := rfl
@[simp] theorem Dev.fresh_putDec (d : Dev) (k : Nat) (x : DecCtx) : (d.putDec k x).fresh = d.fresh := rfl
@[simp] theorem Dev.hbMiss_putDec (d : Dev) (k : Nat) (x : DecCtx) : (d.putDec k x).hbMiss = d.hbMiss := rfl
@[simp] theorem Dev.power_putDec (d : Dev) (k : Nat) (x : DecCtx) : (d.putDec k x).power = d.power := rfl
@[simp] theorem Dev.clock_putDec (d : Dev) (k : Nat) (x : DecCtx) : (d.putDec k x).clock = d.clock := rfl
@[simp] theorem Dev.modeJob_putDec (d : Dev) (k : Nat) (x : DecCtx) : (d.putDec k x).modeJob = d.modeJob := rfl
@[simp] theorem Dev.modeWait_putDec (d : Dev) (k : Nat) (x : DecCtx) : (d.putDec k x).modeWait = d.modeWait := rfl
@[simp] theorem Dev.warmAsk_putDec (d : Dev) (k : Nat) (x : DecCtx) : (d.putDec k x).warmAsk = d.warmAsk := rfl
@[simp] theorem Dev.warmByCmd_putDec (d : Dev) (k : Nat) (x : DecCtx) : (d.putDec k x).warmByCmd = d.warmByCmd := rfl
@[simp] theorem Dev.released_putDec (d : Dev) (k : Nat) (x : DecCtx) : (d.putDec k x).released = d.released := rfl
@[simp] theorem Dev.resumeMode_putDec (d : Dev) (k : Nat) (x : DecCtx) : (d.putDec k x).resumeMode = d.resumeMode := rfl
@[simp] theorem Dev.pwrok_putDec (d : Dev) (k : Nat) (x : DecCtx) : (d.putDec k x).pwrok = d.pwrok := rfl
@[simp] theorem Dev.awaitBme_putDec (d : Dev) (k : Nat) (x : DecCtx) : (d.putDec k x).awaitBme = d.awaitBme := rfl
@[simp] theorem Dev.perst_putDec (d : Dev) (k : Nat) (x : DecCtx) : (d.putDec k x).perst = d.perst := rfl
@[simp] theorem Dev.perts_putDec (d : Dev) (k : Nat) (x : DecCtx) : (d.putDec k x).perts = d.perts := rfl
@[simp] theorem Dev.life_putDec (d : Dev) (k : Nat) (x : DecCtx) : (d.putDec k x).life = d.life := rfl
@[simp] theorem Dev.shadows_putDec (d : Dev) (k : Nat) (x : DecCtx) : (d.putDec k x).shadows = d.shadows := rfl
@[simp] theorem Dev.spiIn_putDec (d : Dev) (k : Nat) (x : DecCtx) : (d.putDec k x).spiIn = d.spiIn := rfl
@[simp] theorem Dev.spiRefused_putDec (d : Dev) (k : Nat) (x : DecCtx) : (d.putDec k x).spiRefused = d.spiRefused := rfl
@[simp] theorem Dev.alert_putDec (d : Dev) (k : Nat) (x : DecCtx) : (d.putDec k x).alert = d.alert := rfl
@[simp] theorem Dev.unread_putDec (d : Dev) (k : Nat) (x : DecCtx) : (d.putDec k x).unread = d.unread := rfl
@[simp] theorem Dev.msixTable_putDec (d : Dev) (k : Nat) (x : DecCtx) : (d.putDec k x).msixTable = d.msixTable := rfl

@[simp] theorem Dev.decs_putDec (d : Dev) (k : Nat) (x : DecCtx) : (d.putDec k x).decs = assocPut d.decs k x := rfl
@[simp] theorem Dev.getF_putDec (d : Dev) (k : Nat) (x : DecCtx) (f : Field) (i j : Nat) : (d.putDec k x).getF f i j = d.getF f i j := rfl
@[simp] theorem Dev.flag_putDec (d : Dev) (k : Nat) (x : DecCtx) (f : Field) (i j : Nat) : (d.putDec k x).flag f i j = d.flag f i j := rfl

/-! ### `putRecq` -/

@[simp] theorem Dev.regs_putRecq (d : Dev) (k : Nat) (x : RecQueue) : (d.putRecq k x).regs = d.regs := rfl
@[simp] theorem Dev.tick_putRecq (d : Dev) (k : Nat) (x : RecQueue) : (d.putRecq k x).tick = d.tick := rfl
@[simp] theorem Dev.era_putRecq (d : Dev) (k : Nat) (x : RecQueue) : (d.putRecq k x).era = d.era := rfl
@[simp] theorem Dev.free_putRecq (d : Dev) (k : Nat) (x : RecQueue) : (d.putRecq k x).free = d.free := rfl
@[simp] theorem Dev.phase_putRecq (d : Dev) (k : Nat) (x : RecQueue) : (d.putRecq k x).phase = d.phase := rfl
@[simp] theorem Dev.evlog_putRecq (d : Dev) (k : Nat) (x : RecQueue) : (d.putRecq k x).evlog = d.evlog := rfl
@[simp] theorem Dev.satNoted_putRecq (d : Dev) (k : Nat) (x : RecQueue) : (d.putRecq k x).satNoted = d.satNoted := rfl
@[simp] theorem Dev.fences_putRecq (d : Dev) (k : Nat) (x : RecQueue) : (d.putRecq k x).fences = d.fences := rfl
@[simp] theorem Dev.out_putRecq (d : Dev) (k : Nat) (x : RecQueue) : (d.putRecq k x).out = d.out := rfl
@[simp] theorem Dev.queues_putRecq (d : Dev) (k : Nat) (x : RecQueue) : (d.putRecq k x).queues = d.queues := rfl
@[simp] theorem Dev.windows_putRecq (d : Dev) (k : Nat) (x : RecQueue) : (d.putRecq k x).windows = d.windows := rfl
@[simp] theorem Dev.journal_putRecq (d : Dev) (k : Nat) (x : RecQueue) : (d.putRecq k x).journal = d.journal := rfl
@[simp] theorem Dev.held_putRecq (d : Dev) (k : Nat) (x : RecQueue) : (d.putRecq k x).held = d.held := rfl
@[simp] theorem Dev.spiOut_putRecq (d : Dev) (k : Nat) (x : RecQueue) : (d.putRecq k x).spiOut = d.spiOut := rfl
@[simp] theorem Dev.replaying_putRecq (d : Dev) (k : Nat) (x : RecQueue) : (d.putRecq k x).replaying = d.replaying := rfl
@[simp] theorem Dev.crcExpect_putRecq (d : Dev) (k : Nat) (x : RecQueue) : (d.putRecq k x).crcExpect = d.crcExpect := rfl
@[simp] theorem Dev.time_putRecq (d : Dev) (k : Nat) (x : RecQueue) : (d.putRecq k x).time = d.time := rfl
@[simp] theorem Dev.flash_putRecq (d : Dev) (k : Nat) (x : RecQueue) : (d.putRecq k x).flash = d.flash := rfl
@[simp] theorem Dev.stage_putRecq (d : Dev) (k : Nat) (x : RecQueue) : (d.putRecq k x).stage = d.stage := rfl
@[simp] theorem Dev.almCommitted_putRecq (d : Dev) (k : Nat) (x : RecQueue) : (d.putRecq k x).almCommitted = d.almCommitted := rfl
@[simp] theorem Dev.flashJob_putRecq (d : Dev) (k : Nat) (x : RecQueue) : (d.putRecq k x).flashJob = d.flashJob := rfl
@[simp] theorem Dev.therm_putRecq (d : Dev) (k : Nat) (x : RecQueue) : (d.putRecq k x).therm = d.therm := rfl
@[simp] theorem Dev.lanes_putRecq (d : Dev) (k : Nat) (x : RecQueue) : (d.putRecq k x).lanes = d.lanes := rfl
@[simp] theorem Dev.bundles_putRecq (d : Dev) (k : Nat) (x : RecQueue) : (d.putRecq k x).bundles = d.bundles := rfl
@[simp] theorem Dev.merged_putRecq (d : Dev) (k : Nat) (x : RecQueue) : (d.putRecq k x).merged = d.merged := rfl
@[simp] theorem Dev.chans_putRecq (d : Dev) (k : Nat) (x : RecQueue) : (d.putRecq k x).chans = d.chans := rfl
@[simp] theorem Dev.tasks_putRecq (d : Dev) (k : Nat) (x : RecQueue) : (d.putRecq k x).tasks = d.tasks := rfl
@[simp] theorem Dev.alm_putRecq (d : Dev) (k : Nat) (x : RecQueue) : (d.putRecq k x).alm = d.alm := rfl
@[simp] theorem Dev.almUser_putRecq (d : Dev) (k : Nat) (x : RecQueue) : (d.putRecq k x).almUser = d.almUser := rfl
@[simp] theorem Dev.twin_putRecq (d : Dev) (k : Nat) (x : RecQueue) : (d.putRecq k x).twin = d.twin := rfl
@[simp] theorem Dev.ring_putRecq (d : Dev) (k : Nat) (x : RecQueue) : (d.putRecq k x).ring = d.ring := rfl
@[simp] theorem Dev.caches_putRecq (d : Dev) (k : Nat) (x : RecQueue) : (d.putRecq k x).caches = d.caches := rfl
@[simp] theorem Dev.given_putRecq (d : Dev) (k : Nat) (x : RecQueue) : (d.putRecq k x).given = d.given := rfl
@[simp] theorem Dev.keptCaptures_putRecq (d : Dev) (k : Nat) (x : RecQueue) : (d.putRecq k x).keptCaptures = d.keptCaptures := rfl
@[simp] theorem Dev.segs_putRecq (d : Dev) (k : Nat) (x : RecQueue) : (d.putRecq k x).segs = d.segs := rfl
@[simp] theorem Dev.vigilSegs_putRecq (d : Dev) (k : Nat) (x : RecQueue) : (d.putRecq k x).vigilSegs = d.vigilSegs := rfl
@[simp] theorem Dev.binds_putRecq (d : Dev) (k : Nat) (x : RecQueue) : (d.putRecq k x).binds = d.binds := rfl
@[simp] theorem Dev.decs_putRecq (d : Dev) (k : Nat) (x : RecQueue) : (d.putRecq k x).decs = d.decs := rfl
@[simp] theorem Dev.hbm_putRecq (d : Dev) (k : Nat) (x : RecQueue) : (d.putRecq k x).hbm = d.hbm := rfl
@[simp] theorem Dev.eth_putRecq (d : Dev) (k : Nat) (x : RecQueue) : (d.putRecq k x).eth = d.eth := rfl
@[simp] theorem Dev.ptp_putRecq (d : Dev) (k : Nat) (x : RecQueue) : (d.putRecq k x).ptp = d.ptp := rfl
@[simp] theorem Dev.prev_putRecq (d : Dev) (k : Nat) (x : RecQueue) : (d.putRecq k x).prev = d.prev := rfl
@[simp] theorem Dev.audio_putRecq (d : Dev) (k : Nat) (x : RecQueue) : (d.putRecq k x).audio = d.audio := rfl
@[simp] theorem Dev.winTabs_putRecq (d : Dev) (k : Nat) (x : RecQueue) : (d.putRecq k x).winTabs = d.winTabs := rfl
@[simp] theorem Dev.dmaLast_putRecq (d : Dev) (k : Nat) (x : RecQueue) : (d.putRecq k x).dmaLast = d.dmaLast := rfl
@[simp] theorem Dev.pcs_putRecq (d : Dev) (k : Nat) (x : RecQueue) : (d.putRecq k x).pcs = d.pcs := rfl
@[simp] theorem Dev.nextOrder_putRecq (d : Dev) (k : Nat) (x : RecQueue) : (d.putRecq k x).nextOrder = d.nextOrder := rfl
@[simp] theorem Dev.nextToken_putRecq (d : Dev) (k : Nat) (x : RecQueue) : (d.putRecq k x).nextToken = d.nextToken := rfl
@[simp] theorem Dev.fresh_putRecq (d : Dev) (k : Nat) (x : RecQueue) : (d.putRecq k x).fresh = d.fresh := rfl
@[simp] theorem Dev.hbMiss_putRecq (d : Dev) (k : Nat) (x : RecQueue) : (d.putRecq k x).hbMiss = d.hbMiss := rfl
@[simp] theorem Dev.power_putRecq (d : Dev) (k : Nat) (x : RecQueue) : (d.putRecq k x).power = d.power := rfl
@[simp] theorem Dev.clock_putRecq (d : Dev) (k : Nat) (x : RecQueue) : (d.putRecq k x).clock = d.clock := rfl
@[simp] theorem Dev.modeJob_putRecq (d : Dev) (k : Nat) (x : RecQueue) : (d.putRecq k x).modeJob = d.modeJob := rfl
@[simp] theorem Dev.modeWait_putRecq (d : Dev) (k : Nat) (x : RecQueue) : (d.putRecq k x).modeWait = d.modeWait := rfl
@[simp] theorem Dev.warmAsk_putRecq (d : Dev) (k : Nat) (x : RecQueue) : (d.putRecq k x).warmAsk = d.warmAsk := rfl
@[simp] theorem Dev.warmByCmd_putRecq (d : Dev) (k : Nat) (x : RecQueue) : (d.putRecq k x).warmByCmd = d.warmByCmd := rfl
@[simp] theorem Dev.released_putRecq (d : Dev) (k : Nat) (x : RecQueue) : (d.putRecq k x).released = d.released := rfl
@[simp] theorem Dev.resumeMode_putRecq (d : Dev) (k : Nat) (x : RecQueue) : (d.putRecq k x).resumeMode = d.resumeMode := rfl
@[simp] theorem Dev.pwrok_putRecq (d : Dev) (k : Nat) (x : RecQueue) : (d.putRecq k x).pwrok = d.pwrok := rfl
@[simp] theorem Dev.awaitBme_putRecq (d : Dev) (k : Nat) (x : RecQueue) : (d.putRecq k x).awaitBme = d.awaitBme := rfl
@[simp] theorem Dev.perst_putRecq (d : Dev) (k : Nat) (x : RecQueue) : (d.putRecq k x).perst = d.perst := rfl
@[simp] theorem Dev.perts_putRecq (d : Dev) (k : Nat) (x : RecQueue) : (d.putRecq k x).perts = d.perts := rfl
@[simp] theorem Dev.life_putRecq (d : Dev) (k : Nat) (x : RecQueue) : (d.putRecq k x).life = d.life := rfl
@[simp] theorem Dev.shadows_putRecq (d : Dev) (k : Nat) (x : RecQueue) : (d.putRecq k x).shadows = d.shadows := rfl
@[simp] theorem Dev.spiIn_putRecq (d : Dev) (k : Nat) (x : RecQueue) : (d.putRecq k x).spiIn = d.spiIn := rfl
@[simp] theorem Dev.spiRefused_putRecq (d : Dev) (k : Nat) (x : RecQueue) : (d.putRecq k x).spiRefused = d.spiRefused := rfl
@[simp] theorem Dev.alert_putRecq (d : Dev) (k : Nat) (x : RecQueue) : (d.putRecq k x).alert = d.alert := rfl
@[simp] theorem Dev.unread_putRecq (d : Dev) (k : Nat) (x : RecQueue) : (d.putRecq k x).unread = d.unread := rfl
@[simp] theorem Dev.msixTable_putRecq (d : Dev) (k : Nat) (x : RecQueue) : (d.putRecq k x).msixTable = d.msixTable := rfl

@[simp] theorem Dev.recqs_putRecq (d : Dev) (k : Nat) (x : RecQueue) : (d.putRecq k x).recqs = assocPut d.recqs k x := rfl
@[simp] theorem Dev.getF_putRecq (d : Dev) (k : Nat) (x : RecQueue) (f : Field) (i j : Nat) : (d.putRecq k x).getF f i j = d.getF f i j := rfl
@[simp] theorem Dev.flag_putRecq (d : Dev) (k : Nat) (x : RecQueue) (f : Field) (i j : Nat) : (d.putRecq k x).flag f i j = d.flag f i j := rfl

/-! ### `putEth` -/

@[simp] theorem Dev.regs_putEth (d : Dev) (k : Nat) (x : EthSt) : (d.putEth k x).regs = d.regs := rfl
@[simp] theorem Dev.tick_putEth (d : Dev) (k : Nat) (x : EthSt) : (d.putEth k x).tick = d.tick := rfl
@[simp] theorem Dev.era_putEth (d : Dev) (k : Nat) (x : EthSt) : (d.putEth k x).era = d.era := rfl
@[simp] theorem Dev.free_putEth (d : Dev) (k : Nat) (x : EthSt) : (d.putEth k x).free = d.free := rfl
@[simp] theorem Dev.phase_putEth (d : Dev) (k : Nat) (x : EthSt) : (d.putEth k x).phase = d.phase := rfl
@[simp] theorem Dev.evlog_putEth (d : Dev) (k : Nat) (x : EthSt) : (d.putEth k x).evlog = d.evlog := rfl
@[simp] theorem Dev.satNoted_putEth (d : Dev) (k : Nat) (x : EthSt) : (d.putEth k x).satNoted = d.satNoted := rfl
@[simp] theorem Dev.fences_putEth (d : Dev) (k : Nat) (x : EthSt) : (d.putEth k x).fences = d.fences := rfl
@[simp] theorem Dev.out_putEth (d : Dev) (k : Nat) (x : EthSt) : (d.putEth k x).out = d.out := rfl
@[simp] theorem Dev.queues_putEth (d : Dev) (k : Nat) (x : EthSt) : (d.putEth k x).queues = d.queues := rfl
@[simp] theorem Dev.windows_putEth (d : Dev) (k : Nat) (x : EthSt) : (d.putEth k x).windows = d.windows := rfl
@[simp] theorem Dev.journal_putEth (d : Dev) (k : Nat) (x : EthSt) : (d.putEth k x).journal = d.journal := rfl
@[simp] theorem Dev.held_putEth (d : Dev) (k : Nat) (x : EthSt) : (d.putEth k x).held = d.held := rfl
@[simp] theorem Dev.spiOut_putEth (d : Dev) (k : Nat) (x : EthSt) : (d.putEth k x).spiOut = d.spiOut := rfl
@[simp] theorem Dev.replaying_putEth (d : Dev) (k : Nat) (x : EthSt) : (d.putEth k x).replaying = d.replaying := rfl
@[simp] theorem Dev.crcExpect_putEth (d : Dev) (k : Nat) (x : EthSt) : (d.putEth k x).crcExpect = d.crcExpect := rfl
@[simp] theorem Dev.time_putEth (d : Dev) (k : Nat) (x : EthSt) : (d.putEth k x).time = d.time := rfl
@[simp] theorem Dev.flash_putEth (d : Dev) (k : Nat) (x : EthSt) : (d.putEth k x).flash = d.flash := rfl
@[simp] theorem Dev.stage_putEth (d : Dev) (k : Nat) (x : EthSt) : (d.putEth k x).stage = d.stage := rfl
@[simp] theorem Dev.almCommitted_putEth (d : Dev) (k : Nat) (x : EthSt) : (d.putEth k x).almCommitted = d.almCommitted := rfl
@[simp] theorem Dev.flashJob_putEth (d : Dev) (k : Nat) (x : EthSt) : (d.putEth k x).flashJob = d.flashJob := rfl
@[simp] theorem Dev.therm_putEth (d : Dev) (k : Nat) (x : EthSt) : (d.putEth k x).therm = d.therm := rfl
@[simp] theorem Dev.lanes_putEth (d : Dev) (k : Nat) (x : EthSt) : (d.putEth k x).lanes = d.lanes := rfl
@[simp] theorem Dev.bundles_putEth (d : Dev) (k : Nat) (x : EthSt) : (d.putEth k x).bundles = d.bundles := rfl
@[simp] theorem Dev.merged_putEth (d : Dev) (k : Nat) (x : EthSt) : (d.putEth k x).merged = d.merged := rfl
@[simp] theorem Dev.chans_putEth (d : Dev) (k : Nat) (x : EthSt) : (d.putEth k x).chans = d.chans := rfl
@[simp] theorem Dev.tasks_putEth (d : Dev) (k : Nat) (x : EthSt) : (d.putEth k x).tasks = d.tasks := rfl
@[simp] theorem Dev.alm_putEth (d : Dev) (k : Nat) (x : EthSt) : (d.putEth k x).alm = d.alm := rfl
@[simp] theorem Dev.almUser_putEth (d : Dev) (k : Nat) (x : EthSt) : (d.putEth k x).almUser = d.almUser := rfl
@[simp] theorem Dev.twin_putEth (d : Dev) (k : Nat) (x : EthSt) : (d.putEth k x).twin = d.twin := rfl
@[simp] theorem Dev.ring_putEth (d : Dev) (k : Nat) (x : EthSt) : (d.putEth k x).ring = d.ring := rfl
@[simp] theorem Dev.caches_putEth (d : Dev) (k : Nat) (x : EthSt) : (d.putEth k x).caches = d.caches := rfl
@[simp] theorem Dev.given_putEth (d : Dev) (k : Nat) (x : EthSt) : (d.putEth k x).given = d.given := rfl
@[simp] theorem Dev.keptCaptures_putEth (d : Dev) (k : Nat) (x : EthSt) : (d.putEth k x).keptCaptures = d.keptCaptures := rfl
@[simp] theorem Dev.recqs_putEth (d : Dev) (k : Nat) (x : EthSt) : (d.putEth k x).recqs = d.recqs := rfl
@[simp] theorem Dev.segs_putEth (d : Dev) (k : Nat) (x : EthSt) : (d.putEth k x).segs = d.segs := rfl
@[simp] theorem Dev.vigilSegs_putEth (d : Dev) (k : Nat) (x : EthSt) : (d.putEth k x).vigilSegs = d.vigilSegs := rfl
@[simp] theorem Dev.binds_putEth (d : Dev) (k : Nat) (x : EthSt) : (d.putEth k x).binds = d.binds := rfl
@[simp] theorem Dev.decs_putEth (d : Dev) (k : Nat) (x : EthSt) : (d.putEth k x).decs = d.decs := rfl
@[simp] theorem Dev.hbm_putEth (d : Dev) (k : Nat) (x : EthSt) : (d.putEth k x).hbm = d.hbm := rfl
@[simp] theorem Dev.ptp_putEth (d : Dev) (k : Nat) (x : EthSt) : (d.putEth k x).ptp = d.ptp := rfl
@[simp] theorem Dev.prev_putEth (d : Dev) (k : Nat) (x : EthSt) : (d.putEth k x).prev = d.prev := rfl
@[simp] theorem Dev.audio_putEth (d : Dev) (k : Nat) (x : EthSt) : (d.putEth k x).audio = d.audio := rfl
@[simp] theorem Dev.winTabs_putEth (d : Dev) (k : Nat) (x : EthSt) : (d.putEth k x).winTabs = d.winTabs := rfl
@[simp] theorem Dev.dmaLast_putEth (d : Dev) (k : Nat) (x : EthSt) : (d.putEth k x).dmaLast = d.dmaLast := rfl
@[simp] theorem Dev.pcs_putEth (d : Dev) (k : Nat) (x : EthSt) : (d.putEth k x).pcs = d.pcs := rfl
@[simp] theorem Dev.nextOrder_putEth (d : Dev) (k : Nat) (x : EthSt) : (d.putEth k x).nextOrder = d.nextOrder := rfl
@[simp] theorem Dev.nextToken_putEth (d : Dev) (k : Nat) (x : EthSt) : (d.putEth k x).nextToken = d.nextToken := rfl
@[simp] theorem Dev.fresh_putEth (d : Dev) (k : Nat) (x : EthSt) : (d.putEth k x).fresh = d.fresh := rfl
@[simp] theorem Dev.hbMiss_putEth (d : Dev) (k : Nat) (x : EthSt) : (d.putEth k x).hbMiss = d.hbMiss := rfl
@[simp] theorem Dev.power_putEth (d : Dev) (k : Nat) (x : EthSt) : (d.putEth k x).power = d.power := rfl
@[simp] theorem Dev.clock_putEth (d : Dev) (k : Nat) (x : EthSt) : (d.putEth k x).clock = d.clock := rfl
@[simp] theorem Dev.modeJob_putEth (d : Dev) (k : Nat) (x : EthSt) : (d.putEth k x).modeJob = d.modeJob := rfl
@[simp] theorem Dev.modeWait_putEth (d : Dev) (k : Nat) (x : EthSt) : (d.putEth k x).modeWait = d.modeWait := rfl
@[simp] theorem Dev.warmAsk_putEth (d : Dev) (k : Nat) (x : EthSt) : (d.putEth k x).warmAsk = d.warmAsk := rfl
@[simp] theorem Dev.warmByCmd_putEth (d : Dev) (k : Nat) (x : EthSt) : (d.putEth k x).warmByCmd = d.warmByCmd := rfl
@[simp] theorem Dev.released_putEth (d : Dev) (k : Nat) (x : EthSt) : (d.putEth k x).released = d.released := rfl
@[simp] theorem Dev.resumeMode_putEth (d : Dev) (k : Nat) (x : EthSt) : (d.putEth k x).resumeMode = d.resumeMode := rfl
@[simp] theorem Dev.pwrok_putEth (d : Dev) (k : Nat) (x : EthSt) : (d.putEth k x).pwrok = d.pwrok := rfl
@[simp] theorem Dev.awaitBme_putEth (d : Dev) (k : Nat) (x : EthSt) : (d.putEth k x).awaitBme = d.awaitBme := rfl
@[simp] theorem Dev.perst_putEth (d : Dev) (k : Nat) (x : EthSt) : (d.putEth k x).perst = d.perst := rfl
@[simp] theorem Dev.perts_putEth (d : Dev) (k : Nat) (x : EthSt) : (d.putEth k x).perts = d.perts := rfl
@[simp] theorem Dev.life_putEth (d : Dev) (k : Nat) (x : EthSt) : (d.putEth k x).life = d.life := rfl
@[simp] theorem Dev.shadows_putEth (d : Dev) (k : Nat) (x : EthSt) : (d.putEth k x).shadows = d.shadows := rfl
@[simp] theorem Dev.spiIn_putEth (d : Dev) (k : Nat) (x : EthSt) : (d.putEth k x).spiIn = d.spiIn := rfl
@[simp] theorem Dev.spiRefused_putEth (d : Dev) (k : Nat) (x : EthSt) : (d.putEth k x).spiRefused = d.spiRefused := rfl
@[simp] theorem Dev.alert_putEth (d : Dev) (k : Nat) (x : EthSt) : (d.putEth k x).alert = d.alert := rfl
@[simp] theorem Dev.unread_putEth (d : Dev) (k : Nat) (x : EthSt) : (d.putEth k x).unread = d.unread := rfl
@[simp] theorem Dev.msixTable_putEth (d : Dev) (k : Nat) (x : EthSt) : (d.putEth k x).msixTable = d.msixTable := rfl

@[simp] theorem Dev.eth_putEth (d : Dev) (k : Nat) (x : EthSt) : (d.putEth k x).eth = setAt d.eth k x := rfl
@[simp] theorem Dev.getF_putEth (d : Dev) (k : Nat) (x : EthSt) (f : Field) (i j : Nat) : (d.putEth k x).getF f i j = d.getF f i j := rfl
@[simp] theorem Dev.flag_putEth (d : Dev) (k : Nat) (x : EthSt) (f : Field) (i j : Nat) : (d.putEth k x).flag f i j = d.flag f i j := rfl

/-! ### `putPert` -/

@[simp] theorem Dev.regs_putPert (d : Dev) (k : Nat) (x : PertSt) : (d.putPert k x).regs = d.regs := rfl
@[simp] theorem Dev.tick_putPert (d : Dev) (k : Nat) (x : PertSt) : (d.putPert k x).tick = d.tick := rfl
@[simp] theorem Dev.era_putPert (d : Dev) (k : Nat) (x : PertSt) : (d.putPert k x).era = d.era := rfl
@[simp] theorem Dev.free_putPert (d : Dev) (k : Nat) (x : PertSt) : (d.putPert k x).free = d.free := rfl
@[simp] theorem Dev.phase_putPert (d : Dev) (k : Nat) (x : PertSt) : (d.putPert k x).phase = d.phase := rfl
@[simp] theorem Dev.evlog_putPert (d : Dev) (k : Nat) (x : PertSt) : (d.putPert k x).evlog = d.evlog := rfl
@[simp] theorem Dev.satNoted_putPert (d : Dev) (k : Nat) (x : PertSt) : (d.putPert k x).satNoted = d.satNoted := rfl
@[simp] theorem Dev.fences_putPert (d : Dev) (k : Nat) (x : PertSt) : (d.putPert k x).fences = d.fences := rfl
@[simp] theorem Dev.out_putPert (d : Dev) (k : Nat) (x : PertSt) : (d.putPert k x).out = d.out := rfl
@[simp] theorem Dev.queues_putPert (d : Dev) (k : Nat) (x : PertSt) : (d.putPert k x).queues = d.queues := rfl
@[simp] theorem Dev.windows_putPert (d : Dev) (k : Nat) (x : PertSt) : (d.putPert k x).windows = d.windows := rfl
@[simp] theorem Dev.journal_putPert (d : Dev) (k : Nat) (x : PertSt) : (d.putPert k x).journal = d.journal := rfl
@[simp] theorem Dev.held_putPert (d : Dev) (k : Nat) (x : PertSt) : (d.putPert k x).held = d.held := rfl
@[simp] theorem Dev.spiOut_putPert (d : Dev) (k : Nat) (x : PertSt) : (d.putPert k x).spiOut = d.spiOut := rfl
@[simp] theorem Dev.replaying_putPert (d : Dev) (k : Nat) (x : PertSt) : (d.putPert k x).replaying = d.replaying := rfl
@[simp] theorem Dev.crcExpect_putPert (d : Dev) (k : Nat) (x : PertSt) : (d.putPert k x).crcExpect = d.crcExpect := rfl
@[simp] theorem Dev.time_putPert (d : Dev) (k : Nat) (x : PertSt) : (d.putPert k x).time = d.time := rfl
@[simp] theorem Dev.flash_putPert (d : Dev) (k : Nat) (x : PertSt) : (d.putPert k x).flash = d.flash := rfl
@[simp] theorem Dev.stage_putPert (d : Dev) (k : Nat) (x : PertSt) : (d.putPert k x).stage = d.stage := rfl
@[simp] theorem Dev.almCommitted_putPert (d : Dev) (k : Nat) (x : PertSt) : (d.putPert k x).almCommitted = d.almCommitted := rfl
@[simp] theorem Dev.flashJob_putPert (d : Dev) (k : Nat) (x : PertSt) : (d.putPert k x).flashJob = d.flashJob := rfl
@[simp] theorem Dev.therm_putPert (d : Dev) (k : Nat) (x : PertSt) : (d.putPert k x).therm = d.therm := rfl
@[simp] theorem Dev.lanes_putPert (d : Dev) (k : Nat) (x : PertSt) : (d.putPert k x).lanes = d.lanes := rfl
@[simp] theorem Dev.bundles_putPert (d : Dev) (k : Nat) (x : PertSt) : (d.putPert k x).bundles = d.bundles := rfl
@[simp] theorem Dev.merged_putPert (d : Dev) (k : Nat) (x : PertSt) : (d.putPert k x).merged = d.merged := rfl
@[simp] theorem Dev.chans_putPert (d : Dev) (k : Nat) (x : PertSt) : (d.putPert k x).chans = d.chans := rfl
@[simp] theorem Dev.tasks_putPert (d : Dev) (k : Nat) (x : PertSt) : (d.putPert k x).tasks = d.tasks := rfl
@[simp] theorem Dev.alm_putPert (d : Dev) (k : Nat) (x : PertSt) : (d.putPert k x).alm = d.alm := rfl
@[simp] theorem Dev.almUser_putPert (d : Dev) (k : Nat) (x : PertSt) : (d.putPert k x).almUser = d.almUser := rfl
@[simp] theorem Dev.twin_putPert (d : Dev) (k : Nat) (x : PertSt) : (d.putPert k x).twin = d.twin := rfl
@[simp] theorem Dev.ring_putPert (d : Dev) (k : Nat) (x : PertSt) : (d.putPert k x).ring = d.ring := rfl
@[simp] theorem Dev.caches_putPert (d : Dev) (k : Nat) (x : PertSt) : (d.putPert k x).caches = d.caches := rfl
@[simp] theorem Dev.given_putPert (d : Dev) (k : Nat) (x : PertSt) : (d.putPert k x).given = d.given := rfl
@[simp] theorem Dev.keptCaptures_putPert (d : Dev) (k : Nat) (x : PertSt) : (d.putPert k x).keptCaptures = d.keptCaptures := rfl
@[simp] theorem Dev.recqs_putPert (d : Dev) (k : Nat) (x : PertSt) : (d.putPert k x).recqs = d.recqs := rfl
@[simp] theorem Dev.segs_putPert (d : Dev) (k : Nat) (x : PertSt) : (d.putPert k x).segs = d.segs := rfl
@[simp] theorem Dev.vigilSegs_putPert (d : Dev) (k : Nat) (x : PertSt) : (d.putPert k x).vigilSegs = d.vigilSegs := rfl
@[simp] theorem Dev.binds_putPert (d : Dev) (k : Nat) (x : PertSt) : (d.putPert k x).binds = d.binds := rfl
@[simp] theorem Dev.decs_putPert (d : Dev) (k : Nat) (x : PertSt) : (d.putPert k x).decs = d.decs := rfl
@[simp] theorem Dev.hbm_putPert (d : Dev) (k : Nat) (x : PertSt) : (d.putPert k x).hbm = d.hbm := rfl
@[simp] theorem Dev.eth_putPert (d : Dev) (k : Nat) (x : PertSt) : (d.putPert k x).eth = d.eth := rfl
@[simp] theorem Dev.ptp_putPert (d : Dev) (k : Nat) (x : PertSt) : (d.putPert k x).ptp = d.ptp := rfl
@[simp] theorem Dev.prev_putPert (d : Dev) (k : Nat) (x : PertSt) : (d.putPert k x).prev = d.prev := rfl
@[simp] theorem Dev.audio_putPert (d : Dev) (k : Nat) (x : PertSt) : (d.putPert k x).audio = d.audio := rfl
@[simp] theorem Dev.winTabs_putPert (d : Dev) (k : Nat) (x : PertSt) : (d.putPert k x).winTabs = d.winTabs := rfl
@[simp] theorem Dev.dmaLast_putPert (d : Dev) (k : Nat) (x : PertSt) : (d.putPert k x).dmaLast = d.dmaLast := rfl
@[simp] theorem Dev.pcs_putPert (d : Dev) (k : Nat) (x : PertSt) : (d.putPert k x).pcs = d.pcs := rfl
@[simp] theorem Dev.nextOrder_putPert (d : Dev) (k : Nat) (x : PertSt) : (d.putPert k x).nextOrder = d.nextOrder := rfl
@[simp] theorem Dev.nextToken_putPert (d : Dev) (k : Nat) (x : PertSt) : (d.putPert k x).nextToken = d.nextToken := rfl
@[simp] theorem Dev.fresh_putPert (d : Dev) (k : Nat) (x : PertSt) : (d.putPert k x).fresh = d.fresh := rfl
@[simp] theorem Dev.hbMiss_putPert (d : Dev) (k : Nat) (x : PertSt) : (d.putPert k x).hbMiss = d.hbMiss := rfl
@[simp] theorem Dev.power_putPert (d : Dev) (k : Nat) (x : PertSt) : (d.putPert k x).power = d.power := rfl
@[simp] theorem Dev.clock_putPert (d : Dev) (k : Nat) (x : PertSt) : (d.putPert k x).clock = d.clock := rfl
@[simp] theorem Dev.modeJob_putPert (d : Dev) (k : Nat) (x : PertSt) : (d.putPert k x).modeJob = d.modeJob := rfl
@[simp] theorem Dev.modeWait_putPert (d : Dev) (k : Nat) (x : PertSt) : (d.putPert k x).modeWait = d.modeWait := rfl
@[simp] theorem Dev.warmAsk_putPert (d : Dev) (k : Nat) (x : PertSt) : (d.putPert k x).warmAsk = d.warmAsk := rfl
@[simp] theorem Dev.warmByCmd_putPert (d : Dev) (k : Nat) (x : PertSt) : (d.putPert k x).warmByCmd = d.warmByCmd := rfl
@[simp] theorem Dev.released_putPert (d : Dev) (k : Nat) (x : PertSt) : (d.putPert k x).released = d.released := rfl
@[simp] theorem Dev.resumeMode_putPert (d : Dev) (k : Nat) (x : PertSt) : (d.putPert k x).resumeMode = d.resumeMode := rfl
@[simp] theorem Dev.pwrok_putPert (d : Dev) (k : Nat) (x : PertSt) : (d.putPert k x).pwrok = d.pwrok := rfl
@[simp] theorem Dev.awaitBme_putPert (d : Dev) (k : Nat) (x : PertSt) : (d.putPert k x).awaitBme = d.awaitBme := rfl
@[simp] theorem Dev.perst_putPert (d : Dev) (k : Nat) (x : PertSt) : (d.putPert k x).perst = d.perst := rfl
@[simp] theorem Dev.life_putPert (d : Dev) (k : Nat) (x : PertSt) : (d.putPert k x).life = d.life := rfl
@[simp] theorem Dev.shadows_putPert (d : Dev) (k : Nat) (x : PertSt) : (d.putPert k x).shadows = d.shadows := rfl
@[simp] theorem Dev.spiIn_putPert (d : Dev) (k : Nat) (x : PertSt) : (d.putPert k x).spiIn = d.spiIn := rfl
@[simp] theorem Dev.spiRefused_putPert (d : Dev) (k : Nat) (x : PertSt) : (d.putPert k x).spiRefused = d.spiRefused := rfl
@[simp] theorem Dev.alert_putPert (d : Dev) (k : Nat) (x : PertSt) : (d.putPert k x).alert = d.alert := rfl
@[simp] theorem Dev.unread_putPert (d : Dev) (k : Nat) (x : PertSt) : (d.putPert k x).unread = d.unread := rfl
@[simp] theorem Dev.msixTable_putPert (d : Dev) (k : Nat) (x : PertSt) : (d.putPert k x).msixTable = d.msixTable := rfl

@[simp] theorem Dev.perts_putPert (d : Dev) (k : Nat) (x : PertSt) : (d.putPert k x).perts = setAt d.perts k x := rfl
@[simp] theorem Dev.getF_putPert (d : Dev) (k : Nat) (x : PertSt) (f : Field) (i j : Nat) : (d.putPert k x).getF f i j = d.getF f i j := rfl
@[simp] theorem Dev.flag_putPert (d : Dev) (k : Nat) (x : PertSt) (f : Field) (i j : Nat) : (d.putPert k x).flag f i j = d.flag f i j := rfl

/-! ### `putLane` -/

@[simp] theorem Dev.regs_putLane (d : Dev) (k : Nat) (x : LaneSt) : (d.putLane k x).regs = d.regs := rfl
@[simp] theorem Dev.tick_putLane (d : Dev) (k : Nat) (x : LaneSt) : (d.putLane k x).tick = d.tick := rfl
@[simp] theorem Dev.era_putLane (d : Dev) (k : Nat) (x : LaneSt) : (d.putLane k x).era = d.era := rfl
@[simp] theorem Dev.free_putLane (d : Dev) (k : Nat) (x : LaneSt) : (d.putLane k x).free = d.free := rfl
@[simp] theorem Dev.phase_putLane (d : Dev) (k : Nat) (x : LaneSt) : (d.putLane k x).phase = d.phase := rfl
@[simp] theorem Dev.evlog_putLane (d : Dev) (k : Nat) (x : LaneSt) : (d.putLane k x).evlog = d.evlog := rfl
@[simp] theorem Dev.satNoted_putLane (d : Dev) (k : Nat) (x : LaneSt) : (d.putLane k x).satNoted = d.satNoted := rfl
@[simp] theorem Dev.fences_putLane (d : Dev) (k : Nat) (x : LaneSt) : (d.putLane k x).fences = d.fences := rfl
@[simp] theorem Dev.out_putLane (d : Dev) (k : Nat) (x : LaneSt) : (d.putLane k x).out = d.out := rfl
@[simp] theorem Dev.queues_putLane (d : Dev) (k : Nat) (x : LaneSt) : (d.putLane k x).queues = d.queues := rfl
@[simp] theorem Dev.windows_putLane (d : Dev) (k : Nat) (x : LaneSt) : (d.putLane k x).windows = d.windows := rfl
@[simp] theorem Dev.journal_putLane (d : Dev) (k : Nat) (x : LaneSt) : (d.putLane k x).journal = d.journal := rfl
@[simp] theorem Dev.held_putLane (d : Dev) (k : Nat) (x : LaneSt) : (d.putLane k x).held = d.held := rfl
@[simp] theorem Dev.spiOut_putLane (d : Dev) (k : Nat) (x : LaneSt) : (d.putLane k x).spiOut = d.spiOut := rfl
@[simp] theorem Dev.replaying_putLane (d : Dev) (k : Nat) (x : LaneSt) : (d.putLane k x).replaying = d.replaying := rfl
@[simp] theorem Dev.crcExpect_putLane (d : Dev) (k : Nat) (x : LaneSt) : (d.putLane k x).crcExpect = d.crcExpect := rfl
@[simp] theorem Dev.time_putLane (d : Dev) (k : Nat) (x : LaneSt) : (d.putLane k x).time = d.time := rfl
@[simp] theorem Dev.flash_putLane (d : Dev) (k : Nat) (x : LaneSt) : (d.putLane k x).flash = d.flash := rfl
@[simp] theorem Dev.stage_putLane (d : Dev) (k : Nat) (x : LaneSt) : (d.putLane k x).stage = d.stage := rfl
@[simp] theorem Dev.almCommitted_putLane (d : Dev) (k : Nat) (x : LaneSt) : (d.putLane k x).almCommitted = d.almCommitted := rfl
@[simp] theorem Dev.flashJob_putLane (d : Dev) (k : Nat) (x : LaneSt) : (d.putLane k x).flashJob = d.flashJob := rfl
@[simp] theorem Dev.therm_putLane (d : Dev) (k : Nat) (x : LaneSt) : (d.putLane k x).therm = d.therm := rfl
@[simp] theorem Dev.bundles_putLane (d : Dev) (k : Nat) (x : LaneSt) : (d.putLane k x).bundles = d.bundles := rfl
@[simp] theorem Dev.merged_putLane (d : Dev) (k : Nat) (x : LaneSt) : (d.putLane k x).merged = d.merged := rfl
@[simp] theorem Dev.chans_putLane (d : Dev) (k : Nat) (x : LaneSt) : (d.putLane k x).chans = d.chans := rfl
@[simp] theorem Dev.tasks_putLane (d : Dev) (k : Nat) (x : LaneSt) : (d.putLane k x).tasks = d.tasks := rfl
@[simp] theorem Dev.alm_putLane (d : Dev) (k : Nat) (x : LaneSt) : (d.putLane k x).alm = d.alm := rfl
@[simp] theorem Dev.almUser_putLane (d : Dev) (k : Nat) (x : LaneSt) : (d.putLane k x).almUser = d.almUser := rfl
@[simp] theorem Dev.twin_putLane (d : Dev) (k : Nat) (x : LaneSt) : (d.putLane k x).twin = d.twin := rfl
@[simp] theorem Dev.ring_putLane (d : Dev) (k : Nat) (x : LaneSt) : (d.putLane k x).ring = d.ring := rfl
@[simp] theorem Dev.caches_putLane (d : Dev) (k : Nat) (x : LaneSt) : (d.putLane k x).caches = d.caches := rfl
@[simp] theorem Dev.given_putLane (d : Dev) (k : Nat) (x : LaneSt) : (d.putLane k x).given = d.given := rfl
@[simp] theorem Dev.keptCaptures_putLane (d : Dev) (k : Nat) (x : LaneSt) : (d.putLane k x).keptCaptures = d.keptCaptures := rfl
@[simp] theorem Dev.recqs_putLane (d : Dev) (k : Nat) (x : LaneSt) : (d.putLane k x).recqs = d.recqs := rfl
@[simp] theorem Dev.segs_putLane (d : Dev) (k : Nat) (x : LaneSt) : (d.putLane k x).segs = d.segs := rfl
@[simp] theorem Dev.vigilSegs_putLane (d : Dev) (k : Nat) (x : LaneSt) : (d.putLane k x).vigilSegs = d.vigilSegs := rfl
@[simp] theorem Dev.binds_putLane (d : Dev) (k : Nat) (x : LaneSt) : (d.putLane k x).binds = d.binds := rfl
@[simp] theorem Dev.decs_putLane (d : Dev) (k : Nat) (x : LaneSt) : (d.putLane k x).decs = d.decs := rfl
@[simp] theorem Dev.hbm_putLane (d : Dev) (k : Nat) (x : LaneSt) : (d.putLane k x).hbm = d.hbm := rfl
@[simp] theorem Dev.eth_putLane (d : Dev) (k : Nat) (x : LaneSt) : (d.putLane k x).eth = d.eth := rfl
@[simp] theorem Dev.ptp_putLane (d : Dev) (k : Nat) (x : LaneSt) : (d.putLane k x).ptp = d.ptp := rfl
@[simp] theorem Dev.prev_putLane (d : Dev) (k : Nat) (x : LaneSt) : (d.putLane k x).prev = d.prev := rfl
@[simp] theorem Dev.audio_putLane (d : Dev) (k : Nat) (x : LaneSt) : (d.putLane k x).audio = d.audio := rfl
@[simp] theorem Dev.winTabs_putLane (d : Dev) (k : Nat) (x : LaneSt) : (d.putLane k x).winTabs = d.winTabs := rfl
@[simp] theorem Dev.dmaLast_putLane (d : Dev) (k : Nat) (x : LaneSt) : (d.putLane k x).dmaLast = d.dmaLast := rfl
@[simp] theorem Dev.pcs_putLane (d : Dev) (k : Nat) (x : LaneSt) : (d.putLane k x).pcs = d.pcs := rfl
@[simp] theorem Dev.nextOrder_putLane (d : Dev) (k : Nat) (x : LaneSt) : (d.putLane k x).nextOrder = d.nextOrder := rfl
@[simp] theorem Dev.nextToken_putLane (d : Dev) (k : Nat) (x : LaneSt) : (d.putLane k x).nextToken = d.nextToken := rfl
@[simp] theorem Dev.fresh_putLane (d : Dev) (k : Nat) (x : LaneSt) : (d.putLane k x).fresh = d.fresh := rfl
@[simp] theorem Dev.hbMiss_putLane (d : Dev) (k : Nat) (x : LaneSt) : (d.putLane k x).hbMiss = d.hbMiss := rfl
@[simp] theorem Dev.power_putLane (d : Dev) (k : Nat) (x : LaneSt) : (d.putLane k x).power = d.power := rfl
@[simp] theorem Dev.clock_putLane (d : Dev) (k : Nat) (x : LaneSt) : (d.putLane k x).clock = d.clock := rfl
@[simp] theorem Dev.modeJob_putLane (d : Dev) (k : Nat) (x : LaneSt) : (d.putLane k x).modeJob = d.modeJob := rfl
@[simp] theorem Dev.modeWait_putLane (d : Dev) (k : Nat) (x : LaneSt) : (d.putLane k x).modeWait = d.modeWait := rfl
@[simp] theorem Dev.warmAsk_putLane (d : Dev) (k : Nat) (x : LaneSt) : (d.putLane k x).warmAsk = d.warmAsk := rfl
@[simp] theorem Dev.warmByCmd_putLane (d : Dev) (k : Nat) (x : LaneSt) : (d.putLane k x).warmByCmd = d.warmByCmd := rfl
@[simp] theorem Dev.released_putLane (d : Dev) (k : Nat) (x : LaneSt) : (d.putLane k x).released = d.released := rfl
@[simp] theorem Dev.resumeMode_putLane (d : Dev) (k : Nat) (x : LaneSt) : (d.putLane k x).resumeMode = d.resumeMode := rfl
@[simp] theorem Dev.pwrok_putLane (d : Dev) (k : Nat) (x : LaneSt) : (d.putLane k x).pwrok = d.pwrok := rfl
@[simp] theorem Dev.awaitBme_putLane (d : Dev) (k : Nat) (x : LaneSt) : (d.putLane k x).awaitBme = d.awaitBme := rfl
@[simp] theorem Dev.perst_putLane (d : Dev) (k : Nat) (x : LaneSt) : (d.putLane k x).perst = d.perst := rfl
@[simp] theorem Dev.perts_putLane (d : Dev) (k : Nat) (x : LaneSt) : (d.putLane k x).perts = d.perts := rfl
@[simp] theorem Dev.life_putLane (d : Dev) (k : Nat) (x : LaneSt) : (d.putLane k x).life = d.life := rfl
@[simp] theorem Dev.shadows_putLane (d : Dev) (k : Nat) (x : LaneSt) : (d.putLane k x).shadows = d.shadows := rfl
@[simp] theorem Dev.spiIn_putLane (d : Dev) (k : Nat) (x : LaneSt) : (d.putLane k x).spiIn = d.spiIn := rfl
@[simp] theorem Dev.spiRefused_putLane (d : Dev) (k : Nat) (x : LaneSt) : (d.putLane k x).spiRefused = d.spiRefused := rfl
@[simp] theorem Dev.alert_putLane (d : Dev) (k : Nat) (x : LaneSt) : (d.putLane k x).alert = d.alert := rfl
@[simp] theorem Dev.unread_putLane (d : Dev) (k : Nat) (x : LaneSt) : (d.putLane k x).unread = d.unread := rfl
@[simp] theorem Dev.msixTable_putLane (d : Dev) (k : Nat) (x : LaneSt) : (d.putLane k x).msixTable = d.msixTable := rfl

@[simp] theorem Dev.lanes_putLane (d : Dev) (k : Nat) (x : LaneSt) : (d.putLane k x).lanes = assocPut d.lanes k x := rfl
@[simp] theorem Dev.getF_putLane (d : Dev) (k : Nat) (x : LaneSt) (f : Field) (i j : Nat) : (d.putLane k x).getF f i j = d.getF f i j := rfl
@[simp] theorem Dev.flag_putLane (d : Dev) (k : Nat) (x : LaneSt) (f : Field) (i j : Nat) : (d.putLane k x).flag f i j = d.flag f i j := rfl

/-! ### `putBundle` -/

@[simp] theorem Dev.regs_putBundle (d : Dev) (k : Nat) (x : BundleSt) : (d.putBundle k x).regs = d.regs := rfl
@[simp] theorem Dev.tick_putBundle (d : Dev) (k : Nat) (x : BundleSt) : (d.putBundle k x).tick = d.tick := rfl
@[simp] theorem Dev.era_putBundle (d : Dev) (k : Nat) (x : BundleSt) : (d.putBundle k x).era = d.era := rfl
@[simp] theorem Dev.free_putBundle (d : Dev) (k : Nat) (x : BundleSt) : (d.putBundle k x).free = d.free := rfl
@[simp] theorem Dev.phase_putBundle (d : Dev) (k : Nat) (x : BundleSt) : (d.putBundle k x).phase = d.phase := rfl
@[simp] theorem Dev.evlog_putBundle (d : Dev) (k : Nat) (x : BundleSt) : (d.putBundle k x).evlog = d.evlog := rfl
@[simp] theorem Dev.satNoted_putBundle (d : Dev) (k : Nat) (x : BundleSt) : (d.putBundle k x).satNoted = d.satNoted := rfl
@[simp] theorem Dev.fences_putBundle (d : Dev) (k : Nat) (x : BundleSt) : (d.putBundle k x).fences = d.fences := rfl
@[simp] theorem Dev.out_putBundle (d : Dev) (k : Nat) (x : BundleSt) : (d.putBundle k x).out = d.out := rfl
@[simp] theorem Dev.queues_putBundle (d : Dev) (k : Nat) (x : BundleSt) : (d.putBundle k x).queues = d.queues := rfl
@[simp] theorem Dev.windows_putBundle (d : Dev) (k : Nat) (x : BundleSt) : (d.putBundle k x).windows = d.windows := rfl
@[simp] theorem Dev.journal_putBundle (d : Dev) (k : Nat) (x : BundleSt) : (d.putBundle k x).journal = d.journal := rfl
@[simp] theorem Dev.held_putBundle (d : Dev) (k : Nat) (x : BundleSt) : (d.putBundle k x).held = d.held := rfl
@[simp] theorem Dev.spiOut_putBundle (d : Dev) (k : Nat) (x : BundleSt) : (d.putBundle k x).spiOut = d.spiOut := rfl
@[simp] theorem Dev.replaying_putBundle (d : Dev) (k : Nat) (x : BundleSt) : (d.putBundle k x).replaying = d.replaying := rfl
@[simp] theorem Dev.crcExpect_putBundle (d : Dev) (k : Nat) (x : BundleSt) : (d.putBundle k x).crcExpect = d.crcExpect := rfl
@[simp] theorem Dev.time_putBundle (d : Dev) (k : Nat) (x : BundleSt) : (d.putBundle k x).time = d.time := rfl
@[simp] theorem Dev.flash_putBundle (d : Dev) (k : Nat) (x : BundleSt) : (d.putBundle k x).flash = d.flash := rfl
@[simp] theorem Dev.stage_putBundle (d : Dev) (k : Nat) (x : BundleSt) : (d.putBundle k x).stage = d.stage := rfl
@[simp] theorem Dev.almCommitted_putBundle (d : Dev) (k : Nat) (x : BundleSt) : (d.putBundle k x).almCommitted = d.almCommitted := rfl
@[simp] theorem Dev.flashJob_putBundle (d : Dev) (k : Nat) (x : BundleSt) : (d.putBundle k x).flashJob = d.flashJob := rfl
@[simp] theorem Dev.therm_putBundle (d : Dev) (k : Nat) (x : BundleSt) : (d.putBundle k x).therm = d.therm := rfl
@[simp] theorem Dev.lanes_putBundle (d : Dev) (k : Nat) (x : BundleSt) : (d.putBundle k x).lanes = d.lanes := rfl
@[simp] theorem Dev.merged_putBundle (d : Dev) (k : Nat) (x : BundleSt) : (d.putBundle k x).merged = d.merged := rfl
@[simp] theorem Dev.chans_putBundle (d : Dev) (k : Nat) (x : BundleSt) : (d.putBundle k x).chans = d.chans := rfl
@[simp] theorem Dev.tasks_putBundle (d : Dev) (k : Nat) (x : BundleSt) : (d.putBundle k x).tasks = d.tasks := rfl
@[simp] theorem Dev.alm_putBundle (d : Dev) (k : Nat) (x : BundleSt) : (d.putBundle k x).alm = d.alm := rfl
@[simp] theorem Dev.almUser_putBundle (d : Dev) (k : Nat) (x : BundleSt) : (d.putBundle k x).almUser = d.almUser := rfl
@[simp] theorem Dev.twin_putBundle (d : Dev) (k : Nat) (x : BundleSt) : (d.putBundle k x).twin = d.twin := rfl
@[simp] theorem Dev.ring_putBundle (d : Dev) (k : Nat) (x : BundleSt) : (d.putBundle k x).ring = d.ring := rfl
@[simp] theorem Dev.caches_putBundle (d : Dev) (k : Nat) (x : BundleSt) : (d.putBundle k x).caches = d.caches := rfl
@[simp] theorem Dev.given_putBundle (d : Dev) (k : Nat) (x : BundleSt) : (d.putBundle k x).given = d.given := rfl
@[simp] theorem Dev.keptCaptures_putBundle (d : Dev) (k : Nat) (x : BundleSt) : (d.putBundle k x).keptCaptures = d.keptCaptures := rfl
@[simp] theorem Dev.recqs_putBundle (d : Dev) (k : Nat) (x : BundleSt) : (d.putBundle k x).recqs = d.recqs := rfl
@[simp] theorem Dev.segs_putBundle (d : Dev) (k : Nat) (x : BundleSt) : (d.putBundle k x).segs = d.segs := rfl
@[simp] theorem Dev.vigilSegs_putBundle (d : Dev) (k : Nat) (x : BundleSt) : (d.putBundle k x).vigilSegs = d.vigilSegs := rfl
@[simp] theorem Dev.binds_putBundle (d : Dev) (k : Nat) (x : BundleSt) : (d.putBundle k x).binds = d.binds := rfl
@[simp] theorem Dev.decs_putBundle (d : Dev) (k : Nat) (x : BundleSt) : (d.putBundle k x).decs = d.decs := rfl
@[simp] theorem Dev.hbm_putBundle (d : Dev) (k : Nat) (x : BundleSt) : (d.putBundle k x).hbm = d.hbm := rfl
@[simp] theorem Dev.eth_putBundle (d : Dev) (k : Nat) (x : BundleSt) : (d.putBundle k x).eth = d.eth := rfl
@[simp] theorem Dev.ptp_putBundle (d : Dev) (k : Nat) (x : BundleSt) : (d.putBundle k x).ptp = d.ptp := rfl
@[simp] theorem Dev.prev_putBundle (d : Dev) (k : Nat) (x : BundleSt) : (d.putBundle k x).prev = d.prev := rfl
@[simp] theorem Dev.audio_putBundle (d : Dev) (k : Nat) (x : BundleSt) : (d.putBundle k x).audio = d.audio := rfl
@[simp] theorem Dev.winTabs_putBundle (d : Dev) (k : Nat) (x : BundleSt) : (d.putBundle k x).winTabs = d.winTabs := rfl
@[simp] theorem Dev.dmaLast_putBundle (d : Dev) (k : Nat) (x : BundleSt) : (d.putBundle k x).dmaLast = d.dmaLast := rfl
@[simp] theorem Dev.pcs_putBundle (d : Dev) (k : Nat) (x : BundleSt) : (d.putBundle k x).pcs = d.pcs := rfl
@[simp] theorem Dev.nextOrder_putBundle (d : Dev) (k : Nat) (x : BundleSt) : (d.putBundle k x).nextOrder = d.nextOrder := rfl
@[simp] theorem Dev.nextToken_putBundle (d : Dev) (k : Nat) (x : BundleSt) : (d.putBundle k x).nextToken = d.nextToken := rfl
@[simp] theorem Dev.fresh_putBundle (d : Dev) (k : Nat) (x : BundleSt) : (d.putBundle k x).fresh = d.fresh := rfl
@[simp] theorem Dev.hbMiss_putBundle (d : Dev) (k : Nat) (x : BundleSt) : (d.putBundle k x).hbMiss = d.hbMiss := rfl
@[simp] theorem Dev.power_putBundle (d : Dev) (k : Nat) (x : BundleSt) : (d.putBundle k x).power = d.power := rfl
@[simp] theorem Dev.clock_putBundle (d : Dev) (k : Nat) (x : BundleSt) : (d.putBundle k x).clock = d.clock := rfl
@[simp] theorem Dev.modeJob_putBundle (d : Dev) (k : Nat) (x : BundleSt) : (d.putBundle k x).modeJob = d.modeJob := rfl
@[simp] theorem Dev.modeWait_putBundle (d : Dev) (k : Nat) (x : BundleSt) : (d.putBundle k x).modeWait = d.modeWait := rfl
@[simp] theorem Dev.warmAsk_putBundle (d : Dev) (k : Nat) (x : BundleSt) : (d.putBundle k x).warmAsk = d.warmAsk := rfl
@[simp] theorem Dev.warmByCmd_putBundle (d : Dev) (k : Nat) (x : BundleSt) : (d.putBundle k x).warmByCmd = d.warmByCmd := rfl
@[simp] theorem Dev.released_putBundle (d : Dev) (k : Nat) (x : BundleSt) : (d.putBundle k x).released = d.released := rfl
@[simp] theorem Dev.resumeMode_putBundle (d : Dev) (k : Nat) (x : BundleSt) : (d.putBundle k x).resumeMode = d.resumeMode := rfl
@[simp] theorem Dev.pwrok_putBundle (d : Dev) (k : Nat) (x : BundleSt) : (d.putBundle k x).pwrok = d.pwrok := rfl
@[simp] theorem Dev.awaitBme_putBundle (d : Dev) (k : Nat) (x : BundleSt) : (d.putBundle k x).awaitBme = d.awaitBme := rfl
@[simp] theorem Dev.perst_putBundle (d : Dev) (k : Nat) (x : BundleSt) : (d.putBundle k x).perst = d.perst := rfl
@[simp] theorem Dev.perts_putBundle (d : Dev) (k : Nat) (x : BundleSt) : (d.putBundle k x).perts = d.perts := rfl
@[simp] theorem Dev.life_putBundle (d : Dev) (k : Nat) (x : BundleSt) : (d.putBundle k x).life = d.life := rfl
@[simp] theorem Dev.shadows_putBundle (d : Dev) (k : Nat) (x : BundleSt) : (d.putBundle k x).shadows = d.shadows := rfl
@[simp] theorem Dev.spiIn_putBundle (d : Dev) (k : Nat) (x : BundleSt) : (d.putBundle k x).spiIn = d.spiIn := rfl
@[simp] theorem Dev.spiRefused_putBundle (d : Dev) (k : Nat) (x : BundleSt) : (d.putBundle k x).spiRefused = d.spiRefused := rfl
@[simp] theorem Dev.alert_putBundle (d : Dev) (k : Nat) (x : BundleSt) : (d.putBundle k x).alert = d.alert := rfl
@[simp] theorem Dev.unread_putBundle (d : Dev) (k : Nat) (x : BundleSt) : (d.putBundle k x).unread = d.unread := rfl
@[simp] theorem Dev.msixTable_putBundle (d : Dev) (k : Nat) (x : BundleSt) : (d.putBundle k x).msixTable = d.msixTable := rfl

@[simp] theorem Dev.bundles_putBundle (d : Dev) (k : Nat) (x : BundleSt) : (d.putBundle k x).bundles = assocPut d.bundles k x := rfl
@[simp] theorem Dev.getF_putBundle (d : Dev) (k : Nat) (x : BundleSt) (f : Field) (i j : Nat) : (d.putBundle k x).getF f i j = d.getF f i j := rfl
@[simp] theorem Dev.flag_putBundle (d : Dev) (k : Nat) (x : BundleSt) (f : Field) (i j : Nat) : (d.putBundle k x).flag f i j = d.flag f i j := rfl

/-! ### `putChan` -/

@[simp] theorem Dev.regs_putChan (d : Dev) (k : Nat) (x : Chan) : (d.putChan k x).regs = d.regs := rfl
@[simp] theorem Dev.tick_putChan (d : Dev) (k : Nat) (x : Chan) : (d.putChan k x).tick = d.tick := rfl
@[simp] theorem Dev.era_putChan (d : Dev) (k : Nat) (x : Chan) : (d.putChan k x).era = d.era := rfl
@[simp] theorem Dev.free_putChan (d : Dev) (k : Nat) (x : Chan) : (d.putChan k x).free = d.free := rfl
@[simp] theorem Dev.phase_putChan (d : Dev) (k : Nat) (x : Chan) : (d.putChan k x).phase = d.phase := rfl
@[simp] theorem Dev.evlog_putChan (d : Dev) (k : Nat) (x : Chan) : (d.putChan k x).evlog = d.evlog := rfl
@[simp] theorem Dev.satNoted_putChan (d : Dev) (k : Nat) (x : Chan) : (d.putChan k x).satNoted = d.satNoted := rfl
@[simp] theorem Dev.fences_putChan (d : Dev) (k : Nat) (x : Chan) : (d.putChan k x).fences = d.fences := rfl
@[simp] theorem Dev.out_putChan (d : Dev) (k : Nat) (x : Chan) : (d.putChan k x).out = d.out := rfl
@[simp] theorem Dev.queues_putChan (d : Dev) (k : Nat) (x : Chan) : (d.putChan k x).queues = d.queues := rfl
@[simp] theorem Dev.windows_putChan (d : Dev) (k : Nat) (x : Chan) : (d.putChan k x).windows = d.windows := rfl
@[simp] theorem Dev.journal_putChan (d : Dev) (k : Nat) (x : Chan) : (d.putChan k x).journal = d.journal := rfl
@[simp] theorem Dev.held_putChan (d : Dev) (k : Nat) (x : Chan) : (d.putChan k x).held = d.held := rfl
@[simp] theorem Dev.spiOut_putChan (d : Dev) (k : Nat) (x : Chan) : (d.putChan k x).spiOut = d.spiOut := rfl
@[simp] theorem Dev.replaying_putChan (d : Dev) (k : Nat) (x : Chan) : (d.putChan k x).replaying = d.replaying := rfl
@[simp] theorem Dev.crcExpect_putChan (d : Dev) (k : Nat) (x : Chan) : (d.putChan k x).crcExpect = d.crcExpect := rfl
@[simp] theorem Dev.time_putChan (d : Dev) (k : Nat) (x : Chan) : (d.putChan k x).time = d.time := rfl
@[simp] theorem Dev.flash_putChan (d : Dev) (k : Nat) (x : Chan) : (d.putChan k x).flash = d.flash := rfl
@[simp] theorem Dev.stage_putChan (d : Dev) (k : Nat) (x : Chan) : (d.putChan k x).stage = d.stage := rfl
@[simp] theorem Dev.almCommitted_putChan (d : Dev) (k : Nat) (x : Chan) : (d.putChan k x).almCommitted = d.almCommitted := rfl
@[simp] theorem Dev.flashJob_putChan (d : Dev) (k : Nat) (x : Chan) : (d.putChan k x).flashJob = d.flashJob := rfl
@[simp] theorem Dev.therm_putChan (d : Dev) (k : Nat) (x : Chan) : (d.putChan k x).therm = d.therm := rfl
@[simp] theorem Dev.lanes_putChan (d : Dev) (k : Nat) (x : Chan) : (d.putChan k x).lanes = d.lanes := rfl
@[simp] theorem Dev.bundles_putChan (d : Dev) (k : Nat) (x : Chan) : (d.putChan k x).bundles = d.bundles := rfl
@[simp] theorem Dev.merged_putChan (d : Dev) (k : Nat) (x : Chan) : (d.putChan k x).merged = d.merged := rfl
@[simp] theorem Dev.tasks_putChan (d : Dev) (k : Nat) (x : Chan) : (d.putChan k x).tasks = d.tasks := rfl
@[simp] theorem Dev.alm_putChan (d : Dev) (k : Nat) (x : Chan) : (d.putChan k x).alm = d.alm := rfl
@[simp] theorem Dev.almUser_putChan (d : Dev) (k : Nat) (x : Chan) : (d.putChan k x).almUser = d.almUser := rfl
@[simp] theorem Dev.twin_putChan (d : Dev) (k : Nat) (x : Chan) : (d.putChan k x).twin = d.twin := rfl
@[simp] theorem Dev.ring_putChan (d : Dev) (k : Nat) (x : Chan) : (d.putChan k x).ring = d.ring := rfl
@[simp] theorem Dev.caches_putChan (d : Dev) (k : Nat) (x : Chan) : (d.putChan k x).caches = d.caches := rfl
@[simp] theorem Dev.given_putChan (d : Dev) (k : Nat) (x : Chan) : (d.putChan k x).given = d.given := rfl
@[simp] theorem Dev.keptCaptures_putChan (d : Dev) (k : Nat) (x : Chan) : (d.putChan k x).keptCaptures = d.keptCaptures := rfl
@[simp] theorem Dev.recqs_putChan (d : Dev) (k : Nat) (x : Chan) : (d.putChan k x).recqs = d.recqs := rfl
@[simp] theorem Dev.segs_putChan (d : Dev) (k : Nat) (x : Chan) : (d.putChan k x).segs = d.segs := rfl
@[simp] theorem Dev.vigilSegs_putChan (d : Dev) (k : Nat) (x : Chan) : (d.putChan k x).vigilSegs = d.vigilSegs := rfl
@[simp] theorem Dev.binds_putChan (d : Dev) (k : Nat) (x : Chan) : (d.putChan k x).binds = d.binds := rfl
@[simp] theorem Dev.decs_putChan (d : Dev) (k : Nat) (x : Chan) : (d.putChan k x).decs = d.decs := rfl
@[simp] theorem Dev.hbm_putChan (d : Dev) (k : Nat) (x : Chan) : (d.putChan k x).hbm = d.hbm := rfl
@[simp] theorem Dev.eth_putChan (d : Dev) (k : Nat) (x : Chan) : (d.putChan k x).eth = d.eth := rfl
@[simp] theorem Dev.ptp_putChan (d : Dev) (k : Nat) (x : Chan) : (d.putChan k x).ptp = d.ptp := rfl
@[simp] theorem Dev.prev_putChan (d : Dev) (k : Nat) (x : Chan) : (d.putChan k x).prev = d.prev := rfl
@[simp] theorem Dev.audio_putChan (d : Dev) (k : Nat) (x : Chan) : (d.putChan k x).audio = d.audio := rfl
@[simp] theorem Dev.winTabs_putChan (d : Dev) (k : Nat) (x : Chan) : (d.putChan k x).winTabs = d.winTabs := rfl
@[simp] theorem Dev.dmaLast_putChan (d : Dev) (k : Nat) (x : Chan) : (d.putChan k x).dmaLast = d.dmaLast := rfl
@[simp] theorem Dev.pcs_putChan (d : Dev) (k : Nat) (x : Chan) : (d.putChan k x).pcs = d.pcs := rfl
@[simp] theorem Dev.nextOrder_putChan (d : Dev) (k : Nat) (x : Chan) : (d.putChan k x).nextOrder = d.nextOrder := rfl
@[simp] theorem Dev.nextToken_putChan (d : Dev) (k : Nat) (x : Chan) : (d.putChan k x).nextToken = d.nextToken := rfl
@[simp] theorem Dev.fresh_putChan (d : Dev) (k : Nat) (x : Chan) : (d.putChan k x).fresh = d.fresh := rfl
@[simp] theorem Dev.hbMiss_putChan (d : Dev) (k : Nat) (x : Chan) : (d.putChan k x).hbMiss = d.hbMiss := rfl
@[simp] theorem Dev.power_putChan (d : Dev) (k : Nat) (x : Chan) : (d.putChan k x).power = d.power := rfl
@[simp] theorem Dev.clock_putChan (d : Dev) (k : Nat) (x : Chan) : (d.putChan k x).clock = d.clock := rfl
@[simp] theorem Dev.modeJob_putChan (d : Dev) (k : Nat) (x : Chan) : (d.putChan k x).modeJob = d.modeJob := rfl
@[simp] theorem Dev.modeWait_putChan (d : Dev) (k : Nat) (x : Chan) : (d.putChan k x).modeWait = d.modeWait := rfl
@[simp] theorem Dev.warmAsk_putChan (d : Dev) (k : Nat) (x : Chan) : (d.putChan k x).warmAsk = d.warmAsk := rfl
@[simp] theorem Dev.warmByCmd_putChan (d : Dev) (k : Nat) (x : Chan) : (d.putChan k x).warmByCmd = d.warmByCmd := rfl
@[simp] theorem Dev.released_putChan (d : Dev) (k : Nat) (x : Chan) : (d.putChan k x).released = d.released := rfl
@[simp] theorem Dev.resumeMode_putChan (d : Dev) (k : Nat) (x : Chan) : (d.putChan k x).resumeMode = d.resumeMode := rfl
@[simp] theorem Dev.pwrok_putChan (d : Dev) (k : Nat) (x : Chan) : (d.putChan k x).pwrok = d.pwrok := rfl
@[simp] theorem Dev.awaitBme_putChan (d : Dev) (k : Nat) (x : Chan) : (d.putChan k x).awaitBme = d.awaitBme := rfl
@[simp] theorem Dev.perst_putChan (d : Dev) (k : Nat) (x : Chan) : (d.putChan k x).perst = d.perst := rfl
@[simp] theorem Dev.perts_putChan (d : Dev) (k : Nat) (x : Chan) : (d.putChan k x).perts = d.perts := rfl
@[simp] theorem Dev.life_putChan (d : Dev) (k : Nat) (x : Chan) : (d.putChan k x).life = d.life := rfl
@[simp] theorem Dev.shadows_putChan (d : Dev) (k : Nat) (x : Chan) : (d.putChan k x).shadows = d.shadows := rfl
@[simp] theorem Dev.spiIn_putChan (d : Dev) (k : Nat) (x : Chan) : (d.putChan k x).spiIn = d.spiIn := rfl
@[simp] theorem Dev.spiRefused_putChan (d : Dev) (k : Nat) (x : Chan) : (d.putChan k x).spiRefused = d.spiRefused := rfl
@[simp] theorem Dev.alert_putChan (d : Dev) (k : Nat) (x : Chan) : (d.putChan k x).alert = d.alert := rfl
@[simp] theorem Dev.unread_putChan (d : Dev) (k : Nat) (x : Chan) : (d.putChan k x).unread = d.unread := rfl
@[simp] theorem Dev.msixTable_putChan (d : Dev) (k : Nat) (x : Chan) : (d.putChan k x).msixTable = d.msixTable := rfl

@[simp] theorem Dev.chans_putChan (d : Dev) (k : Nat) (x : Chan) : (d.putChan k x).chans = assocPut d.chans k x := rfl
@[simp] theorem Dev.getF_putChan (d : Dev) (k : Nat) (x : Chan) (f : Field) (i j : Nat) : (d.putChan k x).getF f i j = d.getF f i j := rfl
@[simp] theorem Dev.flag_putChan (d : Dev) (k : Nat) (x : Chan) (f : Field) (i j : Nat) : (d.putChan k x).flag f i j = d.flag f i j := rfl

/-! ### `putPc` -/

@[simp] theorem Dev.regs_putPc (d : Dev) (k : Nat) (x : PcSt) : (d.putPc k x).regs = d.regs := rfl
@[simp] theorem Dev.tick_putPc (d : Dev) (k : Nat) (x : PcSt) : (d.putPc k x).tick = d.tick := rfl
@[simp] theorem Dev.era_putPc (d : Dev) (k : Nat) (x : PcSt) : (d.putPc k x).era = d.era := rfl
@[simp] theorem Dev.free_putPc (d : Dev) (k : Nat) (x : PcSt) : (d.putPc k x).free = d.free := rfl
@[simp] theorem Dev.phase_putPc (d : Dev) (k : Nat) (x : PcSt) : (d.putPc k x).phase = d.phase := rfl
@[simp] theorem Dev.evlog_putPc (d : Dev) (k : Nat) (x : PcSt) : (d.putPc k x).evlog = d.evlog := rfl
@[simp] theorem Dev.satNoted_putPc (d : Dev) (k : Nat) (x : PcSt) : (d.putPc k x).satNoted = d.satNoted := rfl
@[simp] theorem Dev.fences_putPc (d : Dev) (k : Nat) (x : PcSt) : (d.putPc k x).fences = d.fences := rfl
@[simp] theorem Dev.out_putPc (d : Dev) (k : Nat) (x : PcSt) : (d.putPc k x).out = d.out := rfl
@[simp] theorem Dev.queues_putPc (d : Dev) (k : Nat) (x : PcSt) : (d.putPc k x).queues = d.queues := rfl
@[simp] theorem Dev.windows_putPc (d : Dev) (k : Nat) (x : PcSt) : (d.putPc k x).windows = d.windows := rfl
@[simp] theorem Dev.journal_putPc (d : Dev) (k : Nat) (x : PcSt) : (d.putPc k x).journal = d.journal := rfl
@[simp] theorem Dev.held_putPc (d : Dev) (k : Nat) (x : PcSt) : (d.putPc k x).held = d.held := rfl
@[simp] theorem Dev.spiOut_putPc (d : Dev) (k : Nat) (x : PcSt) : (d.putPc k x).spiOut = d.spiOut := rfl
@[simp] theorem Dev.replaying_putPc (d : Dev) (k : Nat) (x : PcSt) : (d.putPc k x).replaying = d.replaying := rfl
@[simp] theorem Dev.crcExpect_putPc (d : Dev) (k : Nat) (x : PcSt) : (d.putPc k x).crcExpect = d.crcExpect := rfl
@[simp] theorem Dev.time_putPc (d : Dev) (k : Nat) (x : PcSt) : (d.putPc k x).time = d.time := rfl
@[simp] theorem Dev.flash_putPc (d : Dev) (k : Nat) (x : PcSt) : (d.putPc k x).flash = d.flash := rfl
@[simp] theorem Dev.stage_putPc (d : Dev) (k : Nat) (x : PcSt) : (d.putPc k x).stage = d.stage := rfl
@[simp] theorem Dev.almCommitted_putPc (d : Dev) (k : Nat) (x : PcSt) : (d.putPc k x).almCommitted = d.almCommitted := rfl
@[simp] theorem Dev.flashJob_putPc (d : Dev) (k : Nat) (x : PcSt) : (d.putPc k x).flashJob = d.flashJob := rfl
@[simp] theorem Dev.therm_putPc (d : Dev) (k : Nat) (x : PcSt) : (d.putPc k x).therm = d.therm := rfl
@[simp] theorem Dev.lanes_putPc (d : Dev) (k : Nat) (x : PcSt) : (d.putPc k x).lanes = d.lanes := rfl
@[simp] theorem Dev.bundles_putPc (d : Dev) (k : Nat) (x : PcSt) : (d.putPc k x).bundles = d.bundles := rfl
@[simp] theorem Dev.merged_putPc (d : Dev) (k : Nat) (x : PcSt) : (d.putPc k x).merged = d.merged := rfl
@[simp] theorem Dev.chans_putPc (d : Dev) (k : Nat) (x : PcSt) : (d.putPc k x).chans = d.chans := rfl
@[simp] theorem Dev.tasks_putPc (d : Dev) (k : Nat) (x : PcSt) : (d.putPc k x).tasks = d.tasks := rfl
@[simp] theorem Dev.alm_putPc (d : Dev) (k : Nat) (x : PcSt) : (d.putPc k x).alm = d.alm := rfl
@[simp] theorem Dev.almUser_putPc (d : Dev) (k : Nat) (x : PcSt) : (d.putPc k x).almUser = d.almUser := rfl
@[simp] theorem Dev.twin_putPc (d : Dev) (k : Nat) (x : PcSt) : (d.putPc k x).twin = d.twin := rfl
@[simp] theorem Dev.ring_putPc (d : Dev) (k : Nat) (x : PcSt) : (d.putPc k x).ring = d.ring := rfl
@[simp] theorem Dev.caches_putPc (d : Dev) (k : Nat) (x : PcSt) : (d.putPc k x).caches = d.caches := rfl
@[simp] theorem Dev.given_putPc (d : Dev) (k : Nat) (x : PcSt) : (d.putPc k x).given = d.given := rfl
@[simp] theorem Dev.keptCaptures_putPc (d : Dev) (k : Nat) (x : PcSt) : (d.putPc k x).keptCaptures = d.keptCaptures := rfl
@[simp] theorem Dev.recqs_putPc (d : Dev) (k : Nat) (x : PcSt) : (d.putPc k x).recqs = d.recqs := rfl
@[simp] theorem Dev.segs_putPc (d : Dev) (k : Nat) (x : PcSt) : (d.putPc k x).segs = d.segs := rfl
@[simp] theorem Dev.vigilSegs_putPc (d : Dev) (k : Nat) (x : PcSt) : (d.putPc k x).vigilSegs = d.vigilSegs := rfl
@[simp] theorem Dev.binds_putPc (d : Dev) (k : Nat) (x : PcSt) : (d.putPc k x).binds = d.binds := rfl
@[simp] theorem Dev.decs_putPc (d : Dev) (k : Nat) (x : PcSt) : (d.putPc k x).decs = d.decs := rfl
@[simp] theorem Dev.hbm_putPc (d : Dev) (k : Nat) (x : PcSt) : (d.putPc k x).hbm = d.hbm := rfl
@[simp] theorem Dev.eth_putPc (d : Dev) (k : Nat) (x : PcSt) : (d.putPc k x).eth = d.eth := rfl
@[simp] theorem Dev.ptp_putPc (d : Dev) (k : Nat) (x : PcSt) : (d.putPc k x).ptp = d.ptp := rfl
@[simp] theorem Dev.prev_putPc (d : Dev) (k : Nat) (x : PcSt) : (d.putPc k x).prev = d.prev := rfl
@[simp] theorem Dev.audio_putPc (d : Dev) (k : Nat) (x : PcSt) : (d.putPc k x).audio = d.audio := rfl
@[simp] theorem Dev.winTabs_putPc (d : Dev) (k : Nat) (x : PcSt) : (d.putPc k x).winTabs = d.winTabs := rfl
@[simp] theorem Dev.dmaLast_putPc (d : Dev) (k : Nat) (x : PcSt) : (d.putPc k x).dmaLast = d.dmaLast := rfl
@[simp] theorem Dev.nextOrder_putPc (d : Dev) (k : Nat) (x : PcSt) : (d.putPc k x).nextOrder = d.nextOrder := rfl
@[simp] theorem Dev.nextToken_putPc (d : Dev) (k : Nat) (x : PcSt) : (d.putPc k x).nextToken = d.nextToken := rfl
@[simp] theorem Dev.fresh_putPc (d : Dev) (k : Nat) (x : PcSt) : (d.putPc k x).fresh = d.fresh := rfl
@[simp] theorem Dev.hbMiss_putPc (d : Dev) (k : Nat) (x : PcSt) : (d.putPc k x).hbMiss = d.hbMiss := rfl
@[simp] theorem Dev.power_putPc (d : Dev) (k : Nat) (x : PcSt) : (d.putPc k x).power = d.power := rfl
@[simp] theorem Dev.clock_putPc (d : Dev) (k : Nat) (x : PcSt) : (d.putPc k x).clock = d.clock := rfl
@[simp] theorem Dev.modeJob_putPc (d : Dev) (k : Nat) (x : PcSt) : (d.putPc k x).modeJob = d.modeJob := rfl
@[simp] theorem Dev.modeWait_putPc (d : Dev) (k : Nat) (x : PcSt) : (d.putPc k x).modeWait = d.modeWait := rfl
@[simp] theorem Dev.warmAsk_putPc (d : Dev) (k : Nat) (x : PcSt) : (d.putPc k x).warmAsk = d.warmAsk := rfl
@[simp] theorem Dev.warmByCmd_putPc (d : Dev) (k : Nat) (x : PcSt) : (d.putPc k x).warmByCmd = d.warmByCmd := rfl
@[simp] theorem Dev.released_putPc (d : Dev) (k : Nat) (x : PcSt) : (d.putPc k x).released = d.released := rfl
@[simp] theorem Dev.resumeMode_putPc (d : Dev) (k : Nat) (x : PcSt) : (d.putPc k x).resumeMode = d.resumeMode := rfl
@[simp] theorem Dev.pwrok_putPc (d : Dev) (k : Nat) (x : PcSt) : (d.putPc k x).pwrok = d.pwrok := rfl
@[simp] theorem Dev.awaitBme_putPc (d : Dev) (k : Nat) (x : PcSt) : (d.putPc k x).awaitBme = d.awaitBme := rfl
@[simp] theorem Dev.perst_putPc (d : Dev) (k : Nat) (x : PcSt) : (d.putPc k x).perst = d.perst := rfl
@[simp] theorem Dev.perts_putPc (d : Dev) (k : Nat) (x : PcSt) : (d.putPc k x).perts = d.perts := rfl
@[simp] theorem Dev.life_putPc (d : Dev) (k : Nat) (x : PcSt) : (d.putPc k x).life = d.life := rfl
@[simp] theorem Dev.shadows_putPc (d : Dev) (k : Nat) (x : PcSt) : (d.putPc k x).shadows = d.shadows := rfl
@[simp] theorem Dev.spiIn_putPc (d : Dev) (k : Nat) (x : PcSt) : (d.putPc k x).spiIn = d.spiIn := rfl
@[simp] theorem Dev.spiRefused_putPc (d : Dev) (k : Nat) (x : PcSt) : (d.putPc k x).spiRefused = d.spiRefused := rfl
@[simp] theorem Dev.alert_putPc (d : Dev) (k : Nat) (x : PcSt) : (d.putPc k x).alert = d.alert := rfl
@[simp] theorem Dev.unread_putPc (d : Dev) (k : Nat) (x : PcSt) : (d.putPc k x).unread = d.unread := rfl
@[simp] theorem Dev.msixTable_putPc (d : Dev) (k : Nat) (x : PcSt) : (d.putPc k x).msixTable = d.msixTable := rfl

@[simp] theorem Dev.pcs_putPc (d : Dev) (k : Nat) (x : PcSt) : (d.putPc k x).pcs = assocPut d.pcs k x := rfl
@[simp] theorem Dev.getF_putPc (d : Dev) (k : Nat) (x : PcSt) (f : Field) (i j : Nat) : (d.putPc k x).getF f i j = d.getF f i j := rfl
@[simp] theorem Dev.flag_putPc (d : Dev) (k : Nat) (x : PcSt) (f : Field) (i j : Nat) : (d.putPc k x).flag f i j = d.flag f i j := rfl

/-! ### `putQueue` -/

@[simp] theorem Dev.regs_putQueue (d : Dev) (k : Nat) (x : Queue) : (d.putQueue k x).regs = d.regs := rfl
@[simp] theorem Dev.tick_putQueue (d : Dev) (k : Nat) (x : Queue) : (d.putQueue k x).tick = d.tick := rfl
@[simp] theorem Dev.era_putQueue (d : Dev) (k : Nat) (x : Queue) : (d.putQueue k x).era = d.era := rfl
@[simp] theorem Dev.free_putQueue (d : Dev) (k : Nat) (x : Queue) : (d.putQueue k x).free = d.free := rfl
@[simp] theorem Dev.phase_putQueue (d : Dev) (k : Nat) (x : Queue) : (d.putQueue k x).phase = d.phase := rfl
@[simp] theorem Dev.evlog_putQueue (d : Dev) (k : Nat) (x : Queue) : (d.putQueue k x).evlog = d.evlog := rfl
@[simp] theorem Dev.satNoted_putQueue (d : Dev) (k : Nat) (x : Queue) : (d.putQueue k x).satNoted = d.satNoted := rfl
@[simp] theorem Dev.fences_putQueue (d : Dev) (k : Nat) (x : Queue) : (d.putQueue k x).fences = d.fences := rfl
@[simp] theorem Dev.out_putQueue (d : Dev) (k : Nat) (x : Queue) : (d.putQueue k x).out = d.out := rfl
@[simp] theorem Dev.windows_putQueue (d : Dev) (k : Nat) (x : Queue) : (d.putQueue k x).windows = d.windows := rfl
@[simp] theorem Dev.journal_putQueue (d : Dev) (k : Nat) (x : Queue) : (d.putQueue k x).journal = d.journal := rfl
@[simp] theorem Dev.held_putQueue (d : Dev) (k : Nat) (x : Queue) : (d.putQueue k x).held = d.held := rfl
@[simp] theorem Dev.spiOut_putQueue (d : Dev) (k : Nat) (x : Queue) : (d.putQueue k x).spiOut = d.spiOut := rfl
@[simp] theorem Dev.replaying_putQueue (d : Dev) (k : Nat) (x : Queue) : (d.putQueue k x).replaying = d.replaying := rfl
@[simp] theorem Dev.crcExpect_putQueue (d : Dev) (k : Nat) (x : Queue) : (d.putQueue k x).crcExpect = d.crcExpect := rfl
@[simp] theorem Dev.time_putQueue (d : Dev) (k : Nat) (x : Queue) : (d.putQueue k x).time = d.time := rfl
@[simp] theorem Dev.flash_putQueue (d : Dev) (k : Nat) (x : Queue) : (d.putQueue k x).flash = d.flash := rfl
@[simp] theorem Dev.stage_putQueue (d : Dev) (k : Nat) (x : Queue) : (d.putQueue k x).stage = d.stage := rfl
@[simp] theorem Dev.almCommitted_putQueue (d : Dev) (k : Nat) (x : Queue) : (d.putQueue k x).almCommitted = d.almCommitted := rfl
@[simp] theorem Dev.flashJob_putQueue (d : Dev) (k : Nat) (x : Queue) : (d.putQueue k x).flashJob = d.flashJob := rfl
@[simp] theorem Dev.therm_putQueue (d : Dev) (k : Nat) (x : Queue) : (d.putQueue k x).therm = d.therm := rfl
@[simp] theorem Dev.lanes_putQueue (d : Dev) (k : Nat) (x : Queue) : (d.putQueue k x).lanes = d.lanes := rfl
@[simp] theorem Dev.bundles_putQueue (d : Dev) (k : Nat) (x : Queue) : (d.putQueue k x).bundles = d.bundles := rfl
@[simp] theorem Dev.merged_putQueue (d : Dev) (k : Nat) (x : Queue) : (d.putQueue k x).merged = d.merged := rfl
@[simp] theorem Dev.chans_putQueue (d : Dev) (k : Nat) (x : Queue) : (d.putQueue k x).chans = d.chans := rfl
@[simp] theorem Dev.tasks_putQueue (d : Dev) (k : Nat) (x : Queue) : (d.putQueue k x).tasks = d.tasks := rfl
@[simp] theorem Dev.alm_putQueue (d : Dev) (k : Nat) (x : Queue) : (d.putQueue k x).alm = d.alm := rfl
@[simp] theorem Dev.almUser_putQueue (d : Dev) (k : Nat) (x : Queue) : (d.putQueue k x).almUser = d.almUser := rfl
@[simp] theorem Dev.twin_putQueue (d : Dev) (k : Nat) (x : Queue) : (d.putQueue k x).twin = d.twin := rfl
@[simp] theorem Dev.ring_putQueue (d : Dev) (k : Nat) (x : Queue) : (d.putQueue k x).ring = d.ring := rfl
@[simp] theorem Dev.caches_putQueue (d : Dev) (k : Nat) (x : Queue) : (d.putQueue k x).caches = d.caches := rfl
@[simp] theorem Dev.given_putQueue (d : Dev) (k : Nat) (x : Queue) : (d.putQueue k x).given = d.given := rfl
@[simp] theorem Dev.keptCaptures_putQueue (d : Dev) (k : Nat) (x : Queue) : (d.putQueue k x).keptCaptures = d.keptCaptures := rfl
@[simp] theorem Dev.recqs_putQueue (d : Dev) (k : Nat) (x : Queue) : (d.putQueue k x).recqs = d.recqs := rfl
@[simp] theorem Dev.segs_putQueue (d : Dev) (k : Nat) (x : Queue) : (d.putQueue k x).segs = d.segs := rfl
@[simp] theorem Dev.vigilSegs_putQueue (d : Dev) (k : Nat) (x : Queue) : (d.putQueue k x).vigilSegs = d.vigilSegs := rfl
@[simp] theorem Dev.binds_putQueue (d : Dev) (k : Nat) (x : Queue) : (d.putQueue k x).binds = d.binds := rfl
@[simp] theorem Dev.decs_putQueue (d : Dev) (k : Nat) (x : Queue) : (d.putQueue k x).decs = d.decs := rfl
@[simp] theorem Dev.hbm_putQueue (d : Dev) (k : Nat) (x : Queue) : (d.putQueue k x).hbm = d.hbm := rfl
@[simp] theorem Dev.eth_putQueue (d : Dev) (k : Nat) (x : Queue) : (d.putQueue k x).eth = d.eth := rfl
@[simp] theorem Dev.ptp_putQueue (d : Dev) (k : Nat) (x : Queue) : (d.putQueue k x).ptp = d.ptp := rfl
@[simp] theorem Dev.prev_putQueue (d : Dev) (k : Nat) (x : Queue) : (d.putQueue k x).prev = d.prev := rfl
@[simp] theorem Dev.audio_putQueue (d : Dev) (k : Nat) (x : Queue) : (d.putQueue k x).audio = d.audio := rfl
@[simp] theorem Dev.winTabs_putQueue (d : Dev) (k : Nat) (x : Queue) : (d.putQueue k x).winTabs = d.winTabs := rfl
@[simp] theorem Dev.dmaLast_putQueue (d : Dev) (k : Nat) (x : Queue) : (d.putQueue k x).dmaLast = d.dmaLast := rfl
@[simp] theorem Dev.pcs_putQueue (d : Dev) (k : Nat) (x : Queue) : (d.putQueue k x).pcs = d.pcs := rfl
@[simp] theorem Dev.nextOrder_putQueue (d : Dev) (k : Nat) (x : Queue) : (d.putQueue k x).nextOrder = d.nextOrder := rfl
@[simp] theorem Dev.nextToken_putQueue (d : Dev) (k : Nat) (x : Queue) : (d.putQueue k x).nextToken = d.nextToken := rfl
@[simp] theorem Dev.fresh_putQueue (d : Dev) (k : Nat) (x : Queue) : (d.putQueue k x).fresh = d.fresh := rfl
@[simp] theorem Dev.hbMiss_putQueue (d : Dev) (k : Nat) (x : Queue) : (d.putQueue k x).hbMiss = d.hbMiss := rfl
@[simp] theorem Dev.power_putQueue (d : Dev) (k : Nat) (x : Queue) : (d.putQueue k x).power = d.power := rfl
@[simp] theorem Dev.clock_putQueue (d : Dev) (k : Nat) (x : Queue) : (d.putQueue k x).clock = d.clock := rfl
@[simp] theorem Dev.modeJob_putQueue (d : Dev) (k : Nat) (x : Queue) : (d.putQueue k x).modeJob = d.modeJob := rfl
@[simp] theorem Dev.modeWait_putQueue (d : Dev) (k : Nat) (x : Queue) : (d.putQueue k x).modeWait = d.modeWait := rfl
@[simp] theorem Dev.warmAsk_putQueue (d : Dev) (k : Nat) (x : Queue) : (d.putQueue k x).warmAsk = d.warmAsk := rfl
@[simp] theorem Dev.warmByCmd_putQueue (d : Dev) (k : Nat) (x : Queue) : (d.putQueue k x).warmByCmd = d.warmByCmd := rfl
@[simp] theorem Dev.released_putQueue (d : Dev) (k : Nat) (x : Queue) : (d.putQueue k x).released = d.released := rfl
@[simp] theorem Dev.resumeMode_putQueue (d : Dev) (k : Nat) (x : Queue) : (d.putQueue k x).resumeMode = d.resumeMode := rfl
@[simp] theorem Dev.pwrok_putQueue (d : Dev) (k : Nat) (x : Queue) : (d.putQueue k x).pwrok = d.pwrok := rfl
@[simp] theorem Dev.awaitBme_putQueue (d : Dev) (k : Nat) (x : Queue) : (d.putQueue k x).awaitBme = d.awaitBme := rfl
@[simp] theorem Dev.perst_putQueue (d : Dev) (k : Nat) (x : Queue) : (d.putQueue k x).perst = d.perst := rfl
@[simp] theorem Dev.perts_putQueue (d : Dev) (k : Nat) (x : Queue) : (d.putQueue k x).perts = d.perts := rfl
@[simp] theorem Dev.life_putQueue (d : Dev) (k : Nat) (x : Queue) : (d.putQueue k x).life = d.life := rfl
@[simp] theorem Dev.shadows_putQueue (d : Dev) (k : Nat) (x : Queue) : (d.putQueue k x).shadows = d.shadows := rfl
@[simp] theorem Dev.spiIn_putQueue (d : Dev) (k : Nat) (x : Queue) : (d.putQueue k x).spiIn = d.spiIn := rfl
@[simp] theorem Dev.spiRefused_putQueue (d : Dev) (k : Nat) (x : Queue) : (d.putQueue k x).spiRefused = d.spiRefused := rfl
@[simp] theorem Dev.alert_putQueue (d : Dev) (k : Nat) (x : Queue) : (d.putQueue k x).alert = d.alert := rfl
@[simp] theorem Dev.unread_putQueue (d : Dev) (k : Nat) (x : Queue) : (d.putQueue k x).unread = d.unread := rfl
@[simp] theorem Dev.msixTable_putQueue (d : Dev) (k : Nat) (x : Queue) : (d.putQueue k x).msixTable = d.msixTable := rfl

@[simp] theorem Dev.queues_putQueue (d : Dev) (k : Nat) (x : Queue) : (d.putQueue k x).queues = assocPut d.queues k x := rfl
@[simp] theorem Dev.getF_putQueue (d : Dev) (k : Nat) (x : Queue) (f : Field) (i j : Nat) : (d.putQueue k x).getF f i j = d.getF f i j := rfl
@[simp] theorem Dev.flag_putQueue (d : Dev) (k : Nat) (x : Queue) (f : Field) (i j : Nat) : (d.putQueue k x).flag f i j = d.flag f i j := rfl

/-! ### `putTask` -/

@[simp] theorem Dev.regs_putTask (d : Dev) (x : Task) : (d.putTask x).regs = d.regs := rfl
@[simp] theorem Dev.tick_putTask (d : Dev) (x : Task) : (d.putTask x).tick = d.tick := rfl
@[simp] theorem Dev.era_putTask (d : Dev) (x : Task) : (d.putTask x).era = d.era := rfl
@[simp] theorem Dev.free_putTask (d : Dev) (x : Task) : (d.putTask x).free = d.free := rfl
@[simp] theorem Dev.phase_putTask (d : Dev) (x : Task) : (d.putTask x).phase = d.phase := rfl
@[simp] theorem Dev.evlog_putTask (d : Dev) (x : Task) : (d.putTask x).evlog = d.evlog := rfl
@[simp] theorem Dev.satNoted_putTask (d : Dev) (x : Task) : (d.putTask x).satNoted = d.satNoted := rfl
@[simp] theorem Dev.fences_putTask (d : Dev) (x : Task) : (d.putTask x).fences = d.fences := rfl
@[simp] theorem Dev.out_putTask (d : Dev) (x : Task) : (d.putTask x).out = d.out := rfl
@[simp] theorem Dev.queues_putTask (d : Dev) (x : Task) : (d.putTask x).queues = d.queues := rfl
@[simp] theorem Dev.windows_putTask (d : Dev) (x : Task) : (d.putTask x).windows = d.windows := rfl
@[simp] theorem Dev.journal_putTask (d : Dev) (x : Task) : (d.putTask x).journal = d.journal := rfl
@[simp] theorem Dev.held_putTask (d : Dev) (x : Task) : (d.putTask x).held = d.held := rfl
@[simp] theorem Dev.spiOut_putTask (d : Dev) (x : Task) : (d.putTask x).spiOut = d.spiOut := rfl
@[simp] theorem Dev.replaying_putTask (d : Dev) (x : Task) : (d.putTask x).replaying = d.replaying := rfl
@[simp] theorem Dev.crcExpect_putTask (d : Dev) (x : Task) : (d.putTask x).crcExpect = d.crcExpect := rfl
@[simp] theorem Dev.time_putTask (d : Dev) (x : Task) : (d.putTask x).time = d.time := rfl
@[simp] theorem Dev.flash_putTask (d : Dev) (x : Task) : (d.putTask x).flash = d.flash := rfl
@[simp] theorem Dev.stage_putTask (d : Dev) (x : Task) : (d.putTask x).stage = d.stage := rfl
@[simp] theorem Dev.almCommitted_putTask (d : Dev) (x : Task) : (d.putTask x).almCommitted = d.almCommitted := rfl
@[simp] theorem Dev.flashJob_putTask (d : Dev) (x : Task) : (d.putTask x).flashJob = d.flashJob := rfl
@[simp] theorem Dev.therm_putTask (d : Dev) (x : Task) : (d.putTask x).therm = d.therm := rfl
@[simp] theorem Dev.lanes_putTask (d : Dev) (x : Task) : (d.putTask x).lanes = d.lanes := rfl
@[simp] theorem Dev.bundles_putTask (d : Dev) (x : Task) : (d.putTask x).bundles = d.bundles := rfl
@[simp] theorem Dev.merged_putTask (d : Dev) (x : Task) : (d.putTask x).merged = d.merged := rfl
@[simp] theorem Dev.chans_putTask (d : Dev) (x : Task) : (d.putTask x).chans = d.chans := rfl
@[simp] theorem Dev.alm_putTask (d : Dev) (x : Task) : (d.putTask x).alm = d.alm := rfl
@[simp] theorem Dev.almUser_putTask (d : Dev) (x : Task) : (d.putTask x).almUser = d.almUser := rfl
@[simp] theorem Dev.twin_putTask (d : Dev) (x : Task) : (d.putTask x).twin = d.twin := rfl
@[simp] theorem Dev.ring_putTask (d : Dev) (x : Task) : (d.putTask x).ring = d.ring := rfl
@[simp] theorem Dev.caches_putTask (d : Dev) (x : Task) : (d.putTask x).caches = d.caches := rfl
@[simp] theorem Dev.given_putTask (d : Dev) (x : Task) : (d.putTask x).given = d.given := rfl
@[simp] theorem Dev.keptCaptures_putTask (d : Dev) (x : Task) : (d.putTask x).keptCaptures = d.keptCaptures := rfl
@[simp] theorem Dev.recqs_putTask (d : Dev) (x : Task) : (d.putTask x).recqs = d.recqs := rfl
@[simp] theorem Dev.segs_putTask (d : Dev) (x : Task) : (d.putTask x).segs = d.segs := rfl
@[simp] theorem Dev.vigilSegs_putTask (d : Dev) (x : Task) : (d.putTask x).vigilSegs = d.vigilSegs := rfl
@[simp] theorem Dev.binds_putTask (d : Dev) (x : Task) : (d.putTask x).binds = d.binds := rfl
@[simp] theorem Dev.decs_putTask (d : Dev) (x : Task) : (d.putTask x).decs = d.decs := rfl
@[simp] theorem Dev.hbm_putTask (d : Dev) (x : Task) : (d.putTask x).hbm = d.hbm := rfl
@[simp] theorem Dev.eth_putTask (d : Dev) (x : Task) : (d.putTask x).eth = d.eth := rfl
@[simp] theorem Dev.ptp_putTask (d : Dev) (x : Task) : (d.putTask x).ptp = d.ptp := rfl
@[simp] theorem Dev.prev_putTask (d : Dev) (x : Task) : (d.putTask x).prev = d.prev := rfl
@[simp] theorem Dev.audio_putTask (d : Dev) (x : Task) : (d.putTask x).audio = d.audio := rfl
@[simp] theorem Dev.winTabs_putTask (d : Dev) (x : Task) : (d.putTask x).winTabs = d.winTabs := rfl
@[simp] theorem Dev.dmaLast_putTask (d : Dev) (x : Task) : (d.putTask x).dmaLast = d.dmaLast := rfl
@[simp] theorem Dev.pcs_putTask (d : Dev) (x : Task) : (d.putTask x).pcs = d.pcs := rfl
@[simp] theorem Dev.nextOrder_putTask (d : Dev) (x : Task) : (d.putTask x).nextOrder = d.nextOrder := rfl
@[simp] theorem Dev.nextToken_putTask (d : Dev) (x : Task) : (d.putTask x).nextToken = d.nextToken := rfl
@[simp] theorem Dev.fresh_putTask (d : Dev) (x : Task) : (d.putTask x).fresh = d.fresh := rfl
@[simp] theorem Dev.hbMiss_putTask (d : Dev) (x : Task) : (d.putTask x).hbMiss = d.hbMiss := rfl
@[simp] theorem Dev.power_putTask (d : Dev) (x : Task) : (d.putTask x).power = d.power := rfl
@[simp] theorem Dev.clock_putTask (d : Dev) (x : Task) : (d.putTask x).clock = d.clock := rfl
@[simp] theorem Dev.modeJob_putTask (d : Dev) (x : Task) : (d.putTask x).modeJob = d.modeJob := rfl
@[simp] theorem Dev.modeWait_putTask (d : Dev) (x : Task) : (d.putTask x).modeWait = d.modeWait := rfl
@[simp] theorem Dev.warmAsk_putTask (d : Dev) (x : Task) : (d.putTask x).warmAsk = d.warmAsk := rfl
@[simp] theorem Dev.warmByCmd_putTask (d : Dev) (x : Task) : (d.putTask x).warmByCmd = d.warmByCmd := rfl
@[simp] theorem Dev.released_putTask (d : Dev) (x : Task) : (d.putTask x).released = d.released := rfl
@[simp] theorem Dev.resumeMode_putTask (d : Dev) (x : Task) : (d.putTask x).resumeMode = d.resumeMode := rfl
@[simp] theorem Dev.pwrok_putTask (d : Dev) (x : Task) : (d.putTask x).pwrok = d.pwrok := rfl
@[simp] theorem Dev.awaitBme_putTask (d : Dev) (x : Task) : (d.putTask x).awaitBme = d.awaitBme := rfl
@[simp] theorem Dev.perst_putTask (d : Dev) (x : Task) : (d.putTask x).perst = d.perst := rfl
@[simp] theorem Dev.perts_putTask (d : Dev) (x : Task) : (d.putTask x).perts = d.perts := rfl
@[simp] theorem Dev.life_putTask (d : Dev) (x : Task) : (d.putTask x).life = d.life := rfl
@[simp] theorem Dev.shadows_putTask (d : Dev) (x : Task) : (d.putTask x).shadows = d.shadows := rfl
@[simp] theorem Dev.spiIn_putTask (d : Dev) (x : Task) : (d.putTask x).spiIn = d.spiIn := rfl
@[simp] theorem Dev.spiRefused_putTask (d : Dev) (x : Task) : (d.putTask x).spiRefused = d.spiRefused := rfl
@[simp] theorem Dev.alert_putTask (d : Dev) (x : Task) : (d.putTask x).alert = d.alert := rfl
@[simp] theorem Dev.unread_putTask (d : Dev) (x : Task) : (d.putTask x).unread = d.unread := rfl
@[simp] theorem Dev.msixTable_putTask (d : Dev) (x : Task) : (d.putTask x).msixTable = d.msixTable := rfl

@[simp] theorem Dev.tasks_putTask (d : Dev) (x : Task) : (d.putTask x).tasks = d.tasks.map (fun u => if u.token = x.token then x else u) := rfl
@[simp] theorem Dev.getF_putTask (d : Dev) (x : Task) (f : Field) (i j : Nat) : (d.putTask x).getF f i j = d.getF f i j := rfl
@[simp] theorem Dev.flag_putTask (d : Dev) (x : Task) (f : Field) (i j : Nat) : (d.putTask x).flag f i j = d.flag f i j := rfl

/-! ### `dropTask` -/

@[simp] theorem Dev.regs_dropTask (d : Dev) (x : Nat) : (d.dropTask x).regs = d.regs := rfl
@[simp] theorem Dev.tick_dropTask (d : Dev) (x : Nat) : (d.dropTask x).tick = d.tick := rfl
@[simp] theorem Dev.era_dropTask (d : Dev) (x : Nat) : (d.dropTask x).era = d.era := rfl
@[simp] theorem Dev.free_dropTask (d : Dev) (x : Nat) : (d.dropTask x).free = d.free := rfl
@[simp] theorem Dev.phase_dropTask (d : Dev) (x : Nat) : (d.dropTask x).phase = d.phase := rfl
@[simp] theorem Dev.evlog_dropTask (d : Dev) (x : Nat) : (d.dropTask x).evlog = d.evlog := rfl
@[simp] theorem Dev.satNoted_dropTask (d : Dev) (x : Nat) : (d.dropTask x).satNoted = d.satNoted := rfl
@[simp] theorem Dev.fences_dropTask (d : Dev) (x : Nat) : (d.dropTask x).fences = d.fences := rfl
@[simp] theorem Dev.out_dropTask (d : Dev) (x : Nat) : (d.dropTask x).out = d.out := rfl
@[simp] theorem Dev.queues_dropTask (d : Dev) (x : Nat) : (d.dropTask x).queues = d.queues := rfl
@[simp] theorem Dev.windows_dropTask (d : Dev) (x : Nat) : (d.dropTask x).windows = d.windows := rfl
@[simp] theorem Dev.journal_dropTask (d : Dev) (x : Nat) : (d.dropTask x).journal = d.journal := rfl
@[simp] theorem Dev.held_dropTask (d : Dev) (x : Nat) : (d.dropTask x).held = d.held := rfl
@[simp] theorem Dev.spiOut_dropTask (d : Dev) (x : Nat) : (d.dropTask x).spiOut = d.spiOut := rfl
@[simp] theorem Dev.replaying_dropTask (d : Dev) (x : Nat) : (d.dropTask x).replaying = d.replaying := rfl
@[simp] theorem Dev.crcExpect_dropTask (d : Dev) (x : Nat) : (d.dropTask x).crcExpect = d.crcExpect := rfl
@[simp] theorem Dev.time_dropTask (d : Dev) (x : Nat) : (d.dropTask x).time = d.time := rfl
@[simp] theorem Dev.flash_dropTask (d : Dev) (x : Nat) : (d.dropTask x).flash = d.flash := rfl
@[simp] theorem Dev.stage_dropTask (d : Dev) (x : Nat) : (d.dropTask x).stage = d.stage := rfl
@[simp] theorem Dev.almCommitted_dropTask (d : Dev) (x : Nat) : (d.dropTask x).almCommitted = d.almCommitted := rfl
@[simp] theorem Dev.flashJob_dropTask (d : Dev) (x : Nat) : (d.dropTask x).flashJob = d.flashJob := rfl
@[simp] theorem Dev.therm_dropTask (d : Dev) (x : Nat) : (d.dropTask x).therm = d.therm := rfl
@[simp] theorem Dev.lanes_dropTask (d : Dev) (x : Nat) : (d.dropTask x).lanes = d.lanes := rfl
@[simp] theorem Dev.bundles_dropTask (d : Dev) (x : Nat) : (d.dropTask x).bundles = d.bundles := rfl
@[simp] theorem Dev.merged_dropTask (d : Dev) (x : Nat) : (d.dropTask x).merged = d.merged := rfl
@[simp] theorem Dev.chans_dropTask (d : Dev) (x : Nat) : (d.dropTask x).chans = d.chans := rfl
@[simp] theorem Dev.alm_dropTask (d : Dev) (x : Nat) : (d.dropTask x).alm = d.alm := rfl
@[simp] theorem Dev.almUser_dropTask (d : Dev) (x : Nat) : (d.dropTask x).almUser = d.almUser := rfl
@[simp] theorem Dev.twin_dropTask (d : Dev) (x : Nat) : (d.dropTask x).twin = d.twin := rfl
@[simp] theorem Dev.ring_dropTask (d : Dev) (x : Nat) : (d.dropTask x).ring = d.ring := rfl
@[simp] theorem Dev.caches_dropTask (d : Dev) (x : Nat) : (d.dropTask x).caches = d.caches := rfl
@[simp] theorem Dev.given_dropTask (d : Dev) (x : Nat) : (d.dropTask x).given = d.given := rfl
@[simp] theorem Dev.keptCaptures_dropTask (d : Dev) (x : Nat) : (d.dropTask x).keptCaptures = d.keptCaptures := rfl
@[simp] theorem Dev.recqs_dropTask (d : Dev) (x : Nat) : (d.dropTask x).recqs = d.recqs := rfl
@[simp] theorem Dev.segs_dropTask (d : Dev) (x : Nat) : (d.dropTask x).segs = d.segs := rfl
@[simp] theorem Dev.vigilSegs_dropTask (d : Dev) (x : Nat) : (d.dropTask x).vigilSegs = d.vigilSegs := rfl
@[simp] theorem Dev.binds_dropTask (d : Dev) (x : Nat) : (d.dropTask x).binds = d.binds := rfl
@[simp] theorem Dev.decs_dropTask (d : Dev) (x : Nat) : (d.dropTask x).decs = d.decs := rfl
@[simp] theorem Dev.hbm_dropTask (d : Dev) (x : Nat) : (d.dropTask x).hbm = d.hbm := rfl
@[simp] theorem Dev.eth_dropTask (d : Dev) (x : Nat) : (d.dropTask x).eth = d.eth := rfl
@[simp] theorem Dev.ptp_dropTask (d : Dev) (x : Nat) : (d.dropTask x).ptp = d.ptp := rfl
@[simp] theorem Dev.prev_dropTask (d : Dev) (x : Nat) : (d.dropTask x).prev = d.prev := rfl
@[simp] theorem Dev.audio_dropTask (d : Dev) (x : Nat) : (d.dropTask x).audio = d.audio := rfl
@[simp] theorem Dev.winTabs_dropTask (d : Dev) (x : Nat) : (d.dropTask x).winTabs = d.winTabs := rfl
@[simp] theorem Dev.dmaLast_dropTask (d : Dev) (x : Nat) : (d.dropTask x).dmaLast = d.dmaLast := rfl
@[simp] theorem Dev.pcs_dropTask (d : Dev) (x : Nat) : (d.dropTask x).pcs = d.pcs := rfl
@[simp] theorem Dev.nextOrder_dropTask (d : Dev) (x : Nat) : (d.dropTask x).nextOrder = d.nextOrder := rfl
@[simp] theorem Dev.nextToken_dropTask (d : Dev) (x : Nat) : (d.dropTask x).nextToken = d.nextToken := rfl
@[simp] theorem Dev.fresh_dropTask (d : Dev) (x : Nat) : (d.dropTask x).fresh = d.fresh := rfl
@[simp] theorem Dev.hbMiss_dropTask (d : Dev) (x : Nat) : (d.dropTask x).hbMiss = d.hbMiss := rfl
@[simp] theorem Dev.power_dropTask (d : Dev) (x : Nat) : (d.dropTask x).power = d.power := rfl
@[simp] theorem Dev.clock_dropTask (d : Dev) (x : Nat) : (d.dropTask x).clock = d.clock := rfl
@[simp] theorem Dev.modeJob_dropTask (d : Dev) (x : Nat) : (d.dropTask x).modeJob = d.modeJob := rfl
@[simp] theorem Dev.modeWait_dropTask (d : Dev) (x : Nat) : (d.dropTask x).modeWait = d.modeWait := rfl
@[simp] theorem Dev.warmAsk_dropTask (d : Dev) (x : Nat) : (d.dropTask x).warmAsk = d.warmAsk := rfl
@[simp] theorem Dev.warmByCmd_dropTask (d : Dev) (x : Nat) : (d.dropTask x).warmByCmd = d.warmByCmd := rfl
@[simp] theorem Dev.released_dropTask (d : Dev) (x : Nat) : (d.dropTask x).released = d.released := rfl
@[simp] theorem Dev.resumeMode_dropTask (d : Dev) (x : Nat) : (d.dropTask x).resumeMode = d.resumeMode := rfl
@[simp] theorem Dev.pwrok_dropTask (d : Dev) (x : Nat) : (d.dropTask x).pwrok = d.pwrok := rfl
@[simp] theorem Dev.awaitBme_dropTask (d : Dev) (x : Nat) : (d.dropTask x).awaitBme = d.awaitBme := rfl
@[simp] theorem Dev.perst_dropTask (d : Dev) (x : Nat) : (d.dropTask x).perst = d.perst := rfl
@[simp] theorem Dev.perts_dropTask (d : Dev) (x : Nat) : (d.dropTask x).perts = d.perts := rfl
@[simp] theorem Dev.life_dropTask (d : Dev) (x : Nat) : (d.dropTask x).life = d.life := rfl
@[simp] theorem Dev.shadows_dropTask (d : Dev) (x : Nat) : (d.dropTask x).shadows = d.shadows := rfl
@[simp] theorem Dev.spiIn_dropTask (d : Dev) (x : Nat) : (d.dropTask x).spiIn = d.spiIn := rfl
@[simp] theorem Dev.spiRefused_dropTask (d : Dev) (x : Nat) : (d.dropTask x).spiRefused = d.spiRefused := rfl
@[simp] theorem Dev.alert_dropTask (d : Dev) (x : Nat) : (d.dropTask x).alert = d.alert := rfl
@[simp] theorem Dev.unread_dropTask (d : Dev) (x : Nat) : (d.dropTask x).unread = d.unread := rfl
@[simp] theorem Dev.msixTable_dropTask (d : Dev) (x : Nat) : (d.dropTask x).msixTable = d.msixTable := rfl

@[simp] theorem Dev.tasks_dropTask (d : Dev) (x : Nat) : (d.dropTask x).tasks = d.tasks.filter (fun u => u.token ≠ x) := rfl
@[simp] theorem Dev.getF_dropTask (d : Dev) (x : Nat) (f : Field) (i j : Nat) : (d.dropTask x).getF f i j = d.getF f i j := rfl
@[simp] theorem Dev.flag_dropTask (d : Dev) (x : Nat) (f : Field) (i j : Nat) : (d.dropTask x).flag f i j = d.flag f i j := rfl

/-! ### What the core says of each field -/

theorem Dev.tick_of_core {d e : Dev} (h : d.core = e.core) : d.tick = e.tick := (congrArg Dev.tick h :)
theorem Dev.era_of_core {d e : Dev} (h : d.core = e.core) : d.era = e.era := (congrArg Dev.era h :)
theorem Dev.phase_of_core {d e : Dev} (h : d.core = e.core) : d.phase = e.phase := (congrArg Dev.phase h :)
theorem Dev.fences_of_core {d e : Dev} (h : d.core = e.core) : d.fences = e.fences := (congrArg Dev.fences h :)
theorem Dev.queues_of_core {d e : Dev} (h : d.core = e.core) : d.queues = e.queues := (congrArg Dev.queues h :)
theorem Dev.windows_of_core {d e : Dev} (h : d.core = e.core) : d.windows = e.windows := (congrArg Dev.windows h :)
theorem Dev.journal_of_core {d e : Dev} (h : d.core = e.core) : d.journal = e.journal := (congrArg Dev.journal h :)
theorem Dev.held_of_core {d e : Dev} (h : d.core = e.core) : d.held = e.held := (congrArg Dev.held h :)
theorem Dev.spiOut_of_core {d e : Dev} (h : d.core = e.core) : d.spiOut = e.spiOut := (congrArg Dev.spiOut h :)
theorem Dev.replaying_of_core {d e : Dev} (h : d.core = e.core) : d.replaying = e.replaying := (congrArg Dev.replaying h :)
theorem Dev.crcExpect_of_core {d e : Dev} (h : d.core = e.core) : d.crcExpect = e.crcExpect := (congrArg Dev.crcExpect h :)
theorem Dev.time_of_core {d e : Dev} (h : d.core = e.core) : d.time = e.time := (congrArg Dev.time h :)
theorem Dev.flash_of_core {d e : Dev} (h : d.core = e.core) : d.flash = e.flash := (congrArg Dev.flash h :)
theorem Dev.stage_of_core {d e : Dev} (h : d.core = e.core) : d.stage = e.stage := (congrArg Dev.stage h :)
theorem Dev.almCommitted_of_core {d e : Dev} (h : d.core = e.core) : d.almCommitted = e.almCommitted := (congrArg Dev.almCommitted h :)
theorem Dev.flashJob_of_core {d e : Dev} (h : d.core = e.core) : d.flashJob = e.flashJob := (congrArg Dev.flashJob h :)
theorem Dev.therm_of_core {d e : Dev} (h : d.core = e.core) : d.therm = e.therm := (congrArg Dev.therm h :)
theorem Dev.lanes_of_core {d e : Dev} (h : d.core = e.core) : d.lanes = e.lanes := (congrArg Dev.lanes h :)
theorem Dev.bundles_of_core {d e : Dev} (h : d.core = e.core) : d.bundles = e.bundles := (congrArg Dev.bundles h :)
theorem Dev.merged_of_core {d e : Dev} (h : d.core = e.core) : d.merged = e.merged := (congrArg Dev.merged h :)
theorem Dev.chans_of_core {d e : Dev} (h : d.core = e.core) : d.chans = e.chans := (congrArg Dev.chans h :)
theorem Dev.tasks_of_core {d e : Dev} (h : d.core = e.core) : d.tasks = e.tasks := (congrArg Dev.tasks h :)
theorem Dev.alm_of_core {d e : Dev} (h : d.core = e.core) : d.alm = e.alm := (congrArg Dev.alm h :)
theorem Dev.almUser_of_core {d e : Dev} (h : d.core = e.core) : d.almUser = e.almUser := (congrArg Dev.almUser h :)
theorem Dev.twin_of_core {d e : Dev} (h : d.core = e.core) : d.twin = e.twin := (congrArg Dev.twin h :)
theorem Dev.ring_of_core {d e : Dev} (h : d.core = e.core) : d.ring = e.ring := (congrArg Dev.ring h :)
theorem Dev.caches_of_core {d e : Dev} (h : d.core = e.core) : d.caches = e.caches := (congrArg Dev.caches h :)
theorem Dev.given_of_core {d e : Dev} (h : d.core = e.core) : d.given = e.given := (congrArg Dev.given h :)
theorem Dev.keptCaptures_of_core {d e : Dev} (h : d.core = e.core) : d.keptCaptures = e.keptCaptures := (congrArg Dev.keptCaptures h :)
theorem Dev.recqs_of_core {d e : Dev} (h : d.core = e.core) : d.recqs = e.recqs := (congrArg Dev.recqs h :)
theorem Dev.segs_of_core {d e : Dev} (h : d.core = e.core) : d.segs = e.segs := (congrArg Dev.segs h :)
theorem Dev.vigilSegs_of_core {d e : Dev} (h : d.core = e.core) : d.vigilSegs = e.vigilSegs := (congrArg Dev.vigilSegs h :)
theorem Dev.binds_of_core {d e : Dev} (h : d.core = e.core) : d.binds = e.binds := (congrArg Dev.binds h :)
theorem Dev.decs_of_core {d e : Dev} (h : d.core = e.core) : d.decs = e.decs := (congrArg Dev.decs h :)
theorem Dev.hbm_of_core {d e : Dev} (h : d.core = e.core) : d.hbm = e.hbm := (congrArg Dev.hbm h :)
theorem Dev.eth_of_core {d e : Dev} (h : d.core = e.core) : d.eth = e.eth := (congrArg Dev.eth h :)
theorem Dev.ptp_of_core {d e : Dev} (h : d.core = e.core) : d.ptp = e.ptp := (congrArg Dev.ptp h :)
theorem Dev.prev_of_core {d e : Dev} (h : d.core = e.core) : d.prev = e.prev := (congrArg Dev.prev h :)
theorem Dev.audio_of_core {d e : Dev} (h : d.core = e.core) : d.audio = e.audio := (congrArg Dev.audio h :)
theorem Dev.winTabs_of_core {d e : Dev} (h : d.core = e.core) : d.winTabs = e.winTabs := (congrArg Dev.winTabs h :)
theorem Dev.dmaLast_of_core {d e : Dev} (h : d.core = e.core) : d.dmaLast = e.dmaLast := (congrArg Dev.dmaLast h :)
theorem Dev.pcs_of_core {d e : Dev} (h : d.core = e.core) : d.pcs = e.pcs := (congrArg Dev.pcs h :)
theorem Dev.nextOrder_of_core {d e : Dev} (h : d.core = e.core) : d.nextOrder = e.nextOrder := (congrArg Dev.nextOrder h :)
theorem Dev.nextToken_of_core {d e : Dev} (h : d.core = e.core) : d.nextToken = e.nextToken := (congrArg Dev.nextToken h :)
theorem Dev.fresh_of_core {d e : Dev} (h : d.core = e.core) : d.fresh = e.fresh := (congrArg Dev.fresh h :)
theorem Dev.hbMiss_of_core {d e : Dev} (h : d.core = e.core) : d.hbMiss = e.hbMiss := (congrArg Dev.hbMiss h :)
theorem Dev.power_of_core {d e : Dev} (h : d.core = e.core) : d.power = e.power := (congrArg Dev.power h :)
theorem Dev.clock_of_core {d e : Dev} (h : d.core = e.core) : d.clock = e.clock := (congrArg Dev.clock h :)
theorem Dev.modeJob_of_core {d e : Dev} (h : d.core = e.core) : d.modeJob = e.modeJob := (congrArg Dev.modeJob h :)
theorem Dev.modeWait_of_core {d e : Dev} (h : d.core = e.core) : d.modeWait = e.modeWait := (congrArg Dev.modeWait h :)
theorem Dev.warmAsk_of_core {d e : Dev} (h : d.core = e.core) : d.warmAsk = e.warmAsk := (congrArg Dev.warmAsk h :)
theorem Dev.warmByCmd_of_core {d e : Dev} (h : d.core = e.core) : d.warmByCmd = e.warmByCmd := (congrArg Dev.warmByCmd h :)
theorem Dev.released_of_core {d e : Dev} (h : d.core = e.core) : d.released = e.released := (congrArg Dev.released h :)
theorem Dev.resumeMode_of_core {d e : Dev} (h : d.core = e.core) : d.resumeMode = e.resumeMode := (congrArg Dev.resumeMode h :)
theorem Dev.pwrok_of_core {d e : Dev} (h : d.core = e.core) : d.pwrok = e.pwrok := (congrArg Dev.pwrok h :)
theorem Dev.awaitBme_of_core {d e : Dev} (h : d.core = e.core) : d.awaitBme = e.awaitBme := (congrArg Dev.awaitBme h :)
theorem Dev.perst_of_core {d e : Dev} (h : d.core = e.core) : d.perst = e.perst := (congrArg Dev.perst h :)
theorem Dev.perts_of_core {d e : Dev} (h : d.core = e.core) : d.perts = e.perts := (congrArg Dev.perts h :)
theorem Dev.life_of_core {d e : Dev} (h : d.core = e.core) : d.life = e.life := (congrArg Dev.life h :)
theorem Dev.shadows_of_core {d e : Dev} (h : d.core = e.core) : d.shadows = e.shadows := (congrArg Dev.shadows h :)
theorem Dev.spiIn_of_core {d e : Dev} (h : d.core = e.core) : d.spiIn = e.spiIn := (congrArg Dev.spiIn h :)
theorem Dev.spiRefused_of_core {d e : Dev} (h : d.core = e.core) : d.spiRefused = e.spiRefused := (congrArg Dev.spiRefused h :)
theorem Dev.msixTable_of_core {d e : Dev} (h : d.core = e.core) : d.msixTable = e.msixTable := (congrArg Dev.msixTable h :)

/-! ### Events, interrupts and counters -/

@[simp] theorem Dev.tick_count (d : Dev) (c : Ctr) (i j n : Nat) : (d.count c i j n).tick = d.tick := Dev.tick_of_core (Dev.core_count d c i j n)
@[simp] theorem Dev.era_count (d : Dev) (c : Ctr) (i j n : Nat) : (d.count c i j n).era = d.era := Dev.era_of_core (Dev.core_count d c i j n)
@[simp] theorem Dev.phase_count (d : Dev) (c : Ctr) (i j n : Nat) : (d.count c i j n).phase = d.phase := Dev.phase_of_core (Dev.core_count d c i j n)
@[simp] theorem Dev.fences_count (d : Dev) (c : Ctr) (i j n : Nat) : (d.count c i j n).fences = d.fences := Dev.fences_of_core (Dev.core_count d c i j n)
@[simp] theorem Dev.queues_count (d : Dev) (c : Ctr) (i j n : Nat) : (d.count c i j n).queues = d.queues := Dev.queues_of_core (Dev.core_count d c i j n)
@[simp] theorem Dev.windows_count (d : Dev) (c : Ctr) (i j n : Nat) : (d.count c i j n).windows = d.windows := Dev.windows_of_core (Dev.core_count d c i j n)
@[simp] theorem Dev.journal_count (d : Dev) (c : Ctr) (i j n : Nat) : (d.count c i j n).journal = d.journal := Dev.journal_of_core (Dev.core_count d c i j n)
@[simp] theorem Dev.held_count (d : Dev) (c : Ctr) (i j n : Nat) : (d.count c i j n).held = d.held := Dev.held_of_core (Dev.core_count d c i j n)
@[simp] theorem Dev.spiOut_count (d : Dev) (c : Ctr) (i j n : Nat) : (d.count c i j n).spiOut = d.spiOut := Dev.spiOut_of_core (Dev.core_count d c i j n)
@[simp] theorem Dev.replaying_count (d : Dev) (c : Ctr) (i j n : Nat) : (d.count c i j n).replaying = d.replaying := Dev.replaying_of_core (Dev.core_count d c i j n)
@[simp] theorem Dev.crcExpect_count (d : Dev) (c : Ctr) (i j n : Nat) : (d.count c i j n).crcExpect = d.crcExpect := Dev.crcExpect_of_core (Dev.core_count d c i j n)
@[simp] theorem Dev.time_count (d : Dev) (c : Ctr) (i j n : Nat) : (d.count c i j n).time = d.time := Dev.time_of_core (Dev.core_count d c i j n)
@[simp] theorem Dev.flash_count (d : Dev) (c : Ctr) (i j n : Nat) : (d.count c i j n).flash = d.flash := Dev.flash_of_core (Dev.core_count d c i j n)
@[simp] theorem Dev.stage_count (d : Dev) (c : Ctr) (i j n : Nat) : (d.count c i j n).stage = d.stage := Dev.stage_of_core (Dev.core_count d c i j n)
@[simp] theorem Dev.almCommitted_count (d : Dev) (c : Ctr) (i j n : Nat) : (d.count c i j n).almCommitted = d.almCommitted := Dev.almCommitted_of_core (Dev.core_count d c i j n)
@[simp] theorem Dev.flashJob_count (d : Dev) (c : Ctr) (i j n : Nat) : (d.count c i j n).flashJob = d.flashJob := Dev.flashJob_of_core (Dev.core_count d c i j n)
@[simp] theorem Dev.therm_count (d : Dev) (c : Ctr) (i j n : Nat) : (d.count c i j n).therm = d.therm := Dev.therm_of_core (Dev.core_count d c i j n)
@[simp] theorem Dev.lanes_count (d : Dev) (c : Ctr) (i j n : Nat) : (d.count c i j n).lanes = d.lanes := Dev.lanes_of_core (Dev.core_count d c i j n)
@[simp] theorem Dev.bundles_count (d : Dev) (c : Ctr) (i j n : Nat) : (d.count c i j n).bundles = d.bundles := Dev.bundles_of_core (Dev.core_count d c i j n)
@[simp] theorem Dev.merged_count (d : Dev) (c : Ctr) (i j n : Nat) : (d.count c i j n).merged = d.merged := Dev.merged_of_core (Dev.core_count d c i j n)
@[simp] theorem Dev.chans_count (d : Dev) (c : Ctr) (i j n : Nat) : (d.count c i j n).chans = d.chans := Dev.chans_of_core (Dev.core_count d c i j n)
@[simp] theorem Dev.tasks_count (d : Dev) (c : Ctr) (i j n : Nat) : (d.count c i j n).tasks = d.tasks := Dev.tasks_of_core (Dev.core_count d c i j n)
@[simp] theorem Dev.alm_count (d : Dev) (c : Ctr) (i j n : Nat) : (d.count c i j n).alm = d.alm := Dev.alm_of_core (Dev.core_count d c i j n)
@[simp] theorem Dev.almUser_count (d : Dev) (c : Ctr) (i j n : Nat) : (d.count c i j n).almUser = d.almUser := Dev.almUser_of_core (Dev.core_count d c i j n)
@[simp] theorem Dev.twin_count (d : Dev) (c : Ctr) (i j n : Nat) : (d.count c i j n).twin = d.twin := Dev.twin_of_core (Dev.core_count d c i j n)
@[simp] theorem Dev.ring_count (d : Dev) (c : Ctr) (i j n : Nat) : (d.count c i j n).ring = d.ring := Dev.ring_of_core (Dev.core_count d c i j n)
@[simp] theorem Dev.caches_count (d : Dev) (c : Ctr) (i j n : Nat) : (d.count c i j n).caches = d.caches := Dev.caches_of_core (Dev.core_count d c i j n)
@[simp] theorem Dev.given_count (d : Dev) (c : Ctr) (i j n : Nat) : (d.count c i j n).given = d.given := Dev.given_of_core (Dev.core_count d c i j n)
@[simp] theorem Dev.keptCaptures_count (d : Dev) (c : Ctr) (i j n : Nat) : (d.count c i j n).keptCaptures = d.keptCaptures := Dev.keptCaptures_of_core (Dev.core_count d c i j n)
@[simp] theorem Dev.recqs_count (d : Dev) (c : Ctr) (i j n : Nat) : (d.count c i j n).recqs = d.recqs := Dev.recqs_of_core (Dev.core_count d c i j n)
@[simp] theorem Dev.segs_count (d : Dev) (c : Ctr) (i j n : Nat) : (d.count c i j n).segs = d.segs := Dev.segs_of_core (Dev.core_count d c i j n)
@[simp] theorem Dev.vigilSegs_count (d : Dev) (c : Ctr) (i j n : Nat) : (d.count c i j n).vigilSegs = d.vigilSegs := Dev.vigilSegs_of_core (Dev.core_count d c i j n)
@[simp] theorem Dev.binds_count (d : Dev) (c : Ctr) (i j n : Nat) : (d.count c i j n).binds = d.binds := Dev.binds_of_core (Dev.core_count d c i j n)
@[simp] theorem Dev.decs_count (d : Dev) (c : Ctr) (i j n : Nat) : (d.count c i j n).decs = d.decs := Dev.decs_of_core (Dev.core_count d c i j n)
@[simp] theorem Dev.hbm_count (d : Dev) (c : Ctr) (i j n : Nat) : (d.count c i j n).hbm = d.hbm := Dev.hbm_of_core (Dev.core_count d c i j n)
@[simp] theorem Dev.eth_count (d : Dev) (c : Ctr) (i j n : Nat) : (d.count c i j n).eth = d.eth := Dev.eth_of_core (Dev.core_count d c i j n)
@[simp] theorem Dev.ptp_count (d : Dev) (c : Ctr) (i j n : Nat) : (d.count c i j n).ptp = d.ptp := Dev.ptp_of_core (Dev.core_count d c i j n)
@[simp] theorem Dev.prev_count (d : Dev) (c : Ctr) (i j n : Nat) : (d.count c i j n).prev = d.prev := Dev.prev_of_core (Dev.core_count d c i j n)
@[simp] theorem Dev.audio_count (d : Dev) (c : Ctr) (i j n : Nat) : (d.count c i j n).audio = d.audio := Dev.audio_of_core (Dev.core_count d c i j n)
@[simp] theorem Dev.winTabs_count (d : Dev) (c : Ctr) (i j n : Nat) : (d.count c i j n).winTabs = d.winTabs := Dev.winTabs_of_core (Dev.core_count d c i j n)
@[simp] theorem Dev.dmaLast_count (d : Dev) (c : Ctr) (i j n : Nat) : (d.count c i j n).dmaLast = d.dmaLast := Dev.dmaLast_of_core (Dev.core_count d c i j n)
@[simp] theorem Dev.pcs_count (d : Dev) (c : Ctr) (i j n : Nat) : (d.count c i j n).pcs = d.pcs := Dev.pcs_of_core (Dev.core_count d c i j n)
@[simp] theorem Dev.nextOrder_count (d : Dev) (c : Ctr) (i j n : Nat) : (d.count c i j n).nextOrder = d.nextOrder := Dev.nextOrder_of_core (Dev.core_count d c i j n)
@[simp] theorem Dev.nextToken_count (d : Dev) (c : Ctr) (i j n : Nat) : (d.count c i j n).nextToken = d.nextToken := Dev.nextToken_of_core (Dev.core_count d c i j n)
@[simp] theorem Dev.fresh_count (d : Dev) (c : Ctr) (i j n : Nat) : (d.count c i j n).fresh = d.fresh := Dev.fresh_of_core (Dev.core_count d c i j n)
@[simp] theorem Dev.hbMiss_count (d : Dev) (c : Ctr) (i j n : Nat) : (d.count c i j n).hbMiss = d.hbMiss := Dev.hbMiss_of_core (Dev.core_count d c i j n)
@[simp] theorem Dev.power_count (d : Dev) (c : Ctr) (i j n : Nat) : (d.count c i j n).power = d.power := Dev.power_of_core (Dev.core_count d c i j n)
@[simp] theorem Dev.clock_count (d : Dev) (c : Ctr) (i j n : Nat) : (d.count c i j n).clock = d.clock := Dev.clock_of_core (Dev.core_count d c i j n)
@[simp] theorem Dev.modeJob_count (d : Dev) (c : Ctr) (i j n : Nat) : (d.count c i j n).modeJob = d.modeJob := Dev.modeJob_of_core (Dev.core_count d c i j n)
@[simp] theorem Dev.modeWait_count (d : Dev) (c : Ctr) (i j n : Nat) : (d.count c i j n).modeWait = d.modeWait := Dev.modeWait_of_core (Dev.core_count d c i j n)
@[simp] theorem Dev.warmAsk_count (d : Dev) (c : Ctr) (i j n : Nat) : (d.count c i j n).warmAsk = d.warmAsk := Dev.warmAsk_of_core (Dev.core_count d c i j n)
@[simp] theorem Dev.warmByCmd_count (d : Dev) (c : Ctr) (i j n : Nat) : (d.count c i j n).warmByCmd = d.warmByCmd := Dev.warmByCmd_of_core (Dev.core_count d c i j n)
@[simp] theorem Dev.released_count (d : Dev) (c : Ctr) (i j n : Nat) : (d.count c i j n).released = d.released := Dev.released_of_core (Dev.core_count d c i j n)
@[simp] theorem Dev.resumeMode_count (d : Dev) (c : Ctr) (i j n : Nat) : (d.count c i j n).resumeMode = d.resumeMode := Dev.resumeMode_of_core (Dev.core_count d c i j n)
@[simp] theorem Dev.pwrok_count (d : Dev) (c : Ctr) (i j n : Nat) : (d.count c i j n).pwrok = d.pwrok := Dev.pwrok_of_core (Dev.core_count d c i j n)
@[simp] theorem Dev.awaitBme_count (d : Dev) (c : Ctr) (i j n : Nat) : (d.count c i j n).awaitBme = d.awaitBme := Dev.awaitBme_of_core (Dev.core_count d c i j n)
@[simp] theorem Dev.perst_count (d : Dev) (c : Ctr) (i j n : Nat) : (d.count c i j n).perst = d.perst := Dev.perst_of_core (Dev.core_count d c i j n)
@[simp] theorem Dev.perts_count (d : Dev) (c : Ctr) (i j n : Nat) : (d.count c i j n).perts = d.perts := Dev.perts_of_core (Dev.core_count d c i j n)
@[simp] theorem Dev.life_count (d : Dev) (c : Ctr) (i j n : Nat) : (d.count c i j n).life = d.life := Dev.life_of_core (Dev.core_count d c i j n)
@[simp] theorem Dev.shadows_count (d : Dev) (c : Ctr) (i j n : Nat) : (d.count c i j n).shadows = d.shadows := Dev.shadows_of_core (Dev.core_count d c i j n)
@[simp] theorem Dev.spiIn_count (d : Dev) (c : Ctr) (i j n : Nat) : (d.count c i j n).spiIn = d.spiIn := Dev.spiIn_of_core (Dev.core_count d c i j n)
@[simp] theorem Dev.spiRefused_count (d : Dev) (c : Ctr) (i j n : Nat) : (d.count c i j n).spiRefused = d.spiRefused := Dev.spiRefused_of_core (Dev.core_count d c i j n)
@[simp] theorem Dev.msixTable_count (d : Dev) (c : Ctr) (i j n : Nat) : (d.count c i j n).msixTable = d.msixTable := Dev.msixTable_of_core (Dev.core_count d c i j n)

@[simp] theorem Dev.tick_raise (d : Dev) (b : Block) (i k : Nat) : (d.raise b i k).tick = d.tick := Dev.tick_of_core (Dev.core_raise d b i k)
@[simp] theorem Dev.era_raise (d : Dev) (b : Block) (i k : Nat) : (d.raise b i k).era = d.era := Dev.era_of_core (Dev.core_raise d b i k)
@[simp] theorem Dev.phase_raise (d : Dev) (b : Block) (i k : Nat) : (d.raise b i k).phase = d.phase := Dev.phase_of_core (Dev.core_raise d b i k)
@[simp] theorem Dev.fences_raise (d : Dev) (b : Block) (i k : Nat) : (d.raise b i k).fences = d.fences := Dev.fences_of_core (Dev.core_raise d b i k)
@[simp] theorem Dev.queues_raise (d : Dev) (b : Block) (i k : Nat) : (d.raise b i k).queues = d.queues := Dev.queues_of_core (Dev.core_raise d b i k)
@[simp] theorem Dev.windows_raise (d : Dev) (b : Block) (i k : Nat) : (d.raise b i k).windows = d.windows := Dev.windows_of_core (Dev.core_raise d b i k)
@[simp] theorem Dev.journal_raise (d : Dev) (b : Block) (i k : Nat) : (d.raise b i k).journal = d.journal := Dev.journal_of_core (Dev.core_raise d b i k)
@[simp] theorem Dev.held_raise (d : Dev) (b : Block) (i k : Nat) : (d.raise b i k).held = d.held := Dev.held_of_core (Dev.core_raise d b i k)
@[simp] theorem Dev.spiOut_raise (d : Dev) (b : Block) (i k : Nat) : (d.raise b i k).spiOut = d.spiOut := Dev.spiOut_of_core (Dev.core_raise d b i k)
@[simp] theorem Dev.replaying_raise (d : Dev) (b : Block) (i k : Nat) : (d.raise b i k).replaying = d.replaying := Dev.replaying_of_core (Dev.core_raise d b i k)
@[simp] theorem Dev.crcExpect_raise (d : Dev) (b : Block) (i k : Nat) : (d.raise b i k).crcExpect = d.crcExpect := Dev.crcExpect_of_core (Dev.core_raise d b i k)
@[simp] theorem Dev.time_raise (d : Dev) (b : Block) (i k : Nat) : (d.raise b i k).time = d.time := Dev.time_of_core (Dev.core_raise d b i k)
@[simp] theorem Dev.flash_raise (d : Dev) (b : Block) (i k : Nat) : (d.raise b i k).flash = d.flash := Dev.flash_of_core (Dev.core_raise d b i k)
@[simp] theorem Dev.stage_raise (d : Dev) (b : Block) (i k : Nat) : (d.raise b i k).stage = d.stage := Dev.stage_of_core (Dev.core_raise d b i k)
@[simp] theorem Dev.almCommitted_raise (d : Dev) (b : Block) (i k : Nat) : (d.raise b i k).almCommitted = d.almCommitted := Dev.almCommitted_of_core (Dev.core_raise d b i k)
@[simp] theorem Dev.flashJob_raise (d : Dev) (b : Block) (i k : Nat) : (d.raise b i k).flashJob = d.flashJob := Dev.flashJob_of_core (Dev.core_raise d b i k)
@[simp] theorem Dev.therm_raise (d : Dev) (b : Block) (i k : Nat) : (d.raise b i k).therm = d.therm := Dev.therm_of_core (Dev.core_raise d b i k)
@[simp] theorem Dev.lanes_raise (d : Dev) (b : Block) (i k : Nat) : (d.raise b i k).lanes = d.lanes := Dev.lanes_of_core (Dev.core_raise d b i k)
@[simp] theorem Dev.bundles_raise (d : Dev) (b : Block) (i k : Nat) : (d.raise b i k).bundles = d.bundles := Dev.bundles_of_core (Dev.core_raise d b i k)
@[simp] theorem Dev.merged_raise (d : Dev) (b : Block) (i k : Nat) : (d.raise b i k).merged = d.merged := Dev.merged_of_core (Dev.core_raise d b i k)
@[simp] theorem Dev.chans_raise (d : Dev) (b : Block) (i k : Nat) : (d.raise b i k).chans = d.chans := Dev.chans_of_core (Dev.core_raise d b i k)
@[simp] theorem Dev.tasks_raise (d : Dev) (b : Block) (i k : Nat) : (d.raise b i k).tasks = d.tasks := Dev.tasks_of_core (Dev.core_raise d b i k)
@[simp] theorem Dev.alm_raise (d : Dev) (b : Block) (i k : Nat) : (d.raise b i k).alm = d.alm := Dev.alm_of_core (Dev.core_raise d b i k)
@[simp] theorem Dev.almUser_raise (d : Dev) (b : Block) (i k : Nat) : (d.raise b i k).almUser = d.almUser := Dev.almUser_of_core (Dev.core_raise d b i k)
@[simp] theorem Dev.twin_raise (d : Dev) (b : Block) (i k : Nat) : (d.raise b i k).twin = d.twin := Dev.twin_of_core (Dev.core_raise d b i k)
@[simp] theorem Dev.ring_raise (d : Dev) (b : Block) (i k : Nat) : (d.raise b i k).ring = d.ring := Dev.ring_of_core (Dev.core_raise d b i k)
@[simp] theorem Dev.caches_raise (d : Dev) (b : Block) (i k : Nat) : (d.raise b i k).caches = d.caches := Dev.caches_of_core (Dev.core_raise d b i k)
@[simp] theorem Dev.given_raise (d : Dev) (b : Block) (i k : Nat) : (d.raise b i k).given = d.given := Dev.given_of_core (Dev.core_raise d b i k)
@[simp] theorem Dev.keptCaptures_raise (d : Dev) (b : Block) (i k : Nat) : (d.raise b i k).keptCaptures = d.keptCaptures := Dev.keptCaptures_of_core (Dev.core_raise d b i k)
@[simp] theorem Dev.recqs_raise (d : Dev) (b : Block) (i k : Nat) : (d.raise b i k).recqs = d.recqs := Dev.recqs_of_core (Dev.core_raise d b i k)
@[simp] theorem Dev.segs_raise (d : Dev) (b : Block) (i k : Nat) : (d.raise b i k).segs = d.segs := Dev.segs_of_core (Dev.core_raise d b i k)
@[simp] theorem Dev.vigilSegs_raise (d : Dev) (b : Block) (i k : Nat) : (d.raise b i k).vigilSegs = d.vigilSegs := Dev.vigilSegs_of_core (Dev.core_raise d b i k)
@[simp] theorem Dev.binds_raise (d : Dev) (b : Block) (i k : Nat) : (d.raise b i k).binds = d.binds := Dev.binds_of_core (Dev.core_raise d b i k)
@[simp] theorem Dev.decs_raise (d : Dev) (b : Block) (i k : Nat) : (d.raise b i k).decs = d.decs := Dev.decs_of_core (Dev.core_raise d b i k)
@[simp] theorem Dev.hbm_raise (d : Dev) (b : Block) (i k : Nat) : (d.raise b i k).hbm = d.hbm := Dev.hbm_of_core (Dev.core_raise d b i k)
@[simp] theorem Dev.eth_raise (d : Dev) (b : Block) (i k : Nat) : (d.raise b i k).eth = d.eth := Dev.eth_of_core (Dev.core_raise d b i k)
@[simp] theorem Dev.ptp_raise (d : Dev) (b : Block) (i k : Nat) : (d.raise b i k).ptp = d.ptp := Dev.ptp_of_core (Dev.core_raise d b i k)
@[simp] theorem Dev.prev_raise (d : Dev) (b : Block) (i k : Nat) : (d.raise b i k).prev = d.prev := Dev.prev_of_core (Dev.core_raise d b i k)
@[simp] theorem Dev.audio_raise (d : Dev) (b : Block) (i k : Nat) : (d.raise b i k).audio = d.audio := Dev.audio_of_core (Dev.core_raise d b i k)
@[simp] theorem Dev.winTabs_raise (d : Dev) (b : Block) (i k : Nat) : (d.raise b i k).winTabs = d.winTabs := Dev.winTabs_of_core (Dev.core_raise d b i k)
@[simp] theorem Dev.dmaLast_raise (d : Dev) (b : Block) (i k : Nat) : (d.raise b i k).dmaLast = d.dmaLast := Dev.dmaLast_of_core (Dev.core_raise d b i k)
@[simp] theorem Dev.pcs_raise (d : Dev) (b : Block) (i k : Nat) : (d.raise b i k).pcs = d.pcs := Dev.pcs_of_core (Dev.core_raise d b i k)
@[simp] theorem Dev.nextOrder_raise (d : Dev) (b : Block) (i k : Nat) : (d.raise b i k).nextOrder = d.nextOrder := Dev.nextOrder_of_core (Dev.core_raise d b i k)
@[simp] theorem Dev.nextToken_raise (d : Dev) (b : Block) (i k : Nat) : (d.raise b i k).nextToken = d.nextToken := Dev.nextToken_of_core (Dev.core_raise d b i k)
@[simp] theorem Dev.fresh_raise (d : Dev) (b : Block) (i k : Nat) : (d.raise b i k).fresh = d.fresh := Dev.fresh_of_core (Dev.core_raise d b i k)
@[simp] theorem Dev.hbMiss_raise (d : Dev) (b : Block) (i k : Nat) : (d.raise b i k).hbMiss = d.hbMiss := Dev.hbMiss_of_core (Dev.core_raise d b i k)
@[simp] theorem Dev.power_raise (d : Dev) (b : Block) (i k : Nat) : (d.raise b i k).power = d.power := Dev.power_of_core (Dev.core_raise d b i k)
@[simp] theorem Dev.clock_raise (d : Dev) (b : Block) (i k : Nat) : (d.raise b i k).clock = d.clock := Dev.clock_of_core (Dev.core_raise d b i k)
@[simp] theorem Dev.modeJob_raise (d : Dev) (b : Block) (i k : Nat) : (d.raise b i k).modeJob = d.modeJob := Dev.modeJob_of_core (Dev.core_raise d b i k)
@[simp] theorem Dev.modeWait_raise (d : Dev) (b : Block) (i k : Nat) : (d.raise b i k).modeWait = d.modeWait := Dev.modeWait_of_core (Dev.core_raise d b i k)
@[simp] theorem Dev.warmAsk_raise (d : Dev) (b : Block) (i k : Nat) : (d.raise b i k).warmAsk = d.warmAsk := Dev.warmAsk_of_core (Dev.core_raise d b i k)
@[simp] theorem Dev.warmByCmd_raise (d : Dev) (b : Block) (i k : Nat) : (d.raise b i k).warmByCmd = d.warmByCmd := Dev.warmByCmd_of_core (Dev.core_raise d b i k)
@[simp] theorem Dev.released_raise (d : Dev) (b : Block) (i k : Nat) : (d.raise b i k).released = d.released := Dev.released_of_core (Dev.core_raise d b i k)
@[simp] theorem Dev.resumeMode_raise (d : Dev) (b : Block) (i k : Nat) : (d.raise b i k).resumeMode = d.resumeMode := Dev.resumeMode_of_core (Dev.core_raise d b i k)
@[simp] theorem Dev.pwrok_raise (d : Dev) (b : Block) (i k : Nat) : (d.raise b i k).pwrok = d.pwrok := Dev.pwrok_of_core (Dev.core_raise d b i k)
@[simp] theorem Dev.awaitBme_raise (d : Dev) (b : Block) (i k : Nat) : (d.raise b i k).awaitBme = d.awaitBme := Dev.awaitBme_of_core (Dev.core_raise d b i k)
@[simp] theorem Dev.perst_raise (d : Dev) (b : Block) (i k : Nat) : (d.raise b i k).perst = d.perst := Dev.perst_of_core (Dev.core_raise d b i k)
@[simp] theorem Dev.perts_raise (d : Dev) (b : Block) (i k : Nat) : (d.raise b i k).perts = d.perts := Dev.perts_of_core (Dev.core_raise d b i k)
@[simp] theorem Dev.life_raise (d : Dev) (b : Block) (i k : Nat) : (d.raise b i k).life = d.life := Dev.life_of_core (Dev.core_raise d b i k)
@[simp] theorem Dev.shadows_raise (d : Dev) (b : Block) (i k : Nat) : (d.raise b i k).shadows = d.shadows := Dev.shadows_of_core (Dev.core_raise d b i k)
@[simp] theorem Dev.spiIn_raise (d : Dev) (b : Block) (i k : Nat) : (d.raise b i k).spiIn = d.spiIn := Dev.spiIn_of_core (Dev.core_raise d b i k)
@[simp] theorem Dev.spiRefused_raise (d : Dev) (b : Block) (i k : Nat) : (d.raise b i k).spiRefused = d.spiRefused := Dev.spiRefused_of_core (Dev.core_raise d b i k)
@[simp] theorem Dev.msixTable_raise (d : Dev) (b : Block) (i k : Nat) : (d.raise b i k).msixTable = d.msixTable := Dev.msixTable_of_core (Dev.core_raise d b i k)

@[simp] theorem Dev.tick_logEvent (d : Dev) (b : Block) (code inst a0 a1 u fl : Nat) : (d.logEvent b code inst a0 a1 u fl).tick = d.tick := Dev.tick_of_core (Dev.core_logEvent d b code inst a0 a1 u fl)
@[simp] theorem Dev.era_logEvent (d : Dev) (b : Block) (code inst a0 a1 u fl : Nat) : (d.logEvent b code inst a0 a1 u fl).era = d.era := Dev.era_of_core (Dev.core_logEvent d b code inst a0 a1 u fl)
@[simp] theorem Dev.phase_logEvent (d : Dev) (b : Block) (code inst a0 a1 u fl : Nat) : (d.logEvent b code inst a0 a1 u fl).phase = d.phase := Dev.phase_of_core (Dev.core_logEvent d b code inst a0 a1 u fl)
@[simp] theorem Dev.fences_logEvent (d : Dev) (b : Block) (code inst a0 a1 u fl : Nat) : (d.logEvent b code inst a0 a1 u fl).fences = d.fences := Dev.fences_of_core (Dev.core_logEvent d b code inst a0 a1 u fl)
@[simp] theorem Dev.queues_logEvent (d : Dev) (b : Block) (code inst a0 a1 u fl : Nat) : (d.logEvent b code inst a0 a1 u fl).queues = d.queues := Dev.queues_of_core (Dev.core_logEvent d b code inst a0 a1 u fl)
@[simp] theorem Dev.windows_logEvent (d : Dev) (b : Block) (code inst a0 a1 u fl : Nat) : (d.logEvent b code inst a0 a1 u fl).windows = d.windows := Dev.windows_of_core (Dev.core_logEvent d b code inst a0 a1 u fl)
@[simp] theorem Dev.journal_logEvent (d : Dev) (b : Block) (code inst a0 a1 u fl : Nat) : (d.logEvent b code inst a0 a1 u fl).journal = d.journal := Dev.journal_of_core (Dev.core_logEvent d b code inst a0 a1 u fl)
@[simp] theorem Dev.held_logEvent (d : Dev) (b : Block) (code inst a0 a1 u fl : Nat) : (d.logEvent b code inst a0 a1 u fl).held = d.held := Dev.held_of_core (Dev.core_logEvent d b code inst a0 a1 u fl)
@[simp] theorem Dev.spiOut_logEvent (d : Dev) (b : Block) (code inst a0 a1 u fl : Nat) : (d.logEvent b code inst a0 a1 u fl).spiOut = d.spiOut := Dev.spiOut_of_core (Dev.core_logEvent d b code inst a0 a1 u fl)
@[simp] theorem Dev.replaying_logEvent (d : Dev) (b : Block) (code inst a0 a1 u fl : Nat) : (d.logEvent b code inst a0 a1 u fl).replaying = d.replaying := Dev.replaying_of_core (Dev.core_logEvent d b code inst a0 a1 u fl)
@[simp] theorem Dev.crcExpect_logEvent (d : Dev) (b : Block) (code inst a0 a1 u fl : Nat) : (d.logEvent b code inst a0 a1 u fl).crcExpect = d.crcExpect := Dev.crcExpect_of_core (Dev.core_logEvent d b code inst a0 a1 u fl)
@[simp] theorem Dev.time_logEvent (d : Dev) (b : Block) (code inst a0 a1 u fl : Nat) : (d.logEvent b code inst a0 a1 u fl).time = d.time := Dev.time_of_core (Dev.core_logEvent d b code inst a0 a1 u fl)
@[simp] theorem Dev.flash_logEvent (d : Dev) (b : Block) (code inst a0 a1 u fl : Nat) : (d.logEvent b code inst a0 a1 u fl).flash = d.flash := Dev.flash_of_core (Dev.core_logEvent d b code inst a0 a1 u fl)
@[simp] theorem Dev.stage_logEvent (d : Dev) (b : Block) (code inst a0 a1 u fl : Nat) : (d.logEvent b code inst a0 a1 u fl).stage = d.stage := Dev.stage_of_core (Dev.core_logEvent d b code inst a0 a1 u fl)
@[simp] theorem Dev.almCommitted_logEvent (d : Dev) (b : Block) (code inst a0 a1 u fl : Nat) : (d.logEvent b code inst a0 a1 u fl).almCommitted = d.almCommitted := Dev.almCommitted_of_core (Dev.core_logEvent d b code inst a0 a1 u fl)
@[simp] theorem Dev.flashJob_logEvent (d : Dev) (b : Block) (code inst a0 a1 u fl : Nat) : (d.logEvent b code inst a0 a1 u fl).flashJob = d.flashJob := Dev.flashJob_of_core (Dev.core_logEvent d b code inst a0 a1 u fl)
@[simp] theorem Dev.therm_logEvent (d : Dev) (b : Block) (code inst a0 a1 u fl : Nat) : (d.logEvent b code inst a0 a1 u fl).therm = d.therm := Dev.therm_of_core (Dev.core_logEvent d b code inst a0 a1 u fl)
@[simp] theorem Dev.lanes_logEvent (d : Dev) (b : Block) (code inst a0 a1 u fl : Nat) : (d.logEvent b code inst a0 a1 u fl).lanes = d.lanes := Dev.lanes_of_core (Dev.core_logEvent d b code inst a0 a1 u fl)
@[simp] theorem Dev.bundles_logEvent (d : Dev) (b : Block) (code inst a0 a1 u fl : Nat) : (d.logEvent b code inst a0 a1 u fl).bundles = d.bundles := Dev.bundles_of_core (Dev.core_logEvent d b code inst a0 a1 u fl)
@[simp] theorem Dev.merged_logEvent (d : Dev) (b : Block) (code inst a0 a1 u fl : Nat) : (d.logEvent b code inst a0 a1 u fl).merged = d.merged := Dev.merged_of_core (Dev.core_logEvent d b code inst a0 a1 u fl)
@[simp] theorem Dev.chans_logEvent (d : Dev) (b : Block) (code inst a0 a1 u fl : Nat) : (d.logEvent b code inst a0 a1 u fl).chans = d.chans := Dev.chans_of_core (Dev.core_logEvent d b code inst a0 a1 u fl)
@[simp] theorem Dev.tasks_logEvent (d : Dev) (b : Block) (code inst a0 a1 u fl : Nat) : (d.logEvent b code inst a0 a1 u fl).tasks = d.tasks := Dev.tasks_of_core (Dev.core_logEvent d b code inst a0 a1 u fl)
@[simp] theorem Dev.alm_logEvent (d : Dev) (b : Block) (code inst a0 a1 u fl : Nat) : (d.logEvent b code inst a0 a1 u fl).alm = d.alm := Dev.alm_of_core (Dev.core_logEvent d b code inst a0 a1 u fl)
@[simp] theorem Dev.almUser_logEvent (d : Dev) (b : Block) (code inst a0 a1 u fl : Nat) : (d.logEvent b code inst a0 a1 u fl).almUser = d.almUser := Dev.almUser_of_core (Dev.core_logEvent d b code inst a0 a1 u fl)
@[simp] theorem Dev.twin_logEvent (d : Dev) (b : Block) (code inst a0 a1 u fl : Nat) : (d.logEvent b code inst a0 a1 u fl).twin = d.twin := Dev.twin_of_core (Dev.core_logEvent d b code inst a0 a1 u fl)
@[simp] theorem Dev.ring_logEvent (d : Dev) (b : Block) (code inst a0 a1 u fl : Nat) : (d.logEvent b code inst a0 a1 u fl).ring = d.ring := Dev.ring_of_core (Dev.core_logEvent d b code inst a0 a1 u fl)
@[simp] theorem Dev.caches_logEvent (d : Dev) (b : Block) (code inst a0 a1 u fl : Nat) : (d.logEvent b code inst a0 a1 u fl).caches = d.caches := Dev.caches_of_core (Dev.core_logEvent d b code inst a0 a1 u fl)
@[simp] theorem Dev.given_logEvent (d : Dev) (b : Block) (code inst a0 a1 u fl : Nat) : (d.logEvent b code inst a0 a1 u fl).given = d.given := Dev.given_of_core (Dev.core_logEvent d b code inst a0 a1 u fl)
@[simp] theorem Dev.keptCaptures_logEvent (d : Dev) (b : Block) (code inst a0 a1 u fl : Nat) : (d.logEvent b code inst a0 a1 u fl).keptCaptures = d.keptCaptures := Dev.keptCaptures_of_core (Dev.core_logEvent d b code inst a0 a1 u fl)
@[simp] theorem Dev.recqs_logEvent (d : Dev) (b : Block) (code inst a0 a1 u fl : Nat) : (d.logEvent b code inst a0 a1 u fl).recqs = d.recqs := Dev.recqs_of_core (Dev.core_logEvent d b code inst a0 a1 u fl)
@[simp] theorem Dev.segs_logEvent (d : Dev) (b : Block) (code inst a0 a1 u fl : Nat) : (d.logEvent b code inst a0 a1 u fl).segs = d.segs := Dev.segs_of_core (Dev.core_logEvent d b code inst a0 a1 u fl)
@[simp] theorem Dev.vigilSegs_logEvent (d : Dev) (b : Block) (code inst a0 a1 u fl : Nat) : (d.logEvent b code inst a0 a1 u fl).vigilSegs = d.vigilSegs := Dev.vigilSegs_of_core (Dev.core_logEvent d b code inst a0 a1 u fl)
@[simp] theorem Dev.binds_logEvent (d : Dev) (b : Block) (code inst a0 a1 u fl : Nat) : (d.logEvent b code inst a0 a1 u fl).binds = d.binds := Dev.binds_of_core (Dev.core_logEvent d b code inst a0 a1 u fl)
@[simp] theorem Dev.decs_logEvent (d : Dev) (b : Block) (code inst a0 a1 u fl : Nat) : (d.logEvent b code inst a0 a1 u fl).decs = d.decs := Dev.decs_of_core (Dev.core_logEvent d b code inst a0 a1 u fl)
@[simp] theorem Dev.hbm_logEvent (d : Dev) (b : Block) (code inst a0 a1 u fl : Nat) : (d.logEvent b code inst a0 a1 u fl).hbm = d.hbm := Dev.hbm_of_core (Dev.core_logEvent d b code inst a0 a1 u fl)
@[simp] theorem Dev.eth_logEvent (d : Dev) (b : Block) (code inst a0 a1 u fl : Nat) : (d.logEvent b code inst a0 a1 u fl).eth = d.eth := Dev.eth_of_core (Dev.core_logEvent d b code inst a0 a1 u fl)
@[simp] theorem Dev.ptp_logEvent (d : Dev) (b : Block) (code inst a0 a1 u fl : Nat) : (d.logEvent b code inst a0 a1 u fl).ptp = d.ptp := Dev.ptp_of_core (Dev.core_logEvent d b code inst a0 a1 u fl)
@[simp] theorem Dev.prev_logEvent (d : Dev) (b : Block) (code inst a0 a1 u fl : Nat) : (d.logEvent b code inst a0 a1 u fl).prev = d.prev := Dev.prev_of_core (Dev.core_logEvent d b code inst a0 a1 u fl)
@[simp] theorem Dev.audio_logEvent (d : Dev) (b : Block) (code inst a0 a1 u fl : Nat) : (d.logEvent b code inst a0 a1 u fl).audio = d.audio := Dev.audio_of_core (Dev.core_logEvent d b code inst a0 a1 u fl)
@[simp] theorem Dev.winTabs_logEvent (d : Dev) (b : Block) (code inst a0 a1 u fl : Nat) : (d.logEvent b code inst a0 a1 u fl).winTabs = d.winTabs := Dev.winTabs_of_core (Dev.core_logEvent d b code inst a0 a1 u fl)
@[simp] theorem Dev.dmaLast_logEvent (d : Dev) (b : Block) (code inst a0 a1 u fl : Nat) : (d.logEvent b code inst a0 a1 u fl).dmaLast = d.dmaLast := Dev.dmaLast_of_core (Dev.core_logEvent d b code inst a0 a1 u fl)
@[simp] theorem Dev.pcs_logEvent (d : Dev) (b : Block) (code inst a0 a1 u fl : Nat) : (d.logEvent b code inst a0 a1 u fl).pcs = d.pcs := Dev.pcs_of_core (Dev.core_logEvent d b code inst a0 a1 u fl)
@[simp] theorem Dev.nextOrder_logEvent (d : Dev) (b : Block) (code inst a0 a1 u fl : Nat) : (d.logEvent b code inst a0 a1 u fl).nextOrder = d.nextOrder := Dev.nextOrder_of_core (Dev.core_logEvent d b code inst a0 a1 u fl)
@[simp] theorem Dev.nextToken_logEvent (d : Dev) (b : Block) (code inst a0 a1 u fl : Nat) : (d.logEvent b code inst a0 a1 u fl).nextToken = d.nextToken := Dev.nextToken_of_core (Dev.core_logEvent d b code inst a0 a1 u fl)
@[simp] theorem Dev.fresh_logEvent (d : Dev) (b : Block) (code inst a0 a1 u fl : Nat) : (d.logEvent b code inst a0 a1 u fl).fresh = d.fresh := Dev.fresh_of_core (Dev.core_logEvent d b code inst a0 a1 u fl)
@[simp] theorem Dev.hbMiss_logEvent (d : Dev) (b : Block) (code inst a0 a1 u fl : Nat) : (d.logEvent b code inst a0 a1 u fl).hbMiss = d.hbMiss := Dev.hbMiss_of_core (Dev.core_logEvent d b code inst a0 a1 u fl)
@[simp] theorem Dev.power_logEvent (d : Dev) (b : Block) (code inst a0 a1 u fl : Nat) : (d.logEvent b code inst a0 a1 u fl).power = d.power := Dev.power_of_core (Dev.core_logEvent d b code inst a0 a1 u fl)
@[simp] theorem Dev.clock_logEvent (d : Dev) (b : Block) (code inst a0 a1 u fl : Nat) : (d.logEvent b code inst a0 a1 u fl).clock = d.clock := Dev.clock_of_core (Dev.core_logEvent d b code inst a0 a1 u fl)
@[simp] theorem Dev.modeJob_logEvent (d : Dev) (b : Block) (code inst a0 a1 u fl : Nat) : (d.logEvent b code inst a0 a1 u fl).modeJob = d.modeJob := Dev.modeJob_of_core (Dev.core_logEvent d b code inst a0 a1 u fl)
@[simp] theorem Dev.modeWait_logEvent (d : Dev) (b : Block) (code inst a0 a1 u fl : Nat) : (d.logEvent b code inst a0 a1 u fl).modeWait = d.modeWait := Dev.modeWait_of_core (Dev.core_logEvent d b code inst a0 a1 u fl)
@[simp] theorem Dev.warmAsk_logEvent (d : Dev) (b : Block) (code inst a0 a1 u fl : Nat) : (d.logEvent b code inst a0 a1 u fl).warmAsk = d.warmAsk := Dev.warmAsk_of_core (Dev.core_logEvent d b code inst a0 a1 u fl)
@[simp] theorem Dev.warmByCmd_logEvent (d : Dev) (b : Block) (code inst a0 a1 u fl : Nat) : (d.logEvent b code inst a0 a1 u fl).warmByCmd = d.warmByCmd := Dev.warmByCmd_of_core (Dev.core_logEvent d b code inst a0 a1 u fl)
@[simp] theorem Dev.released_logEvent (d : Dev) (b : Block) (code inst a0 a1 u fl : Nat) : (d.logEvent b code inst a0 a1 u fl).released = d.released := Dev.released_of_core (Dev.core_logEvent d b code inst a0 a1 u fl)
@[simp] theorem Dev.resumeMode_logEvent (d : Dev) (b : Block) (code inst a0 a1 u fl : Nat) : (d.logEvent b code inst a0 a1 u fl).resumeMode = d.resumeMode := Dev.resumeMode_of_core (Dev.core_logEvent d b code inst a0 a1 u fl)
@[simp] theorem Dev.pwrok_logEvent (d : Dev) (b : Block) (code inst a0 a1 u fl : Nat) : (d.logEvent b code inst a0 a1 u fl).pwrok = d.pwrok := Dev.pwrok_of_core (Dev.core_logEvent d b code inst a0 a1 u fl)
@[simp] theorem Dev.awaitBme_logEvent (d : Dev) (b : Block) (code inst a0 a1 u fl : Nat) : (d.logEvent b code inst a0 a1 u fl).awaitBme = d.awaitBme := Dev.awaitBme_of_core (Dev.core_logEvent d b code inst a0 a1 u fl)
@[simp] theorem Dev.perst_logEvent (d : Dev) (b : Block) (code inst a0 a1 u fl : Nat) : (d.logEvent b code inst a0 a1 u fl).perst = d.perst := Dev.perst_of_core (Dev.core_logEvent d b code inst a0 a1 u fl)
@[simp] theorem Dev.perts_logEvent (d : Dev) (b : Block) (code inst a0 a1 u fl : Nat) : (d.logEvent b code inst a0 a1 u fl).perts = d.perts := Dev.perts_of_core (Dev.core_logEvent d b code inst a0 a1 u fl)
@[simp] theorem Dev.life_logEvent (d : Dev) (b : Block) (code inst a0 a1 u fl : Nat) : (d.logEvent b code inst a0 a1 u fl).life = d.life := Dev.life_of_core (Dev.core_logEvent d b code inst a0 a1 u fl)
@[simp] theorem Dev.shadows_logEvent (d : Dev) (b : Block) (code inst a0 a1 u fl : Nat) : (d.logEvent b code inst a0 a1 u fl).shadows = d.shadows := Dev.shadows_of_core (Dev.core_logEvent d b code inst a0 a1 u fl)
@[simp] theorem Dev.spiIn_logEvent (d : Dev) (b : Block) (code inst a0 a1 u fl : Nat) : (d.logEvent b code inst a0 a1 u fl).spiIn = d.spiIn := Dev.spiIn_of_core (Dev.core_logEvent d b code inst a0 a1 u fl)
@[simp] theorem Dev.spiRefused_logEvent (d : Dev) (b : Block) (code inst a0 a1 u fl : Nat) : (d.logEvent b code inst a0 a1 u fl).spiRefused = d.spiRefused := Dev.spiRefused_of_core (Dev.core_logEvent d b code inst a0 a1 u fl)
@[simp] theorem Dev.msixTable_logEvent (d : Dev) (b : Block) (code inst a0 a1 u fl : Nat) : (d.logEvent b code inst a0 a1 u fl).msixTable = d.msixTable := Dev.msixTable_of_core (Dev.core_logEvent d b code inst a0 a1 u fl)

@[simp] theorem Dev.tick_maxF (d : Dev) (f : Field) (v i j : Nat) : (d.maxF f v i j).tick = d.tick := Dev.tick_of_core (Dev.core_maxF d f v i j)
@[simp] theorem Dev.era_maxF (d : Dev) (f : Field) (v i j : Nat) : (d.maxF f v i j).era = d.era := Dev.era_of_core (Dev.core_maxF d f v i j)
@[simp] theorem Dev.phase_maxF (d : Dev) (f : Field) (v i j : Nat) : (d.maxF f v i j).phase = d.phase := Dev.phase_of_core (Dev.core_maxF d f v i j)
@[simp] theorem Dev.fences_maxF (d : Dev) (f : Field) (v i j : Nat) : (d.maxF f v i j).fences = d.fences := Dev.fences_of_core (Dev.core_maxF d f v i j)
@[simp] theorem Dev.queues_maxF (d : Dev) (f : Field) (v i j : Nat) : (d.maxF f v i j).queues = d.queues := Dev.queues_of_core (Dev.core_maxF d f v i j)
@[simp] theorem Dev.windows_maxF (d : Dev) (f : Field) (v i j : Nat) : (d.maxF f v i j).windows = d.windows := Dev.windows_of_core (Dev.core_maxF d f v i j)
@[simp] theorem Dev.journal_maxF (d : Dev) (f : Field) (v i j : Nat) : (d.maxF f v i j).journal = d.journal := Dev.journal_of_core (Dev.core_maxF d f v i j)
@[simp] theorem Dev.held_maxF (d : Dev) (f : Field) (v i j : Nat) : (d.maxF f v i j).held = d.held := Dev.held_of_core (Dev.core_maxF d f v i j)
@[simp] theorem Dev.spiOut_maxF (d : Dev) (f : Field) (v i j : Nat) : (d.maxF f v i j).spiOut = d.spiOut := Dev.spiOut_of_core (Dev.core_maxF d f v i j)
@[simp] theorem Dev.replaying_maxF (d : Dev) (f : Field) (v i j : Nat) : (d.maxF f v i j).replaying = d.replaying := Dev.replaying_of_core (Dev.core_maxF d f v i j)
@[simp] theorem Dev.crcExpect_maxF (d : Dev) (f : Field) (v i j : Nat) : (d.maxF f v i j).crcExpect = d.crcExpect := Dev.crcExpect_of_core (Dev.core_maxF d f v i j)
@[simp] theorem Dev.time_maxF (d : Dev) (f : Field) (v i j : Nat) : (d.maxF f v i j).time = d.time := Dev.time_of_core (Dev.core_maxF d f v i j)
@[simp] theorem Dev.flash_maxF (d : Dev) (f : Field) (v i j : Nat) : (d.maxF f v i j).flash = d.flash := Dev.flash_of_core (Dev.core_maxF d f v i j)
@[simp] theorem Dev.stage_maxF (d : Dev) (f : Field) (v i j : Nat) : (d.maxF f v i j).stage = d.stage := Dev.stage_of_core (Dev.core_maxF d f v i j)
@[simp] theorem Dev.almCommitted_maxF (d : Dev) (f : Field) (v i j : Nat) : (d.maxF f v i j).almCommitted = d.almCommitted := Dev.almCommitted_of_core (Dev.core_maxF d f v i j)
@[simp] theorem Dev.flashJob_maxF (d : Dev) (f : Field) (v i j : Nat) : (d.maxF f v i j).flashJob = d.flashJob := Dev.flashJob_of_core (Dev.core_maxF d f v i j)
@[simp] theorem Dev.therm_maxF (d : Dev) (f : Field) (v i j : Nat) : (d.maxF f v i j).therm = d.therm := Dev.therm_of_core (Dev.core_maxF d f v i j)
@[simp] theorem Dev.lanes_maxF (d : Dev) (f : Field) (v i j : Nat) : (d.maxF f v i j).lanes = d.lanes := Dev.lanes_of_core (Dev.core_maxF d f v i j)
@[simp] theorem Dev.bundles_maxF (d : Dev) (f : Field) (v i j : Nat) : (d.maxF f v i j).bundles = d.bundles := Dev.bundles_of_core (Dev.core_maxF d f v i j)
@[simp] theorem Dev.merged_maxF (d : Dev) (f : Field) (v i j : Nat) : (d.maxF f v i j).merged = d.merged := Dev.merged_of_core (Dev.core_maxF d f v i j)
@[simp] theorem Dev.chans_maxF (d : Dev) (f : Field) (v i j : Nat) : (d.maxF f v i j).chans = d.chans := Dev.chans_of_core (Dev.core_maxF d f v i j)
@[simp] theorem Dev.tasks_maxF (d : Dev) (f : Field) (v i j : Nat) : (d.maxF f v i j).tasks = d.tasks := Dev.tasks_of_core (Dev.core_maxF d f v i j)
@[simp] theorem Dev.alm_maxF (d : Dev) (f : Field) (v i j : Nat) : (d.maxF f v i j).alm = d.alm := Dev.alm_of_core (Dev.core_maxF d f v i j)
@[simp] theorem Dev.almUser_maxF (d : Dev) (f : Field) (v i j : Nat) : (d.maxF f v i j).almUser = d.almUser := Dev.almUser_of_core (Dev.core_maxF d f v i j)
@[simp] theorem Dev.twin_maxF (d : Dev) (f : Field) (v i j : Nat) : (d.maxF f v i j).twin = d.twin := Dev.twin_of_core (Dev.core_maxF d f v i j)
@[simp] theorem Dev.ring_maxF (d : Dev) (f : Field) (v i j : Nat) : (d.maxF f v i j).ring = d.ring := Dev.ring_of_core (Dev.core_maxF d f v i j)
@[simp] theorem Dev.caches_maxF (d : Dev) (f : Field) (v i j : Nat) : (d.maxF f v i j).caches = d.caches := Dev.caches_of_core (Dev.core_maxF d f v i j)
@[simp] theorem Dev.given_maxF (d : Dev) (f : Field) (v i j : Nat) : (d.maxF f v i j).given = d.given := Dev.given_of_core (Dev.core_maxF d f v i j)
@[simp] theorem Dev.keptCaptures_maxF (d : Dev) (f : Field) (v i j : Nat) : (d.maxF f v i j).keptCaptures = d.keptCaptures := Dev.keptCaptures_of_core (Dev.core_maxF d f v i j)
@[simp] theorem Dev.recqs_maxF (d : Dev) (f : Field) (v i j : Nat) : (d.maxF f v i j).recqs = d.recqs := Dev.recqs_of_core (Dev.core_maxF d f v i j)
@[simp] theorem Dev.segs_maxF (d : Dev) (f : Field) (v i j : Nat) : (d.maxF f v i j).segs = d.segs := Dev.segs_of_core (Dev.core_maxF d f v i j)
@[simp] theorem Dev.vigilSegs_maxF (d : Dev) (f : Field) (v i j : Nat) : (d.maxF f v i j).vigilSegs = d.vigilSegs := Dev.vigilSegs_of_core (Dev.core_maxF d f v i j)
@[simp] theorem Dev.binds_maxF (d : Dev) (f : Field) (v i j : Nat) : (d.maxF f v i j).binds = d.binds := Dev.binds_of_core (Dev.core_maxF d f v i j)
@[simp] theorem Dev.decs_maxF (d : Dev) (f : Field) (v i j : Nat) : (d.maxF f v i j).decs = d.decs := Dev.decs_of_core (Dev.core_maxF d f v i j)
@[simp] theorem Dev.hbm_maxF (d : Dev) (f : Field) (v i j : Nat) : (d.maxF f v i j).hbm = d.hbm := Dev.hbm_of_core (Dev.core_maxF d f v i j)
@[simp] theorem Dev.eth_maxF (d : Dev) (f : Field) (v i j : Nat) : (d.maxF f v i j).eth = d.eth := Dev.eth_of_core (Dev.core_maxF d f v i j)
@[simp] theorem Dev.ptp_maxF (d : Dev) (f : Field) (v i j : Nat) : (d.maxF f v i j).ptp = d.ptp := Dev.ptp_of_core (Dev.core_maxF d f v i j)
@[simp] theorem Dev.prev_maxF (d : Dev) (f : Field) (v i j : Nat) : (d.maxF f v i j).prev = d.prev := Dev.prev_of_core (Dev.core_maxF d f v i j)
@[simp] theorem Dev.audio_maxF (d : Dev) (f : Field) (v i j : Nat) : (d.maxF f v i j).audio = d.audio := Dev.audio_of_core (Dev.core_maxF d f v i j)
@[simp] theorem Dev.winTabs_maxF (d : Dev) (f : Field) (v i j : Nat) : (d.maxF f v i j).winTabs = d.winTabs := Dev.winTabs_of_core (Dev.core_maxF d f v i j)
@[simp] theorem Dev.dmaLast_maxF (d : Dev) (f : Field) (v i j : Nat) : (d.maxF f v i j).dmaLast = d.dmaLast := Dev.dmaLast_of_core (Dev.core_maxF d f v i j)
@[simp] theorem Dev.pcs_maxF (d : Dev) (f : Field) (v i j : Nat) : (d.maxF f v i j).pcs = d.pcs := Dev.pcs_of_core (Dev.core_maxF d f v i j)
@[simp] theorem Dev.nextOrder_maxF (d : Dev) (f : Field) (v i j : Nat) : (d.maxF f v i j).nextOrder = d.nextOrder := Dev.nextOrder_of_core (Dev.core_maxF d f v i j)
@[simp] theorem Dev.nextToken_maxF (d : Dev) (f : Field) (v i j : Nat) : (d.maxF f v i j).nextToken = d.nextToken := Dev.nextToken_of_core (Dev.core_maxF d f v i j)
@[simp] theorem Dev.fresh_maxF (d : Dev) (f : Field) (v i j : Nat) : (d.maxF f v i j).fresh = d.fresh := Dev.fresh_of_core (Dev.core_maxF d f v i j)
@[simp] theorem Dev.hbMiss_maxF (d : Dev) (f : Field) (v i j : Nat) : (d.maxF f v i j).hbMiss = d.hbMiss := Dev.hbMiss_of_core (Dev.core_maxF d f v i j)
@[simp] theorem Dev.power_maxF (d : Dev) (f : Field) (v i j : Nat) : (d.maxF f v i j).power = d.power := Dev.power_of_core (Dev.core_maxF d f v i j)
@[simp] theorem Dev.clock_maxF (d : Dev) (f : Field) (v i j : Nat) : (d.maxF f v i j).clock = d.clock := Dev.clock_of_core (Dev.core_maxF d f v i j)
@[simp] theorem Dev.modeJob_maxF (d : Dev) (f : Field) (v i j : Nat) : (d.maxF f v i j).modeJob = d.modeJob := Dev.modeJob_of_core (Dev.core_maxF d f v i j)
@[simp] theorem Dev.modeWait_maxF (d : Dev) (f : Field) (v i j : Nat) : (d.maxF f v i j).modeWait = d.modeWait := Dev.modeWait_of_core (Dev.core_maxF d f v i j)
@[simp] theorem Dev.warmAsk_maxF (d : Dev) (f : Field) (v i j : Nat) : (d.maxF f v i j).warmAsk = d.warmAsk := Dev.warmAsk_of_core (Dev.core_maxF d f v i j)
@[simp] theorem Dev.warmByCmd_maxF (d : Dev) (f : Field) (v i j : Nat) : (d.maxF f v i j).warmByCmd = d.warmByCmd := Dev.warmByCmd_of_core (Dev.core_maxF d f v i j)
@[simp] theorem Dev.released_maxF (d : Dev) (f : Field) (v i j : Nat) : (d.maxF f v i j).released = d.released := Dev.released_of_core (Dev.core_maxF d f v i j)
@[simp] theorem Dev.resumeMode_maxF (d : Dev) (f : Field) (v i j : Nat) : (d.maxF f v i j).resumeMode = d.resumeMode := Dev.resumeMode_of_core (Dev.core_maxF d f v i j)
@[simp] theorem Dev.pwrok_maxF (d : Dev) (f : Field) (v i j : Nat) : (d.maxF f v i j).pwrok = d.pwrok := Dev.pwrok_of_core (Dev.core_maxF d f v i j)
@[simp] theorem Dev.awaitBme_maxF (d : Dev) (f : Field) (v i j : Nat) : (d.maxF f v i j).awaitBme = d.awaitBme := Dev.awaitBme_of_core (Dev.core_maxF d f v i j)
@[simp] theorem Dev.perst_maxF (d : Dev) (f : Field) (v i j : Nat) : (d.maxF f v i j).perst = d.perst := Dev.perst_of_core (Dev.core_maxF d f v i j)
@[simp] theorem Dev.perts_maxF (d : Dev) (f : Field) (v i j : Nat) : (d.maxF f v i j).perts = d.perts := Dev.perts_of_core (Dev.core_maxF d f v i j)
@[simp] theorem Dev.life_maxF (d : Dev) (f : Field) (v i j : Nat) : (d.maxF f v i j).life = d.life := Dev.life_of_core (Dev.core_maxF d f v i j)
@[simp] theorem Dev.shadows_maxF (d : Dev) (f : Field) (v i j : Nat) : (d.maxF f v i j).shadows = d.shadows := Dev.shadows_of_core (Dev.core_maxF d f v i j)
@[simp] theorem Dev.spiIn_maxF (d : Dev) (f : Field) (v i j : Nat) : (d.maxF f v i j).spiIn = d.spiIn := Dev.spiIn_of_core (Dev.core_maxF d f v i j)
@[simp] theorem Dev.spiRefused_maxF (d : Dev) (f : Field) (v i j : Nat) : (d.maxF f v i j).spiRefused = d.spiRefused := Dev.spiRefused_of_core (Dev.core_maxF d f v i j)
@[simp] theorem Dev.msixTable_maxF (d : Dev) (f : Field) (v i j : Nat) : (d.maxF f v i j).msixTable = d.msixTable := Dev.msixTable_of_core (Dev.core_maxF d f v i j)

end Sys2Proof.Machine
end

