-- ==== Sys2Proof/Tests/Slice0.lean ====
section
/-! SUPPORT. Small states that meet the hypotheses of the statements, clause by clause, and tests of single commands. -/
namespace Sys2Proof.Tests
set_option Elab.async false
open Machine

/-- A running device in mode `m`. -/
def up (m : Nat) : Dev := (({ phase := .run } : Dev).setF F.KEEPER_MODE_MODE m).setFlag F.CMD_STATUS_READY true

/-- A running device in Maintenance, with some time on its timebase. -/
def maint : Dev := (up 5).setF F.TB_NS 5

/-- A client over PCIe. -/
def host : Ctx := { client := 63, tag := 9 }

/-! ### Timebase -/

def stepped : Dev := maint.setF F.TB_STEP_LO 77
theorem meets_timebase : stepped.awake ∧ stepped.stepAllowed (sext 48 (stepped.getF F.TB_STEP_LO + 2 ^ 32 * (3 % 65536))) = true ∧
    maint.canRun host (jobTimeStep host (-6)) ∧ maint.canRun host (jobTimeSetIncrement host 0x04000010) := by decide +kernel

def armed : Dev := (maint.putGen 3 { mode := 1, pin := true, target := 3, width := 8 }).armGen 3 true
theorem meets_pulses : maint.awake ∧ maint.time.gens.length = 8 ∧ maint.canRun host (jobPulseProgram host 7 1 5 9 4000 0 0) ∧
    armed.genDue 3 = true ∧ (armed.gen 3).mode = 1 ∧ (armed.gen 3).pin = true ∧ armed.time.gens.length = 8 := by decide +kernel

def late : Dev := (((maint.setF F.TB_DISC_SRC 2).setF F.TB_DISC_STATE 2).setF F.TB_NS 2000000000).putTime { maint.time with refs := [{}, { good := some 7 }] }
def offRate : Dev := late.setF F.TB_DISC_STATE 4
def stamps : Dev := (maint.setFlag F.TB_CTRL_TSQ_OWNER true).putTime { maint.time with tsq := [[], [⟨1, 2, 3, 4⟩, ⟨5, 6, 7, 8⟩]] }
theorem meets_references : late.time.refs.length = 2 ∧ late.getF F.TB_DISC_SRC = 2 ∧ late.getF F.TB_DISC_STATE = 2 ∧
    (getAt {} late.time.refs 1).good = some 7 ∧ late.refWindow.2 < (((late.ns + 2 ^ 32 - 7) % 2 ^ 32 : Nat) : Int) * 1000000 ∧
    offRate.awake ∧ offRate.getF F.TB_DISC_STATE = 4 ∧ offRate.getF F.TB_DISC_SRC < 4 ∧ offRate.getF F.TB_DISC_ACCEPT < 2 ∧
    offRate.getF F.TB_DISC_WINDOW_PPM < 256 ∧ offRate.getF F.TB_DISC_REF_DIV < 65536 ∧
    stamps.awake ∧ stamps.flag F.TB_CTRL_TSQ_OWNER = true ∧ stamps.time.tsq.length = 2 := by decide +kernel

def finished : Dev := maint.setFlag F.CRC_CTRL_FINISHED true 3
theorem meets_checks : maint.awake ∧ maint.getF F.CRC_CTRL_EXP_SEL 6 < 2 ∧ maint.getF F.CRC_CTRL_INT_EN 6 < 2 ∧
    maint.getF F.CRC_CTRL_POLY 6 < 4 ∧ maint.getF F.CRC_CTRL_GUARD_LEN 6 < 3 ∧ maint.flag F.CRC_CTRL_FINISHED 6 = false ∧
    finished.awake ∧ finished.flag F.CRC_CTRL_FINISHED 3 = true := by decide +kernel

/-! ### Perturbation -/

/-- The parameters of a PERTURB-SET of kind `k`. -/
def pertBlock (k enable t : Nat) : List Byte := leBytes 1 k ++ leBytes 1 enable ++ leBytes 14 0 ++ leBytes 4 t ++ leBytes 20 0
def perturbing : Dev := { ((maint.setFlag F.PERTURB_K_CFG_EN true 4).pertActive 4 true).setF F.PERTURB_K_DURATION 1 4 with tick := 250 }
def waiting : Dev := maint.setFlag F.PERTURB_K_CFG_EN true 4
theorem meets_perturb : psEnable (pertBlock 4 1 3) = true ∧ maint.canRun host (rawJob (jobPerturbSet host (pertBlock 4 1 3)) (pertBlock 4 1 3)) ∧
    psEnable (pertBlock 4 0 3) = false ∧ maint.canRun host (rawJob (jobPerturbSet host (pertBlock 4 0 3)) (pertBlock 4 0 3)) ∧
    maint.canRun host (jobPerturbClear host 0x10) ∧ maint.mode = 5 ∧ maint.awake ∧
    pertRangesOk 4 (maint.pertTarget 4) (maint.pertP0 4) (maint.pertP1 4) = true ∧
    waiting.flag F.PERTURB_K_CFG_EN 4 = true ∧ waiting.injecting 4 = false ∧ waiting.perts.length = 7 ∧
    0 ≤ diff32 waiting.ns (waiting.getF F.PERTURB_K_START 4) ∧
    perturbing.injecting 4 = true ∧ perturbing.getF F.PERTURB_K_DURATION 4 ≠ 0 ∧
    (perturbing.pert 4).since + 250 * perturbing.getF F.PERTURB_K_DURATION 4 ≤ perturbing.tick := by decide +kernel

/-! ### Record queues -/

/-- A device whose region of a purpose has 256 MiB in one store group. -/
def withRegion (purpose : Nat) (d : Dev) : Dev :=
  (((d.setFlag F.MEM_REGION_CFG_VALID true 0 purpose).setF F.MEM_REGION_CFG_PURPOSE purpose 0 purpose).setF F.MEM_REGION_CFG_MASK 1 0 purpose).setF
    F.MEM_REGION_MAP_PC_LEN 1 0 purpose

/-- The parameters of a RECORD-BIND of queue 15 and channels 0 and 1. -/
def bindBlock : List Byte := leBytes 1 15 ++ leBytes 1 0 ++ leBytes 1 0xFF ++ leBytes 1 0 ++ leBytes 2 4 ++ leBytes 2 1 ++ leBytes 4 65536 ++ leBytes 20 0 ++
  leBytes 1 3 ++ leBytes 31 0
def reader : Ctx := { host with rd := { bytes := leBytes 4 16 ++ leBytes 12 0 } }
def segment : Segment := { kind := 0, stream := 0, flags := 0, seq := 1, first := 0, last := 0, lineage := 0, len := 100, blocks := 1, streamId := 0 }
def bound : Dev := maint.setFlag F.XLAT_RECQ_STATE_BOUND true 15
def ready : Dev := bound.putRecq 15 { params := bindBlock, segs := [segment] }
def writing : Dev := bound.putRecq 15 { params := bindBlock, segs := [segment], written := true }
theorem meets_records : (withRegion 3 maint).canRun reader (rawJob (jobRecordBind reader bindBlock) bindBlock) ∧ rbAppend bindBlock = false ∧
    bound.canRun host (jobRecordUnbind host 15) ∧ (bound.recq 15).segs = [] ∧ bound.flag F.XLAT_RECQ_STATE_FAULTED 15 = false ∧ bound.segs = [] ∧
    ready.canRun host (jobRecordUnbind host 15) ∧ (ready.recq 15).segs ≠ [] ∧ ready.flag F.XLAT_RECQ_STATE_FAULTED 15 = false ∧
    (bound.setFlag F.XLAT_RECQ_STATE_FAULTED true 15).flag F.XLAT_RECQ_STATE_FAULTED 15 = true ∧ (bound.setFlag F.XLAT_RECQ_STATE_FAULTED true 15).awake ∧
    ready.phase = .run ∧ ready.recqReady 15 = true ∧ ready.recqNext 15 = true ∧ ready.recqBusy = [] ∧ ready.stalled 2 15 = false ∧
    (writing.recq 15).segs = [segment] ∧ (writing.recq 15).written = true ∧ writing.recqBusy = [15] ∧ (writing.recq 15).drain = none := by decide +kernel

/-! ### Power and clocks -/

def fencedEngine : Dev := { maint.setFlag F.PWR_DOM_FENCED true 127 with fences := [(3, 127)] }
def alarmed : Dev := { maint with power := { alarms := [(182, 0)] } }
def waking : Dev := ({ maint with tick := 40000, power := { wakes := [(127, 0)] } }).setFlag F.PWR_DOM_CHANGING true 127
def locked : Dev := maint.setF F.CLK_PLL_LOCK 0x1FFFF
def restarting : Dev := { maint with clock := { restarts := [16] } }
def qualifying : Dev := { ((maint.setFlag F.AUDIO_CTRL_AMCLK_EN true).setF F.CLK_QSTATE_STATE 1 2) with tick := ticks60s }
theorem meets_power : fencedEngine.canRun host (jobFenceClear host 3 127 none) ∧ fencedEngine.phase = .run ∧
    fencedEngine.flag F.PWR_DOM_FENCED 127 = true ∧ assoc alarmed.power.alarms 182 = some 0 ∧ alarmed.flag F.PWR_DOM_FENCED 182 = false ∧
    assoc waking.power.wakes 127 = some 0 ∧ waking.flag F.PWR_DOM_CHANGING 127 = true ∧
    2 * wakeNs (waking.domState 127) ≤ 4 * (waking.tick - 0) ∧ domUnit 127 = some (3, 127) ∧
    locked.phase = .run ∧ bit (locked.getF F.CLK_PLL_LOCK) 1 = true ∧ bit (locked.getF F.CLK_PLL_LOCK) 15 = true ∧
    restarting.clock.restarts.contains 16 = true ∧ qualifying.refEnabled 2 = true ∧ qualifying.phase = .run ∧
    qualifying.getF F.CLK_QSTATE_STATE 2 = 1 ∧ getAt 0 qualifying.clock.since 2 + ticks60s ≤ qualifying.tick ∧
    qualifying.flag F.CLK_QSTATE_QUAL_SLOW 2 = false := by decide +kernel

/-! ### Lanes, bundles and lines -/

/-- Bundle 15 in a state, with all eight lanes enabled. -/
def bundleIn (st : Nat) (d : Dev) : Dev := (d.setF F.BUNDLE_STATE_STATE st 15).putBundle 15 { d.bundle 15 with laneEn := 0xFF }

/-- A good marker of lane 127 with MCOUNT 7. -/
def markerWord (lane : Nat) : BitVec 64 :=
  let w := 0x2D3 + 2 ^ 10 * lane + 2 ^ 32 * 7
  BitVec.ofNat 64 (w + 2 ^ 48 * crcWord48 w)
def listening : Dev := (bundleIn 5 maint).setFlag F.SL_STATUS_MARKER_LOCK true 127
def noisy : Dev := listening.putLane 127 { violations := 16 }
def lostLane : Dev := (listening.setFlag F.SL_STATUS_LOST true 127).putBundle 15 { listening.bundle 15 with gap := true }
def lostLong : Dev := { (listening.setFlag F.SL_STATUS_LOST true 127) with tick := 25000000 }
def retrying (k : Nat) : Dev := { (((bundleIn 5 maint).setF F.SL_STATUS_ATTEMPTS k 127).putLane 127 { attempt := true }) with tick := ticks10ms }
theorem meets_lanes : listening.laneListens 127 = true ∧ markerGood (markerWord 127).toNat = true ∧ listening.inSlot 127 8192 = true ∧ listening.flag F.SL_STATUS_MARKER_LOCK 127 = true ∧
    bit (listening.bundle (127 / 8)).slots (127 % 8) = false ∧ listening.ctr C.SL_MARKER_ERR 127 < C.SL_MARKER_ERR.max ∧
    listening.canBeLost 127 = true ∧ listening.flag F.SL_STATUS_FENCED 127 = false ∧ listening.laneReceives 127 = true ∧
    (listening.lane 127).violations < 16 ∧ 16 ≤ (noisy.lane 127).violations ∧ noisy.laneReceives 127 = true ∧ noisy.canBeLost 127 = true ∧
    lostLane.bundleState (127 / 8) = 5 ∧ lostLane.flag F.SL_STATUS_LOST 127 = true ∧ lostLane.flag F.SL_STATUS_FENCED 127 = false ∧
    lostLane.flag F.SL_STATUS_MISWIRED 127 = false ∧ (lostLane.lane 127).attempt = false ∧ (lostLane.bundle (127 / 8)).gap = true ∧
    (lostLane.bundle (127 / 8)).gapTick = lostLane.tick ∧ lostLong.passed (lostLong.lane 127).lostTick 25000000 ∧
    (retrying 1).passed ((retrying 1).lane 127).attemptTick ticks10ms ∧ (retrying 2).passed ((retrying 2).lane 127).attemptTick ticks10ms ∧
    ((retrying 1).lane 127).attempt = true ∧ (retrying 1).getF F.SL_STATUS_ATTEMPTS 127 < 2 ∧
    ((retrying 2).lane 127).attempt = true ∧ 2 ≤ (retrying 2).getF F.SL_STATUS_ATTEMPTS 127 := by decide +kernel

def trained (st : Nat) : Dev := { bundleIn st maint with tick := 2500000 }
theorem meets_bundles : maint.canRun host (jobBundleConfigure host 15 15 0xF07F 7 0x3C80 [1]) ∧ maint.canRun host (jobBundleTrain host 15) ∧
    (trained 2).bundleState 15 = 2 ∧ (trained 2).passed ((trained 2).bundle 15).stateTick ticks10ms ∧ (trained 6).bundleState 15 = 6 ∧
    (trained 6).passed ((trained 6).bundle 15).waitTick (250000 * backoffMs ((trained 6).getF F.BUNDLE_STATE_FAILS 15)) ∧
    (((bundleIn 5 maint).setFlag F.BUNDLE_TALKBACK_EN true 15).setF F.BUNDLE_TALKBACK_TYPE 3 15).talks 15 = true ∧
    (((bundleIn 5 maint).setFlag F.BUNDLE_TALKBACK_EN true 15).setF F.BUNDLE_TALKBACK_TYPE 3 15).getF F.BUNDLE_TALKBACK_TYPE 15 ≠ 0 := by decide +kernel

/-! ### Lines -/

/-- A list of bytes with a little-endian field (offset, length, value) put into it. -/
def putBytes (l : List Byte) (f : Nat × Nat × Nat) : List Byte := l.take f.1 ++ leBytes f.2.1 f.2.2 ++ l.drop (f.1 + f.2.1)

/-- The parameters of a channel of class `cls`: 128 × 128 at 1 picture/s from bundle 15. -/
def chanBlock (n cls : Nat) : List Byte :=
  [(0, 1, n), (1, 1, cls), (4, 1, 255), (8, 1, 1), (9, 1, 15), (26, 2, 128), (28, 2, 128), (32, 4, 1), (36, 4, 1), (53, 1, 4), (59, 1, 1), (62, 1, 51),
    (64, 4, 4000000000), (68, 4, 4000000000), (72, 4, 4000000000), (76, 4, 60)].foldl putBytes (List.replicate 128 0)

/-- A device whose channel 127 has a state. -/
def chanIn (st : Nat) (c : Chan) (d : Dev) : Dev := { d.setF F.CHAN_STATE_STATE st 127 with chans := [(127, c)] }
def taking : Dev := chanIn 2 { params := chanBlock 127 0 } ((up 2).setF F.BUNDLE_STATE_STATE 5 15)
def packet : List LineWord :=
  let w := 0xA5C + 2 ^ 12 * 127
  let h := w + 2 ^ 48 * crcWord48 w
  [⟨h, false⟩, ⟨3, false⟩, ⟨9, false⟩, ⟨lineCheck 127 3 0 [h, 3, 9], false⟩]
theorem meets_packet : taking.phase = .run ∧ taking.bundleState 15 = 5 ∧ headerValid (lineHead packet) = true ∧
    taking.takesLines (bits (lineHead packet) 12 7) = true ∧ bundleIndex (taking.chan (bits (lineHead packet) 12 7)).params 15 = some 0 ∧
    taking.packetCase 15 packet = .place 3 0 false false false ∧ taking.flag F.BUNDLE_FRONT_CTRL_CONVERT_EN 15 = false ∧
    (taking.bundle 15).words0 + (taking.bundle 15).words1 + packet.length + 3 ≤ 2 * bankWords := by decide +kernel

def fifoLine : FifoLine := { channel := 127, picture := 3, line := 0, words := 4, side := [], pixels := [9] }
def lineRec : LineRec := { line := 0, bundle := 15, placed := true, damaged := false, committed := false, side := [], pixels := [9] }
def held : Pic := { index := 3, lines := [lineRec], committedFirst := some 0 }
def committing : Dev :=
  (chanIn 2 { params := chanBlock 127 0, pics := [held] } (up 2)).putBundle 15 { fifo := [fifoLine], words0 := 4 }
def complete : Pic := { index := 3, closed := true, lines := [{ lineRec with committed := true }], committedFirst := some 0 }
def old : Dev := { (chanIn 2 { params := chanBlock 127 0, pics := [{ held with firstTick := some 0 }] } (up 2)) with tick := 500000000 }
def accepting : Dev := chanIn 2 { params := chanBlock 127 0, pics := [complete] } (up 2)
theorem meets_lines : (committing.bundle 15).fifo = [fifoLine] ∧ committing.stalled 0 15 = false ∧ committing.chanState 127 ≠ 0 ∧
    (committing.chan 127).pic 3 = some held ∧ held.committedFirst ≠ none ∧
    (committing.setF F.CHAN_STATE_STATE 0 127).chanState 127 = 0 ∧ fifoLine.fragment = false ∧
    old.mode = 2 ∧ old.twoPeriods 127 3 = true ∧ (accepting.chan 127).waits 3 = false ∧
    (accepting.chan 127).pic 3 = some complete ∧ complete.accepted = false ∧ complete.cut = false ∧
    (∀ x ∈ complete.lines, x.committed = true) ∧
    (∀ q ∈ (accepting.chan 127).pics, q.index < 3 → q.accepted = true ∨ q.cut = true ∨ q.released = true) ∧
    (accepting.chan 127).stopping = none := by decide +kernel

/-! ### The lanes of the links -/

/-- A link in a state, its lanes locked as a mask says. -/
def linkIn (ring : Bool) (st locked : Nat) (l : LinkSt) : Dev := (maint.putLink ring l).showLink ring locked 0 st
def twinLinkLost : Dev := linkIn false 5 0 { lost := 8, lanes := [{}, {}, {}, {}] }
def linkLater (ring : Bool) (st : Nat) : Dev := { linkIn ring st 0 {} with tick := 2500000 }
def linkTrying : Dev := { linkIn true 5 0 { lanes := [{}, { attempt := true }] } with tick := ticks10ms }
theorem meets_links :
    1 < ((linkIn true 1 0 {}).link true).lanes.length ∧ 3 < ((linkIn false 1 0 {}).link false).lanes.length ∧
    (linkIn true 1 0 {}).linkListens true 1 = true ∧ markerGood (markerWord 1).toNat = true ∧ bits (markerWord 1).toNat 10 7 = 1 ∧
    bit ((linkIn true 1 0 {}).link true).slots 1 = false ∧ (linkIn true 1 0 {}).linkLocked true = 0 ∧
    (linkIn false 1 9 {}).linkListens false 3 = true ∧ bit ((linkIn false 1 9 {}).linkLocked false) 3 = true ∧
    setBit ((linkIn false 1 9 {}).link false).slots 3 &&& (linkIn false 1 9 {}).linkLocked false ≠ (linkIn false 1 9 {}).linkLocked false ∧
    (((linkIn false 1 9 {}).link false).lane 3).miss < 3 ∧ (((linkIn false 1 9 {}).link false).lane 3).violations < 16 ∧
    (linkLater true 3).linkState true = 3 ∧ (linkLater true 3).passed ((linkLater true 3).link true).stateTick ticks10ms ∧
    (linkLater false 6).linkState false = 6 ∧
    (linkLater false 6).passed ((linkLater false 6).link false).waitTick (250000 * backoffMs ((linkLater false 6).link false).fails) ∧
    linkTrying.passed ((linkTrying.link true).lane 1).attemptTick ticks10ms ∧
    twinLinkLost.linkState false = 5 ∧ bit (twinLinkLost.link false).lost 3 = true ∧ ((twinLinkLost.link false).lane 3).attempt = false ∧
    getAt 0 (twinLinkLost.link false).attempts 3 < 3 ∧
    (({ twinLinkLost with tick := 25000000 } : Dev).link false |>.lane 3).lostTick + 25000000 ≤ ({ twinLinkLost with tick := 25000000 } : Dev).tick ∧
    ((linkTrying.link true).lane 1).attempt = true := by decide +kernel

/-! ### Channels -/

/-- A device with big store and reconstruction regions, channel 127 in state `st`. -/
def roomAt (st : Nat) : Dev := chanIn st { params := chanBlock 127 0 } (((((withRegion 1 (withRegion 2 maint)).setF F.MEM_REGION_MAP_PC_LEN 63 0 1).setF F.MEM_REGION_CFG_MASK 0xFF 0 1).setF
  F.MEM_REGION_MAP_PC_LEN 63 0 2).setF F.MEM_REGION_CFG_MASK 0xFF 0 2)
theorem roomAt_reconOk (st : Nat) (h : st = 0 ∨ st = 1 ∨ st = 2) (p : List Byte) : (roomAt st).reconOk 127 p = true := by
  have a : (roomAt st).purposeBytes 2 = 63 * 2 ^ 24 * 16 * 8 := by rcases h with rfl | rfl | rfl <;> decide +kernel
  have e : (roomAt st).others 127 = [] := by rcases h with rfl | rfl | rfl <;> decide +kernel
  have l := (Config.reconBytes p).isLt
  simp only [Dev.reconOk, a, e, List.map_nil, List.foldl_nil, decide_eq_true_eq]
  omega
theorem roomAt_bufferOk (st : Nat) : (roomAt st).bufferOk (chanBlock 127 0) = true := by
  have l := (Config.overheadBits (chanBlock 127 0) true).isLt
  have a : (roomAt st).rowCost (chanBlock 127 0) true (64 * pSideMax (chanBlock 127 0)) = 576 := by
    show (chanIn 0 {} maint).rowCost (chanBlock 127 0) true (64 * pSideMax (chanBlock 127 0)) = 576
    decide +kernel
  have b : pRows (chanBlock 127 0) = 2 ∧ pRateNum (chanBlock 127 0) = 1 ∧ pRateDen (chanBlock 127 0) = 1 ∧ rSig (chanBlock 127 0) = 4000000000000 ∧
    bSig (chanBlock 127 0) = 4000000000000 := by decide +kernel
  simp only [Dev.bufferOk, Dev.wMax, overhead, a, b, Bool.and_eq_true, decide_eq_true_eq]
  omega
theorem roomAt_checks (st : Nat) (reconf : Bool) (h : st = 0 ∨ st = 1 ∨ st = 2) : (roomAt st).openChecks 127 (chanBlock 127 0) reconf = none := by
  have k := roomAt_reconOk st h (chanBlock 127 0)
  have b := roomAt_bufferOk st
  unfold Dev.openChecks
  rcases h with rfl | rfl | rfl <;> cases reconf <;>
  · rw [if_neg (by decide +kernel), if_neg (by decide +kernel), if_neg (by rw [b]; decide +kernel), if_neg (by decide +kernel), if_neg (by decide +kernel),
      if_neg (by decide +kernel), if_neg (by decide +kernel), if_neg (by decide +kernel), if_neg (by decide +kernel), if_neg (by rw [k]; decide +kernel),
      if_neg (by decide +kernel)]
theorem meets_openChannel : (roomAt 0).canRun host (rawJob (jobOpenChannel host (chanBlock 127 0)) (chanBlock 127 0)) := by
  refine ⟨by decide +kernel, by decide +kernel, ?_, by decide⟩
  have a : reservedClear 0x0201 (chanBlock 127 0) = true := by decide +kernel
  have b : pChannel (chanBlock 127 0) = 127 := by decide +kernel
  have c : (roomAt 0).chanState 127 = 0 := by decide +kernel
  simp only [rawJob, rawCheck, jobOpenChannel, chkOpenChannel, a, b, c, roomAt_checks 0 false (.inl rfl)]
  decide
theorem meets_reconfigure (st : Nat) (h : st = 1 ∨ st = 2) : (roomAt st).canRun host (rawJob (jobReconfigure host (chanBlock 127 0)) (chanBlock 127 0)) ∧
    (roomAt st).chanState 127 = st ∧ (roomAt st).proposes 127 = false := by
  have a : reservedClear 0x0205 (chanBlock 127 0) = true := by decide +kernel
  have b : pChannel (chanBlock 127 0) = 127 := by decide +kernel
  have k := roomAt_checks st true (.inr h)
  rcases h with rfl | rfl
  · have c : (roomAt 1).chanState 127 = 1 := by decide +kernel
    refine ⟨⟨by decide +kernel, by decide +kernel, ?_, by decide⟩, c, by decide +kernel⟩
    simp only [rawJob, rawCheck, jobReconfigure, chkReconfigure, a, b, c, k]
    decide
  · have c : (roomAt 2).chanState 127 = 2 := by decide +kernel
    have f : fixedFields (chanBlock 127 0) = fixedFields ((roomAt 2).chan 127).params := by decide +kernel
    refine ⟨⟨by decide +kernel, by decide +kernel, ?_, by decide⟩, c, by decide +kernel⟩
    simp only [rawJob, rawCheck, jobReconfigure, chkReconfigure, a, b, c, k, f, ne_eq, not_true_eq_false, and_false, if_false]
    decide

/-- A picture whose rows have all arrived. -/
def arrived : Pic := { index := 3, accepted := true, closed := true, rows := [{ row := 0, arrival := some 5 }, { row := 1, arrival := some 5 }] }
def started : Dev := chanIn 2 { params := chanBlock 127 0, pics := [arrived] } maint
def starting : Dev := (chanIn 1 { params := chanBlock 127 0 } (up 2)).setF F.CHAN_DELAY_D_US 163 127
def burst (h : Option Harvest) : Dev := chanIn 1 { params := chanBlock 127 1, harvest := h } (withRegion 4 (up 3))
def capture : Harvest := { phase := .armed, slots := 3, pre := 1, post := 2, triggers := 7, gen := 7 }
def keeping : Dev := { burst none with keptCaptures := [(127, { capture with phase := .frozen }, [arrived])] }
theorem meets_channels : (chanIn 1 { params := chanBlock 127 0 } maint).canRun host (jobCloseChannel host 127) ∧
    (chanIn 2 { params := chanBlock 127 0 } maint).canRun host (jobCloseChannel host 127) ∧ started.proposes 127 = false ∧
    starting.canRun host (jobStartChannel host 127) ∧
    started.canRun host (jobStopChannel host 127 0) ∧ (∀ p ∈ (started.chan 127).pics, p.accepted = true) ∧ (started.chan 127).drained = false ∧
    (chanIn 2 {} maint).canRun host (jobStopChannel host 127 1) ∧ started.canRun host (jobForceEquinox host 127) := by decide +kernel
theorem meets_harvest : (burst none).canRun host (jobHarvestArm host 127 0 7 7 3 1 2) ∧ keeping.canRun host (jobHarvestArm host 127 1 7 7 3 1 2) ∧
    (burst (some capture)).canRun host (jobHarvestTrigger host 127) ∧ (burst (some capture)).replaying = false ∧
    (burst (some capture)).canRun host (jobHarvestRelease host 127) ∧ ((burst (some capture)).chan 127).drained = true ∧
    ((burst (some capture)).chan 127).stopping = none ∧ maint.canRun host (jobSelftest host (2 ^ 128 - 1) (2 ^ 127) 9) ∧
    (∀ e ∈ engineMask (2 ^ 128 - 1), maint.runOf e = none) ∧ 127 ∈ engineMask (2 ^ 128 - 1) ∧ bit (2 ^ 127) 127 = true ∧
    maint.fenced 4 (127 / 16) = false ∧ (maint.setF F.PWR_DOM_STATE 0 127).domState 127 = 0 := by decide +kernel

/-! ### Engines and rows -/

/-- Engine 127 in service, with the tasks given. -/
def engines (l : List Task) (d : Dev) : Dev := { (d.setF F.PWR_DOM_STATE 0 127).setF F.ENG_STATE_PHASE 1 127 with tasks := l }

/-- A LIVE task of row 1 of picture 3 of channel 127, with a token and a place. -/
def task (token : Nat) (place : Place) : Task :=
  { rank := 0, order := 0, kind := 0, chan := 127, row := 1, pic := 3, effort := 0, qp := 20, skipBias := false, intra := true, deferred := false,
    conceal := false, resumed := false, token := token, arrival := 5, rescueAt := 1000, departAt := 2000, ref0 := none, ref1 := none, concealSrc := none,
    gen := 0, affinity := none, slot := 3, steal := 0, xsteal := 0, place := place, wait := 0 }
/-- The same of row 0, with its descriptor. -/
def described (place : Place) : Task := (up 2).described { task 7 place with row := 0 }
def queued (place : Place) : Dev := engines [described place] (chanIn 2 { params := chanBlock 127 0, pics := [arrived] } (up 2))
def heldEngine (place : Place) : Dev := engines [described place] ((chanIn 2 { params := chanBlock 127 0, pics := [arrived] } maint).setFlag F.ENG_CTRL_HOLD true 127)
def busy : Dev := engines [{ task 7 (.list 127) with row := 0 }, { task 8 (.run 127) with deferred := true }] (chanIn 2 { params := chanBlock 127 0, pics := [arrived] } (up 2))
def saving : Dev := engines [{ task 8 (.run 127) with deferred := true, saving := true, coarse := 2, progress := 1 }] (up 2)
def coding (r c p : Nat) : Dev :=
  engines [{ task 8 (.run 127) with row := r, coarse := c, progress := p }] (chanIn 2 { params := chanBlock 127 0, pics := [arrived] } (up 2))
theorem meets_engines : maint.awake ∧ maint.getF F.ENG_CTRL_HOLD 127 < 2 ∧ maint.mode = 5 ∧
    (heldEngine (.list 0)).flag F.ENG_CTRL_HOLD (16 * 7 + 15) = true ∧ ((heldEngine (.list 0)).setF F.ENG_STATE_PHASE 0 127).engineIdle (16 * 7 + 15) = false ∧
    (heldEngine (.list 0)).engineIdle (16 * 7 + 15) = true ∧ ((heldEngine (.list 0)).askChoice (16 * 7 + 15)).map (·.token) = some 7 ∧
    ((heldEngine (.list 0)).tasks.map (·.token)).Nodup ∧
    (queued (.list 127)).engineIdle 127 = true ∧ (queued (.list 127)).mustAsk 127 = false ∧ (queued (.list 127)).flag F.ENG_CTRL_HOLD 127 = false ∧
    (queued (.list 127)).stalled 1 (127 / 16) = false ∧ (((queued (.list 127)).listOf 127).find? (queued (.list 127)).eligible).isSome = true ∧
    (queued (.list 0)).slotOf 127 = none ∧ ((queued (.list 0)).listOf 127).any (queued (.list 0)).eligible = false ∧
    (((queued (.list 0)).setFlag F.DISPATCH_CTRL_XSTEAL_EN true 7).stealChoice 127).isSome = true ∧
    ({ queued (.list 127) with fresh := [127] }).mayAsk 127 = true ∧
    busy.anyIdle = false ∧ (busy.liveWaiting 7).map (·.token) = some 7 ∧ busy.preemptible 127 = true ∧ busy.ctxUsed < 1024 ∧
    (saving.runOf 127).map (·.saving) = some true ∧ saving.freeCtx = some 0 ∧
    saving.listRoom (if saving.engineUp 0 then 0 else 127) false = true ∧ descGood (described (.list 127)).desc = true := by decide +kernel
def codingTask (r c p : Nat) : Task := { task 8 (.run 127) with row := r, coarse := c, progress := p }
theorem meets_tokens : (coding 0 0 0).runOf 127 = some (codingTask 0 0 0) ∧ (codingTask 0 0 0).mayPublish true (pCtus ((coding 0 0 0).chan 127).params) = true ∧
    (codingTask 0 2 1).mayPublish false (pCtus ((coding 0 2 1).chan 127).params) = true ∧ (codingTask 1 1 1).mayPublish true 2 = true ∧
    (coding 1 1 1).aboveTokens (codingTask 1 1 1) true < 2 ∧ (coding 0 0 0).fenced 3 127 = false ∧ pCtus ((coding 1 1 1).chan 127).params = 2 ∧
    ctuBound ((coding 0 0 0).taskBlock (codingTask 0 0 0)) 0 0 0 = 2048 := by decide +kernel
/-- A descriptor with a changed byte fails its check (R212). -/
theorem test_descriptor_guard : descGood ((described (.list 0)).desc.set 2 1) = false := by decide +kernel
/-- The effort table (R201): what level 7 keeps. -/
theorem test_effort_line : effortLine 7 =
    ⟨512, 256, 1, 48, 32, 1, false, 2, 16, 64, 16, 4, true, true⟩ := by decide
/-- λ_mode at QpY 12 without I slices is round(256 × 0.68) = 174; at QpY 21 it is 8 times 174.08 (R199). -/
theorem test_lambda : lambdaMode false 12 = 174 ∧ lambdaMode false 21 = 1393 ∧ lambdaMotion false 12 = 211 := by decide +kernel
/-- The lower middle value of an even count (R192), and the ties of the example of R196: −37 and 10 give −64 and 8. -/
theorem test_summary : lowerMedian [9, -3, 4, 7] = some 4 ∧ roundTie (-37) 1 64 = -64 ∧ roundTie 10 1 4 = 8 := by decide
/-- A pyramid sample of 10-bit luma is 8 bits wide (R189). -/
theorem test_pyramid : pyramidSample 10 (fun x y => (100 * x + y).toNat) 1 0 = 138 := by decide +kernel
/-- The K best positions: a better one takes its place in the order of costs and the last one goes (R190). -/
theorem test_keep_best : keepBest 2 (fun v => v.1.natAbs) [(3, (3, 0)), (5, (5, 0))] (4, 0) = [(3, (3, 0)), (4, (4, 0))] := by decide
/-- With INTRA_REFRESH 4 and 8 CTUs a row, picture 5 codes columns 2 and 3 intra, and picture 4 has refreshed 128 columns of samples (R166, R198). -/
theorem test_refresh : (List.range 8).filter (refreshColumn 4 8 5) = [2, 3] ∧ refreshedEdge 4 8 5 4 = 128 := by decide

def planned : PicPlan :=
  { seq := 0, kind := .idr, intra := true, tid := 0, ref0 := none, ref1 := none, conceal := none, effort := 0, equinox := false, discontinuity := false,
    rs := 1, bs := 1, cbr := true, fullness := 0, vmodel := 0, budget := 0, overhead := 0, planned := 0, qpPlan := 20, shares := [1, 1], noStats := false,
    wmax := 1, rap := 3, vrate := 1, lineage := 1, block := chanBlock 127 0 }
def rowsIn (x y : RowSt) (f : Chan → Chan) (d : Dev) : Dev :=
  chanIn 2 (f { params := chanBlock 127 0, pics := [{ arrived with plan := some planned, rows := [x, y] }] }) d
def issuing : Dev := rowsIn { row := 0, arrival := some 5, phase := .committed } { row := 1, arrival := some 5 } id (engines [] ((up 2).setF F.CHAN_DELAY_D_US 163 127))
def firstIssue : Dev := engines [] (started.setF F.KEEPER_MODE_MODE 2)
def codedRow : Dev := rowsIn { row := 0, arrival := some 5, phase := .issued, cap := 2 ^ 32 } { row := 1 } id
  (engines [{ task 8 (.run 127) with row := 0, coarse := 2, progress := 2, rescueAt := 9 }] (up 2))
theorem meets_row_commit : codedRow.taskBits { task 8 (.run 127) with row := 0, coarse := 2, progress := 2, rescueAt := 9 } ≤ 2 ^ 32 :=
  Nat.le_of_lt (Config.codedBits [] 0).isLt
def rescuing : Dev := rowsIn { row := 0, arrival := some 5, phase := .issued } { row := 1 } id ((up 2).setF F.TB_NS 1000)
def inLane : Dev := rowsIn { row := 0, arrival := some 5, phase := .issued, lane := some 1, w := 576 } { row := 1 } id (up 2)
def departing : Dev := rowsIn { row := 0, arrival := some 5, phase := .committed } { row := 1 } id ((up 2).setF F.TB_NS 1000)
def lastRow : Dev := rowsIn { row := 0, arrival := some 5, phase := .committed, departed := true } { row := 1, arrival := some 5, phase := .rescued } id ((up 2).setF F.TB_NS 1000)
def comparing (notes : List Note) : Dev := rowsIn { row := 0 } { row := 1, arrival := some 5 } (fun c => { c with lock := .locked, notes := notes }) ((up 2).setF F.TB_NS 1000)
theorem meets_rows : issuing.chanState 127 = 2 ∧ issuing.phase = .run ∧ ((issuing.chan 127).nextRow).map (fun x => (x.1.index, x.2, (x.1.row x.2).gen)) = some (3, 1, 0) ∧
    issuing.mayIssue 127 { arrived with plan := some planned, rows := [{ row := 0, arrival := some 5, phase := .committed }, { row := 1, arrival := some 5 }] } 1 = true ∧
    issuing.placeFor 127 1 none true = some 0 ∧ (issuing.chan 127).lock = .alone ∧ issuing.twin.regAt = [] ∧
    (firstIssue.chan 127).nextRow = some (arrived, 0) ∧ firstIssue.mayIssue 127 arrived 0 = true ∧ firstIssue.placeFor 127 0 none true = some 112 ∧
    (codedRow.runOf 127).isSome = true ∧ pCtus (codedRow.chan 127).params ≤ 2 ∧ (codedRow.chan 127).pic 3 ≠ none ∧ (codedRow.rowOf 127 3 0).cap = 2 ^ 32 ∧
    nsDiff codedRow.ns 9 < 0 ∧ codedRow.fenced 3 127 = false ∧ codedRow.hbMiss.length = 8 ∧ codedRow.fenced 4 7 = false ∧
    getAt 0 ({ codedRow with hbMiss := [0, 0, 0, 0, 0, 0, 0, 3] }).hbMiss 7 = 3 ∧
    rescuing.rescueDue 127 3 0 = true ∧ (rescuing.chan 127).lock = .alone ∧ (inLane.rowOf 127 3 0).lane = some 1 ∧ (inLane.chan 127).pic 3 ≠ none ∧
    ((departing.chan 127).nextDepart).map (fun x => (x.1.index, x.2)) = some (3, 0) ∧ departing.departDue 127 { row := 0, arrival := some 5, phase := .committed } = true ∧
    ((lastRow.chan 127).nextDepart).map (fun x => (x.1.index, x.2)) = some (3, 1) ∧ pRows (lastRow.chan 127).params = 2 ∧
    lastRow.departDue 127 { row := 1, arrival := some 5, phase := .rescued } = true ∧ lastRow.segs = [] ∧ lastRow.binds = [] ∧ lastRow.twin.handover = none ∧
    lastRow.isPaired = false ∧ ((comparing [⟨3, 1, 2⟩]).chan 127).lock = .locked ∧ ((comparing [⟨3, 1, 2⟩]).rowOf 127 3 1).arrival = some 5 ∧
    0 ≤ nsDiff ((comparing []).ns + 5000) ((comparing []).departAt 127 5) ∧
    ((comparing [⟨3, 1, 2⟩]).chan 127).notes.filter (fun m => m.picture = 3 ∧ m.row = 1) = [⟨3, 1, 2⟩] := by decide +kernel

/-! ### Network egress -/

/-- The parameters of an EGRESS-BIND of channel 127 to a multicast group on both paths. -/
def ebBlock : List Byte := [(1, 1, 127), (2, 1, 3), (4, 1, 127), (5, 1, 63), (6, 1, 1), (12, 2, 8960), (16, 1, 239), (32, 1, 239)].foldl putBytes (List.replicate 64 0)
/-- The same with a unicast destination. -/
def unicast : List Byte := [(16, 1, 10), (32, 1, 10)].foldl putBytes ebBlock
def unit : SendUnit := { picture := 0, bytes := 100, filler := false, last := true, tick := 0, seq := 65535, ts := 7 }
def path (u : List SendUnit) : PathSend := { send := u, level := 8960 * 2000000000, ok := true, asked := true }
def binding (p : List Byte) (u : List SendUnit) : Binding := { kind := 0, stream := 127, params := p, paths := [path [], path u], ssrc := 5 }
/-- Port 1 with link. -/
def linked (d : Dev) : Dev := (d.setFlag F.ETH_CTRL_EN true 1).setFlag F.ETH_STATUS_LINK true 1
def boundTo (p : List Byte) (u : List SendUnit) : Dev := { linked (up 2) with binds := [binding p u] }
def best : Announce := { prio1 := 0, clockClass := 6, accuracy := 0, variance := 0, prio2 := 0, gm := 9, steps := 0, logInterval := -3 }
def garp : Dev := { linked (up 2) with eth := [{}, { garp := 2 }], tick := 250000 }
theorem meets_egress : (up 2).canRun host (rawJob (jobEgressBind host ebBlock) ebBlock) ∧ (up 2).proposes (ebStream ebBlock) = false ∧
    (boundTo ebBlock []).canRun host (jobEgressUnbind host 0 127) ∧ (boundTo ebBlock []).proposes 127 = false ∧ (boundTo ebBlock []).chanState 127 < 2 ∧
    (boundTo ebBlock []).binds.filter (fun b => b.kind == 0 && b.stream == 127) = [binding ebBlock []] ∧ (∀ y ∈ (binding ebBlock []).paths, y.send = []) ∧
    (boundTo ebBlock [unit]).canRun host (jobEgressUnbind host 0 127) ∧ unit.picture ≤ (boundTo ebBlock [unit]).currentAu 127 ∧
    (boundTo ebBlock [unit]).nextBinding 1 = some (binding ebBlock [unit]) ∧ (boundTo ebBlock [unit]).fenced 7 1 = false ∧
    (boundTo ebBlock [unit]).portUp 1 = true ∧ ((boundTo ebBlock [unit]).setFlag F.ETH_STATUS_LINK false 1).portUp 1 = false ∧
    ebPath unicast 1 = true ∧ isMulticast (ebV6 unicast) (ebDest unicast 1) = false ∧ (binding unicast []).paths.length = 2 ∧
    (boundTo unicast []).binds.find? (fun x => x.kind = 0 ∧ x.stream = 127) = some (binding unicast []) ∧
    7500000000 ≤ ({ boundTo unicast [] with tick := 7500000000 }).tick - (getAt {} (binding unicast []).paths 1).tryTick ∧
    (garp.ethSt 1).garp ≠ 0 ∧ 250000 ≤ garp.tick - (garp.ethSt 1).garpTick ∧
    (Dev.netGroups { linked (up 2) with ptp := { port := some 1 } } 1).filter (fun g => g.1 == false) ≠ [] := by decide +kernel
def hearing : Dev := { linked (up 2) with eth := [{}, { best := some best }], ptp := { port := some 1 }, tick := 93750000 }
def changing : Dev := { hearing with ptp := { port := some 0, want := some (1, 0) }, tick := 1000000000 }
theorem meets_ports : (linked (up 2)).flag F.ETH_STATUS_LINK 1 = true ∧ (linked (up 2)).flag F.ETH_CTRL_EN 1 = true ∧ (linked (up 2)).fenced 7 1 = false ∧
    (linked (up 2)).mode ≠ 0 ∧ (linked (up 2)).portUp 1 = true ∧ (linked (up 2)).ctr C.ETH_LINK_LOSS 1 < C.ETH_LINK_LOSS.max ∧
    (linked (up 2)).ctr C.ETH_RX_DISCARD 1 < C.ETH_RX_DISCARD.max ∧ ((linked (up 2)).ethSt 1).echoes = [] ∧
    hearing.portUp 1 = true ∧ hearing.flag F.TB_CTRL_TSQ_OWNER = false ∧ ((linked (up 2)).ethSt 1).best = none ∧ (linked (up 2)).eth.length = 2 ∧
    (hearing.ethSt 1).best = some best ∧ 93750000 * 2 ^ (best.logInterval + 3).toNat ≤ hearing.tick - (hearing.ethSt 1).annTick ∧
    changing.ptp.want = some (1, 0) ∧ changing.ptpChoice = some 1 ∧ 1000000000 ≤ changing.tick - 0 := by decide +kernel

/-! ### The twin -/

/-- A running unit in Live with its twin link up, in a role. -/
def twin (role : Nat) (f : TwinSt → TwinSt) : Dev :=
  let d := (((up 2).setFlag F.TWIN_CFG_ENABLE true).setFlag F.TWIN_STATE_LINK_UP true).setF F.TWIN_STATE_ROLE role
  { d with twin := f d.twin }
/-- The same with channel 127 STARTED in a lockstep state. -/
def twinChan (role : Nat) (f : TwinSt → TwinSt) (c : Chan) : Dev := chanIn 2 { c with params := chanBlock 127 0 } (twin role f)
def pairedSt (t : TwinSt) : TwinSt := { t with paired := true }
def helloOf (id : Nat) (d : Dev) : LinkMsg :=
  sealMsg 1 65535 (leBytes 4 id ++ leBytes 8 77 ++ leBytes 1 (d.getF F.TWIN_VERSION % 256) ++ leBytes 11 0 ++ leBytes 8 (d.get64 F.TWIN_DIGEST_LO F.TWIN_DIGEST_HI))
def beacon : List Byte := let b := leBytes 4 0 ++ leBytes 12 0; b ++ leBytes 4 (crc32c b)
def later (n : Nat) (d : Dev) : Dev := { d with tick := n }
def reverting : Dev := later 75000000000000 (((twinChan 3 pairedSt { lock := .locked }).setFlag F.TWIN_CFG_REVERT_EN true).setFlag F.TWIN_CFG_PREF true)
theorem meets_twin : (up 1).canRun host (jobTwinConfigure host 1) ∧ (up 1).getF F.TWIN_CFG_ENABLE = 0 ∧ (up 1).chans = [] ∧
    (up 1).twin.own = none ∧ (up 1).twin.waiting = [] ∧ (up 1).twin.handover = none ∧
    ((up 1).setFlag F.TWIN_CFG_ENABLE true).canRun host (jobTwinConfigure host 0) ∧ ((up 1).setFlag F.TWIN_CFG_ENABLE true).getF F.TWIN_CFG_ENABLE = 1 ∧
    (twinChan 2 pairedSt { lock := .locked }).canRun host (jobTwinHandover host) ∧ (twin 2 id).twinUp = true ∧
    ((twinChan 2 pairedSt { lock := .locked }).setFlag F.TWIN_STATE_LINK_UP false).canRun host (jobTwinHandover host) ∧
    (twin 1 id).hears 1 (helloOf 5 (twin 1 id)) ∧ (twin 1 id).getF F.TWIN_PAIR_ID = 0 ∧ (twin 1 id).hears 1 (helloOf 0 (twin 1 id)) ∧
    leAt (helloOf 0 (twin 1 id)).body 12 1 = (twin 1 id).getF F.TWIN_VERSION % 256 ∧
    leAt (helloOf 0 (twin 1 id)).body 24 8 = (twin 1 id).get64 F.TWIN_DIGEST_LO F.TWIN_DIGEST_HI ∧ (twin 1 id).isPaired = false ∧
    (twin 4 pairedSt).hears 2 (sealMsg 2 0 (leBytes 16 0)) ∧ (twin 5 id).role = 5 ∧
    (later 75000 (twinChan 3 pairedSt { lock := .locked })).lockChans = [127] ∧ 75000 ≤ (later 75000 (twin 3 pairedSt)).tick - (twin 3 pairedSt).twin.hbTick ∧
    (twin 2 pairedSt).flag F.TWIN_STATE_OWN_PATH_UP = false ∧ reverting.lockChans = [127] ∧ (reverting.chan 127).lock = .locked ∧
    reverting.getF F.TWIN_TIMERS_REVERT_S * 250000000 ≤ reverting.tick - reverting.twin.vigilTick ∧ reverting.twin.own = none ∧
    (twin 2 id).watchPort = 0 ∧ crc32c (beacon.take 16) = leAt beacon 16 4 ∧ leAt beacon 0 4 = (twin 2 id).getF F.TWIN_PAIR_ID ∧
    (linked (twin 2 id)).ownPath = 1 ∧ (linked (twin 2 id)).pathOn 1 = true ∧ (linked (twin 2 id)).portUp 1 = true := by decide +kernel

/-- A proposal of FORCE-EQUINOX on channel 127. -/
def prop (ph : PropPhase) (tries : Nat) : Proposal :=
  { id := 9, opcode := 0x0206, entries := [(127, 5)], params := leBytes 1 127 ++ leBytes 3 0, client := 63, tag := 9, reply := true, tries := tries, phase := ph, tick := 0 }
def own (ph : PropPhase) (tries : Nat) : Dev := twinChan 2 (fun t => { pairedSt t with own := some (prop ph tries) }) { lock := .locked }
def peerProp : Dev := twinChan 2 (fun t => { pairedSt t with peer := some (prop .agreed 0) }) { lock := .locked }
def bothProp : Dev := twinChan 2 (fun t => { pairedSt t with own := some (prop .proposed 0), peer := some (prop .agreed 0) }) { lock := .locked }
def locked127 : Dev := chanIn 2 { lock := .locked } (twin 2 pairedSt)
def proposing : LinkMsg := sealMsg 3 1 (leBytes 4 9 ++ leBytes 2 0x0206 ++ leBytes 1 1 ++ leBytes 5 0 ++ leBytes 8 (locked127.chanDigest 127) ++ leBytes 1 127 ++ leBytes 8 5 ++ leBytes 1 127)
def idMsg (type : Nat) (more : List Byte) : LinkMsg := sealMsg type 1 (leBytes 4 9 ++ more)
def passed : Dev := ((twinChan 2 (fun t => { pairedSt t with own := some (prop .committed 0) }) { lock := .locked, pics := [{ index := 5, rows := [{ row := 0, arrival := some 5 }] }] }).setF F.CHAN_DELAY_D_US 163 127).setF F.TB_NS 900000
theorem meets_proposals : locked127.hears 3 proposing ∧ locked127.proposalState (proposed proposing.body 0) = true ∧
    (proposed proposing.body 0).entries = [(127, 5)] ∧ locked127.chanDigest 127 = leAt proposing.body 12 8 ∧
    (twinChan 2 pairedSt {}).proposalState (proposed proposing.body 0) = false ∧
    (own .proposed 0).hears 4 (idMsg 4 []) ∧ leAt (idMsg 4 []).body 0 4 = 9 ∧ (own .proposed 0).hears 5 (idMsg 5 [1]) ∧ leAt (idMsg 5 [1]).body 4 1 = 1 ∧
    (own .proposed 7).hears 5 (idMsg 5 [1]) ∧ (own .proposed 0).hears 5 (idMsg 5 [3]) ∧ (own .proposed 0).hears 5 (idMsg 5 [2]) ∧
    leAt (idMsg 5 [3]).body 4 1 = 3 ∧ bothProp.hears 5 (idMsg 5 [3]) ∧ bothProp.twin.peer ≠ none ∧ (own .proposed 0).twin.peer = none ∧
    (own .proposed 0).twin.lost = false ∧ leAt (idMsg 5 [2]).body 4 1 = 2 ∧
    peerProp.hears 6 (idMsg 6 []) ∧ peerProp.binds = [] ∧ (own .committed 0).hears 7 (idMsg 7 []) ∧ (own .committed 0).twin.waiting = [] ∧
    peerProp.hears 8 (idMsg 8 []) ∧ 25000 ≤ (later 25000 (own .proposed 0)).tick - 0 ∧ passed.holdPassed (prop .committed 0) = true ∧ passed.twin.peer = none := by decide +kernel

/-- A message about channel 127 of join GEN 3. -/
def about (type : Nat) (more : List Byte) : LinkMsg := sealMsg type 1 (leBytes 1 127 ++ leBytes 1 0 ++ leBytes 2 3 ++ more)
def digesting : Dev := twinChan 2 pairedSt { lock := .locked, digests := [(6, 1, 2, 3)] }
def digestMsg : LinkMsg := sealMsg 9 1 (leBytes 1 127 ++ leBytes 3 0 ++ leBytes 4 1 ++ leBytes 8 6 ++ leBytes 4 2 ++ leBytes 4 3)
def sending : Dev := twinChan 2 pairedSt { pics := [{ index := 6, complete := true }] }
def joining (x : Option CopyIn) : Dev := twinChan 3 (fun t => { pairedSt t with copyIn := x, joinGen := [(127, 3)] }) { lock := .joining }
def receiving : CopyIn := { channel := 127, gen := 3, chunks := [(0, [7])] }
def doneMsg : LinkMsg := about 14 (leBytes 4 1 ++ leBytes 8 6 ++ leBytes 8 (crcOf 3 (leBytes 2 3) [7]))
def serving : Dev := twinChan 2 (fun t => { pairedSt t with copyOut := some { channel := 127, gen := 3, snapshot := 6 } }) {}
theorem meets_lockstep : digesting.hears 9 digestMsg ∧ 2 ≤ digesting.chanState 127 ∧ digesting.isPaired = true ∧ leAt digestMsg.body 0 1 % 128 = 127 ∧
    (digesting.chan 127).digests = [(leAt digestMsg.body 8 8, leAt digestMsg.body 4 4, leAt digestMsg.body 16 4, leAt digestMsg.body 20 4)] ∧
    digesting.ctr C.TWIN_DIGEST_OK < C.TWIN_DIGEST_OK.max ∧ (digesting.chan 127).lock = .locked ∧ digesting.hears 10 (about 10 (leBytes 12 0)) ∧
    digesting.hears 11 (about 11 (leBytes 8 5)) ∧ sending.hears 12 (about 12 []) ∧ sending.mayTransmit 127 = true ∧ (sending.chan 127).lastWhole = some 6 ∧
    leAt (about 12 []).body 1 1 ≠ 1 ∧ leAt (sealMsg 12 1 [127, 1]).body 1 1 = 1 ∧ sending.hears 12 (sealMsg 12 1 [127, 1]) ∧
    ((joining none).chan 127).lock = .joining ∧ (joining none).mayRejoin 127 = true ∧ (joining none).twin.copyIn = none ∧ (joining none).hears 13 (about 13 (leBytes 4 0)) ∧
    leAt (about 13 (leBytes 4 0)).body 2 2 = (assoc (joining none).twin.joinGen 127).getD 0 ∧
    (joining (some receiving)).hears 14 doneMsg ∧ (joining (some receiving)).hears 14 (about 14 (leBytes 4 2)) ∧ assoc receiving.chunks 1 = none ∧
    crcOf 3 (leBytes 2 (leAt doneMsg.body 2 2)) ((List.range (leAt doneMsg.body 4 4)).flatMap (fun i => (assoc receiving.chunks i).getD [])) = leAt doneMsg.body 16 8 ∧
    leAt doneMsg.body 4 4 = 1 ∧ (joining (some receiving)).getF F.TWIN_CFG_JOIN_METHOD ≠ 1 ∧ serving.hears 15 (about 15 (leBytes 4 0 ++ leBytes 8 9)) ∧
    (joining (some { receiving with applied := true })).hears 16 (about 16 (leBytes 4 0 ++ leBytes 8 9)) := by decide +kernel

/-! ### The gang ring -/

/-- Member 1 of a ring of members 0, 1 and 2, in a role. -/
def member (role : Nat) (r : RingSt) : Dev :=
  { ((((up 2).setF F.RING_CFG_MEMBER 1).setF F.RING_CFG_MEMBERS 7).setF F.RING_STATE_ROLE role) with ring := { r with joined := true } }
def ringMsg (type : Nat) (b : List Byte) : LinkMsg := sealMsg type 1 b
def claimer : RingSt := { members := [{ number := 0, serial := 5, age := 9 }] }
def missing : Dev := ((member 2 { missRun := 2 }).setFlag F.RING_STATE_INPUT_UP true).setF F.RING_MASKS 2
def statusOf (n : Nat) : LinkMsg := ringMsg 0x23 (leBytes 1 n ++ leBytes 21 0 ++ leBytes 8 5 ++ leBytes 8 0)
def statsOf : LinkMsg := ringMsg 0x24 (leBytes 1 0 ++ leBytes 1 0 ++ leBytes 1 1 ++ leBytes 5 0 ++ leBytes 8 9 ++ leBytes 8 3 ++ leBytes 16 0)
theorem meets_ring : (up 1).canRun host (jobGangJoin host 7 0x80 5) ∧ ((member 2 {}).setF F.KEEPER_MODE_MODE 1).canRun host (jobGangLeave host) ∧
    ({ up 1 with ring := { bypassWanted := some false, job := some (host, true) } } : Dev).ring.bypassWanted = some false ∧ host.client < 64 ∧
    (member 3 claimer).ringLive = true ∧ (∀ m ∈ claimer.members, m.claim ≠ some (((member 3 claimer).getF F.RING_CSEQ + 1) % 2 ^ 32)) ∧
    (member 1 claimer).leadsAlone = true ∧ (member 2 {}).ringHears 0x21 (ringMsg 0x21 (leBytes 48 0)) ∧ (member 2 {}).member = 1 ∧
    (member 3 {}).ringHears 0x21 (ringMsg 0x21 (leBytes 1 1 ++ leBytes 47 0)) ∧ leAt (ringMsg 0x21 (leBytes 1 1 ++ leBytes 47 0)).body 0 1 = (member 3 {}).member ∧
    (member 3 {}).ringHears 0x21 (ringMsg 0x21 (leBytes 1 2 ++ leBytes 47 0)) ∧ (member 3 {}).member < leAt (ringMsg 0x21 (leBytes 1 2 ++ leBytes 47 0)).body 0 1 ∧
    leAt (ringMsg 0x21 (leBytes 48 0)).body 0 1 < (member 3 claimer).member ∧ (∀ x ∈ (member 3 claimer).ring.members, x.claim = none) ∧
    (member 3 claimer).ctr C.RING_MSG_ERR < C.RING_MSG_ERR.max ∧ (member 2 {}).flag F.RING_STATE_INPUT_UP = false ∧
    missing.flag F.RING_STATE_INPUT_UP = true ∧ missing.successor = some missing.member ∧ missing.ring.missRun = 2 ∧
    missing.ctr C.RING_MISSED < C.RING_MISSED.max ∧ (member 2 {}).ringHears 0x22 (ringMsg 0x22 (leBytes 8 0)) ∧
    (member 2 claimer).ringHears 0x23 (statusOf 0) ∧ leAt (statusOf 0).body 0 1 % 8 ≠ (member 2 claimer).member ∧ leAt (statusOf 0).body 22 8 = 5 ∧
    (member 2 {}).ringHears 0x23 (statusOf 1) ∧ leAt (statusOf 1).body 22 8 ≠ (member 2 {}).alm.serial ∧
    (member 2 {}).ringHears 0x24 statsOf ∧ 0 < leAt statsOf.body 2 1 := by decide +kernel

/-! ### Memory -/

/-- Sixteen entries of MEM-REGIONS: the first a region of 256 MiB in one store group. -/
def regions : List (Nat × Nat) := (256, 0x8401 + 0x300 + 0x2800) :: List.replicate 15 (0, 0)
/-- A running device with one region of 256 MiB in store group 0 and its stacks ready. -/
def memory (x : PcSt) : Dev :=
  { (withRegion 0 (up 2)).setFlag F.MEM_STATUS_READY true 0 with pcs := [(0, x)] }
def readReq : MemReq := { port := 10, addr := 64 }
def writeReq : MemReq := { port := 10, addr := 64, data := some (List.replicate 32 9) }
/-- A memory that holds a good sector of nines at 64. -/
def written (x : PcSt) : Dev := (memory x).writeSector 64 (List.replicate 32 9)
theorem meets_memory : ((up 1)).canRun host (jobMemRegions host regions) ∧ (up 1).entryNow 0 ≠ (256, 0xAF01) ∧
    (memory { forced := true }).pcServes 0 = true ∧ (memory {}).owed 0 < 1 ∧ (memory { reqs := [readReq] }).bestReq 0 = some readReq ∧
    (memory {}).regionAt 64 = some 0 ∧ (memory { reqs := [writeReq] }).bestReq 0 = some writeReq ∧ (up 2).regionAt 64 = none ∧
    (memory { issued := [readReq] }).flag F.MEM_REBUILD_ACTIVE 0 = false ∧ (memory {}).pressured 0 = false ∧ (memory {}).owedU 0 < 127 ∧
    -126 ≤ (memory { refreshing := true }).owedU 0 ∧ (memory { hot := true }).flag F.MEM_STATUS_HOT 0 = false ∧
    ((memory {}).setF F.MEM_PD_CTRL_TIMER 1 0).getF F.MEM_PD_CTRL_TIMER 0 ≠ 0 ∧ bit ((memory {}).getF F.MEM_PC_PD 0) 0 = false ∧
    10 * ((memory {}).setF F.MEM_PD_CTRL_TIMER 1 0).getF F.MEM_PD_CTRL_TIMER 0 ≤ 4 * ((later 3 (memory {})).tick - 0) ∧
    2500 ≤ (later 2500 (memory { issued := [readReq] })).tick - readReq.tick ∧ (memory {}).fenced 5 0 = false ∧ (up 2).fenced 6 3 = false ∧
    ((up 2).setFlag F.MEM_REBUILD_ACTIVE true 0).flag F.MEM_REBUILD_ACTIVE 0 = true ∧ ((up 2).setFlag F.MEM_REBUILD_ACTIVE true 0).getF F.MEM_REBUILD_PC 0 = 0 := by decide +kernel
theorem meets_sector (x : PcSt) : sectorCheck 64 ((written x).hbmBytes 64 32) = leNat ((written x).hbmBytes (checkAddr 64) 2) := by
  have e : written x = ((memory x).hbmWrite 64 (List.replicate 32 9)).hbmWrite (checkAddr 64) (leBytes 2 (sectorCheck 64 (List.replicate 32 9))) := rfl
  have h1 : (written x).hbmBytes 64 32 = List.replicate 32 9 := by
    rw [e, Dev.hbmBytes_hbmWrite_apart _ _ _ _ _ (.inl (by decide))]
    exact Dev.hbmBytes_hbmWrite_same (memory x) 64 (List.replicate 32 9)
  have h2 : (written x).hbmBytes (checkAddr 64) 2 = leBytes 2 (sectorCheck 64 (List.replicate 32 9)) := by
    rw [e]
    exact Dev.hbmBytes_hbmWrite_same _ _ (leBytes 2 (sectorCheck 64 (List.replicate 32 9)))
  rw [h1, h2]
  decide +kernel

/-! ### Audio -/

/-- A running device whose audio block runs, TDM port 0 a slave of two slots. -/
def audio (m : Nat) : Dev := (((up m).setFlag F.AUDIO_CTRL_PLL_EN true).setF F.AUDIO_P_CFG_ROLE 2 0).setF F.AUDIO_P_CFG_SLOTS 2 0
/-- TDM port 1 becomes a slave of 4 slots. -/
def portBlock : List Byte := [1, 2, 0, 4, 0, 0, 0, 0, 3, 0, 1, 0, 0, 0, 0, 0]
def pdmBlock : List Byte := [4, 0, 3, 0, 255, 0, 0, 0, 0, 0, 0, 0, 0, 0, 0, 0]
/-- START of audio stream 2 from microphones 0 and 1 (ACTION 0), and its STOP (ACTION 1). -/
def routeBlock (action : Byte) : List Byte := [2, action, 0, 2, 0, 0, 0, 0, 0, 1]
def streaming (f : Fade) : Dev :=
  ((audio 2).putAstream 2 { sources := [0, 1], chans := [f, f] }).setFlag F.AUDIO_STREAM_STARTED true 2
def framed (x : AudioPort) : Dev := later 10000000 ((audio 2).putAport 0 x)
theorem meets_audio : (audio 1).canRun host (rawJob (jobAudioConfigure host portBlock) portBlock) ∧
    (audio 1).canRun host (rawJob (jobAudioConfigure host pdmBlock) pdmBlock) ∧
    (audio 1).canRun host (rawJob (jobAudioRoute host (routeBlock 0)) (routeBlock 0)) ∧
    (streaming {}).canRun host (rawJob (jobAudioRoute host (routeBlock 1)) (routeBlock 1)) ∧ (streaming {}).fadesApart 2 2 0 ∧
    ((streaming {}).astream 2).chans.any (fun f => f.phase == 2 || f.gain != 0) = true ∧
    (audio 1).canRun host (jobAudioMute host 0 31 0 0) ∧ (audio 1).canRun host (jobAudioMute host 1 3 15 1) ∧
    (streaming {}).canRun host (jobAudioMute host 2 2 0 0) ∧ (streaming {}).audioRuns = true ∧ (streaming {}).audio.mics.length = 32 ∧
    (streaming {}).audio.ports.length = 4 ∧ (streaming {}).audio.streams.length = 16 ∧ (streaming {}).audio.jobs = [] ∧
    (∀ j < 16, j ≠ 2 → (streaming {}).flag F.AUDIO_STREAM_STARTED j = false) := by decide +kernel
theorem meets_audioSignals : (framed {}).getF F.AUDIO_P_CFG_ROLE 0 = 2 ∧ ((framed {}).aport 0).good = 0 ∧ (framed {}).maskDue 0 0 = true ∧
    ((framed { good := 3, glitchPos := 60, glitchRun := 1 }).aport 0).good ≠ 0 ∧ (framed {}).flag F.AUDIO_MIC_STUCK 31 = false ∧
    (framed {}).flag F.AUDIO_P_STATUS_LOST 0 = false ∧ 2000000000 ≤ 4 * ((framed { good := 1 }).tick - 0) * 48000 ∧
    ((framed {}).setF F.AUDIO_STATUS_AMCLK_STATE 2).getF F.AUDIO_STATUS_AMCLK_STATE = 2 ∧
    ((framed { meas := [5, 48000000, 48000000, 48000000] }).aport 0).meas = [5] ++ [48000000, 48000000, 48000000] ∧
    200 * (framed {}).getF F.AUDIO_P_RATE_REP 0 < 1000000 * ((48000000 : Int) - (framed {}).getF F.AUDIO_P_RATE_REP 0).natAbs ∧
    ((later 5000000 (streaming { phase := 1 })).astream 2).chans[1]? = some { phase := 1 } := by decide +kernel
/-! ### The preview compositor -/

/-- A PREVIEW-CONFIGURE block: 128 by 128 at 30 per second, no base, a graphics plane 4 wide, sent on its lanes. -/
def previewBlock : List Byte := [1, 0, 0, 0] ++ leBytes 2 128 ++ leBytes 2 128 ++ leBytes 4 30 ++ leBytes 4 1 ++ List.replicate 16 0 ++
  leBytes 2 0 ++ leBytes 2 0 ++ leBytes 2 4 ++ leBytes 2 2 ++ [1, 0, 0, 0] ++ List.replicate 4 0
/-- LUT-LOAD of two entries of LUT 5 at 4094, with SWAP. -/
def lutBlock : List Byte := [5, 1] ++ leBytes 2 4094 ++ leBytes 2 2 ++ [0, 0] ++ leBytes 2 4095 ++ leBytes 2 17
def scalerBlock : List Byte := List.replicate 3592 0
def hostWith (n : Nat) : Ctx := { host with rd := { bytes := List.replicate n 3 } }
def hostFault : Ctx := { host with rd := { bytes := List.replicate 64 3, fault := some 1 } }
/-- A device whose preview settings are recorded and whose pulse generator has fired. -/
def previewing (m : Nat) : Dev := (up m).putPrev { latest := { block := previewBlock }, due := true }
/-- The same with line 127, the last, about to be produced, 40 ms after the start tick. -/
def producing : Dev := ((up 2).putPrev { latest := { block := previewBlock }, act := { block := previewBlock }, running := true, line := 127 }).setF F.TB_NS 40000000
theorem meets_preview : (up 1).canRun host (rawJob (jobPreviewConfigure host previewBlock) previewBlock) ∧
    (up 1).canRun host (rawJob (jobLutLoad host lutBlock) lutBlock) ∧ (up 1).canRun host (rawJob (jobScalerLoad host scalerBlock) scalerBlock) ∧
    (up 1).canRun (hostWith 65536) (jobLanternLoad (hostWith 65536) 1 127 0) ∧ (up 1).canRun hostFault (jobLanternLoad hostFault 1 127 0) ∧
    hostFault.rd.fault ≠ none ∧ (hostWith 65536).rd.fault = none ∧ (up 1).canRun host (jobLanternMove host (-5) 3 1) ∧
    (previewing 1).canRun (hostWith 16) (jobPlaneLoad (hostWith 16) 1 2159 1) ∧ (previewing 1).prev.arrays.length = 9 ∧
    vGfxW (previewing 1).prev.latest.block = 4 ∧ (previewing 2).startDue = true ∧ (previewing 2).prev.running = false ∧ (previewing 2).phase = .run ∧
    producing.phase = .run ∧ producing.lineDue 127 = true ∧ producing.prev.base = none ∧ producing.fenced 11 13 = false := by decide +kernel
theorem meets_lantern : (hostWith 65536).rd.bytes.length = 65536 := List.length_replicate
/-! ### Decoding -/

/-- DECODE-OPEN of review context 15: 128 by 128, Main, three picture slots, two of output, a ring of 64 KiB. -/
def reviewBlock : List Byte := [15, 0, 0, 2] ++ leBytes 2 128 ++ leBytes 2 128 ++ [0, 3, 2] ++ List.replicate 5 0 ++ leBytes 4 64 ++ List.replicate 4 0
def feedBlock (flags : Byte) (n : Nat) : List Byte := [15, flags, 0, 0] ++ leBytes 4 n ++ List.replicate 16 0
def review : DecCtx := { kind := 0, flags := 2, maxW := 128, maxH := 128, profile := 2, slots := 3, outSlots := 2, ringKib := 64, fill := 100, waitIrap := false }
/-- A device in Playback with context 15 as given. -/
def decoding (x : DecCtx) : Dev := (((up 4).setF F.PWR_DOM_STATE 0 136).setF F.PWR_DOM_STATE 0 137).putDec 15 x
def decPic : DecPic := { number := 7, rows := 2, parsed := [0], units := [(0, 0)] }
def decTask : Task := { task 5 (.run 0) with kind := 1, chan := 15, row := 0, pic := 7 }
def decodingRow (p : DecPic) : Dev := { decoding { review with pic := some p } with tasks := [decTask] }
def sps : SpsFacts := { profile := 1, level := 40, ctb := 64, tools := false, extension := false, dpb := 2, reorder := 2, w := 128, h := 128 }
def keptAu : RetainedAu := { picture := 3, rap := false, bytes := 9, left := 0 }
theorem meets_decode : (decoding review).canRun host (rawJob (jobDecodeFeed host (feedBlock 0 64)) (feedBlock 0 64)) ∧
    (decoding review).canRun host (rawJob (jobDecodeFeed host (feedBlock 1 0)) (feedBlock 1 0)) ∧
    (decoding review).canRun host (rawJob (jobDecodeFeed host (feedBlock 0 0)) (feedBlock 0 0)) ∧
    (decoding review).canRun hostFault (rawJob (jobDecodeFeed hostFault (feedBlock 0 100)) (feedBlock 0 100)) ∧
    assoc (decoding review).decs 15 = some review ∧ (decoding review).canRun host (jobDecodeClose host 15) := by decide +kernel
theorem meets_streams : (decoding review).parses 15 0 review (.nal 39) 100 ∧ (decoding review).parses 15 0 review (.sps sps) 10 ∧
    (decoding review).parses 15 0 review (.picture 2 true 0 true) 10 := by decide +kernel
theorem meets_streamsMore : (decoding { review with feedEnd := some host, promised := 100 }).parses 15 0 { review with feedEnd := some host, promised := 100 } (.nal 39) 100 ∧
    (decoding { review with refused := true }).parses 15 0 { review with refused := true } (.picture 2 true 0 true) 10 := by decide +kernel
theorem meets_decodeRows : (decodingRow decPic).parses 15 1 { review with pic := some decPic } (.row 1 true) 10 ∧
    (decodingRow decPic).parses 15 1 { review with pic := some decPic } (.error .truncated [1]) 10 := by decide +kernel
theorem meets_decodeTasks : (decodingRow decPic).unitEngine 1 = some 8 ∧ (decodingRow decPic).runOf 0 = some decTask ∧
    (decodingRow { decPic with done := [1] }).runOf 0 = some decTask ∧ (decodingRow decPic).fenced 3 0 = false ∧ keptAu.left = 0 := by decide +kernel
/-- A device in Playback with a decode region of 126 GiB. -/
def decodeRoom : Dev := ((withRegion 5 (up 4)).setF F.MEM_REGION_MAP_PC_LEN 63 0 5).setF F.MEM_REGION_CFG_MASK 0xFF 0 5
theorem meets_decodeOpen : decodeRoom.canRun host (rawJob (jobDecodeOpen host reviewBlock) reviewBlock) := by
  refine ⟨by decide +kernel, by decide +kernel, ?_, by decide⟩
  have a : reservedClear 0x0B01 reviewBlock = true := by decide +kernel
  have b : doFieldsBad reviewBlock = false := by decide +kernel
  have c : assoc ([] : List (Nat × DecCtx)) (doContext reviewBlock) = none := rfl
  have e : decodeRoom.decs = [] := rfl
  have f : doKind reviewBlock = 0 ∧ leAt reviewBlock 16 4 = 64 := by decide +kernel
  have g : decodeRoom.purposeBytes 5 = 63 * 2 ^ 24 * 16 * 8 := by decide +kernel
  have l := (Config.decodeBytes reviewBlock []).isLt
  have h : ¬ decodeRoom.purposeBytes 5 < 0 + decodeRoom.decodeNeed reviewBlock := by
    rw [g]; simp only [Dev.decodeNeed, f]; simp; omega
  simp only [rawJob, rawCheck, jobDecodeOpen, chkDecodeOpen, a, b, e, c, f]
  simpa using h
/-! ### The block as a whole -/

def outside : MemReq := { port := 10, addr := 2 ^ 36 + 5, data := some (List.replicate 32 1) }
theorem meets_reset : State.reset.pending = [] ∧ State.reset.dev.wf = true := by decide +kernel
theorem meets_settled : State.reset.Settled := by decide +kernel
theorem meets_outside : (up 2).regionAt outside.addr = none ∧ outside.addr < 2 ^ 37 ∧ ((up 2).pc 127).reqs = [] := by decide +kernel
theorem meets_increment : maint.serving = true ∧ maint.mode ∈ notStandby ∧ host.client < 64 ∧ (maint.setF F.TB_STATUS_STEER 1).getF F.TB_STATUS_STEER ≠ 0 ∧
    maint.getF F.TB_INC_LIMIT_PPM * 2 ^ 26 = 100 * 2 ^ 26 ∧ maint.getF F.TB_STATUS_STEER = 0 := by decide +kernel
theorem meets_expect : maint.awake ∧ maint.crcExpect.length = 8 ∧ bit 0x40 4 = false ∧ bit 0x40 5 = false := by decide +kernel
theorem meets_turnedAway : ({} : Dev).serving = false ∧ (up 0).serving = true ∧ (notStandby).contains (up 0).mode = false ∧ (jobTimeSetIncrement host 0).chk maint = some (.badParam, 0x08) := by decide +kernel
theorem meets_frames : Part.memory ∉ changes (.nop host) ∧ Part.fences ∉ changes .startTick ∧ Part.audio ∉ changes .startTick ∧
    Instr.wf (.nop host) = true ∧ regBlocks (.nop host) = some [.keeper, .cmd, .xlat] := by decide +kernel
theorem meets_carried : carried (.selftest host 1 0 0) = some (host, jobSelftest host 1 0 0) := rfl
theorem meets_log : (up 2).evlog.length + 2 ≤ evCapacity ∧ (up 2).get64 F.KEEPER_EVLOG_SEQ_LO F.KEEPER_EVLOG_SEQ_HI + 2 < 2 ^ 64 ∧
    C.SL_MARKER_ERR.max < ((up 2).putCtr C.SL_MARKER_ERR (2 ^ 32 - 1) 127 0).ctr C.SL_MARKER_ERR 127 + 1 ∧
    ((up 2).putCtr C.SL_MARKER_ERR (2 ^ 32 - 1) 127 0).ctrSat C.SL_MARKER_ERR 127 = false := by decide +kernel
/-! ### Reports, transport and registers -/

/-- The device with client 63 bound to the SPI. -/
def overSpi : Dev := maint.setFlag F.CMD_Q_CTRL_SPI_BOUND true 63
def checking : Ctx := { host with rd := { bytes := leBytes 9 0x393837363534333231 } }
theorem meets_reports : maint.canRun host (jobNop host) ∧ maint.canRun host (jobGetInfo host) ∧ maint.canRun host (jobGetStatus host) ∧
    maint.canRun host (jobReadEvents host 0 1) ∧ maint.canRun host (jobTimeGet host) ∧ maint.canRun host (jobQueryChannel host 127) ∧
    maint.canRun host (jobLaneStatus host 15) ∧ maint.canRun host (jobTwinStatus host) ∧ maint.canRun host (jobGangStatus host) ∧
    maint.canRun host (jobAlmanacRead host 3 1044480 4096) ∧ overSpi.canRun host (jobSpiRelease host) ∧
    checking.rd.fault = none ∧ maint.canRun checking (jobCheckRun checking 6 1 0 0 0xE3069283 9) := by decide +kernel
theorem meets_snapshot : overSpi.canRun host (jobSnapshot host 1 1 40 0) ∧ overSpi.spiBound 63 = true ∧ bit 1 0 = true ∧
    maint.canRun host (jobSnapshot host 1 1 40 4096) ∧ maint.spiBound 63 = false ∧ host.rd.fault = none ∧
    maint.canRun { host with rd := { fault := some 1 } } (jobSnapshot { host with rd := { fault := some 1 } } 1 1 40 4096) := by decide +kernel

/-- A packet of an opcode with its parameters. -/
def packetBytes (op tag client : Nat) (params : List Byte) : List Byte :=
  let h := leBytes 4 0x50435856 ++ leBytes 1 1 ++ leBytes 1 0 ++ leBytes 2 op ++ leBytes 4 tag ++ leBytes 1 client ++ leBytes 1 0 ++
    leBytes 2 params.length ++ leBytes 8 0 ++ leBytes 2 0 ++ leBytes 2 0
  h ++ leBytes 4 (crc32c (h ++ params)) ++ params
def nopPacket : List Byte := packetBytes 0x0000 9 63 []
def spiUp : Dev := overSpi.setFlag F.CMD_CTRL_SPI_EN true
def spiFull : Dev := { spiUp with spiIn := List.replicate 4 { bytes := nopPacket } }
def answered : Dev := { spiUp with spiOut := [{ done := true, opcode := 0, tag := 9, client := 63, status := 0, detail := 0, rlen := 0, data := [], acceptTime := 0 }] }
theorem meets_spi : packetWhole nopPacket = true ∧ spiUp.serving = true ∧ spiUp.flag F.CMD_CTRL_SPI_EN = true ∧ spiUp.spiIn.length < 4 ∧
    spiFull.serving = true ∧ spiFull.flag F.CMD_CTRL_SPI_EN = true ∧ 4 ≤ spiFull.spiIn.length ∧ spiUp.reachable = true ∧ spiUp.spiOut = [] ∧
    answered.reachable = true ∧ answered.spiOut ≠ [] ∧ maint.awake ∧ (regPlace (F.TB_SNAP_NS.addr 0 0)).isSome = true ∧ maint.shadows = [] := by decide +kernel

def open63 : Dev := maint.setFlag F.CMD_Q_CTRL_OPEN true 63
def waking63 : Dev := { open63 with phase := .warmReset }
theorem meets_doorbells : open63.awake ∧ open63.flag F.CMD_Q_CTRL_OPEN 63 = true ∧ 15 < open63.sqSize 63 ∧ 31 < open63.rqSize 63 ∧
    open63.flag F.CMD_Q_CTRL_CLOSING 63 = false ∧ waking63.flag F.CMD_Q_CTRL_OPEN 63 = true ∧ waking63.phase = .warmReset ∧
    maint.awake ∧ maint.flag F.CMD_Q_CTRL_CLOSING 63 = false ∧ maint.flag F.CMD_Q_CTRL_OPEN 63 = false ∧ maint.spiBound 63 = false := by decide +kernel
def queueBase : Dev := (maint.setF F.CMD_Q_SQ_BASE_LO 4096 63).setF F.CMD_Q_RQ_BASE_LO 8192 63
theorem meets_queueOpen : (queueBase.writeQueueCtrl 63 (setBit 0x5401 0 % 2 ^ 32)).queueValid 63 = true ∧ queueBase.awake ∧
    queueBase.flag F.CMD_Q_CTRL_OPEN 63 = false ∧ queueBase.flag F.CMD_Q_CTRL_CLOSING 63 = false ∧ queueBase.spiBound 63 = false := by decide +kernel
def closing63 : Dev := open63.setFlag F.CMD_Q_CTRL_CLOSING true 63
theorem meets_queueClose : closing63.flag F.CMD_Q_CTRL_CLOSING 63 = true ∧ closing63.journal = [] ∧ closing63.held = [] := by decide +kernel

def fetching : Dev := open63.putQueue 63 { open63.queue 63 with tail := 1 }
def refetching : Dev := fetching.putQueue 63 { fetching.queue 63 with retries := 3 }
def spiWaiting : Dev := { spiUp with spiIn := [{ bytes := nopPacket }] }
theorem meets_packets : fetching.fetches 63 = true ∧ (fetching.queue 63).retries = 0 ∧ (packetOf nopPacket).checks = true ∧
    fetching.headerCheck (some 63) (packetOf nopPacket) = none ∧ fetching.judge false (packetOf nopPacket) {} {} = .accepted [] ∧
    refetching.fetches 63 = true ∧ (refetching.queue 63).retries ≠ 0 ∧ refetching.headerCheck (some 63) (packetOf nopPacket) = none ∧
    refetching.judge false (packetOf nopPacket) {} {} = .accepted [] ∧
    spiWaiting.serving = true ∧ spiWaiting.replaying = false ∧ spiWaiting.headerCheck none (packetOf nopPacket) = none ∧
    spiWaiting.spiBound (packetOf nopPacket).client = true ∧
    spiWaiting.inflight (packetOf nopPacket).client < spiWaiting.getF F.CMD_CTRL_INFLIGHT_LIMIT ∧
    spiWaiting.judge true (packetOf nopPacket) {} {} = .accepted [] := by decide +kernel
/-- A journaled NOP whose turn has come. -/
def entry : JEntry :=
  { order := 4, client := 63, tag := 9, opcode := 0, barrier := false, ptr := false, spi := false, buf := 0, bufcap := 0, params := []
    acceptTime := 0, started := false, committed := false }
def journaled : Dev := { maint with journal := [entry] }
theorem meets_start : journaled.serving = true ∧ journaled.replaying = false ∧ journaled.journal.find? (fun e => e.order = 4) = some entry ∧
    journaled.mayStart entry = true ∧ (parseCommand 0 [] (entry.ctx {}) {}).isSome = true ∧
    rawCheck (jobNop (entry.ctx {})) [] (journaled.markStarted 4) = none ∧ (jobNop (entry.ctx {})).ready (journaled.markStarted 4) = true := by decide +kernel

/-- GUARD of PWR, a block whose registers follow nothing else. -/
def plainAddr : Nat := F.PWR_CTRL_GUARD.addr 0 0
theorem meets_registers : (regPlace plainAddr).isSome = true ∧ blockOf plainAddr ∈ plainBlocks ∧ maint.awake ∧
    maint.canRun host (jobRegRead host plainAddr 1) ∧ maint.canRun host (jobRegWrite host plainAddr 0) ∧
    maint.canRun host (jobRegModify host plainAddr 0 0) := by decide +kernel

def stopping : Dev := { up 2 with modeJob := some { cmd := some host, from_ := 2, target := 1 } }
def grouping (k : Nat) : Dev := { up 1 with modeJob := some { cmd := some host, from_ := 1, target := 4, groups := k } }
theorem meets_modes : maint.canRun host (jobSetMode host 5) ∧ maint.modeHeld = false ∧ maint.modeWait = [] ∧ maint.mode = 5 ∧
    maint.modeCheck 2 = some .wrongMode ∧ maint.canRun host (jobSetMode host 2) ∧ (up 1).canRun host (jobSetMode host 4) ∧ (up 1).mode = 1 ∧
    (up 1).modeCheck 1 = some .wrongMode ∧ (up 1).modeCheck 0 = none ∧ (up 1).modeCheck 5 = none ∧ (up 0).modeCheck 1 = none ∧ (up 2).modeCheck 1 = none ∧
    (up 0).canRun host (jobSetMode host 1) ∧ (up 1).canRun host (jobSetMode host 0) ∧ stopping.modeHeld = true ∧
    stopping.canRun host (jobSetMode host 3) ∧ stopping.chans = [] ∧ stopping.modeWait = [] ∧
    (grouping 14).modeJob = some { cmd := some host, from_ := 1, target := 4, groups := 14 } ∧
    (grouping 15).modeJob = some { cmd := some host, from_ := 1, target := 4, groups := 15 } := by decide +kernel

/-- An image of one section, the mode to start in. -/
def imageOf (kind mode : Nat) : List Byte :=
  let body := leBytes 1 2 ++ leBytes 1 1 ++ leBytes 2 0 ++ leBytes 4 80 ++ leBytes 4 1 ++ leBytes 4 (crc32c (leBytes 1 mode)) ++ leBytes 1 mode
  let h := leBytes 4 0x4C415856 ++ leBytes 2 2 ++ leBytes 1 kind ++ leBytes 1 0 ++ leBytes 4 0 ++ leBytes 4 81 ++ leBytes 2 1 ++ leBytes 2 0 ++
    leBytes 4 0x8128 ++ leBytes 32 0 ++ leBytes 4 (crc32c body)
  h ++ leBytes 4 (crcOf 1 (leBytes 4 0) h) ++ body
def listAt (a : Nat) (l : List Byte) : List Host.Cell := l.zipIdx.map (fun p => (a + p.2, p.1))

/-- A device with this factory image, its PLLs fenced so that no lock time is drawn. -/
def settledImage : Dev := { flash := listAt (slotBase 0) (imageOf 0 1), fences := [(11, 0), (11, 1), (11, 16)] }
/-- One with no factory image. -/
def noImage : Dev := { settledImage with flash := listAt (slotBase 0) [0, 0, 0, 0] ++ listAt (slotBase 0 + 12) [0xFF, 0xFF, 0xFF, 0xFF] }
theorem meets_image : settledImage.validImage 0 ≠ none := by decide +kernel
theorem meets_startUp : settledImage.phase = .coldReset ∧ (settledImage.startBegin {}).validImage 0 ≠ none ∧ ({} : StartInfo).image = true ∧
    noImage.phase = .coldReset ∧ (noImage.startBegin {}).validImage 0 = none := by decide +kernel
def holding : Dev := { settledImage with phase := .startHold }
theorem meets_startHold : holding.phase = .startHold ∧ holding.anyAbove 100 = false := by decide +kernel
def shut : Dev := { settledImage with phase := .shutdown, pwrok := true, therm := { tripped := true } }
def again : Dev := (shut.setF F.THERM_LAST_TRIP_WAIT_S 60).thermalBegin
theorem meets_thermalRestart : shut.phase = .shutdown ∧ shut.getF F.THERM_COMP_STATE = 0 ∧ shut.pwrok = true ∧
    again.validImage 0 ≠ none := by decide +kernel
def asked : Dev := { maint with warmAsk := some host }
def warmed (k : Bool) : Dev := { maint with phase := .warmReset, warmByCmd := k, released := k }
theorem meets_resets : shut.therm.tripped = true ∧ maint.therm.tripped = false ∧ maint.canRun host (jobWarmReset host) ∧ asked.phase = .run ∧
    asked.warmAsk ≠ none ∧ maint.phase = .run ∧ (warmed true).phase = .warmReset ∧ (warmed true).warmByCmd = true ∧ (warmed true).released = true ∧
    (warmed false).warmByCmd = false ∧ ({} : ResumeInfo).damaged = false := by decide +kernel

def zoneHot : Dev := { maint with tick := ticks100ms, therm := { maint.therm with holds := [{ zone := 12, tick := 0, request := 3 }] } }
def shedding : Dev := { maint.setF F.THERM_SHED_S_T 15 with tick := ticks1ms * 65536 }
def hot : Dev := { maint with tick := ticks1ms, therm := { maint.therm with hotTick := some 0 } }
theorem meets_thermal : maint.thermRuns = true ∧ shut.phase = .shutdown ∧ maint.therm.raw.length = 38 ∧
    zoneHot.therm.holds.find? (fun h => h.zone = 12) = some { zone := 12, tick := 0, request := 3 } ∧ 0 + ticks100ms ≤ zoneHot.tick ∧
    shedding.getF F.THERM_SHED_S_TARGET < shedding.getF F.THERM_SHED_S_T ∧ shedding.getF F.THERM_SHED_S_T < 16 ∧
    ticks1ms * shedding.getF F.THERM_CTRL_STEP_DOWN_MS ≤ shedding.tick - shedding.therm.stepTick ∧
    maint.compsAct = true ∧ bit (maint.getF F.THERM_COMP_FAIL) (2 * 12 + 1) = false ∧
    hot.therm.hotTick = some 0 ∧ hot.compsAct = true ∧ 0 + ticks1ms ≤ hot.tick := by decide +kernel
def linkable : Dev := maint.setF F.KEEPER_START_STEP_STEP 5
theorem meets_hostLink : linkable.phase = .run ∧ 5 ≤ linkable.getF F.KEEPER_START_STEP_STEP ∧ maint.phase = .run ∧ maint.flashTempOk = true ∧
    linkable.pcieReady = true ∧ maint.pcieReady = false := by decide +kernel

/-! ### The Almanac -/

def staged : Dev := ({ maint with stage := listAt 0 (imageOf 1 1) } : Dev).setF F.ALMANAC_STAGE_LEN 81
def gatherer : Ctx := { host with rd := { bytes := leBytes 4096 0x1234 } }
def userCopy : Dev :=
  let l := listAt (slotBase 2) (imageOf 1 1) ++ listAt (slotBase 2 + imageMax) (leBytes 4 0xC0A11A5C ++ leBytes 4 0 ++ ((imageOf 1 1).drop 60).take 4)
  { maint with flash := l }
theorem meets_stage : maint.canRun gatherer (jobAlmanacStage gatherer true 1044416 4096) ∧ gatherer.rd.fault = none ∧
    maint.canRun host (jobAlmanacRevert host 1) := by decide +kernel
theorem meets_commit : staged.canRun host (jobAlmanacCommit host 81 (crc32c (imageOf 1 1))) := by decide +kernel
theorem meets_revert : userCopy.canRun host (jobAlmanacRevert host 0) := by decide +kernel
def erasing : FlashJob := { client := 63, tag := 9, confirm := true, commit := true, target := 2, generation := 1, image := [], ops := [.erase 2 0, .erase 2 15, .readBack 2] }
def retiring : FlashJob := { client := 63, tag := 9, confirm := true, commit := false, target := 2, generation := 0, image := [], ops := [.retire 2] }
theorem meets_flashOperation : ({ maint with flashJob := some erasing } : Dev).flashTempOk = true ∧ ({ maint with flashJob := some erasing } : Dev).modeWait = [] ∧
    erasing.ops = .erase 2 0 :: .erase 2 15 :: [.readBack 2] ∧ retiring.ops = [.retire 2] ∧ retiring.commit = false ∧ retiring.client < 64 := by decide +kernel
/-! ### Well-formed commands -/

def goodMsg : LinkMsg := { seq := 0, hchk := 0, crc := 0, body := [] }
def goodStart : StartInfo := { raws := List.replicate 38 0, micros := List.replicate 13 0 }
def badStart : StartInfo := { goodStart with raws := [] }
def goodResume : ResumeInfo := { raws := List.replicate 38 0, micros := List.replicate 8 0, start := goodStart }
def ill0 : List Instr := [
    .setMode host 256, .snapshotCounters host (2 ^ 32) 0 0 0, .snapshotCounters host 0 0 (2 ^ 32) 0, .snapshotCounters host 0 256 0 0,
    .snapshotCounters host 0 0 0 (2 ^ 64), .readEvents host (2 ^ 64) 0, .readEvents host 0 65536, .almanacRead host 256 0 0,
    .almanacRead host 0 (2 ^ 32) 0, .almanacRead host 0 0 (2 ^ 32), .almanacStage host false (2 ^ 32) 0, .almanacStage host false 0 (2 ^ 32),
    .almanacCommit host (2 ^ 32) 0, .almanacCommit host 0 (2 ^ 32), .almanacRevert host 256, .openChannel host [], .closeChannel host 256,
    .startChannel host 256, .stopChannel host 256 0, .stopChannel host 0 256, .reconfigureChannel host [], .forceEquinox host 256,
    .queryChannel host 256, .egressBind host [], .egressUnbind host 256 0, .egressUnbind host 0 256,
    .bundleConfigure host 256 0 0 0 0 (List.replicate 12 0), .bundleConfigure host 0 256 0 0 0 (List.replicate 12 0),
    .bundleConfigure host 0 0 (2 ^ 32) 0 0 (List.replicate 12 0), .bundleConfigure host 0 0 0 (2 ^ 32) 0 (List.replicate 12 0),
    .bundleConfigure host 0 0 0 0 (2 ^ 32) (List.replicate 12 0), .bundleConfigure host 0 0 0 0 0 [],
    .bundleConfigure host 0 0 0 0 0 (List.replicate 12 32768), .bundleTrain host 256, .laneStatus host 256, .harvestArm host 256 0 0 0 0 0 0,
    .harvestArm host 0 256 0 0 0 0 0, .harvestArm host 0 0 256 0 0 0 0, .harvestArm host 0 0 0 256 0 0 0, .harvestArm host 0 0 0 0 (2 ^ 32) 0 0,
    .harvestArm host 0 0 0 0 0 (2 ^ 32) 0, .harvestArm host 0 0 0 0 0 0 (2 ^ 32), .harvestTrigger host 256, .harvestRelease host 256,
    .twinConfigure host 256]
theorem wf_refuses0 : ill0.all (fun i => !i.wf) = true := by decide +kernel
def ill1 : List Instr := [
    .gangJoin host 256 0 0, .gangJoin host 0 256 0, .gangJoin host 0 0 (2 ^ 32), .recordBind host [], .recordUnbind host 256, .memRegions host [],
    .fenceClear host 256 0 none, .fenceClear host 0 65536 none, .timeSetIncrement host (2 ^ 32), .timeStep host (2 ^ 63),
    .pulseProgram host 256 0 0 0 0 0 0, .pulseProgram host 0 256 0 0 0 0 0, .pulseProgram host 0 0 256 0 0 0 0, .pulseProgram host 0 0 0 256 0 0 0,
    .pulseProgram host 0 0 0 0 (2 ^ 32) 0 0, .pulseProgram host 0 0 0 0 0 (2 ^ 32) 0, .pulseProgram host 0 0 0 0 0 0 65536, .audioConfigure host [],
    .audioMute host 256 0 0 0, .audioMute host 0 256 0 0, .audioMute host 0 0 256 0, .audioMute host 0 0 0 256, .previewConfigure host [],
    .scalerLoad host [], .lanternLoad host 256 0 0, .lanternLoad host 0 256 0, .lanternLoad host 0 0 256, .lanternMove host 32768 0 0,
    .lanternMove host 0 32768 0, .lanternMove host 0 0 256, .planeLoad host 256 0 0, .planeLoad host 0 65536 0, .planeLoad host 0 0 65536,
    .perturbSet host [], .perturbClear host 256, .selftest host (2 ^ 128) 0 0, .selftest host 0 (2 ^ 128) 0, .selftest host 0 0 65536,
    .checkRun host 256 0 0 0 0 0, .checkRun host 0 256 0 0 0 0, .checkRun host 0 0 256 0 0 0, .checkRun host 0 0 0 (2 ^ 32) 0 0,
    .checkRun host 0 0 0 0 0 (2 ^ 32), .checkRun host 0 0 0 0 (2 ^ 64) 0, .regRead host (2 ^ 32) 0]
theorem wf_refuses1 : ill1.all (fun i => !i.wf) = true := by decide +kernel
def ill2 : List Instr := [
    .regRead host 0 65536, .regWrite host (2 ^ 32) 0, .regWrite host 0 (2 ^ 32), .regModify host (2 ^ 32) 0 0, .regModify host 0 (2 ^ 32) 0,
    .regModify host 0 0 (2 ^ 32), .decodeOpen host [], .decodeFeed host [], .decodeClose host 256, .readReg (2 ^ 32), .writeReg (2 ^ 32) 0,
    .writeReg 0 (2 ^ 32), .sqDb 0 (2 ^ 32), .rqDb 0 (2 ^ 32), .queueOpen .bar0 0 (2 ^ 32), .queueClose .bar0 0 (2 ^ 32),
    .slotFetch none (some []) {} {}, .slotReadRetry 0 (some []) {} {}, .stepHiGo .bar0 65536, .flush .bar0 0 256 0 none, .flush .bar0 0 0 256 none,
    .valueLo .bar0 0 false (2 ^ 32), .head .bar0 0 (2 ^ 32), .kill .bar0 (2 ^ 32), .registerWrite .spi (2 ^ 26) 0 0, .registerWrite .bar0 (2 ^ 26 + 2 ^ 19) 0 0,
    .registerWrite .bar0 0 (2 ^ 32) 0, .directRead .bar0 (2 ^ 26 + 2 ^ 19) 0, .directRead .spi (2 ^ 26) 1, .startUp badStart, .thermalHoldEnd badStart, .thermalSample [] 0,
    .thermalSample (List.replicate 38 0) (2 ^ 13), .thermalRestart 0 badStart, .parityGroup 0 [], .linkUp 0 [], .addressResolve 256 0 0 false,
    .addressResolve 0 256 0 false, .sampleFrame 0 [] (List.replicate 64 0) 0, .sampleFrame 0 (List.replicate 32 0) [] 0,
    .sampleFrame 0 (List.replicate 32 8388608) (List.replicate 64 0) 0, .sampleFrame 0 (List.replicate 32 0) (List.replicate 64 8388608) 0,
    .memRegions host (List.replicate 16 (2 ^ 32, 0)), .memRegions host (List.replicate 16 (0, 2 ^ 32)), .audioRoute host (List.replicate 10 0),
    .audioRoute host (List.replicate 8 0), .lutLoad host (List.replicate 10 0)]
theorem wf_refuses2 : ill2.all (fun i => !i.wf) = true := by decide +kernel
def ill3 : List Instr := [
    .lutLoad host (List.replicate 8 0), .lutLoad host (leBytes 4 0 ++ leBytes 2 2045 ++ leBytes 4092 0), .data32 .bar0 0 .b8 256,
    .data32 .bar0 0 .b16 65536, .data32 .bar0 0 .b32 (2 ^ 32), .registerWrite .bar0 0 0 16, .directRead .bar0 0 0,
    .warmResume { goodResume with raws := [] }, .warmResume { goodResume with micros := [] }, .warmResume { goodResume with start := badStart },
    .linePacket 0 [⟨2 ^ 64, false⟩], .memoryRequest 0 [{ port := 0, addr := 0, data := some [] }], .ptpMessage 0 256 false (.delayResp 0),
    .nop { host with client := 64 }, .nop { host with tag := 2 ^ 32 }, .nop { host with buf := 2 ^ 64 }, .hello { goodMsg with seq := 65536 },
    .hello { goodMsg with hchk := 65536 }, .hello { goodMsg with crc := 2 ^ 32 }, .startUp { goodStart with micros := [] }]
theorem wf_refuses3 : ill3.all (fun i => !i.wf) = true := by decide +kernel
def well0 : List Instr := [
    .nop host, .getInfo host, .setMode host 0, .getStatus host, .warmReset host, .snapshotCounters host 0 0 0 0, .readEvents host 0 0,
    .spiRelease host, .almanacRead host 0 0 0, .almanacStage host false 0 0, .almanacCommit host 0 0, .almanacRevert host 0,
    .openChannel host (List.replicate 128 0), .closeChannel host 0, .startChannel host 0, .stopChannel host 0 0,
    .reconfigureChannel host (List.replicate 128 0), .forceEquinox host 0, .queryChannel host 0, .egressBind host (List.replicate 64 0),
    .egressUnbind host 0 0, .bundleConfigure host 0 0 0 0 0 (List.replicate 12 0), .bundleTrain host 0, .laneStatus host 0,
    .harvestArm host 0 0 0 0 0 0 0, .harvestTrigger host 0, .harvestRelease host 0, .twinConfigure host 0, .twinStatus host, .twinHandover host,
    .gangJoin host 0 0 0, .gangLeave host, .gangStatus host, .recordBind host (List.replicate 64 0), .recordUnbind host 0, .fenceClear host 0 0 none,
    .timeGet host, .timeSetIncrement host 0, .timeStep host 0, .pulseProgram host 0 0 0 0 0 0 0, .audioConfigure host (List.replicate 16 0),
    .audioMute host 0 0 0 0, .previewConfigure host (List.replicate 48 0), .scalerLoad host (List.replicate 3592 0), .lanternLoad host 0 0 0,
    .lanternMove host 0 0 0, .planeLoad host 0 0 0, .perturbSet host (List.replicate 40 0), .perturbClear host 0, .selftest host 0 0 0,
    .checkRun host 0 0 0 0 0 0, .regRead host 0 0, .regWrite host 0 0, .regModify host 0 0 0, .decodeOpen host (List.replicate 24 0),
    .decodeFeed host (List.replicate 24 0), .decodeClose host 0, .readReg 0, .writeReg 0 0, .sqDb 0 0]
theorem wf_accepts0 : well0.all Instr.wf = true := by decide +kernel
def well1 : List Instr := [
    .rqDb 0 0, .queueOpen .bar0 0 0, .queueClose .bar0 0 0, .slotFetch none none {} {}, .slotReadRetry 0 none {} {}, .stepHiGo .bar0 0,
    .flush .bar0 0 0 0 none, .valueLo .bar0 0 false 0, .head .bar0 0 0, .kill .bar0 0, .thermalHoldEnd goodStart,
    .thermalSample (List.replicate 38 0) 0, .thermalRestart 0 goodStart, .parityGroup 0 (List.replicate 8 0),
    .hello goodMsg, .heartbeat goodMsg, .propose goodMsg,
    .agree goodMsg, .refuse goodMsg, .commit goodMsg,
    .commitAck goodMsg, .abort goodMsg, .picDigest goodMsg,
    .rowNote goodMsg, .leave goodMsg, .joinReq goodMsg 0 0,
    .copyChunk goodMsg, .switch goodMsg,
    .tail goodMsg none [], .calends goodMsg 0, .hole goodMsg,
    .status goodMsg, .stats goodMsg, .linkUp 0 (List.replicate 4 0), .addressResolve 0 0 0 false,
    .sampleFrame 0 (List.replicate 32 0) (List.replicate 64 0) 0, .memRegions host (List.replicate 16 (0, 0)),
    .audioRoute host (leBytes 3 0 ++ leBytes 1 1 ++ leBytes 5 0), .lutLoad host (leBytes 4 0 ++ leBytes 2 1 ++ leBytes 4 0), .data32 .bar0 0 .b8 255,
    .registerWrite .bar0 0 0 15, .directRead .bar0 0 1, .warmResume goodResume, .linePacket 0 [⟨0, false⟩], .startUp goodStart, .nop host]
theorem wf_accepts1 : well1.all Instr.wf = true := by decide +kernel
/-! ### Worked examples of the spec -/

/-- A parameter block that holds only its geometry, rate and lag. -/
def geom (w h num lag fmt : Nat) : List Byte :=
  [(2, 1, fmt), (26, 2, w), (28, 2, h), (32, 4, num), (36, 4, 1), (53, 1, lag)].foldl putBytes (List.replicate 128 0)

/-- D_min, A_min and Δ at D_min, with the default steal delay of 20 µs and rescue margin of 50 µs. -/
def figures (p : List Byte) : Nat × Nat × Nat := (dMinOf p 200 50, aMinOf p, refDist p (dMinOf p 200 50))

/-- The worked figures beside R164. -/
theorem test_fixed_delay_figures :
    figures (geom 1920 1080 120 16 3) = (679, 1, 1) ∧ figures (geom 7680 4320 120 16 1) = (2575, 16, 1) ∧
    figures (geom 7680 4320 240 32 1) = (2575, 32, 1) ∧ figures (geom 15360 8640 120 64 1) = (5023, 64, 1) ∧
    figures (geom 1280 800 30000 16 7) = (858, 123, 27) := by decide +kernel

/-- R161: L from 13 upwards is feasible at 30,000 pictures/s, and 12 is not; one 16K stream at 240 is not feasible. -/
theorem test_lag_feasible : lagOk (geom 1280 800 30000 13 7) = true ∧ lagOk (geom 1280 800 30000 12 7) = false ∧
    lagOk (geom 15360 8640 240 64 1) = false := by decide +kernel

/-- R93: one line bit in error reaches payload bits k, k + 28 and k + 31; a word of bit 0 alone is sent as bits 0, 28, 31, 56 and 62. -/
theorem test_line_errors : (descrambleWord 0 1).1 = 1 + 2 ^ 28 + 2 ^ 31 ∧
    bitsWord (scrambleBits 0 (wordBits 1)).1 = 1 + 2 ^ 28 + 2 ^ 31 + 2 ^ 56 + 2 ^ 62 := by decide +kernel

/-- R94, R95: the bit after a run of 24 is of the opposite value, and a violation where it is not; a run count below 24 meets the premise of
`LineCodeRoundTrips`. -/
theorem meets_line_code : ({ count := 23, last := true } : LineRun).count < 24 ∧ (stuffBits {} (List.replicate 25 true)).1 = List.replicate 24 true ++ [false, true] ∧
    (unstuffBits {} (List.replicate 25 true)).2.1 = 1 := by decide +kernel

/-- The slot of the scientific camera of chapter 05: 328 stripes. -/
theorem test_slot_stripes : slotStripes (geom 1152 720 25000 4 6) = 328 := by decide +kernel

/-- The check of R443 over the nine bytes "123456789", by CTRL.POLY. -/
theorem test_crc_check_values : (List.range 4).map (fun k => crcOf k [] [0x31, 0x32, 0x33, 0x34, 0x35, 0x36, 0x37, 0x38, 0x39]) =
    [0xCBF43926, 0xE3069283, 0x29B1, 0x6C40DF5F0B497347] := by decide +kernel

/-- Chapter 21: a zone at 108.4 °C asks for 5 levels. -/
theorem test_shed_request : shedRequest (108 * 64 + 26) = 5 := by decide +kernel

/-- Chapter 07: the window vector of the example, and the cycle bounds that set E_cap 14 with 127 engines and 13 with 119. -/
theorem test_engine_figures : roundTie (-37) 1 64 = -64 ∧ roundTie 10 1 4 = 8 ∧
    cycleBound 14 * 128 ≤ 16384 * 127 ∧ 16384 * 127 < cycleBound 15 * 128 ∧
    cycleBound 13 * 128 ≤ 16384 * 119 ∧ 16384 * 119 < cycleBound 14 * 128 := by decide +kernel

/-- Chapter 24: the addresses of its first example. -/
theorem test_register_addresses : F.ENG_FAULT.addr 77 0 = 0x0044D048 ∧ F.SL_CODE_ERR.addr 25 0 = 0x00101910 ∧
    F.CMD_Q_SQ_HEAD.addr 5 0 = 0x00020614 := by decide +kernel

/-- Chapter 15: one channel of the contribution unit reserves 806,626,914 bit/s. -/
def egressBlock : List Byte := [(2, 1, 3), (12, 2, 1460)].foldl putBytes (List.replicate 64 0)
def contribution : Dev :=
  { maint with chans := [(0, { params := [(60, 1, 0), (64, 4, 700000)].foldl putBytes (geom 1920 1080 120 16 3) })] }
theorem test_reserved_rate : contribution.resRate egressBlock = (806626914, 1) := by decide +kernel

/-- Chapter 16: the increment carries and the step borrows in one tick. -/
def atWrap : Dev := (maint.setF F.TB_NS 0xFFFFFFFE).setF F.TB_WRAP_WRAPS 0x0012
theorem test_tick_then_step : atWrap.tickTime.getF F.TB_NS = 2 ∧ atWrap.tickTime.getF F.TB_WRAP_WRAPS = 0x0013 ∧
    (atWrap.tickTime.applyStep (-10)).getF F.TB_NS = 0xFFFFFFF8 ∧ (atWrap.tickTime.applyStep (-10)).getF F.TB_WRAP_WRAPS = 0x0012 := by
  decide +kernel

/-- Chapter 22: SL[25].CODE_ERR saturates at its second violation, which sets SAT; a third changes nothing. -/
def nearSat : Dev := maint.setF F.SL_CODE_ERR 0xFFFFFFFE 25
theorem test_counter_saturates : (nearSat.count C.SL_CODE_ERR 25).getF F.SL_CODE_ERR 25 = 0xFFFFFFFF ∧
    (nearSat.count C.SL_CODE_ERR 25).flag F.SL_STATUS_SAT 25 = false ∧
    ((nearSat.count C.SL_CODE_ERR 25).count C.SL_CODE_ERR 25).flag F.SL_STATUS_SAT 25 = true ∧
    (((nearSat.count C.SL_CODE_ERR 25).count C.SL_CODE_ERR 25).count C.SL_CODE_ERR 25).getF F.SL_CODE_ERR 25 = 0xFFFFFFFF := by
  decide +kernel

/-- Chapter 24: in Live, ENG[9].CTRL = 3 through BAR0 takes effect without HOLD, which counts one refusal; REG-WRITE refuses it. -/
def liveReg : Dev := (up 2).directWrite .bar0 0x00409010 3 15
theorem test_refused_in_live : liveReg.flag F.ENG_CTRL_HOLD 9 = false ∧ liveReg.getF F.PCIE_DIRECT_REFUSED = 1 ∧
    liveReg.getF F.PCIE_LAST_REFUSED_ADDR = 0x00409010 ∧ liveReg.getF F.PCIE_LAST_REFUSED_CAUSE = 3 ∧
    chkRegWrite 0x00409010 3 (up 2) = some (.badParam, 0x81) := by decide +kernel
end Sys2Proof.Tests
end

namespace Sys2Proof

/-! ### Register files restored from another -/

/-- After a list of writes every cell reads what the last write to it left, and what it read before where there was none. -/
theorem Cells.get_foldl_set {α : Type} [DecidableEq α] (f : Nat → α) (xs l : List (Nat × α)) (k : Nat) :
    Cells.get f (xs.foldl (fun l x => Cells.set f l x.1 x.2) l) k = Cells.get (Cells.get f l) xs.reverse k := by
  induction xs using List.reverseRecOn with
  | nil => rfl
  | append_singleton ys x ih =>
    rw [List.foldl_append, List.reverse_append]
    by_cases h : x.1 = k
    · subst h; simp [Cells.get]
    · simp [Cells.get, h, Cells.get_set_other f _ _ (Ne.symm h), ih]

/-- A cell reads the same under two defaults that agree at its key. -/
theorem Cells.get_congr_default {α : Type} {f g : Nat → α} (l : List (Nat × α)) {k : Nat} (h : f k = g k) : Cells.get f l k = Cells.get g l k := by
  induction l with
  | nil => exact h
  | cons x r ih =>
    obtain ⟨a, v⟩ := x
    simp only [Cells.get, ih]

/-- A cell that a selection keeps reads the same in the selection. -/
theorem Cells.get_filter_kept {α : Type} (f : Nat → α) (p : Nat → Bool) (l : List (Nat × α)) {k : Nat} (h : p k = true) :
    Cells.get f (l.filter (fun x => p x.1)) k = Cells.get f l k := by
  induction l with
  | nil => rfl
  | cons x r ih =>
    obtain ⟨a, v⟩ := x
    by_cases ha : a = k
    · subst ha; simp [Cells.get, h]
    · by_cases hp : p a = true <;> simp [Cells.get, hp, ha, ih]

/-- A cell that a selection drops reads as unlisted. -/
theorem Cells.get_filter_dropped {α : Type} (f : Nat → α) (p : Nat → Bool) (l : List (Nat × α)) {k : Nat} (h : p k = false) :
    Cells.get f (l.filter (fun x => p x.1)) k = f k := by
  induction l with
  | nil => rfl
  | cons x r ih =>
    obtain ⟨a, v⟩ := x
    by_cases hp : p a = true
    · have ha : a ≠ k := fun e => by simp [e, h] at hp
      simp [Cells.get, hp, ha, ih]
    · simp [hp, ih]

end Sys2Proof

namespace Sys2Proof.Machine

/-- A restored cell reads the last entry that the other register file lists for it, where `Dev.cell` of that file reads the first. -/
theorem Dev.cell_keepCells (d old : Dev) (f : Nat → Bool) {k : Nat} (h : f k = true) :
    (d.keepCells old f).cell k = Cells.get resetField old.regs.reverse k := by
  have dropped : Cells.get resetField (d.regs.filter (fun x => !f x.1)) k = resetField k :=
    Cells.get_filter_dropped resetField (fun a => !f a) d.regs (by simp [h])
  unfold Dev.cell Dev.keepCells
  rw [Cells.get_foldl_set, ← List.filter_reverse, Cells.get_filter_kept _ f _ h]
  exact Cells.get_congr_default _ dropped

/-! ### What leaves the mode alone -/

theorem Dev.mode_eq_cell (d : Dev) : d.mode = d.cell 0 := rfl

/-- Every register but KEEPER.MODE lies above it. -/
theorem Field.key_ne_mode {f : Field} (h : f.base ≠ 0) (i j : Nat) : 0 ≠ f.key i j := by
  unfold Field.key Field.addr
  omega

theorem Dev.mode_setF (d : Dev) (f : Field) (v i j : Nat) (h : f.base ≠ 0) : (d.setF f v i j).mode = d.mode :=
  Dev.cell_setF_ne d f v i j (Field.key_ne_mode h i j)

theorem Dev.mode_set64 (d : Dev) (lo hi : Field) (v i j : Nat) (hlo : lo.base ≠ 0) (hhi : hi.base ≠ 0) :
    (d.set64 lo hi v i j).mode = d.mode := Dev.cell_set64_ne d lo hi v i j (Field.key_ne_mode hlo i j) (Field.key_ne_mode hhi i j)

theorem Dev.mode_clearCtr (d : Dev) (c : Ctr) (i j : Nat) (h : 0 ∉ ctrKeys c i j) : (d.clearCtr c i j).mode = d.mode := by
  simp only [Dev.mode_eq_cell, Dev.clearCtr]
  rw [Dev.cell_putSat _ _ _ _ _ h, Dev.cell_putCtr _ _ _ _ _ h]

theorem Dev.mode_showDigests (d : Dev) : d.showDigests.mode = d.mode := by
  unfold Dev.showDigests Dev.showDigest Dev.showRingDigest
  rw [Dev.mode_set64 _ _ _ _ _ _ (by decide) (by decide), Dev.mode_set64 _ _ _ _ _ _ (by decide) (by decide)]

theorem Dev.mode_showShed (d : Dev) : d.showShed.mode = d.mode := by
  unfold Dev.showShed
  dsimp only
  split
  · rfl
  · refine Dev.cell_upto _ _ _ 0 (fun e d _ => ?_)
    simp only [← Dev.mode_eq_cell]
    rw [Dev.mode_setF _ _ _ _ _ (by decide), Dev.mode_setF _ _ _ _ _ (by decide), Dev.mode_setF _ _ _ _ _ (by decide)]

/-- A decode context has one counter (R488). -/
theorem decode_ctrRows : ctrRows.filter (fun r => some r.block == unitInstances 10 && (unitCount 10 == 1 || r.n1 == unitCount 10)) =
    [⟨C.DECODE_BUDGET_ERR, .decode, 16, 1⟩] := by decide +kernel

theorem Dev.clearUnitCounters_decode (d : Dev) (i : Nat) : d.clearUnitCounters 10 i = d.clearCtr C.DECODE_BUDGET_ERR i 0 := by
  unfold Dev.clearUnitCounters
  rw [decode_ctrRows]
  rfl

theorem Dev.mode_clearUnitCounters_decode (d : Dev) (i : Nat) : (d.clearUnitCounters 10 i).mode = d.mode := by
  rw [Dev.clearUnitCounters_decode]
  refine Dev.mode_clearCtr _ _ _ _ (fun h => ?_)
  simp only [ctrKeys, C.DECODE_BUDGET_ERR, Ctr.satPlace, if_true, List.mem_append, List.mem_cons, List.not_mem_nil, or_false] at h
  exact h.elim (Field.key_ne_mode (by decide) i 0) (Field.key_ne_mode (by decide) i 0)

theorem Dev.mode_finish (d : Dev) (c : Ctx) (op : Nat) (st : Status) (a : Nat) (data : List Byte) (hc : c.client < 64) :
    (d.finish c op st a data).mode = d.mode :=
  Dev.cell_finish d c op st a data (k := 0) (by simp [replyCell, logKeys]) hc

theorem Dev.mode_settle (d : Dev) : d.settle.mode = d.mode := Dev.cell_settle d (k := 0) (by decide)

/-! ### FENCE-CLEAR of a decode context -/

/-- KEEPER.MODE is no register of a decode context. -/
theorem unitField_decode_mode (i : Nat) : unitField 10 i (F.KEEPER_MODE_MODE.key 0 0) = false := by
  have hb : (blockOf (keyAddr (F.KEEPER_MODE_MODE.key 0 0)) == .decode) = false := by decide
  unfold unitField
  split
  · next b p hu _ =>
    obtain rfl : .decode = b := Option.some.inj hu
    simp [hb]
  · rfl

/-- A domain reset of a decode context restores KEEPER.MODE to the last entry that the register file lists for it. -/
theorem Dev.mode_domainReset_decode (d : Dev) (i : Nat) : (d.domainReset 10 i).mode = Cells.get resetField d.regs.reverse 0 := by
  unfold Dev.domainReset
  rw [Dev.mode_showDigests, Dev.mode_clearUnitCounters_decode]
  exact Dev.cell_keepCells _ d _ (by rw [unitField_decode_mode]; rfl)

/-- FENCE-CLEAR of a fenced decode context leaves the last entry for KEEPER.MODE in force. -/
theorem mode_runFenceClear_decode (c : Ctx) (i : Nat) (d : Dev) (hc : c.client < 64) (hf : d.fenced 10 i = true) :
    (runFenceClear c 10 i none d).mode = Cells.get resetField (d.unfence 10 i).regs.reverse 0 := by
  have units : ((10, i) :: unitParts 10 i).filter (fun u => d.fenced u.1 u.2) = [(10, i)] := by
    simp [unitParts, unitPartsDirect, hf]
  unfold runFenceClear
  dsimp only
  rw [Dev.mode_finish _ _ _ _ _ _ hc, Dev.mode_eq_cell, Dev.cell_commitPoint, ← Dev.mode_eq_cell]
  unfold Dev.restoreUnit
  rw [units, Dev.mode_showShed]
  exact Dev.mode_domainReset_decode _ i

theorem jobFenceClear_run (c : Ctx) (kind i : Nat) (struck : Option Nat) : (jobFenceClear c kind i struck).run = runFenceClear c kind i struck := rfl

/-! ### The refutation -/

/-- In Configure, with decode context 0 fenced, and a register file that is not canonical: it lists KEEPER.MODE twice, first as 1, then as 2. -/
def modeListedTwice : Dev := { phase := .run, regs := [(0, 1), (0, 2)], fences := [(10, 0)] }

/-- The command can run there, and nothing of it waits for a SET-MODE. -/
theorem modeListedTwice_canRun : modeListedTwice.canRun {} (jobFenceClear {} 10 0 none) := by decide +kernel

/-- FENCE-CLEAR takes that state from mode 1 to mode 2. -/
theorem fenceClear_changes_mode :
    modeListedTwice.mode = 1 ∧ (modeListedTwice.issue {} (jobFenceClear {} 10 0 none)).settle.mode = 2 := by
  refine ⟨by decide +kernel, ?_⟩
  rw [Dev.mode_settle, Dev.issue_run _ _ _ modeListedTwice_canRun, jobFenceClear_run, mode_runFenceClear_decode _ _ _ (by decide) (by decide)]
  decide +kernel

/-- Refutes O53: it is claimed of every state, also of one whose register file is not canonical. FENCE-CLEAR returns the registers outside the unit
by writing the old entries again in their order (`Dev.keepCells`), so that of two entries for KEEPER.MODE the last is in force, where the first was. -/
theorem not_onlySetModeStartsResetsAndShutdownChangeTheMode : ¬ Obligations.OnlySetModeStartsResetsAndShutdownChangeTheMode := by
  unfold Obligations.OnlySetModeStartsResetsAndShutdownChangeTheMode
  intro h
  obtain ⟨before, after⟩ := fenceClear_changes_mode
  have same := h (.fenceClear {} 10 0 none) { pending := [], dev := modeListedTwice } _ rfl trivial
  have : 2 = 1 := after.symm.trans (same.trans before)
  omega

end Sys2Proof.Machine

namespace Sys2Proof.Machine

/-! ### A command that is turned away -/

/-- A rejection of up to 96 bytes sends one DONE reply, over the transport its client is bound to (R65). -/
theorem Dev.reject_replied (d : Dev) (c : Ctx) (op : Nat) (st : Status) (a : Nat) (u : Bool) (data : List Byte) (now : Nat)
    (hd : data.length ≤ 96) :
    Dev.replied d (d.reject (d.spiBound c.client) c.client op c.tag c.client st (detailOf st a) u data now) c op st a data := by
  refine ⟨{ done := true, untrusted := u, opcode := op, tag := c.tag, client := c.client, status := st.code, detail := detailOf st a
            rlen := data.length, acceptTime := now, data := data }, rfl, rfl, rfl, rfl, rfl, rfl, rfl, fun _ => rfl, fun _ hl => ?_,
    fun hs => ?_, fun hs => ?_⟩
  · omega
  · rw [hs, ← Dev.count_spiOut d C.CMD_REJECTED 0 0 1]
    rfl
  · rw [hs]
    exact Dev.postReply_keeps _ _ _

/-- A command that is turned away receives its one DONE reply, journaled or not (R65, R553). -/
theorem Dev.turnAway_replied (d : Dev) (c : Ctx) (op : Nat) (st : Status) (a : Nat) (data : List Byte) (hc : c.client < 64)
    (hd : data.length ≤ 96) : Dev.replied d (d.turnAway c op st a data) c op st a data := by
  unfold Dev.turnAway
  split
  · exact Dev.finish_replied d c op st a data hc
  · exact Dev.reject_replied d c op st a false data _ hd

/-- A rejection writes no register outside CMD and the log's. -/
theorem Dev.cell_reject (d : Dev) (spi : Bool) (n op tag cl : Nat) (st : Status) (a : Nat) (u : Bool) (data : List Byte) (now : Nat)
    {k : Nat} (h : ¬ replyCell k) (hn : n < 64) : (d.reject spi n op tag cl st a u data now).cell k = d.cell k := by
  unfold Dev.reject
  rw [Dev.cell_postReply _ _ _ _ h hn, Dev.cell_count_cmd _ _ _ h (by decide) (by decide)]

/-- A field outside the transport's registers, after a command is turned away. -/
theorem Dev.getF_turnAway (d : Dev) (c : Ctx) (op : Nat) (st : Status) (a : Nat) (data : List Byte) (f : Field) (i j : Nat)
    (h : ¬ replyCell (f.key i j)) (hc : c.client < 64) : (d.turnAway c op st a data).getF f i j = d.getF f i j := by
  unfold Dev.turnAway
  split
  · exact Dev.getF_finish d c op st a data f i j h hc
  · exact Dev.cell_reject d _ _ _ _ _ _ _ _ _ _ h hc

/-- A command row whose check refuses, and that reports nothing with it, answers with its one DONE reply and leaves every field outside the
transport's registers and those that follow from the state. -/
theorem answers_refusal {i : Instr} {c : Ctx} {j : CmdJob} {s : State} {st : Status} {a : Nat}
    (hi : exec i s = s.act (fun d => d.issue c j)) (hs : s.dev.serving = true) (hm : (j.modes s.dev).contains s.dev.mode = true)
    (hk : j.chk s.dev = some (st, a)) (hr : j.refused s.dev = s.dev) (hd : j.data s.dev = []) (hc : c.client < 64)
    (f : Field) (m n : Nat) (hf : ¬ replyCell (f.key m n)) (hset : f.key m n ∉ settleKeys) :
    answers i s (fun d => Dev.replied s.dev d c j.op st a [] ∧ d.getF f m n = s.dev.getF f m n) := by
  refine answers_act hi ?_
  rw [Dev.issue_check _ _ _ _ _ hs hm hk, hr, hd]
  refine ⟨Dev.replied_settle (Dev.turnAway_replied _ _ _ _ _ _ hc (Nat.zero_le _)), ?_⟩
  rw [Dev.getF_settle _ _ _ _ hset, Dev.getF_turnAway _ _ _ _ _ _ _ _ _ hf hc]

/-! ### TIME-SET-INCREMENT -/

/-- The limit of R396, free of the rounding of `Dev.incLimit`: a distance is a whole number. -/
theorem Dev.incAllowed_iff (d : Dev) (v : Nat) :
    d.incAllowed v = true ↔ 1000000 * ((v : Int) - 2 ^ 26).natAbs ≤ d.getF F.TB_INC_LIMIT_PPM * 2 ^ 26 := by
  unfold Dev.incAllowed Dev.incLimit incNominal
  rw [Bool.and_eq_true, decide_eq_true_eq, decide_eq_true_eq]
  omega

theorem chkTimeSetIncrement_none {inc : Nat} {d : Dev} (hs : d.getF F.TB_STATUS_STEER = 0) (ha : d.incAllowed inc = true) :
    chkTimeSetIncrement inc d = none := by
  simp [chkTimeSetIncrement, hs, ha]

theorem chkTimeSetIncrement_busy {inc : Nat} {d : Dev} (hs : d.getF F.TB_STATUS_STEER ≠ 0) :
    chkTimeSetIncrement inc d = some (.busy, 0x08) := by
  simp [chkTimeSetIncrement, hs]

theorem chkTimeSetIncrement_badParam {inc : Nat} {d : Dev} (hs : d.getF F.TB_STATUS_STEER = 0) (ha : ¬ d.incAllowed inc = true) :
    chkTimeSetIncrement inc d = some (.badParam, 0x08) := by
  simp [chkTimeSetIncrement, hs, ha]

/-- TB.INC is no cell that a reply may write. -/
theorem TB_INC_not_replyCell : ¬ replyCell (F.TB_INC.key 0 0) := by
  simp [replyCell, logKeys, Field.key, Field.addr, F.TB_INC]

/-- TB.INC does not follow from the rest of the state. -/
theorem TB_INC_not_settleKey : F.TB_INC.key 0 0 ∉ settleKeys := by decide

/-- Where the command runs it leaves the value in TB.INC. -/
theorem getF_runTimeSetIncrement (c : Ctx) (inc : Nat) (d : Dev) (hc : c.client < 64) :
    (runTimeSetIncrement c inc d).getF F.TB_INC = inc % 2 ^ 32 := by
  unfold runTimeSetIncrement
  rw [Dev.getF_finish _ _ _ _ _ _ _ _ _ TB_INC_not_replyCell hc, Dev.getF_commitPoint, Dev.getF_setF_same]
  rfl

/-- Where the command runs it completes with OK. -/
theorem runTimeSetIncrement_replied (c : Ctx) (inc : Nat) (d : Dev) (hc : c.client < 64) :
    Dev.replied d (runTimeSetIncrement c inc d) c 0x0602 .ok 0 [] := by
  refine Dev.finish_replied_of c _ _ _ _ hc ?_ rfl
  refine Dev.flag_setF_ne d _ _ _ _ _ _ _ ?_
  rw [spiBound_key]
  simp [Field.key, Field.addr, F.TB_INC]
  omega

/-- Where it can run, TIME-SET-INCREMENT answers OK with the value in TB.INC. -/
theorem timeSetIncrement_answers_ok {s : State} {c : Ctx} {inc : Nat} (h : s.dev.canRun c (jobTimeSetIncrement c inc)) :
    answers (.timeSetIncrement c inc) s (fun d => Dev.replied s.dev d c 0x0602 .ok 0 [] ∧ d.getF F.TB_INC = inc % 2 ^ 32) := by
  have hc : c.client < 64 := h.2.2.2
  refine answers_issue rfl h ⟨Dev.replied_settle (runTimeSetIncrement_replied c inc _ hc), ?_⟩
  rw [Dev.getF_settle _ _ _ _ TB_INC_not_settleKey]
  exact getF_runTimeSetIncrement c inc _ hc

/-- Turned away by its check, TIME-SET-INCREMENT answers so and leaves TB.INC. -/
theorem timeSetIncrement_answers_refusal {s : State} {c : Ctx} {inc : Nat} {st : Status} {a : Nat} (hs : s.dev.serving = true)
    (hm : s.dev.mode ∈ notStandby) (hc : c.client < 64) (hk : chkTimeSetIncrement inc s.dev = some (st, a)) :
    answers (.timeSetIncrement c inc) s (fun d => Dev.replied s.dev d c 0x0602 st a [] ∧ d.getF F.TB_INC = s.dev.getF F.TB_INC) :=
  answers_refusal (j := jobTimeSetIncrement c inc) rfl hs (List.elem_eq_true_of_mem hm) hk rfl rfl hc F.TB_INC 0 0
    TB_INC_not_replyCell TB_INC_not_settleKey

/-- Settles O51: the check decides by STEER first and then by the limit of R396, and its three outcomes are the three clauses. -/
theorem timeSetIncrementWritesTheIncrement : Obligations.TimeSetIncrementWritesTheIncrement := by
  unfold Obligations.TimeSetIncrementWritesTheIncrement
  intro s c inc hs hm hc off
  refine ⟨fun hsteer hoff hinc => ?_, fun hsteer => ?_, fun hsteer hoff => ?_⟩
  · have hk := chkTimeSetIncrement_none hsteer ((Dev.incAllowed_iff s.dev inc).2 hoff)
    have h := timeSetIncrement_answers_ok (c := c) ⟨hs, List.elem_eq_true_of_mem hm, hk, hc⟩
    rwa [Nat.mod_eq_of_lt hinc] at h
  · exact timeSetIncrement_answers_refusal hs hm hc (chkTimeSetIncrement_busy hsteer)
  · have ha : ¬ s.dev.incAllowed inc = true := fun h => Nat.not_le.2 hoff ((Dev.incAllowed_iff s.dev inc).1 h)
    exact timeSetIncrement_answers_refusal hs hm hc (chkTimeSetIncrement_badParam hsteer ha)

end Sys2Proof.Machine

namespace Sys2Proof

/-! ### One field of a value replaced -/

/-- A value parts into the bits below a field, the field, and the bits above it. -/
theorem bits_split (v lsb w : Nat) : v % 2 ^ lsb + 2 ^ lsb * (bits v lsb w + 2 ^ w * (v / 2 ^ (lsb + w))) = v := by
  unfold bits
  rw [Nat.pow_add, ← Nat.div_div_eq_div_mul, Nat.mod_add_div, Nat.mod_add_div]

/-- A bit outside the field that is replaced stays. -/
theorem bit_putField_outside (v x : Nat) {lsb w k : Nat} (h : k < lsb ∨ lsb + w ≤ k) :
    bit (Machine.putField v lsb w x) k = bit v k := by
  have parts : Machine.putField v lsb w x = v % 2 ^ lsb + 2 ^ lsb * (x % 2 ^ w + 2 ^ w * (v / 2 ^ (lsb + w))) := by
    have e := bits_split v lsb w
    unfold Machine.putField
    rw [Nat.mul_add] at e ⊢
    rw [Nat.mul_comm (bits v lsb w), Nat.mul_comm (x % 2 ^ w)]
    omega
  unfold bit
  rcases h with below | above
  · have low : Machine.putField v lsb w x % 2 ^ lsb = v % 2 ^ lsb := by rw [parts, Nat.add_mul_mod_self_left, Nat.mod_mod]
    simpa [Nat.testBit_mod_two_pow, below] using congrArg (·.testBit k) low
  · have high : Machine.putField v lsb w x / 2 ^ (lsb + w) = v / 2 ^ (lsb + w) := by
      rw [parts, Nat.pow_add, ← Nat.div_div_eq_div_mul, Nat.add_mul_div_left _ _ (Nat.two_pow_pos lsb),
        Nat.div_eq_of_lt (Nat.mod_lt _ (Nat.two_pow_pos lsb)), Nat.zero_add, Nat.add_mul_div_left _ _ (Nat.two_pow_pos w),
        Nat.div_eq_of_lt (Nat.mod_lt _ (Nat.two_pow_pos w)), Nat.zero_add]
    simpa [Nat.testBit_div_two_pow, Nat.sub_add_cancel above] using congrArg (·.testBit (k - (lsb + w))) high

/-- A one-bit field of a value is that bit. -/
theorem bits_one_ne_zero (v k : Nat) : (bits v k 1 != 0) = bit v k := by
  unfold bits bit
  rw [Nat.testBit_eq_decide_div_mod_eq, Nat.pow_one]
  rcases Nat.mod_two_eq_zero_or_one (v / 2 ^ k) with h | h <;> rw [h] <;> rfl

end Sys2Proof

namespace Sys2Proof.Machine

/-! ### Fields written by their access codes (R8) -/

@[simp] theorem Dev.core_writeField (d : Dev) (a v : Nat) (f : Nat × Nat × Access × Bool) : (Dev.writeField a v d f).core = d.core := by
  unfold Dev.writeField
  obtain ⟨lsb, w, acc, alm⟩ := f
  cases acc <;> rfl

/-- The fields of a register written leave everything but the register file alone. -/
theorem Dev.core_writeFields (a v : Nat) (l : List (Nat × Nat × Access × Bool)) (d : Dev) : (l.foldl (Dev.writeField a v) d).core = d.core := by
  induction l generalizing d with
  | nil => rfl
  | cons f r ih => rw [List.foldl_cons, ih, Dev.core_writeField]

/-- A field written leaves every cell but its own alone. -/
theorem Dev.cell_writeField_ne (d : Dev) (a v : Nat) (f : Nat × Nat × Access × Bool) {k : Nat} (h : k ≠ a * 32 + f.1) :
    (Dev.writeField a v d f).cell k = d.cell k := by
  unfold Dev.writeField Dev.cell
  obtain ⟨lsb, w, acc, alm⟩ := f
  cases acc
  case rw | w1c => exact Cells.get_set_other resetField d.regs _ h
  case ro | wo | w1s | rc | sc => rfl

/-- Fields written leave every cell but their own alone. -/
theorem Dev.cell_writeFields_ne (a v : Nat) (l : List (Nat × Nat × Access × Bool)) (d : Dev) {k : Nat} (h : ∀ f ∈ l, k ≠ a * 32 + f.1) :
    (l.foldl (Dev.writeField a v) d).cell k = d.cell k := by
  induction l generalizing d with
  | nil => rfl
  | cons f r ih =>
    rw [List.foldl_cons, ih _ (fun g hg => h g (List.mem_cons_of_mem _ hg)), Dev.cell_writeField_ne _ _ _ _ (h f List.mem_cons_self)]

/-- An RW field takes its bits of the value, whatever fields stand before it in the register; those after it are other fields. -/
theorem Dev.cell_writeFields_rw (a v lsb w : Nat) (alm : Bool) (l r : List (Nat × Nat × Access × Bool)) (d : Dev)
    (h : ∀ f ∈ r, lsb ≠ f.1) : ((l ++ (lsb, w, .rw, alm) :: r).foldl (Dev.writeField a v) d).cell (a * 32 + lsb) = bits v lsb w := by
  rw [List.foldl_append, List.foldl_cons, Dev.cell_writeFields_ne]
  · exact Cells.get_set_same _ _ _ _
  · intro f hf e
    exact h f hf (by omega)

/-! ### A direct write over a bus -/

/-- A whole doubleword written to a field's register, none of whose fields is restricted now, takes effect. -/
theorem Dev.busWrite_awake (d : Dev) (p : Path) (f : Field) (v i j : Nat) (r : RegPlace) (h : d.awake) (h4 : f.addr i j % 4 = 0)
    (hr : regPlace (f.addr i j) = some r)
    (hf : ∀ x ∈ r.row.fields, d.fieldRestricted (blockOf (f.addr i j)) r.row.base r.i x.1 x.2.2.1 = false) :
    d.busWrite p (f.addr i j) v 15 = d.applyWrite (p == .spi) true (f.addr i j) r (v % 2 ^ 32) := by
  have ha : f.addr i j / 4 * 4 = f.addr i j := by omega
  have hb : inBar2 p (f.addr i j) = false := by simp [inBar2, ha, hr]
  unfold Dev.busWrite
  rw [hb]
  exact Dev.directField_awake d p f v i j r h h4 hr hf

theorem exec_registerWrite (p : Path) (a v enables : Nat) (s : State) :
    exec (.registerWrite p a v enables) s = s.act (fun d => d.busWrite p a v enables) := rfl

/-- A direct write answers with the register written. -/
theorem answers_registerWrite {s : State} {p : Path} {a v : Nat} {P : Dev → Prop} (h : P (s.dev.busWrite p a v 15).settle) :
    answers (.registerWrite p a v 15) s P := answers_act (exec_registerWrite p a v 15 s) h

/-! ### The registers CTRL and EXPECT of the check-value units -/

/-- The row of EXPECT. -/
def crcExpectRow : RegRow := ⟨F.CRC_EXPECT.base, 8, 0x40, 1, 0, [(0, 32, .rw, false)]⟩

/-- The fields of CTRL below EXP_SEL: POLY, GUARD_LEN, START and FINISH. -/
def crcCtrlBelow : List (Nat × Nat × Access × Bool) := [(0, 2, .rw, true), (2, 2, .rw, true), (4, 1, .sc, false), (5, 1, .sc, false)]

/-- The fields of CTRL above EXP_SEL. -/
def crcCtrlAbove : List (Nat × Nat × Access × Bool) :=
  [(7, 1, .rw, false), (8, 1, .ro, false), (9, 1, .ro, false), (10, 1, .ro, false), (11, 1, .w1c, false), (12, 1, .w1c, false),
    (13, 1, .ro, false), (14, 2, .ro, false)]

/-- The row of CTRL. -/
def crcCtrlRow : RegRow := ⟨F.CRC_CTRL_POLY.base, 8, 0x40, 1, 0, crcCtrlBelow ++ (6, 1, .rw, false) :: crcCtrlAbove⟩

theorem regPlace_crcExpect : ∀ u : Fin 8, regPlace (F.CRC_EXPECT.addr u 0) = some ⟨crcExpectRow, u, 0⟩ := by decide

theorem regPlace_crcCtrl : ∀ u : Fin 8, regPlace (F.CRC_CTRL_POLY.addr u 0) = some ⟨crcCtrlRow, u, 0⟩ := by decide

theorem blockOf_crcExpect : ∀ u : Fin 8, blockOf (F.CRC_EXPECT.addr u 0) = .crc := by decide

theorem blockOf_crcCtrl : ∀ u : Fin 8, blockOf (F.CRC_CTRL_POLY.addr u 0) = .crc := by decide

theorem CRC_EXPECT_not_settleKey : ∀ u : Fin 8, F.CRC_EXPECT.key u 0 ∉ settleKeys := by decide

theorem CRC_CTRL_EXP_SEL_not_settleKey : ∀ u : Fin 8, F.CRC_CTRL_EXP_SEL.key u 0 ∉ settleKeys := by decide

/-- The fields of a host unit are free (R449, R516). -/
theorem Dev.fieldRestricted_crc (d : Dev) (base lsb : Nat) (acc : Access) {u : Fin 8} (h : u ≠ 7) :
    d.fieldRestricted .crc base u lsb acc = false := by
  have : (u : Nat) ≠ 7 := fun e => h (Fin.ext e)
  simp [Dev.fieldRestricted, this]

/-- The block raises no interrupts of its own. -/
theorem Dev.newlyEnabled_crc (d : Dev) (base i old v : Nat) : d.newlyEnabled .crc base i old v = d := rfl

/-! ### What EXPECT reaches (R447) -/

/-- The half of unit `u`'s expected value that EXP_SEL names. -/
def Dev.expectHalf (d : Dev) (u : Nat) : Nat :=
  if d.flag F.CRC_CTRL_EXP_SEL u then d.crcExpected u / 2 ^ 32 % 2 ^ 32 else d.crcExpected u % 2 ^ 32

/-- EXPECT and EXP_SEL lie in different registers. -/
theorem CRC_CTRL_EXP_SEL_key_ne_EXPECT (u : Nat) : F.CRC_CTRL_EXP_SEL.key u 0 ≠ F.CRC_EXPECT.key u 0 := by
  simp only [Field.key, Field.addr, F.CRC_CTRL_EXP_SEL, F.CRC_EXPECT]
  omega

theorem Dev.flag_EXP_SEL_showExpect (d : Dev) (u : Nat) :
    (d.showExpect u).flag F.CRC_CTRL_EXP_SEL u = d.flag F.CRC_CTRL_EXP_SEL u :=
  Dev.flag_setF_ne d _ _ _ _ _ _ _ (CRC_CTRL_EXP_SEL_key_ne_EXPECT u)

theorem Dev.crcExpected_showExpect (d : Dev) (u : Nat) : (d.showExpect u).crcExpected u = d.crcExpected u := rfl

/-- Brought up to date, EXPECT reads the half that EXP_SEL names. -/
theorem Dev.getF_showExpect (d : Dev) (u : Nat) : (d.showExpect u).getF F.CRC_EXPECT u = (d.showExpect u).expectHalf u := by
  unfold Dev.expectHalf
  rw [Dev.flag_EXP_SEL_showExpect, Dev.crcExpected_showExpect]
  unfold Dev.showExpect
  rw [Dev.getF_setF_same, show F.CRC_EXPECT.width = 32 from rfl]
  split
  · rfl
  · exact Nat.mod_mod _ _

theorem Dev.flag_EXP_SEL_writeExpect (d : Dev) (u v : Nat) :
    (d.writeExpect u v).flag F.CRC_CTRL_EXP_SEL u = d.flag F.CRC_CTRL_EXP_SEL u := Dev.flag_EXP_SEL_showExpect _ u

theorem Dev.getF_writeExpect (d : Dev) (u v : Nat) : (d.writeExpect u v).getF F.CRC_EXPECT u = (d.writeExpect u v).expectHalf u :=
  Dev.getF_showExpect _ u

/-- A write to EXPECT replaces the half that EXP_SEL names and keeps the other. -/
theorem Dev.crcExpected_writeExpect (d : Dev) (u v : Nat) (h : u < d.crcExpect.length) :
    (d.writeExpect u v).crcExpected u = if d.flag F.CRC_CTRL_EXP_SEL u then d.crcExpected u % 2 ^ 32 + 2 ^ 32 * (v % 2 ^ 32)
      else v % 2 ^ 32 + 2 ^ 32 * (d.crcExpected u / 2 ^ 32) :=
  getAt_setAt_same 0 d.crcExpect u _ h

/-- What follows from the rest of the state is neither the expected value, nor EXP_SEL, nor EXPECT. -/
theorem Dev.crcExpected_settle (d : Dev) (u : Nat) : d.settle.crcExpected u = d.crcExpected u := by
  unfold Dev.crcExpected
  rw [Dev.crcExpect_settle]

theorem Dev.flag_EXP_SEL_settle (d : Dev) (u : Fin 8) : d.settle.flag F.CRC_CTRL_EXP_SEL u = d.flag F.CRC_CTRL_EXP_SEL u :=
  Dev.flag_settle d _ _ _ (CRC_CTRL_EXP_SEL_not_settleKey u)

theorem Dev.expectHalf_settle (d : Dev) (u : Fin 8) : d.settle.expectHalf u = d.expectHalf u := by
  unfold Dev.expectHalf
  rw [Dev.flag_EXP_SEL_settle, Dev.crcExpected_settle]

/-- Where EXPECT reads the half that EXP_SEL names, it still does once what follows from the rest of the state is brought up to date. -/
theorem Dev.getF_EXPECT_settle (d : Dev) (u : Fin 8) (h : d.getF F.CRC_EXPECT u = d.expectHalf u) :
    d.settle.getF F.CRC_EXPECT u = d.settle.expectHalf u := by
  rw [Dev.getF_settle _ _ _ _ (CRC_EXPECT_not_settleKey u), Dev.expectHalf_settle, h]

/-! ### EXPECT written -/

theorem Dev.limitWrite_crcExpect (d : Dev) (i j v : Nat) : d.limitWrite F.CRC_EXPECT.base i j v = v := rfl

theorem Dev.applyWrite_crcExpect (d : Dev) (spi direct : Bool) (v : Nat) {u : Fin 8} (h : u ≠ 7) :
    d.applyWrite spi direct (F.CRC_EXPECT.addr u 0) ⟨crcExpectRow, u, 0⟩ v = d.writeExpect u v := by
  have hu : (u : Nat) ≠ 7 := fun e => h (Fin.ext e)
  unfold Dev.applyWrite
  rw [blockOf_crcExpect, Dev.newlyEnabled_crc]
  have own : ownWrite F.CRC_EXPECT.base = true := by decide
  simp only [crcExpectRow, own, if_true, Dev.limitWrite_crcExpect]
  unfold Dev.afterWrite
  simp only [if_neg hu]
  rfl

/-- A write to EXPECT of a host unit, over either path. -/
theorem Dev.busWrite_crcExpect (d : Dev) (p : Path) (v : Nat) {u : Fin 8} (ha : d.awake) (h : u ≠ 7) :
    d.busWrite p (F.CRC_EXPECT.addr u 0) v 15 = d.writeExpect u (v % 2 ^ 32) := by
  have aligned : ∀ u : Fin 8, F.CRC_EXPECT.addr u 0 % 4 = 0 := by decide
  rw [Dev.busWrite_awake d p F.CRC_EXPECT v u 0 _ ha (aligned u) (regPlace_crcExpect u), Dev.applyWrite_crcExpect _ _ _ _ h]
  intro x _
  rw [blockOf_crcExpect]
  exact Dev.fieldRestricted_crc d _ _ _ h

/-! ### CTRL written -/

/-- Only GUARD_LEN of a value written to CTRL is limited (R444). -/
theorem Dev.bit_limitWrite_crcCtrl (d : Dev) (i j v : Nat) {k : Nat} (h : 4 ≤ k) :
    bit (d.limitWrite F.CRC_CTRL_POLY.base i j v) k = bit v k := by
  have limited : d.limitWrite F.CRC_CTRL_POLY.base i j v =
      if bits v F.CRC_CTRL_GUARD_LEN.lsb F.CRC_CTRL_GUARD_LEN.width = 3 then d.keepIn F.CRC_CTRL_GUARD_LEN i j v else v := rfl
  rw [limited]
  split
  · exact bit_putField_outside v _ (.inr h)
  · rfl

/-- The fields of CTRL of unit `u` written by their access codes. -/
def Dev.writeCrcCtrl (d : Dev) (u v : Nat) : Dev := crcCtrlRow.fields.foldl (Dev.writeField (F.CRC_CTRL_POLY.addr u 0) v) d

theorem Dev.crcExpected_writeCrcCtrl (d : Dev) (u v : Nat) : (d.writeCrcCtrl u v).crcExpected u = d.crcExpected u := by
  have same : (d.writeCrcCtrl u v).crcExpect = d.crcExpect := Dev.crcExpect_of_core (Dev.core_writeFields _ v _ d)
  rw [Dev.crcExpected, same, Dev.crcExpected]

/-- EXP_SEL takes its bit of the value. -/
theorem Dev.flag_EXP_SEL_writeCrcCtrl (d : Dev) (u v : Nat) : (d.writeCrcCtrl u v).flag F.CRC_CTRL_EXP_SEL u = bit v 6 := by
  have cell : (d.writeCrcCtrl u v).getF F.CRC_CTRL_EXP_SEL u = bits v 6 1 :=
    Dev.cell_writeFields_rw (F.CRC_CTRL_POLY.addr u 0) v 6 1 false crcCtrlBelow crcCtrlAbove d (by decide)
  rw [Dev.flag, cell, bits_one_ne_zero]

/-- Without START and FINISH a write to CTRL writes its fields and brings EXPECT up to date. -/
theorem Dev.applyWrite_crcCtrl (d : Dev) (spi direct : Bool) (v : Nat) {u : Fin 8} (h : u ≠ 7) (hs : bit v 4 = false) (hf : bit v 5 = false) :
    d.applyWrite spi direct (F.CRC_CTRL_POLY.addr u 0) ⟨crcCtrlRow, u, 0⟩ v =
      (d.writeCrcCtrl u (d.limitWrite F.CRC_CTRL_POLY.base u 0 v)).showExpect u := by
  have hu : (u : Nat) ≠ 7 := fun e => h (Fin.ext e)
  have start := (Dev.bit_limitWrite_crcCtrl d u 0 v (k := 4) (by decide)).trans hs
  have fin := (Dev.bit_limitWrite_crcCtrl d u 0 v (k := 5) (by decide)).trans hf
  have own : ownWrite F.CRC_CTRL_POLY.base = false := by decide
  have base : crcCtrlRow.base = F.CRC_CTRL_POLY.base := rfl
  unfold Dev.applyWrite
  rw [blockOf_crcCtrl, Dev.newlyEnabled_crc]
  simp only [base, own]
  unfold Dev.afterWrite
  simp only [if_neg hu, if_true, start, fin]
  rfl

/-- A write to CTRL of a host unit without START and FINISH, over either path. -/
theorem Dev.busWrite_crcCtrl (d : Dev) (p : Path) (v : Nat) {u : Fin 8} (ha : d.awake) (h : u ≠ 7) (hs : bit v 4 = false)
    (hf : bit v 5 = false) : d.busWrite p (F.CRC_CTRL_POLY.addr u 0) v 15 =
      (d.writeCrcCtrl u (d.limitWrite F.CRC_CTRL_POLY.base u 0 (v % 2 ^ 32))).showExpect u := by
  have aligned : ∀ u : Fin 8, F.CRC_CTRL_POLY.addr u 0 % 4 = 0 := by decide
  have start := (bit_mod v 32 4 (by decide)).trans hs
  have fin := (bit_mod v 32 5 (by decide)).trans hf
  rw [Dev.busWrite_awake d p F.CRC_CTRL_POLY v u 0 _ ha (aligned u) (regPlace_crcCtrl u), Dev.applyWrite_crcCtrl _ _ _ _ h start fin]
  intro x _
  rw [blockOf_crcCtrl]
  exact Dev.fieldRestricted_crc d _ _ _ h

/-! ### The statement -/

/-- Settles O52: a write to EXPECT is `Dev.writeExpect`, a write to CTRL its fields by their access codes, and either ends in
`Dev.showExpect`. -/
theorem expectReachesTheHalfThatExpSelNames : Obligations.ExpectReachesTheHalfThatExpSelNames := by
  unfold Obligations.ExpectReachesTheHalfThatExpSelNames
  intro s p u v ha hu hl half
  refine ⟨answers_registerWrite ?_, fun hs hf => answers_registerWrite ?_⟩
  · rw [Dev.busWrite_crcExpect _ _ _ ha hu]
    refine ⟨?_, ?_, Dev.getF_EXPECT_settle _ u (Dev.getF_writeExpect _ u _)⟩
    · rw [Dev.flag_EXP_SEL_settle, Dev.flag_EXP_SEL_writeExpect]
    · rw [Dev.crcExpected_settle, Dev.crcExpected_writeExpect _ _ _ (u.isLt.trans_eq hl.symm), Nat.mod_mod]
  · rw [Dev.busWrite_crcCtrl _ _ _ ha hu hs hf]
    refine ⟨?_, ?_, Dev.getF_EXPECT_settle _ u (Dev.getF_showExpect _ u)⟩
    · rw [Dev.flag_EXP_SEL_settle, Dev.flag_EXP_SEL_showExpect, Dev.flag_EXP_SEL_writeCrcCtrl,
        Dev.bit_limitWrite_crcCtrl _ _ _ _ (by decide), bit_mod _ _ _ (by decide)]
    · rw [Dev.crcExpected_settle, Dev.crcExpected_showExpect, Dev.crcExpected_writeCrcCtrl]

end Sys2Proof.Machine
